-- ==== Sys2Proof/Word.lean ====
section
/-! DEFINITION. The word types of the GZN-3208 (R4): packets are built from 32-bit words. -/

namespace Sys2Proof

/-- A 32-bit word of a packet, a register or a table (R4). -/
abbrev Word := BitVec 32

/-- A byte on the wire or in the scratchpad. -/
abbrev Byte := BitVec 8

end Sys2Proof
end

