-- ==== Sys2Proof/Syntax.lean ====
section
/-! DEFINITION. The commands of the block: one constructor of `Instr` per row of spec/opcode_table.json.
Every constructor's first operand `dt` is the device time, in ns, that has passed since the row before it
(assumption log, entry 1). -/

namespace Sys2Proof

/-- R50: the sixteen unit classes, in the order of their codes. -/
inductive Cls where
  | dev | hrx | htx | ltx | lrx | grp | fec | seal | cal | mon | thm | bist | perf | mbx | mem | tst
  deriving DecidableEq, Repr

/-- R41, R44: the AUTH trailer of a command packet: session sequence and CMAC. -/
structure Auth where
  seq  : Word
  cmac : BitVec 128
  deriving DecidableEq, Repr

/-- R41: what a host command's packet carries beside its opcode and its class. -/
structure Cmd where
  inst   : BitVec 12
  tag    : Byte
  flags  : Byte
  params : List Word
  auth   : Option Auth
  deriving DecidableEq, Repr

/-- R50, R113: a receiving lane, of the host side (HRX) or of the line side (LRX). -/
inductive RxLane where
  | host (n : Fin 16)
  | line (l : Fin 8)
  deriving DecidableEq, Repr

/-- R84, R85: what the boot ROM found: memories repaired and failed, the islands with a memory beyond repair,
whether TAMPER_N was low (R254), and the milliseconds from reset to READY. -/
structure BootResult where
  repaired  : Byte
  failed    : Byte
  islands   : List (Fin 78)
  repairs   : List Word
  tamperLow : Bool
  ms        : BitVec 16
  deriving DecidableEq, Repr

/-- R362: a condition fails while fuse words are programmed: after `words` of them have been committed, in the course
of the next one. The rail that falls, or none where Tj leaves 0 to 95 °C. -/
structure FuseStop where
  words : Nat
  rail  : Option (Fin 12)
  deriving DecidableEq, Repr

/-- R362: what the fuse hardware does while a row programs: the slots whose bits fail to verify, and the condition that
fails on the way, if any (entry 19). -/
structure FuseEnv where
  weak : List Nat
  stop : Option FuseStop
  deriving DecidableEq, Repr

/-- R349: one access of the INTERNAL requester that meets a window access in its arbitration slot: the port word
(address / 32), whether it writes, which of the 32 bytes it writes, and its data. -/
structure Meet where
  portWord : Nat
  write    : Bool
  bytes    : BitVec 32
  data     : BitVec 256
  deriving DecidableEq, Repr

/-- R114: what the acquisition of an HRX lane settled on: the polarity that locked, HMI, the lag behind the
earliest lane of the group (10 ps), the converged equaliser (the EQ block of R125), and the markers checked. -/
structure HrxAcq where
  inverted : Bool
  hmi      : BitVec 12
  skew     : BitVec 16
  eq       : Vector Word 5
  markers  : Nat
  deriving DecidableEq, Repr

/-- R105, R106, R114: one millisecond of an HRX lane: whether timing recovery holds lock at its end, HMI, the adapted equaliser,
blocks and markers counted. -/
structure HmiMeasure where
  locked  : Bool
  hmi     : BitVec 12
  eq      : Vector Word 5
  blocks  : Nat
  markers : Nat
  bad     : Nat
  deriving DecidableEq, Repr

/-- R153, R154: the over-range and full-scale-code samples of one millisecond of a line receiver. -/
structure AgcMeasure where
  overs : Nat
  fulls : Nat
  deriving DecidableEq, Repr

/-- R156, R168, R194: one millisecond of a line receiver: whether timing recovery holds lock at its end, inner codewords,
pre-inner bit errors, uncorrectable codewords, the BER-route value and the SNR-route value without the MLSE gain offset
(1/16 dB), blocks, frequency, phase. -/
structure LmiMeasure where
  locked    : Bool
  codewords : Nat
  errors    : Nat
  uncorr    : Nat
  ber       : Int
  snr       : Int
  blocks    : Nat
  freq      : Word
  phase     : Byte
  deriving DecidableEq, Repr

/-- R181, R182: what the acquisition of a line receiver settled on: whether timing lock was found in time, the
polarity that locked, the trained set, the AGC and CTLE codes, the frequency, the LMI at the check (1/16 dB). -/
structure LrxAcq where
  found    : Bool
  inverted : Bool
  bank     : Vector Word 70
  agc      : Nat
  ctle     : Nat
  freq     : Word
  lmi      : Int
  deriving DecidableEq, Repr

/-- R175: the blocks of a shadow trial: the candidate's LMI and the live LMI on each, in 1/16 dB. -/
structure TrialMeasure where
  blocks : List (Int × Int)
  deriving DecidableEq, Repr

/-- R200, R212: at the start of a milestone slot: the part of a codeword, in 1/256, that the ingress buffer holds beside whole
ones, per lane, and the latency sample in ps, if one was taken. -/
structure PeriodMeasure where
  part    : Byte
  latency : Option Nat
  deriving DecidableEq, Repr

/-- R198, R203: a milestone at a line lane: RS decoding with at most 15 symbol errors, words 0 to 159, the slots since
the lane's previous milestone, the lag behind the earliest lane of the group (10 ps), the latency sample in ps. -/
structure MilestoneArrival where
  rsOk    : Bool
  words   : List Word
  slots   : Nat
  lag     : BitVec 16
  latency : Option Nat
  deriving DecidableEq, Repr

/-- R191, R209: an RS codeword as received, bit 0 first, and whether it carries alignment markers or their placeholders. -/
structure CodewordResult where
  bits  : BitVec 5440
  marks : Bool
  deriving DecidableEq, Repr

/-- R309: what a checker has seen when it declares lock: the symbols, and the place that the search or the present alignment
gives the first one in the pattern; of a PRBS with ALIGN MANUAL, the bits of the register, the latest first. -/
structure CheckSeen where
  symbols : List (BitVec 2)
  place   : Nat
  deriving DecidableEq, Repr

/-- R309: a checker that declares lock: its pair, and what it has seen. -/
structure CheckLock where
  pair : Fin 24
  seen : CheckSeen
  deriving DecidableEq, Repr

/-- R309, R312, R319: what a checker has counted since it last reported, and the symbol errors in its last window of 4,096
symbols. -/
structure CheckCounts where
  bits    : Nat
  bitErr  : Nat
  symErr  : Nat
  postErr : Nat
  window  : Nat
  deriving DecidableEq, Repr

/-- R299, R300, R379: one channel of a housekeeping round: the sum of its N conversions, the value that the sum divided by
N gives, and whether all conversions were identical. -/
structure HkReading where
  sum   : Nat
  value : BitVec 16
  same  : Bool
  deriving DecidableEq, Repr

/-- R263 to R267: a trim that calibration has computed. Lanes: 0 to 7 LRX, 8 to 23 HRX, 24 to 31 LTX, 32 to 47 HTX. -/
structure TrimWrite where
  lane  : Fin 48
  kind  : Nat
  elem  : Nat
  idx   : Nat
  value : Int
  deriving DecidableEq, Repr

inductive Instr where
  /-- R79, POWER_ON. Rails come up after a power cycle or an insertion; this clears the shutdown latch and
  starts the device from OFF. -/
  | powerOn (dt : Nat)
  /-- R99, POWER_REMOVED. The module is removed and power is lost; nothing survives, and an uncommitted fuse
  word or rollback step is left uncommitted. -/
  | powerRemoved (dt : Nat)
  /-- R80, DEVICE_RESET. A falling edge of RESET_N resets the device completely, zeroises every key and clears
  volatile state; in SHUTDOWN the device stays in SHUTDOWN. -/
  | deviceReset (dt : Nat)
  /-- R80, RESET_RELEASE. Reset ends; device time restarts at 0 and the device enters BOOT, where the boot ROM
  runs. -/
  | resetRelease (dt : Nat)
  /-- R84, BOOT_ROM_COMPLETE. The boot ROM finishes and the device enters READY. -/
  | bootRomComplete (dt : Nat) (result : BootResult)
  /-- R386, SUPPLY_RESET. A rail falls below its reset level; the device is reset and held in reset while any
  rail stays below its reset level. -/
  | supplyReset (dt : Nat) (rails : BitVec 12)
  /-- R386, SUPPLY_RESET_RELEASE. Every rail is again above its reset level; the device leaves reset and boots
  once. -/
  | supplyResetRelease (dt : Nat)
  /-- R254, TAMPER_N_LOW. A qualifying low level on TAMPER_N zeroises the keys, clears the lay-by buffer,
  forces SEALED groups fail-closed and closes the session. -/
  | tamperNLow (dt : Nat) (widthNs : Nat)
  /-- R288, TRIG_IN_EDGE. The chosen edge on TRIG_IN gives the trigger instant to the common sets that are
  armed on TRIG_IN. -/
  | trigInEdge (dt : Nat) (rising : Bool)
  /-- R393, FUSE_SUPPLY. VDD_FUSE enters or leaves its range, and FUSE_SUPPLY is raised. -/
  | fuseSupply (dt : Nat) (mv : Nat)
  /-- R383, ANALOG_SHUTDOWN. An analog comparator finds TS16 or TS17 at 130 degC and sets the shutdown latch.
  -/
  | analogShutdown (dt : Nat)
  /-- R36, PACKET_WRITE. An SPI PACKET_WRITE transaction ends and its packet is taken into a queue slot, or
  discarded and counted if QFREE is 0. -/
  | packetWrite (dt : Nat) (bytes : List Byte)
  /-- R37, REPLY_READ. An SPI REPLY_READ sends the oldest unread reply, which is removed only once its CRC word
  has been clocked out completely. -/
  | replyRead (dt : Nat) (n : Nat)
  /-- R38, FAST_STATUS. An SPI FAST_STATUS transaction returns the FAST_STATUS word sampled at the falling edge
  of SPI_CS_N. -/
  | fastStatus (dt : Nat) (n : Nat)
  /-- R35, UNKNOWN_TRANSACTION. An SPI transaction with an undefined code returns FAST_STATUS, then zeros, and
  changes nothing. -/
  | unknownTransaction (dt : Nat) (code : Byte) (n : Nat)
  /-- R61, STATUS_GET. Returns the common word and the class words of a unit, answered from MC records. -/
  | statusGet (dt : Nat) (cls : Cls) (c : Cmd)
  /-- R61, INFO_GET. Returns the info header and the class words of a unit. -/
  | infoGet (dt : Nat) (cls : Cls) (c : Cmd)
  /-- R64, ADMIN_SET. Sets the ADMIN state of a unit to DOWN, UP or TEST. -/
  | adminSet (dt : Nat) (cls : Cls) (c : Cmd)
  /-- R62, STATE_GET. Returns the state block of a unit: ADMIN, OPER, REMOTE, mismatch and the time of the last
  change. -/
  | stateGet (dt : Nat) (cls : Cls) (c : Cmd)
  /-- R323, COUNTERS_GET. Returns the fixed counter block of a unit, optionally with an atomic clear. -/
  | countersGet (dt : Nat) (cls : Cls) (c : Cmd)
  /-- R324, COUNTERS_CLEAR. Atomically clears the fixed counters of a unit and sets START. -/
  | countersClear (dt : Nat) (cls : Cls) (c : Cmd)
  /-- R61, EVENT_MASK_SET. Sets the 256-bit event mask of the target instance or instances. -/
  | eventMaskSet (dt : Nat) (cls : Cls) (c : Cmd)
  /-- R61, PRESET_APPLY. Applies a class-specific preset to a unit. -/
  | presetApply (dt : Nat) (cls : Cls) (c : Cmd)
  /-- R61, GROUP_DEFINE. Defines or deletes a user group of a class. -/
  | groupDefine (dt : Nat) (cls : Cls) (c : Cmd)
  /-- R61, GROUP_GET. Returns the mask of a user group. -/
  | groupGet (dt : Nat) (cls : Cls) (c : Cmd)
  /-- R72, EVENT_READ. Removes and returns up to 16 of the oldest event entries, together with EVENT_LOST. -/
  | eventRead (dt : Nat) (c : Cmd)
  /-- R72, EVENT_CONFIG. Sets IRQ_ON_EVENT and IRQ_ON_REPLY, and optionally clears EVENT_LOST or flushes the
  event queue. -/
  | eventConfig (dt : Nat) (c : Cmd)
  /-- R75, REG_READ32. Reads 1-16 raw registers; reading the low half of a 64-bit pair latches its high half
  for the requester. -/
  | regRead32 (dt : Nat) (c : Cmd)
  /-- R74, REG_WRITE32. Writes a raw register with byte enables; only SCRATCH is writable. -/
  | regWrite32 (dt : Nat) (c : Cmd)
  /-- R100, DEV_RESET. Resets the device completely when it executes; no reply is sent and the queued commands
  are discarded. -/
  | devReset (dt : Nat) (c : Cmd)
  /-- R86, FW_LOAD_BEGIN. Declares the length of a firmware image and discards any earlier staging. -/
  | fwLoadBegin (dt : Nat) (c : Cmd)
  /-- R86, FW_LOAD_DATA. Appends image words at the expected offset to the firmware staging. -/
  | fwLoadData (dt : Nat) (c : Cmd)
  /-- R87, FW_LOAD_END. Verifies the staged image; on ACCEPTED the firmware starts and the device enters
  CONFIG. -/
  | fwLoadEnd (dt : Nat) (c : Cmd)
  /-- R88, ROLLBACK_STEP. The firmware fuses one anti-rollback step towards IMG_ROLLBACK when the fuse
  conditions hold. -/
  | rollbackStep (dt : Nat) (env : FuseEnv)
  /-- R95, PERSONALITY_SET. Selects the personality during configuration. -/
  | personalitySet (dt : Nat) (c : Cmd)
  /-- R95, PERSONALITY_LIST. Returns the personalities that the device offers. -/
  | personalityList (dt : Nat) (c : Cmd)
  /-- R92, CONFIG_DONE. Checks every required configuration step and enters ACTIVE. -/
  | configDone (dt : Nat) (c : Cmd)
  /-- R270, CAL_FOREGROUND_DONE. A foreground calibration run completes; the test source is disconnected and
  any pending acquisitions start. -/
  | calForegroundDone (dt : Nat) (lane : Option (Fin 48)) (trims : List TrimWrite)
  /-- R93, DEV_STATE_SET. Moves the device between ACTIVE, SLEEP and MAINT. -/
  | devStateSet (dt : Nat) (c : Cmd)
  /-- R213, LATENCY_GET. Returns the measured latency of a group in each direction. -/
  | latencyGet (dt : Nat) (c : Cmd)
  /-- R257, SEC_STAGE. Stages words of a security object at the expected offset. -/
  | secStage (dt : Nat) (c : Cmd)
  /-- R223, CERT_LOAD. Checks the staged certificate object and accepts it. -/
  | certLoad (dt : Nat) (c : Cmd)
  /-- R228, POLICY_LOAD. Checks the staged owner policy and puts it in force. -/
  | policyLoad (dt : Nat) (c : Cmd)
  /-- R229, SESSION_BEGIN. Returns a challenge with a nonce and ephemeral ML-KEM and ECDH keys. -/
  | sessionBegin (dt : Nat) (c : Cmd)
  /-- R229, CHALLENGE_EXPIRY. A session challenge expires 10 s after SESSION_BEGIN. -/
  | challengeExpiry (dt : Nat)
  /-- R229, SESSION_OPEN. Verifies the staged session request and opens a host secure session with derived
  keys. -/
  | sessionOpen (dt : Nat) (c : Cmd)
  /-- R231, SESSION_CLOSE. Closes the host secure session after its reply. -/
  | sessionClose (dt : Nat) (c : Cmd)
  /-- R256, ATTEST_GET. Returns a signed attestation report over the requester's nonce. -/
  | attestGet (dt : Nat) (c : Cmd)
  /-- R225, OWNER_BIND. Fuses an owner hash into a slot and, in DEPLOYED, makes the transition to OWNED. -/
  | ownerBind (dt : Nat) (c : Cmd) (env : FuseEnv)
  /-- R226, OWNER_REVOKE. Fuses the revoke bit of a bound owner slot. -/
  | ownerRevoke (dt : Nat) (c : Cmd) (env : FuseEnv)
  /-- R255, ZEROISE. Performs the tamper actions on command and closes the session after the reply. -/
  | zeroise (dt : Nat) (c : Cmd)
  /-- R370, FUSE_READ. Returns corrected fuse words with their status bits. -/
  | fuseRead (dt : Nat) (c : Cmd)
  /-- R370, FUSE_STATUS_GET. Returns slot usage for each fuse region and the programming conditions. -/
  | fuseStatusGet (dt : Nat) (c : Cmd)
  /-- R362, FUSE_PROGRAM. Programs an unused module-maker fuse word. -/
  | fuseProgram (dt : Nat) (c : Cmd) (env : FuseEnv)
  /-- R359, FUSE_REPAIR_COMMIT. Writes every soft repair that is not yet fused into the repair region. -/
  | fuseRepairCommit (dt : Nat) (c : Cmd) (env : FuseEnv)
  /-- R364, LIFECYCLE_SET. Fuses the lifecycle transition to DEPLOYED or RETIRED. -/
  | lifecycleSet (dt : Nat) (c : Cmd) (env : FuseEnv)
  /-- R110, BOARD_TABLE_LOAD. Checks and loads a board table whole, and resets the polarity overrides. -/
  | boardTableLoad (dt : Nat) (c : Cmd)
  /-- R125, BOARD_TABLE_INFO. Returns the header of the loaded board table. -/
  | boardTableInfo (dt : Nat) (c : Cmd)
  /-- R125, HRX_MARGIN_GET. Returns the HMI statistics of the window, optionally starting a new window. -/
  | hrxMarginGet (dt : Nat) (c : Cmd)
  /-- R124, HRX_POLARITY_SET. Overrides the receive polarity of a host lane. -/
  | hrxPolaritySet (dt : Nat) (c : Cmd)
  /-- R125, HRX_EQ_GET. Returns the equaliser settings of a host lane. -/
  | hrxEqGet (dt : Nat) (c : Cmd)
  /-- R124, HRX_EQ_FORCE. Forces the equaliser settings of a host lane in TEST and freezes adaptation. -/
  | hrxEqForce (dt : Nat) (c : Cmd)
  /-- R106, HRX_ADAPT_FREEZE. Freezes or releases the adaptation of a host lane. -/
  | hrxAdaptFreeze (dt : Nat) (c : Cmd)
  /-- R119, HRX_AM_MODE. Sets the alignment-marker mode to AUTO or MANUAL. -/
  | hrxAmMode (dt : Nat) (c : Cmd)
  /-- R119, HRX_SLIP. Moves the manual marker alignment forward by 1-1,023 bits. -/
  | hrxSlip (dt : Nat) (c : Cmd)
  /-- R126, HTX_FAULT_FORCE. Forces Local Fault, Remote Fault or idle content on a host transmit lane, or
  releases it. -/
  | htxFaultForce (dt : Nat) (c : Cmd)
  /-- R127, HTX_POLARITY_SET. Overrides the transmit polarity of a host lane. -/
  | htxPolaritySet (dt : Nat) (c : Cmd)
  /-- R127, HTX_FIR_GET. Returns the transmit FIR of a host lane. -/
  | htxFirGet (dt : Nat) (c : Cmd)
  /-- R126, HTX_FIR_SET. Sets the transmit FIR of a host lane in TEST. -/
  | htxFirSet (dt : Nat) (c : Cmd)
  /-- R126, HTX_SQUELCH. Squelches or releases a host transmit lane. -/
  | htxSquelch (dt : Nat) (c : Cmd)
  /-- R139, LTX_SWING_SET. Sets the line transmit swing; the change is staged while the lane drives. -/
  | ltxSwingSet (dt : Nat) (c : Cmd)
  /-- R140, LTX_POLARITY_SET. Sets the line transmit polarity in DOWN or TEST. -/
  | ltxPolaritySet (dt : Nat) (c : Cmd)
  /-- R132, LTX_PRECODE_SET. Switches line transmit precoding on or off. -/
  | ltxPrecodeSet (dt : Nat) (c : Cmd)
  /-- R142, LTX_SQUELCH. Squelches or releases a line transmit lane at a symbol boundary. -/
  | ltxSquelch (dt : Nat) (c : Cmd)
  /-- R147, LTX_CONFIG_GET. Returns the line transmit configuration in force. -/
  | ltxConfigGet (dt : Nat) (c : Cmd)
  /-- R147, LTX_SHAPE_GET. Returns the taps and level offsets in force. -/
  | ltxShapeGet (dt : Nat) (c : Cmd)
  /-- R145, LTX_SHAPE_SET. Sets the taps and level offsets, staged to a milestone while the lane drives. -/
  | ltxShapeSet (dt : Nat) (c : Cmd)
  /-- R147, LTX_PD_GET. Returns the predistortion enable and table. -/
  | ltxPdGet (dt : Nat) (c : Cmd)
  /-- R136, LTX_PD_SET. Sets the predistortion enable and table, staged while the lane drives. -/
  | ltxPdSet (dt : Nat) (c : Cmd)
  /-- R140, LTX_SKEW_SET. Sets PN_SKEW and the lane delay. -/
  | ltxSkewSet (dt : Nat) (c : Cmd)
  /-- R185, LRX_SETUP_SET. Sets SD_THRESH, POL and PRECODE of a line receiver. -/
  | lrxSetupSet (dt : Nat) (c : Cmd)
  /-- R186, LRX_POLICY_SET. Sets LMI_WARN, FADE_LEN, PROFILE, the crosstalk enables and TR_BW. -/
  | lrxPolicySet (dt : Nat) (c : Cmd)
  /-- R186, LRX_CONFIG_GET. Returns the setup, policy and preset in force. -/
  | lrxConfigGet (dt : Nat) (c : Cmd)
  /-- R186, LRX_MARGIN_GET. Returns the LMI statistics of the window. -/
  | lrxMarginGet (dt : Nat) (c : Cmd)
  /-- R182, LRX_RETRAIN. Starts a warm or cold re-acquisition of a line receiver. -/
  | lrxRetrain (dt : Nat) (c : Cmd)
  /-- R186, LRX_ADAPT_STATUS_GET. Returns the adaptation and fade status. -/
  | lrxAdaptStatusGet (dt : Nat) (c : Cmd)
  /-- R186, LRX_XT_STATUS_GET. Returns the status of both crosstalk sides. -/
  | lrxXtStatusGet (dt : Nat) (c : Cmd)
  /-- R186, LRX_AFE_GET. Returns the AGC and CTLE state and the over-range counts. -/
  | lrxAfeGet (dt : Nat) (c : Cmd)
  /-- R185, LRX_ADAPT_SET. Freezes adaptation or returns it to AUTO. -/
  | lrxAdaptSet (dt : Nat) (c : Cmd)
  /-- R187, LRX_BANK_READ. Returns the stored contents of a coefficient bank. -/
  | lrxBankRead (dt : Nat) (c : Cmd)
  /-- R187, LRX_BANK_WRITE. Writes the standby coefficient bank after checking it. -/
  | lrxBankWrite (dt : Nat) (c : Cmd)
  /-- R171, LRX_BANK_SWAP. Starts a cross-fade to the standby bank. -/
  | lrxBankSwap (dt : Nat) (c : Cmd)
  /-- R174, LRX_FADE_ABORT. Snaps a running fade to its source or its target at the next block boundary. -/
  | lrxFadeAbort (dt : Nat) (c : Cmd)
  /-- R185, LRX_SHADOW_TRIAL. Starts a host-ordered shadow trial of the standby bank. -/
  | lrxShadowTrial (dt : Nat) (c : Cmd)
  /-- R185, LRX_AFE_FORCE. Forces and optionally holds the AGC and CTLE codes in TEST. -/
  | lrxAfeForce (dt : Nat) (c : Cmd)
  /-- R214, GRP_TILING_SET. Sets the tiling of both halves of the device. -/
  | grpTilingSet (dt : Nat) (c : Cmd)
  /-- R215, GRP_XBAR_SET. Sets the host-lane crossbar permutation. -/
  | grpXbarSet (dt : Nat) (c : Cmd)
  /-- R214, GRP_MODE_SET. Sets the carriage mode of a group. -/
  | grpModeSet (dt : Nat) (c : Cmd)
  /-- R215, GRP_CONFIG_GET. Returns the tiling, crossbar and modes. -/
  | grpConfigGet (dt : Nat) (c : Cmd)
  /-- R215, GRP_FRAME_STATUS_GET. Returns the lock, deskew, clock, sequence, skew and fill status of a group.
  -/
  | grpFrameStatusGet (dt : Nat) (c : Cmd)
  /-- R217, FEC_HIST_GET. Returns an RS histogram, optionally cleared atomically. -/
  | fecHistGet (dt : Nat) (c : Cmd)
  /-- R217, FEC_LANE_GET. Returns the inner-code status of each lane position. -/
  | fecLaneGet (dt : Nat) (c : Cmd)
  /-- R216, FEC_MARGIN_SET. Sets BIN and LIMIT for the RS margin alarm. -/
  | fecMarginSet (dt : Nat) (c : Cmd)
  /-- R260, SEAL_INFO_GET. Returns the seal information block of a group. -/
  | sealInfoGet (dt : Nat) (c : Cmd)
  /-- R248, SEAL_REHANDSHAKE. Starts an in-service re-handshake. -/
  | sealRehandshake (dt : Nat) (c : Cmd)
  /-- R236, SEAL_WAYPOST_SEND. Queues a user waypost payload for a group. -/
  | sealWaypostSend (dt : Nat) (c : Cmd)
  /-- R260, SEAL_WAYPOST_READ. Removes and returns the oldest received user waypost payload. -/
  | sealWaypostRead (dt : Nat) (c : Cmd)
  /-- R246, SEAL_EPOCH_ADVANCE. Starts an epoch announcement at the next milestone. -/
  | sealEpochAdvance (dt : Nat) (c : Cmd)
  /-- R259, SEAL_TAG_CORRUPT. Inverts tag bit 0 on lane position 0 for the next COUNT CARRY periods. -/
  | sealTagCorrupt (dt : Nat) (c : Cmd)
  /-- R282, CAL_LANE_GET. Returns the calibration block of a lane. -/
  | calLaneGet (dt : Nat) (c : Cmd)
  /-- R272, CAL_LANE_FOREGROUND. Runs foreground calibration for one lane. -/
  | calLaneForeground (dt : Nat) (c : Cmd)
  /-- R282, CAL_TRIM_READ. Returns the trims of one element. -/
  | calTrimRead (dt : Nat) (c : Cmd)
  /-- R281, CAL_TRIM_FORCE. Forces or releases one trim of an element. -/
  | calTrimForce (dt : Nat) (c : Cmd)
  /-- R279, CAL_ELEMENT_RETIRE. Retires an element until reset, using a spare. -/
  | calElementRetire (dt : Nat) (c : Cmd)
  /-- R277, CAL_FREEZE. Freezes or releases the calibration of a lane or of every lane. -/
  | calFreeze (dt : Nat) (c : Cmd)
  /-- R303, MON_TAP_SET. Sets the monitor input and the detector window and decay. -/
  | monTapSet (dt : Nat) (c : Cmd)
  /-- R303, MON_READ. Returns the detector values of a tap. -/
  | monRead (dt : Nat) (c : Cmd)
  /-- R297, MON_THRESHOLD_SET. Sets the envelope thresholds HIGH and LOW and their enable. -/
  | monThresholdSet (dt : Nat) (c : Cmd)
  /-- R298, MON_STREAM_SET. Sets or stops the ring of a monitor stream. -/
  | monStreamSet (dt : Nat) (c : Cmd)
  /-- R300, MON_HK_CONFIG. Sets N and SHIFT of a housekeeping channel from the next round. -/
  | monHkConfig (dt : Nat) (c : Cmd)
  /-- R303, MON_HK_READ. Returns housekeeping readings for a range of channels. -/
  | monHkRead (dt : Nat) (c : Cmd)
  /-- R303, MON_CAPTURE_SET. Configures the capture source, length, trigger and ring. -/
  | monCaptureSet (dt : Nat) (c : Cmd)
  /-- R289, MON_CAPTURE_ARM. Arms a common set of captures. -/
  | monCaptureArm (dt : Nat) (c : Cmd)
  /-- R303, MON_CAPTURE_STATUS_GET. Returns the capture status block. -/
  | monCaptureStatusGet (dt : Nat) (c : Cmd)
  /-- R303, MON_CAPTURE_READ. Reads words of a HELD capture from SRAM. -/
  | monCaptureRead (dt : Nat) (c : Cmd)
  /-- R304, MON_CAPTURE_ABORT. Aborts a capture and discards its data. -/
  | monCaptureAbort (dt : Nat) (c : Cmd)
  /-- R319, TST_CONFIG_SET. Configures the generator, the checker, the layer and the patterns of a lane pair.
  -/
  | tstConfigSet (dt : Nat) (c : Cmd)
  /-- R319, TST_CHECK_GET. Returns the checker counts, optionally cleared atomically. -/
  | tstCheckGet (dt : Nat) (c : Cmd)
  /-- R319, TST_USER_PATTERN_SET. Loads the USER pattern symbols. -/
  | tstUserPatternSet (dt : Nat) (c : Cmd)
  /-- R315, TST_LOOP_SET. Selects a loopback for a lane pair. -/
  | tstLoopSet (dt : Nat) (c : Cmd)
  /-- R314, TST_INJECT_SET. Sets the level, size, spacing and count of error injection. -/
  | tstInjectSet (dt : Nat) (c : Cmd)
  /-- R311, TST_SLIP. Moves the manual checker alignment. -/
  | tstSlip (dt : Nat) (c : Cmd)
  /-- R333, PERF_SET. Configures a programmable counter and zeroes it. -/
  | perfSet (dt : Nat) (c : Cmd)
  /-- R331, PERF_READ. Reads a programmable counter, optionally cleared atomically. -/
  | perfRead (dt : Nat) (c : Cmd)
  /-- R333, PERF_LOAD. Loads a value into a programmable counter and clears its flags. -/
  | perfLoad (dt : Nat) (c : Cmd)
  /-- R330, PERF_SAT. A STICK counter reaches 2^48 - 1, sets SAT and raises PERF_SAT if enabled. -/
  | perfSat (dt : Nat) (i : Fin 64) (incr : Nat)
  /-- R330, PERF_WRAPPED. A WRAP counter wraps, sets WRAP and raises PERF_WRAPPED if enabled. -/
  | perfWrapped (dt : Nat) (i : Fin 64) (incr : Nat)
  /-- R338, MBX_SEND. Posts a host message on a channel, ringing the receiver's doorbell and waking its core if
  needed. -/
  | mbxSend (dt : Nat) (c : Cmd)
  /-- R344, MBX_RECEIVE. Removes and returns the oldest message of a host-receiver channel. -/
  | mbxReceive (dt : Nat) (c : Cmd)
  /-- R344, MBX_DOORBELL_GET. Returns and clears the doorbell word of HOST-NS or HOST-S. -/
  | mbxDoorbellGet (dt : Nat) (c : Cmd)
  /-- R341, MBX_HOST_RESET. Resets the HOST-NS or HOST-S participant, flushing its inbound channels. -/
  | mbxHostReset (dt : Nat) (c : Cmd)
  /-- R342, MBX_LEGACY_WRITE. The host writes the legacy shared mailbox. -/
  | mbxLegacyWrite (dt : Nat) (c : Cmd)
  /-- R344, MBX_LEGACY_READ. Returns the legacy mailbox and clears UNREAD, OVERWRITE or COLLISION as read. -/
  | mbxLegacyRead (dt : Nat) (c : Cmd)
  /-- R343, MBX_PEEK. Returns the oldest message of a core-to-core channel without removing it. -/
  | mbxPeek (dt : Nat) (c : Cmd)
  /-- R342, LEGACY_MSG. MC writes its answer to a legacy request into the shared mailbox and raises LEGACY_MSG.
  -/
  | legacyMsg (dt : Nat)
  /-- R339, MAILBOX_SERVICE_ANSWER. A core answers a delivered host service request on the reverse channel. -/
  | mailboxServiceAnswer (dt : Nat) (channel : BitVec 12) (log : List Word)
  /-- R348, MEM_WIN_READ. Reads bytes of the scratchpad through the window engine. -/
  | memWinRead (dt : Nat) (c : Cmd) (meets : List Meet)
  /-- R348, MEM_WIN_WRITE. Writes bytes of the scratchpad through the window engine. -/
  | memWinWrite (dt : Nat) (c : Cmd) (meets : List Meet)
  /-- R366, MEM_TEST_STATUS_GET. Returns the scratchpad test status. -/
  | memTestStatusGet (dt : Nat) (c : Cmd)
  /-- R366, MEM_TEST_SET. Sets the background test interval or stops the test. -/
  | memTestSet (dt : Nat) (c : Cmd)
  /-- R365, MEM_TEST_RUN. Starts an on-demand test of a range of slices. -/
  | memTestRun (dt : Nat) (c : Cmd)
  /-- R365, MEM_TEST_DONE. An on-demand scratchpad test run ends. -/
  | memTestDone (dt : Nat)
  /-- R350, MEM_SLICE_TEST. BST borrows one scratchpad slice, March-tests it and writes it back, repairing
  failed rows. -/
  | memSliceTest (dt : Nat) (badRows : List Nat) (busyNs : Nat)
  /-- R353, BIST_RUN. Queues a logic self-test of an island. -/
  | bistRun (dt : Nat) (c : Cmd)
  /-- R368, BIST_RESULT_GET. Returns the result block of an island. -/
  | bistResultGet (dt : Nat) (c : Cmd)
  /-- R367, BIST_ABORT. Ends the queue wait, or the run as INCOMPLETE. -/
  | bistAbort (dt : Nat) (c : Cmd)
  /-- R358, BIST_OVERRIDE. Releases a held island as after a PASS. -/
  | bistOverride (dt : Nat) (c : Cmd)
  /-- R355, BIST_STARTED. The controller starts the next queued island once the power budget allows, beginning
  its isolation. -/
  | bistStarted (dt : Nat) (i : Fin 78)
  /-- R357, BIST_PATTERNS_END. The patterns of a run end with PASS, FAIL or INCOMPLETE, and re-initialisation
  begins. -/
  | bistPatternsEnd (dt : Nat) (i : Fin 78) (applied : Nat) (signature : Word)
  /-- R354, BIST_DONE. Re-initialisation ends; the island is released or held and the waiting commands execute
  or fail. -/
  | bistDone (dt : Nat) (i : Fin 78) (answers : Bool) (repairs : List Word)
  /-- R391, THM_READ. Returns the reading block of a sensor or a rail. -/
  | thmRead (dt : Nat) (c : Cmd)
  /-- R391, THM_STAGE_GET. Returns the throttle stage block. -/
  | thmStageGet (dt : Nat) (c : Cmd)
  /-- R372, THM_DOMAIN_SET. Sets power domains OFF or returns them to device control. -/
  | thmDomainSet (dt : Nat) (c : Cmd)
  /-- R391, THM_DOMAIN_GET. Returns the powered, host-off and needed domain masks. -/
  | thmDomainGet (dt : Nat) (c : Cmd)
  /-- R388, THM_AVS_SET. Sets the AVS mode to DEVICE or HOST. -/
  | thmAvsSet (dt : Nat) (c : Cmd)
  /-- R391, THM_AVS_GET. Returns the AVS block. -/
  | thmAvsGet (dt : Nat) (c : Cmd)
  /-- R390, THM_AVS_FORCE. Forces or releases the VDD_CORE voltage. -/
  | thmAvsForce (dt : Nat) (c : Cmd)
  /-- R403, EXTEST. JTAG EXTEST drives the balls from the boundary register. -/
  | extest (dt : Nat) (boundary : BitVec 63)
  /-- R403, IDCODE. JTAG IDCODE selects the identification register. -/
  | idcode (dt : Nat)
  /-- R403, SAMPLE_PRELOAD. JTAG SAMPLE/PRELOAD samples the balls without disturbing the device. -/
  | samplePreload (dt : Nat) (balls : BitVec 63)
  /-- R403, CLAMP. JTAG CLAMP holds the outputs from the boundary register with bypass. -/
  | clamp (dt : Nat)
  /-- R403, HIGHZ. JTAG HIGHZ puts the HTX and management outputs at high impedance. -/
  | highz (dt : Nat)
  /-- R403, EXTEST_PULSE. JTAG IEEE 1149.6 EXTEST_PULSE on the host lanes. -/
  | extestPulse (dt : Nat) (boundary : BitVec 63)
  /-- R403, EXTEST_TRAIN. JTAG IEEE 1149.6 EXTEST_TRAIN toggles the host lanes in Run-Test/Idle. -/
  | extestTrain (dt : Nat) (boundary : BitVec 63)
  /-- R403, DEBUG_ACCESS. Wilrath debug instructions, available in MANUFACTURE only. -/
  | debugAccess (dt : Nat) (code : BitVec 8)
  /-- R403, BYPASS. JTAG BYPASS, also selected by any code not listed. -/
  | bypass (dt : Nat) (code : BitVec 8)
  /-- R404, TEST_LOGIC_RESET. Test-Logic-Reset or TRST_N low returns the balls to the device. -/
  | testLogicReset (dt : Nat)
  /-- R25, ISLAND_HEARTBEAT. MC sends a heartbeat request to every powered island at least once per
  millisecond. -/
  | islandHeartbeat (dt : Nat)
  /-- R25, ISLAND_SILENT. An island fails to answer a Causeway request within 50 us; it is declared FAILED and
  its units go OPER FAILED. -/
  | islandSilent (dt : Nat) (i : Fin 78)
  /-- R25, MC_SILENT. MC fails to answer AON within 50 us; AON clears READY and holds MGMT_BUSY high. -/
  | mcSilent (dt : Nat)
  /-- R66, STATE_MISMATCH. A unit's mismatch has lasted more than 100 ms; STATE_MISMATCH is raised once for the
  episode. -/
  | stateMismatch (dt : Nat) (cls : Cls) (inst : BitVec 12)
  /-- R113, SIGNAL_DETECTED. Signal detect of an HRX or LRX lane asserts after 10 us above threshold, starting
  acquisition if the lane is UP. -/
  | signalDetected (dt : Nat) (lane : RxLane)
  /-- R113, SIGNAL_LOST. Signal detect deasserts after 10 us below threshold; the lane returns to step 1 of its
  acquisition. -/
  | signalLost (dt : Nat) (lane : RxLane)
  /-- R114, HRX_ACQUIRE. An HRX lane acquires: VGA, timing lock, FFE convergence, marker lock and deskew. -/
  | hrxAcquire (dt : Nat) (n : Fin 16) (m : HrxAcq)
  /-- R115, HRX_POLARITY_TRY. No marker lock within 8 T_AM; the lane tries the other polarity. -/
  | hrxPolarityTry (dt : Nat) (n : Fin 16)
  /-- R116, AM_LOCK_LOST. Four consecutive bad markers end marker lock; the lane returns to the marker search.
  -/
  | amLockLost (dt : Nat) (n : Fin 16) (bad : Nat)
  /-- R105, HMI_UPDATE. HMI is computed from the symbols of the last millisecond. -/
  | hmiUpdate (dt : Nat) (n : Fin 16) (m : HmiMeasure)
  /-- R118, HMI_LOW. HMI has been below HMI_WARN for 10 updates; the lane becomes DEGRADED. -/
  | hmiLow (dt : Nat) (n : Fin 16)
  /-- R118, HMI_RESTORED. HMI has been at or above HMI_WARN + 0.5 dB for 10 updates; the lane returns to UP. -/
  | hmiRestored (dt : Nat) (n : Fin 16)
  /-- R137, TX_CLIPPING. Clips have exceeded the limit in 10 consecutive milliseconds; the LTX lane is
  CLIPPING. -/
  | txClipping (dt : Nat) (l : Fin 8) (clips : List Nat)
  /-- R137, TX_CLIP_CLEARED. 100 ms at or below the clip limit end CLIPPING. -/
  | txClipCleared (dt : Nat) (l : Fin 8) (clips : List Nat)
  /-- R153, AGC_UPDATE. Each millisecond the AGC evaluates the over-range rate and steps the gain by at most
  one code. -/
  | agcUpdate (dt : Nat) (l : Fin 8) (m : AgcMeasure)
  /-- R155, LANE_OVERDRIVEN. The AGC at code 0 with over-range for 100 ms makes the lane overdriven and
  DEGRADED. -/
  | laneOverdriven (dt : Nat) (l : Fin 8)
  /-- R156, TIMING_LOCK_LOST. Phase error or frequency out of range ends timing lock; a warm re-acquisition
  follows. -/
  | timingLockLost (dt : Nat) (lane : RxLane) (range : Bool)
  /-- R168, LMI_UPDATE. LMI is computed each millisecond by the BER or SNR route. -/
  | lmiUpdate (dt : Nat) (l : Fin 8) (m : LmiMeasure)
  /-- R169, LMI_LOW. LMI has been below LMI_WARN for 10 updates; the lane becomes DEGRADED. -/
  | lmiLow (dt : Nat) (l : Fin 8)
  /-- R169, LMI_RESTORED. LMI has been at or above LMI_WARN + 0.5 dB for 10 updates. -/
  | lmiRestored (dt : Nat) (l : Fin 8)
  /-- R181, LRX_ACQUIRE. A line receiver acquires from cold, through inner lock and estimation, to OPER UP. -/
  | lrxAcquire (dt : Nat) (l : Fin 8) (m : LrxAcq)
  /-- R182, LRX_WARM_ACQUIRE. A line receiver re-acquires warm, keeping both banks. -/
  | lrxWarmAcquire (dt : Nat) (l : Fin 8) (m : LrxAcq)
  /-- R166, LRX_POLARITY_TRY. No inner lock 5 ms after FFE convergence; the lane inverts its input. -/
  | lrxPolarityTry (dt : Nat) (l : Fin 8)
  /-- R161, NEIGHBOUR_DROPPED. A crosstalk side becomes unavailable and is gated at the next block boundary. -/
  | neighbourDropped (dt : Nat) (l : Fin 8) (hi : Bool) (cause : Nat) (offset : BitVec 16)
  /-- R176, ADAPT_ROUND_START. An adaptation round starts by copying the active bank into the standby bank. -/
  | adaptRoundStart (dt : Nat) (l : Fin 8)
  /-- R176, ADAPT_TRIAL_START. Training ends after 48 ms and the shadow trial of the standby bank begins. -/
  | adaptTrialStart (dt : Nat) (l : Fin 8) (bank : Vector Word 70)
  /-- R176, ADAPT_DECISION. The trial ends after 16 ms and the round commits or discards the candidate. -/
  | adaptDecision (dt : Nat) (l : Fin 8) (m : TrialMeasure)
  /-- R185, HOST_TRIAL_END. A host-ordered shadow trial ends after DURATION_MS, without commit. -/
  | hostTrialEnd (dt : Nat) (l : Fin 8) (m : TrialMeasure)
  /-- R171, FADE_STEP. At a block boundary, a cross-fade advances one of its 256 steps. -/
  | fadeStep (dt : Nat) (l : Fin 8)
  /-- R196, INNER_WINDOW. A window of 1,024 inner codewords is evaluated for the lock hunt. -/
  | innerWindow (dt : Nat) (l : Fin 8) (count : Nat)
  /-- R196, INNER_LOCK_LOST. Four bad windows end inner lock and milestone lock. -/
  | innerLockLost (dt : Nat) (l : Fin 8)
  /-- R200, PERIOD_START. LFE forms a milestone for a group: it computes F, sends HELLO and epoch control,
  inserts tags and applies staged changes. -/
  | periodStart (dt : Nat) (g : Fin 8) (m : PeriodMeasure)
  /-- R209, HOST_CODEWORD_RECEIVED. A host codeword is delineated or decoded on ingress and placed in a slot.
  -/
  | hostCodewordReceived (dt : Nat) (g : Fin 8) (m : CodewordResult)
  /-- R210, LINE_CODEWORD_RECEIVED. A line data slot is RS decoded and forwarded, error-marked or held. -/
  | lineCodewordReceived (dt : Nat) (l : Fin 8) (m : CodewordResult)
  /-- R203, MILESTONE_RECEIVED. A received milestone is validated and used for lock, deskew, REMOTE, peer
  discovery, epochs, tags and waypost. -/
  | milestoneReceived (dt : Nat) (l : Fin 8) (m : MilestoneArrival)
  /-- R251, TAG_FAIL_LIMIT_REACHED. The tag failures in a 1 s window reach TAG_FAIL_LIMIT and FAIL_ACTION
  applies. -/
  | tagFailLimitReached (dt : Nat) (g : Fin 8)
  /-- R204, MILESTONE_MISSED. No valid milestone at the expected position; it is bridged, or a second miss
  loses lock. -/
  | milestoneMissed (dt : Nat) (l : Fin 8)
  /-- R238, PEER_LOST. No valid milestone for 8 periods; REMOTE becomes UNKNOWN, PEERED 0, HELLO resumes and
  SEALED fails closed. -/
  | peerLost (dt : Nat) (g : Fin 8)
  /-- R21, CLOCK_LOCKED. The host-clock recovery loop of a group locks. -/
  | clockLocked (dt : Nat) (g : Fin 8) (freq : Word)
  /-- R22, FREQ_RANGE. The peer frequency is outside the tracking range; the frequency is held and the group is
  not UP. -/
  | freqRange (dt : Nat) (g : Fin 8) (offset : Word)
  /-- R216, RS_MARGIN_WINDOW. A 1 s RS margin window ends. -/
  | rsMarginWindow (dt : Nat) (g : Fin 8)
  /-- R216, RS_MARGIN_LOW. 10 consecutive windows at or above LIMIT raise RS_MARGIN_LOW. -/
  | rsMarginLow (dt : Nat) (g : Fin 8)
  /-- R216, RS_MARGIN_RESTORED. 10 consecutive windows below LIMIT. -/
  | rsMarginRestored (dt : Nat) (g : Fin 8)
  /-- R237, HELLO. A received HELLO finds, confirms or changes the peer, or identifies a self peer. -/
  | hello (dt : Nat) (g : Fin 8) (msg : List Word)
  /-- R239, HANDSHAKE_START. Handshake conditions are met; the initiator generates its keys and sends
  KEYSHARE_I. -/
  | handshakeStart (dt : Nat) (g : Fin 8)
  /-- R239, KEYSHARE_I. The responder receives KEYSHARE_I, verifies it, checks admission and sends KEYSHARE_R.
  -/
  | keyshareI (dt : Nat) (g : Fin 8) (msg : List Word)
  /-- R239, KEYSHARE_R. The initiator receives KEYSHARE_R, verifies it and sends FINISH_I and CONFIRM. -/
  | keyshareR (dt : Nat) (g : Fin 8) (msg : List Word)
  /-- R239, FINISH_I. The responder receives FINISH_I. -/
  | finishI (dt : Nat) (g : Fin 8) (msg : List Word)
  /-- R239, CONFIRM. A CONFIRM is verified; the keys go into force and CARRY begins. -/
  | confirm (dt : Nat) (g : Fin 8) (msg : List Word)
  /-- R235, NACK. A received NACK makes the sender repeat the missing fragments. -/
  | nack (dt : Nat) (g : Fin 8) (msg : List Word)
  /-- R241, ABORT. A received ABORT fails the handshake. -/
  | abort (dt : Nat) (g : Fin 8) (msg : List Word)
  /-- R235, FRAGMENT_WAIT_EXPIRY. 4 periods pass without the missing fragments; a NACK is sent. -/
  | fragmentWaitExpiry (dt : Nat) (g : Fin 8)
  /-- R235, HANDSHAKE_TIMEOUT. After 8 NACKs or 20 ms without progress, ABORT TIMEOUT is sent. -/
  | handshakeTimeout (dt : Nat) (g : Fin 8)
  /-- R241, HANDSHAKE_RETRY. After 256 or 2^16 periods a new handshake attempt starts. -/
  | handshakeRetry (dt : Nat) (g : Fin 8)
  /-- R246, EPOCH_ANNOUNCE. At period 2^EPOCH_LOG2 - 64 of the epoch, or on SEAL_EPOCH_ADVANCE or a repeat, the
  next epoch is announced. -/
  | epochAnnounce (dt : Nat) (g : Fin 8)
  /-- R247, EPOCH_KEY_DERIVED. SC derives the announced key and ACK is set from the next milestone. -/
  | epochKeyDerived (dt : Nat) (g : Fin 8)
  /-- R246, EPOCH_WITHDRAWN. No ACK arrived before m+49; the announcement is withdrawn. -/
  | epochWithdrawn (dt : Nat) (g : Fin 8)
  /-- R246, EPOCH_TX_SWITCHED. m+64 opens the first period under the new epoch. -/
  | epochTxSwitched (dt : Nat) (g : Fin 8)
  /-- R267, CAL_ROUND_COMMIT. A 4 ms calibration round commits its trims and each participating lane swaps
  elements. -/
  | calRoundCommit (dt : Nat) (trims : List TrimWrite)
  /-- R273, CAL_OCCUPANCY_WINDOW. Each 1 ms the level shares of an RX lane are measured. -/
  | calOccupancyWindow (dt : Nat) (lane : Fin 24) (shares : Vector Byte 4)
  /-- R273, CAL_FED. 10 consecutive good windows; the lane rejoins the rounds. -/
  | calFed (dt : Nat) (lane : Fin 24)
  /-- R274, TEST_SOURCE_CONNECT. After 10 ms without signal detect, the internal test source is connected for
  calibration. -/
  | testSourceConnect (dt : Nat) (lane : Fin 24)
  /-- R275, CALREF_RESTORED. 16 consecutive readings inside the window restore CALREF as reference. -/
  | calrefRestored (dt : Nat)
  /-- R287, CAPTURE_FILL_COMPLETE. The post-trigger samples of a capture are stored; the record is moved or
  held. -/
  | captureFillComplete (dt : Nat) (i : Fin 24) (samples : List Word) (offset : Byte)
  /-- R294, CAPTURE_DONE. The DMA engine has written a record to its ring; CONTINUOUS re-arms the lane. -/
  | captureDone (dt : Nat) (i : Fin 24)
  /-- R297, MONITOR_OUTPUT. A filtered monitor output updates the detectors and may cross a threshold. -/
  | monitorOutput (dt : Nat) (i : Fin 24) (v : Int)
  /-- R298, MONITOR_RECORD_WRITE. 256 outputs or 100 ms: a monitor record is written to the ring. -/
  | monitorRecordWrite (dt : Nat) (i : Fin 24)
  /-- R309, CHK_LOCKED. The pattern checker declares lock. -/
  | chkLocked (dt : Nat) (m : CheckLock)
  /-- R309, CHK_LOCK_LOST. A window with over 1,024 symbol errors ends checker lock. -/
  | chkLockLost (dt : Nat) (i : Fin 24) (m : CheckCounts)
  /-- R314, INJECTION. After M x 2^E units the injector makes one error injection. -/
  | injection (dt : Nat) (i : Fin 24)
  /-- R300, HK_ROUND. A housekeeping round reads the sensors and channels, updates effective values, warnings,
  stage, failures and shutdown checks. -/
  | hkRound (dt : Nat) (readings : List HkReading)
  /-- R376, THROTTLE_STEP_DOWN. 16 consecutive rounds below the clear level lower the stage by one. -/
  | throttleStepDown (dt : Nat)
  /-- R379, SENSOR_RESTORED. 256 good rounds make a failed sensor valid again. -/
  | sensorRestored (dt : Nat) (i : Fin 24)
  /-- R382, DIGITAL_SHUTDOWN. An armed valid sensor reads 125 degC in two rounds and sets the shutdown latch.
  -/
  | digitalShutdown (dt : Nat) (i : Fin 24)
  /-- R386, SUPPLY_WARNING_START. A sense point falls below its warning level, starting a warning episode and
  voiding rounds. -/
  | supplyWarningStart (dt : Nat) (rail : Fin 12) (reading : Nat)
  /-- R386, SUPPLY_WARN. SUPPLY_WARN is raised 1 ms into the episode, or at its end. -/
  | supplyWarn (dt : Nat)
  /-- R386, SUPPLY_EPISODE_END. Every sense point is above its cleared level; recovery starts. -/
  | supplyEpisodeEnd (dt : Nat)
  /-- R386, SUPPLY_RECOVERED. Recovery ends 1 ms later; calibration, self-test and held commands resume. -/
  | supplyRecovered (dt : Nat)
  /-- R388, AVS_EVALUATE. Every 100 ms the firmware computes the VDD_CORE target and steps it over AVSBus. -/
  | avsEvaluate (dt : Nat) (fails : Bool) (status : Byte)
  /-- R388, AVS_HOST_CHANGE_COMPLETE. In HOST mode the change is complete 100 ms after AVS_TARGET. -/
  | avsHostChangeComplete (dt : Nat)
  /-- R373, DOMAIN_POWERED. A domain powered because of a need completes its power-up and becomes usable. -/
  | domainPowered (dt : Nat) (d : Fin 80)
  /-- R373, DOMAIN_NEED_END_OFF. A host-OFF domain is switched off within 1 ms after its need ends. -/
  | domainNeedEndOff (dt : Nat) (d : Fin 80)
  /-- R22, PEER_FREQUENCY_IN_RANGE. The peer frequency measured by a group's recovery loop returns inside the
  tracking range, so the hold at the range limit ends, the loop tracks again and Local Fault for the cause
  ends. -/
  | peerFrequencyInRange (dt : Nat) (g : Fin 8) (offset : Word)
  /-- R349, COLLISION_INDICATION_END. The hold of at least 1 us after a window read-against-write collision
  expires, and WIN_BUSY and MGMT_BUSY fall. -/
  | collisionIndicationEnd (dt : Nat)
  /-- R388, AVS_READBACK. An AVSBus read-back arrives within 5 mV of the target, completing a DEVICE-mode
  change, or an AVSBus transaction succeeds and ends an AVS_FAULT. -/
  | avsReadback (dt : Nat) (mv : Nat)
  /-- R312, PATTERN_START. The checker of a lane compares the start of its pattern, which gives the trigger
  instant of a capture armed on TRIG_SRC PATTERN. -/
  | patternStart (dt : Nat) (i : Fin 24) (m : CheckCounts)
  /-- R288, OVER_RANGE_SAMPLE. The first over-range sample on the named lane after arming gives the trigger
  instant of a capture armed on TRIG_SRC OVR. -/
  | overRangeSample (dt : Nat) (i : Fin 24)
  deriving DecidableEq, Repr

end Sys2Proof
end

