-- ==== Sys2Proof/Config.lean ====
section
/-! DEFINITION. What the spec leaves to the part or to a named standard: the free values (entry 9), the fuse
contents as shipped (entry 7), the cryptographic primitives (entry 8) and the image header (entry 18).
Each is an uninterpreted constant: nothing can be proved of its value. -/

namespace Sys2Proof

/-- R360: one fuse word: its corrected data, its commit bit, its ECC status, and whether no bit is blown. -/
structure FuseWord where
  data          : Word
  committed     : Bool
  corrected     : Bool
  uncorrectable : Bool
  blank         : Bool
  deriving DecidableEq, Repr, Inhabited

/-- R86, R87: what the image header says: firmware version, IMG_ROLLBACK, ADVANCE, the personalities. -/
structure ImageHeader where
  version       : Word
  rollback      : Nat
  advance       : Bool
  personalities : List Word
  deriving DecidableEq, Repr, Inhabited

/-- A 384-bit hash as the words that carry it, byte 0 in bits [7:0] of word 0 (R101). -/
abbrev Hash := Vector Word 12

/-- A 256-bit key. -/
abbrev Key := Vector Word 8

namespace Config

/-- A value that the spec leaves open (entry 9). The argument is the model's own counter `State.free`. -/
opaque freeWord : Nat → Word

/-- The same, where one row meets several such values: the second argument tells them apart. -/
opaque freeAt : Nat → Nat → Word

/-- R84, R360: the fuse words that Wilrath programs before shipment (entry 7). -/
opaque factoryFuse : Nat → FuseWord

/-- R76: the cycles of an island's local clock, and the Causeway messages it has received, between two device times. -/
opaque localCycles : Nat → Nat → Nat → Nat
opaque causewayRx : Nat → Nat → Nat → Nat

/-- R101: the boot ROM version, which the spec does not state. -/
opaque romVersion : BitVec 16

/-- SHA-384 over words, each least significant byte first (R87, R221, R224). -/
opaque sha384 : List Word → Hash

/-- R56, R58: AES-256-CMAC. -/
opaque cmac : Key → List Word → BitVec 128

/-- HKDF-Extract with SHA-384: salt, input keying material (R230, R240). -/
opaque hkdfExtract : List Word → List Word → Hash

/-- HKDF-Expand with SHA-384: PRK, label, context words, output length in bytes (R230, R240, R244). -/
opaque hkdfExpand : Hash → String → List Word → Nat → List Word

/-- HMAC-SHA-384: key, message (R240). -/
opaque hmac384 : List Word → List Word → Hash

/-- ML-KEM-1024: the encapsulation key of an ephemeral secret, and the shared secret that secret and a received
ciphertext give; encapsulation gives a ciphertext and a shared secret. -/
opaque kemPublic : Word → List Word
opaque kemDecap : Word → List Word → List Word
opaque kemEncap : Word → List Word → List Word × List Word

/-- ECDH P-384: the share of an ephemeral secret, and the X coordinate that it gives with a received share. -/
opaque ecdhShare : Word → List Word
opaque ecdhSecret : Word → List Word → List Word

/-- R221: the identity that the fused seed gives: the public key block, and hybrid signatures under it. -/
opaque identityKey : List Word
opaque identitySign : List Word → List Word

/-- R221: a hybrid signature (852 words) over a message verifies under a public key block (512 words). -/
opaque hybridValid : List Word → List Word → List Word → Bool

/-- R222: the vendor root's key block in boot ROM. -/
opaque vendorRoot : List Word

/-- R87: the image header, none when it is malformed; and whether both signatures and the chain verify. -/
opaque imageHeader : List Word → Option ImageHeader
opaque imageSigned : List Word → Bool

/-- R357: the signature that a good island has after a number of patterns. -/
opaque bistSignature : Fin 78 → Nat → Word

/-- R242, R243: AES-256-GCM of a lane of a period: the tag over AAD and messages, and the keystream that turns the message
of a data slot into ciphertext and back. -/
opaque gcmTag : Key → BitVec 96 → List Word → List (BitVec 5140) → BitVec 128
opaque gcmMask : Key → BitVec 96 → Nat → BitVec 5140

/-- R210: the message of a codeword whose 257b blocks are all marked as error blocks, in the manner of IEEE 802.3. -/
opaque errorMessage : BitVec 5140

/-- R122, R200: the message of a codeword of the generated Local Fault stream, with alignment markers (true, PASS) or their
placeholders, and the place of the codeword in the stream. -/
opaque faultMessage : Bool → Nat → BitVec 5140

/-- R209: a message whose alignment markers are replaced by placeholders; one whose placeholders are replaced by markers,
from the running BIP; and the BIP after a message. -/
opaque amPlace : BitVec 5140 → BitVec 5140
opaque amRegenerate : Word → BitVec 5140 → BitVec 5140
opaque bipNext : Word → BitVec 5140 → Word

/-- R20, R202: the loop filter of the host clock: the frequency in 0.001 ppm after one more period, from the frequency
before and that period's F. -/
opaque hostLoop : Word → Nat → Word

/-- What HFE puts out for a data slot of a period whose EPOCH names no key held, in SEALED-STREAM (entry 9). -/
opaque keyless : BitVec 5140 → BitVec 5140

/-- R254: whether a TAMPER_N low of 50 to 200 ns acts; the arguments are the model's counter and its width in ns. -/
opaque tamperActs : Nat → Nat → Bool

/-- R279: the calibration lane and the element that a repair of R359 takes out, a spare in its place (entry 85). -/
opaque repairSpare : Word → Fin 48 × Nat

/-- R266: the nominal binary weight of a SAR step, in 1/64 LSB. -/
opaque capNominal : Nat → BitVec 16

/-- R348, R349, R352: a byte of the scratchpad that the firmware owns, or whose value the spec leaves open; the arguments
are the model's counter and the address. -/
opaque openByte : Nat → Nat → Byte

/-- R153: the digital gain compensation at an AGC code, in 1/65,536. -/
opaque gainComp : Nat → Int

/-- R160: the 64-phase, 8-tap interpolator: phase, samples. -/
opaque interpolate : Nat → List Int → Int

/-- R165: the noise power behind the likelihood ratios of the MLSE, in the units of its branch metrics. -/
opaque softNoise : Nat

/-- R175: state `k` of the 4-bit LFSR that places the blocks of the shadow evaluator. -/
opaque shadowLfsr : Nat → BitVec 4

/-- R297: the envelope, in 1/65,536, decayed for one output with a time constant of 2^DECAY outputs (the arguments), where its
rounding is open. -/
opaque envelopeDecay : Nat → Nat → Nat

/-- R388: the VDD_CORE target in mV, from the fused speed bin and the hottest effective temperature. -/
opaque avsTarget : BitVec 16 → Nat

/-- R313: state `k` of the 32-bit LFSR that places injections. -/
opaque injectLfsr : Nat → BitVec 32

/-- R306: a symbol of a pattern that the spec takes from IEEE 802.3: the pattern's code, the symbol's place. -/
opaque ieeePattern : Nat → Nat → Nat

end Config
end Sys2Proof
end

