-- ==== Sys2Proof/Machine/State.lean ====
section
/-! DEFINITION. The state of the GZN-3208 as plain data: every register, queue, counter, mode and pin that the spec
names, and the queue of the rows that wait. Reset values are those of the spec, or those that assumption log entry 5
names. -/

namespace Sys2Proof.Machine

/-! ## Device and unit states -/

/-- R38, R81: the device states. -/
inductive DevState where
  | off | boot | ready | config | active | sleep | maint | shutdown
  deriving DecidableEq, Repr

/-- R63: ADMIN. -/
inductive Admin where
  | down | up | test
  deriving DecidableEq, Repr

/-- R63: OPER. -/
inductive Oper where
  | off | selftest | acquiring | up | degraded | failed
  deriving DecidableEq, Repr

/-- R81, R386: rails, reset (`inReset`; `pinLow`: RESET_N is low) and what AON holds. -/
structure Power where
  powered  : Bool
  inReset  : Bool
  pinLow   : Bool
  railsLow : BitVec 12
  dev      : DevState
  latch    : Bool
  blind    : Bool
  mcSilent : Bool
  deriving DecidableEq, Repr

/-- R85, R101: the boot summary. -/
structure Boot where
  repaired : Byte
  failed   : Byte
  islands  : BitVec 78
  ms       : BitVec 16
  deriving DecidableEq, Repr

/-- R64, R70: what the host sets in every unit: ADMIN and the event mask. -/
structure UnitSet where
  admin : Admin
  mask  : BitVec 256
  deriving DecidableEq, Repr

/-- R322, R323: the fixed counters of a unit (R326), and the device time of their last clear. -/
structure Stats where
  vals  : Vector Nat 9
  start : Nat
  deriving DecidableEq, Repr

/-- R62: the record MC keeps of a unit: OPER, REASON, the time of their last change, the mismatch episode. -/
structure UnitRec where
  oper      : Oper
  reason    : Nat
  changed   : Nat
  misSince  : Option Nat
  misRaised : Bool
  deriving DecidableEq, Repr

/-- R71: one entry of the event queue. -/
structure Entry where
  code : Nat
  cls  : Cls
  inst : Nat
  arg  : Word
  time : Nat
  deriving DecidableEq, Repr

/-- R327, R330, R334: a programmable counter: config words 0 and 1, the 48-bit value, SAT and WRAP. -/
structure PerfCtr where
  cfg  : Word
  code : Word
  val  : Nat
  sat  : Bool
  wrap : Bool
  deriving DecidableEq, Repr

/-- R123, R129: generated Local Fault of an HTX lane: its cause (0 none), its start, and LF_EPISODES. -/
structure LocalFault where
  cause    : Nat
  since    : Nat
  episodes : Nat
  deriving DecidableEq, Repr

/-- What MC and the counting hardware derive from the rest of the state at every row: unit records, the event queue with
EVENT_LOST (R70) and EVENTS_QUEUED (R326; `seen` of them have reached the programmable counters), the conditions that
occurred in the present row (R288, R328), the programmable counters, generated Local Fault, the missing milestones of each
line lane when its group last became OPER UP (R217), the adaptation counts of each line lane when it last became OPER UP
(R186), since when each group is UP or DEGRADED (R212), and the marker count at which a group last had cause for Local Fault
while its first marker is awaited (R123). -/
structure Obs where
  recs   : Vector UnitRec 321
  queue  : List Entry
  lost   : Nat
  queued : Nat
  seen   : Nat
  fired  : List (Cls × Nat × Nat)
  perf   : Vector PerfCtr 64
  lf     : Vector LocalFault 16
  missed : Vector Nat 8
  adapt  : Vector (Nat × Nat × Nat) 8
  carry  : Vector (Option Nat) 8
  held   : Vector (Option Nat) 8
  deriving DecidableEq, Repr

/-! ## Port -/

/-- R41: a command packet that has passed checks 1 to 4 of R49. -/
structure Packet where
  op   : Byte
  cls  : Cls
  cmd  : Cmd
  deriving DecidableEq, Repr

/-- R46: a packet in its queue slot, not yet executed: sound, or refused by one of checks 1 to 4 of R49 with the
status code, the TARGET and the TAG that its reply echoes (R42). -/
inductive Waiting where
  | good (p : Packet)
  | bad  (status : Nat) (target : BitVec 16) (tag : Byte)
  deriving DecidableEq, Repr

/-- R69: a command that waits for the end of a self-test, whether its AUTH trailer verified, and the islands it needs. -/
structure Deferred where
  op     : Byte
  cls    : Cls
  cmd    : Cmd
  authed : Bool
  isl    : List Nat
  deriving DecidableEq, Repr

/-- R34 to R47, R69, R72, R75: the management port. `replies` and `waiting` share the four queue slots. -/
structure Port where
  replies    : List (List Word)
  waiting    : List Waiting
  miso       : List Byte
  dropped    : Nat
  irqOnEvent : Bool
  irqOnReply : Bool
  deferred   : List Deferred
  hold       : Option (Nat × Word)
  holdAuth   : Option (Nat × Word)
  scratch    : Vector Word 78
  deriving DecidableEq, Repr

/-! ## Fuses, firmware, configuration -/

/-- R360: the fuse words that differ from those shipped, by rising address; R88, R362: steps stopped until reset, or until
the next entry to ACTIVE. -/
structure Fuse where
  cells        : List (Nat × FuseWord)
  rollbackStop : Bool
  rollbackWait : Bool
  deriving DecidableEq, Repr

/-- R86, R87: the firmware load: declared length in words (0: none), the words staged, the image in force with its
measurement. -/
structure Firmware where
  declared : Nat
  stage    : List Word
  image    : Option (ImageHeader × Hash)
  deriving DecidableEq, Repr

/-- R90 to R95, R270: configuration steps: the latest step begun, DEV intent is DEV ADMIN; the time CONFIG was
entered, the personality set and the one in force; foreground calibration of the whole device. -/
structure Setup where
  step        : Nat
  entered     : Nat
  persSet     : Option Word
  persInForce : Word
  deriving DecidableEq, Repr

/-! ## Scratchpad, self-test, mailboxes -/

/-- R366: MEM_TEST_RUN in progress: first slice, count, slices done, repaired, failed. -/
structure TestRun where
  first    : Nat
  count    : Nat
  done     : Nat
  repaired : Nat
  failed   : Nat
  deriving DecidableEq, Repr

/-- R346 to R352, R366: the scratchpad: its bytes (sorted by address, none equal to 0x00, which an unlisted byte reads as:
entry 6), the free spare rows, the tests, the slice borrowed last with the time its write-back ends, the time of the last
slice of the background test, the collision indication (R349) and the busy indication of a RETRY (R350). -/
structure MemState where
  cells     : List Host.Cell
  spares    : Nat
  failed    : List Nat
  interval  : Nat
  next      : Nat
  passes    : Nat
  repaired  : Nat
  run       : Option TestRun
  borrow    : Option (Nat × Nat)
  sliceAt   : Option Nat
  collision : Bool
  retryHold : Bool
  deriving DecidableEq, Repr

/-- R354, R367: where an island stands in a logic self-test. -/
inductive Phase where
  | idle | queued | running | reinit
  deriving DecidableEq, Repr

/-- R357, R368: how a run ended: RESULT, PARTIAL_MATCH, CAUSE, PATTERNS, SIGNATURE. -/
structure BistEnd where
  result    : Nat
  partialOk : Bool
  cause     : Nat
  patterns  : Nat
  signature : Word
  deriving DecidableEq, Repr

/-- R354 to R358, R368: the self-test record of an island: a stop by BIST_ABORT or by a supply is due; when it last
started; how the last run ended, and how the run in re-initialisation has ended; the device time of BIST_DONE. -/
structure Bist where
  phase    : Phase
  abort    : Bool
  supply   : Bool
  started  : Option Nat
  last     : BistEnd
  next     : BistEnd
  held     : Bool
  overrode : Bool
  done     : Nat
  deriving DecidableEq, Repr

/-- R338, R344: a message in a channel. -/
structure Msg where
  service : Byte
  id      : BitVec 16
  data    : List Word
  sender  : Nat
  epoch   : Nat
  posted  : Nat
  deriving DecidableEq, Repr

/-- R342, R344: the legacy shared mailbox: data, writer (0 none, 1 host, 2 MC), flags, whether MC has read the
host's message, when each side last wrote, and what MC writes again after a collision. -/
structure Legacy where
  data      : List Word
  writer    : Nat
  unread    : Bool
  overwrite : Bool
  collision : Bool
  request   : Option Word
  hostAt    : Option Nat
  mcAt      : Option Nat
  again     : List Word
  deriving DecidableEq, Repr

/-- R336 to R342: the sixteen channels, the RECEIVER_RESET bits of HOST-NS and HOST-S, the five epochs. -/
structure Mbx where
  ch     : Vector (List Msg) 16
  bell   : Vector (BitVec 3) 2
  epoch  : Vector Nat 5
  legacy : Legacy
  deriving DecidableEq, Repr

/-! ## Thermal and supply -/

/-- R375 to R382, R391: a temperature sensor: reading, substitute, FAIL_CAUSE, runs of rounds with identical conversions,
without a failure condition, and at 125 °C; `alone`: failed with no valid neighbour. -/
structure Sensor where
  reading : BitVec 16
  subst   : Option (BitVec 16)
  cause   : Nat
  armed   : Bool
  warn    : Bool
  same    : Nat
  good    : Nat
  hot     : Nat
  alone   : Bool
  max     : BitVec 16
  readAt  : Nat
  deriving DecidableEq, Repr

/-- R385, R386, R391: a sense point: reading (0.1 mV), below warning, the minimum of the running episode, the
minimum and the length (µs) of the last one, the start of the present dip. -/
structure Rail where
  reading : Nat
  low     : Bool
  min     : Nat
  lastMin : Nat
  lastUs  : Nat
  dip     : Nat
  readAt  : Nat
  deriving DecidableEq, Repr

/-- R386: the supply warning episode: its start, whether SUPPLY_WARN has been raised, the first sense point to fall. -/
inductive Supply where
  | none
  | episode (start : Nat) (warned : Bool) (first : Nat)
  | recovering (start stop : Nat) (warned : Bool) (first : Nat)
  deriving DecidableEq, Repr

/-- R388, R391: AVS control of VDD_CORE; `evalAt`: when the target was last evaluated. -/
structure Avs where
  host     : Bool
  target   : Nat
  old      : Nat
  changing : Bool
  since    : Nat
  fault    : Bool
  forced   : Nat
  readback : Nat
  evalAt   : Option Nat
  deriving DecidableEq, Repr

/-- R374 to R391: thermal and supply management. -/
structure Thermal where
  sensors : Vector Sensor 24
  stage   : Nat
  exit    : Nat
  changed : Nat
  rails   : Vector Rail 12
  supply  : Supply
  avs     : Avs
  fuseMv  : Nat
  deriving DecidableEq, Repr

/-- R372, R373: the power domains, R25: the FAILED islands, and R76: when each island was last powered or re-initialised. -/
structure Domains where
  powered : BitVec 80
  hostOff : BitVec 80
  failed  : BitVec 78
  since   : Vector Nat 78
  deriving DecidableEq, Repr

/-! ## Host lanes -/

/-- R125: the HMI window of an HRX lane. -/
structure HmiWindow where
  min     : Int
  max     : Int
  sum     : Int
  count   : Nat
  invalid : Nat
  start   : Nat
  deriving DecidableEq, Repr

/-- R104 to R119, R125: a host receiver. `kept` is the polarity last kept (R115). -/
structure Hrx where
  pol       : Nat
  manual    : Bool
  slip      : Nat
  frozen    : Bool
  chosen    : Option Nat
  profile   : Nat
  eq        : Vector Word 5
  sd        : Bool
  timing    : Bool
  amLock    : Bool
  deskewed  : Bool
  range     : Bool
  inverted  : Bool
  kept      : Option Bool
  searched  : Bool
  skew      : BitVec 16
  hmi       : BitVec 12
  lastHmi   : BitVec 12
  window    : HmiWindow
  lowCount  : Nat
  okCount   : Nat
  lowMargin : Bool
  acqStart  : Nat
  deriving DecidableEq, Repr

/-- R109, R120 to R127: a host transmitter. -/
structure Htx where
  force     : Nat
  squelch   : Bool
  pol       : Nat
  chosen    : Option Nat
  profile   : Nat
  fir       : Vector Word 3
  recovered : Bool
  deriving DecidableEq, Repr

/-! ## Line transmitter -/

/-- R145: the changes staged on a line transmitter, one of each kind. -/
structure LtxStaged where
  swing : Option Nat
  taps  : Option (Nat × Word × Word)
  lvl   : Option Word
  pd    : Option (Vector Word 17)
  deriving DecidableEq, Repr

/-- R134 to R147: a line transmitter. `shape` is the shape block, `pd` the PD block, `skew` the skew word, `stagedAt` when
each kind of change was staged (SWING, taps, LVL_OFS, predistortion: R145), `clipsMs` the clips of the millisecond that ended at
`clipsAt`. -/
structure Ltx where
  swing     : Nat
  inverted  : Bool
  precode   : Bool
  squelch   : Bool
  shape     : Vector Word 3
  pd        : Vector Word 17
  preset    : Nat
  skew      : Word
  staged    : LtxStaged
  stagedAt  : Vector Nat 4
  driving   : Bool
  clipsMs   : Nat
  clipsAt   : Nat
  clipping  : Bool
  clipSince : Nat
  deriving DecidableEq, Repr

/-! ## Line receiver -/

/-- R187: a coefficient bank. -/
abbrev Bank := Vector Word 70

/-- R161, R162, R186: a crosstalk side: gated, the cause of the last drop, the frequency offset then, and whether the
round in progress trains it from zero. -/
structure Side where
  gated    : Bool
  cause    : Nat
  offset   : BitVec 16
  training : Bool
  deriving DecidableEq, Repr

/-- R171, R172: a running cross-fade: steps taken, the time of the last one, FADE_LEN code, FADE_CAUSE, and the profile
change it completes (none, or the cause of PROFILE_CHANGED). -/
structure Fade where
  step    : Nat
  stepAt  : Nat
  len     : Nat
  cause   : Nat
  profile : Option Nat
  deriving DecidableEq, Repr

/-- R176 to R180: what an adaptation round aims at: trial phase reached, the sides available at its start, the profile it
moves to (none: no move) with the cause, whether it follows a neighbour drop. -/
structure Round where
  trial     : Bool
  avail     : Bool × Bool
  move      : Option (Bool × Nat)
  afterDrop : Bool
  deriving DecidableEq, Repr

/-- R152 to R155, R186: the analog front end of a line receiver; the run counts are in milliseconds. -/
structure Afe where
  agc    : Nat
  ctle   : Nat
  held   : Bool
  ovr    : Nat
  fsc    : Nat
  hotRun : Nat
  okRun  : Nat
  maxRun : Nat
  driven : Bool
  deriving DecidableEq, Repr

/-- R168, R169, R186: LMI, its route, the MLSE gain offsets (in 1/65,536 dB: entry 20), run counts for the rules of R169
and R180. -/
structure Lmi where
  value     : BitVec 12
  last      : BitVec 12
  snrRoute  : Bool
  gain16    : Int
  gain4     : Int
  window    : HmiWindow
  lowCount  : Nat
  okCount   : Nat
  lowMargin : Bool
  below1    : Nat
  belowExit : Nat
  over3     : Option Nat
  deriving DecidableEq, Repr

/-- R150 to R190: a line receiver. `start` is the starting polarity of the acquisition in progress (R166), `confirm` the
consecutive LMI updates with inner lock (R181 step 7); `rounds`, `commits` and `voided` count since reset. -/
structure Lrx where
  setup     : Word
  policy    : Word
  preset    : Nat
  banks     : Vector Bank 2
  active    : Fin 2
  sd        : Bool
  timing    : Bool
  acquired  : Bool
  warm      : Bool
  inverted  : Bool
  kept      : Option Bool
  start     : Bool
  searched  : Bool
  acqStart  : Nat
  confirm   : Nat
  lockAt    : Nat
  fade      : Option Fade
  lastCause : Nat
  lastFade  : Nat
  frozen    : Bool
  round     : Option Round
  dropped   : Bool
  rounds    : Nat
  commits   : Nat
  voided    : Nat
  delta     : Int
  committed : Bool
  cand      : Int
  hostTrial : Option Nat
  leanRetry : Nat
  skipped   : Bool
  sides     : Vector Side 2
  afe       : Afe
  lmi       : Lmi
  blocks    : Nat
  trFreq    : Word
  trPhase   : Byte
  deriving DecidableEq, Repr

/-! ## Framing, FEC, groups -/

/-- R196, R203 to R208: what LFD holds of a line lane. `cand` is F of the first of two valid milestones, `last` the words of
the latest valid milestone in lock, `lastAt` its time, `slot` the next data slot of the period in progress. -/
structure Lfd where
  inner   : Bool
  offset  : Nat
  badWin  : Nat
  msLock  : Bool
  cand    : Option Nat
  misses  : Nat
  last    : Option (List Word)
  lastAt  : Nat
  slot    : Nat
  skew    : BitVec 16
  errMs   : Nat
  uncMs   : Nat
  missed  : Nat
  lockAt  : Nat
  deriving DecidableEq, Repr

/-- R200, R209: a codeword in the ingress buffer: one that PASS carries bit for bit, or the message of one. -/
inductive Carried where
  | intact (codeword : BitVec 5440)
  | message (m : BitVec 5140)
  deriving DecidableEq, Repr

/-- R197 to R213: a group. `ingress` is the ingress buffer, oldest first; generated codewords count from `madeAt` (`made` of
them so far, `genIx` the place of the next in its stream); `marks` counts the forwarded codewords with alignment markers,
`bip` is the running BIP; latency samples stand with their times. `seq` is the sequence last sent, `running` whether the
transmit side has started; `txIdle` and `f` are those of the period in progress, `slot` the next data slot of it; `sent` the
milestone words last sent. -/
structure Grp where
  mode      : Nat
  running   : Bool
  seq       : Nat
  txIdle    : Bool
  f         : Nat
  slot      : Nat
  sent      : List (List Word)
  remote    : Nat
  lastValid : Nat
  rxSeq     : Nat
  peerSize  : Nat
  peerMode  : Nat
  idleRx    : Bool
  conflict  : Bool
  peerCfg   : Bool
  deskewed  : Bool
  range     : Bool
  locked    : Bool
  hasFreq   : Bool
  freq      : Word
  holdover  : Bool
  holdAt    : Nat
  outRange  : Bool
  lockAt    : Nat
  fHist     : List Nat
  h2l       : List (Nat × Nat)
  l2h       : List (Nat × Nat)
  latAt     : Nat
  ingress   : List Carried
  madeAt    : Nat
  made      : Nat
  genIx     : Nat
  bip       : Word
  marks     : Nat
  deriving DecidableEq, Repr

/-- R211, R217: an RS histogram: bins 0 to 15, uncorrectable, total; the time of its last clear; the time of the last
uncorrectable codeword. -/
structure Hist where
  vals    : Vector Nat 18
  start   : Nat
  lastUnc : Option Nat
  deriving DecidableEq, Repr

/-- R216, R217: the FEC unit of a group. -/
structure Fec where
  line   : Hist
  host   : Hist
  bin    : Nat
  limit  : Nat
  binW   : Nat
  limitW : Nat
  count  : Nat
  lastN  : Nat
  low    : Nat
  ok     : Nat
  alarm  : Bool
  since  : Nat
  deriving DecidableEq, Repr

/-- R10, R209, R210: a codeword put out, by the lane position and the data slot it stands for: its 5,440 bits, an error-marked
codeword, or generated Local Fault in its place. -/
inductive Output where
  | data (lane slot : Nat) (codeword : BitVec 5440)
  | marked (lane slot : Nat)
  | localFault (lane slot : Nat)
  deriving DecidableEq, Repr

/-! ## Sealed link -/

/-- R56 to R58, R230: an open host secure session. -/
structure Session where
  cmdKey : Key
  rplKey : Key
  last   : Nat
  deriving DecidableEq, Repr

/-- R229: a challenge: its reply payload, the ephemeral secret behind it, the time of SESSION_BEGIN. -/
structure Challenge where
  payload : List Word
  secret  : Word
  since   : Nat
  deriving DecidableEq, Repr

/-- R222 to R231, R257: identity, certificate, policy, staging, challenge and session; R252, R254: zeroised. -/
structure Secure where
  identity  : Bool
  zeroised  : Bool
  staging   : List Word
  cert      : List Word
  policy    : List Word
  challenge : Option Challenge
  session   : Option Session
  deriving DecidableEq, Repr

/-- R239: where a handshake stands. -/
inductive HsPhase where
  | idle | sentI | sentFinish | waitI | sentR | gotFinish
  deriving DecidableEq, Repr

/-- R239 to R241: a handshake: its phase, attempt, start and last step, in service or from fail-closed, ephemeral
secret, the messages of the transcript, PRK and H3 once known, NACKs sent for the message in progress. -/
structure Handshake where
  phase     : HsPhase
  attempt   : Nat
  start     : Nat
  step      : Nat
  inService : Bool
  secret    : Word
  ksI       : List Word
  ksR       : List Word
  prk       : Option Hash
  h2        : Option Hash
  h3        : Option Hash
  nacks     : Nat
  deriving DecidableEq, Repr

/-- R244: the keys of one direction: epoch and its key, the one chain key held with its epoch, the announced key, and the
key of the epoch before, with the sequence at which it ended (R247). -/
structure DirKeys where
  epoch : Nat
  chain : Nat × Hash
  key   : Key
  next  : Option (Nat × Key)
  old   : Option (Nat × Key × Nat)
  deriving DecidableEq, Repr

/-- R244, R248: keys in force: whether this side initiated, both directions. -/
structure Keys where
  initiator : Bool
  tx        : DirKeys
  rx        : DirKeys
  deriving DecidableEq, Repr

/-- R244, R248: where a direction of a new session stands: its first chain key has yet to be derived, is held with its epoch, or
has entered. -/
inductive FirstKey where
  | due
  | held (epoch : Nat) (chain : Hash)
  | entered
  deriving DecidableEq, Repr

/-- R248: a new session that has yet to enter: whether this side initiated it, PRK until the first chain keys exist (R240),
and its directions. -/
structure Pending where
  initiator : Bool
  prk       : Option Hash
  tx        : FirstKey
  rx        : FirstKey
  deriving DecidableEq, Repr

/-- R246: an announcement: the sequence of m, the epoch, NEW_SESSION, whether a valid ACK has arrived, withdrawn. -/
structure Announce where
  m       : Nat
  epoch   : Nat
  fresh   : Bool
  acked   : Bool
  drawn   : Bool
  deriving DecidableEq, Repr

/-- R233: a message being received: TYPE, ATTEMPT, NFRAG, the fragments held, the time of the last. -/
structure Reassembly where
  type    : Nat
  attempt : Nat
  total   : Nat
  got     : List (Nat × List Word)
  at_     : Nat
  deriving DecidableEq, Repr

/-- R236, R260: a received user payload. -/
structure Waypost where
  len      : Nat
  verified : Bool
  seq      : Nat
  position : Nat
  data     : List Word
  deriving DecidableEq, Repr

/-- R252: why a SEALED group has no keys in force. -/
inductive Closed where
  | none | first | peer | refused | selfPeer | tagLimit | rekey | sleep | zeroised
  deriving DecidableEq, Repr

/-- R233 to R262: the SEAL unit of a group. `heard` is the epoch that the peer announces, with NEW_SESSION and the sequence
of its m, `sentHello` the HELLO last sent, `ackFor` the epoch acknowledged, `txPer` the key of the CARRY period being sent
(epoch, key, DIR), `tags` what became of each lane of each period whose tags arrive (line lane, sequence; 0 verified, 1
failed, 2 unverifiable), `msgs` the messages sent in the present attempt. -/
structure Seal where
  peered     : Bool
  peerPeered : Bool
  hello      : List Word
  sentHello  : List Word
  remembered : Option Hash
  selfPeer   : Bool
  authId     : Option Hash
  authOwner  : Option Hash
  stream     : Bool
  hs         : Handshake
  keys       : Option Keys
  pend       : Option Pending
  ann        : Option Announce
  annNext    : Option Nat
  heard      : Option (Nat × Bool × Nat)
  ackFor     : Option Nat
  txPer      : Option (Nat × Key × Bool)
  tags       : List (Nat × Nat × Nat)
  withdrawn  : Nat
  age        : Nat
  since      : Nat
  handshakes : Nat
  hsTime     : Nat
  hsUs       : Nat
  lastAbort  : Nat
  closed     : Closed
  reFailed   : Bool
  retryAt    : Option Nat
  failStart  : Nat
  fails      : Nat
  limits     : Word
  corrupt    : Nat
  outbox     : List (List Word)
  pacedTo    : Nat
  msgs       : List (List Word)
  inbox      : Option Reassembly
  wpOut      : List (Nat × List Word)
  wpIn       : List Waypost
  wpHeld     : List Waypost
  lost       : Nat
  txData     : List (Nat × BitVec 5140)
  tagBad     : Bool
  deriving DecidableEq, Repr

/-! ## Calibration -/

/-- R267 to R282: what calibration holds of a lane (48 of them). `part`: it has a step in the round in progress; `waits`: it
has none because of a fade; `swapDue`: a swap waits for the end of a fade. `out` holds the converter elements out of
service, `piOut` the PI entries being measured. Of the sweep in progress, `steps` counts the rounds; per phase, `next` is
the element whose turn it is and `covered` counts the turns taken. `swept`: a sweep since CALREF was last taken back.
`retired` lists the retired elements with their KIND; the first `leaving` of them were so when the round began; `gone` holds
those that have left service, each with the spare that has taken over its position. -/
structure CalLane where
  frozen     : Bool
  starved    : Bool
  fed        : Nat
  internal   : Bool
  untraced   : Bool
  swept      : Bool
  part       : Bool
  waits      : Bool
  swapDue    : Bool
  steps      : Nat
  rounds     : Nat
  voided     : Nat
  sweeps     : Nat
  lastRound  : Nat
  lastSweep  : Nat
  sweepStart : Nat
  begun      : Nat
  occMin     : Nat
  out        : List Nat
  piOut      : List Nat
  next       : Vector Nat 4
  covered    : Vector Nat 4
  retired    : List (Nat × Nat)
  leaving    : Nat
  gone       : List (Nat × Option Nat)
  sdOffAt    : Nat
  limits     : List (Nat × Nat)
  foreground : Option Nat
  deriving DecidableEq, Repr

/-- R263 to R282: calibration of the device. `trims` holds the trim points that differ from their boot values, by rising key
(entry 21); `forced` the keys of the forced trims, `toForce` the values that wait for their round; `round` is the time at
which the round in progress began or the next one begins, `live` that it is in progress; `finishing`: ADMIN has left UP and
the round in progress has yet to commit; `repairs` the repairs of R359 in force, each of which takes a spare (R279). -/
structure Cal where
  lanes    : Vector CalLane 48
  trims    : List (Nat × BitVec 16)
  forced   : List Nat
  toForce  : List (Nat × BitVec 16)
  round    : Option Nat
  live     : Bool
  finishing : Bool
  repairs  : List Word
  refInUse : Bool
  refGood  : Nat
  calref   : Nat
  traced   : Bool
  fgStart  : Option Nat
  fgDone   : Bool
  rounds   : Nat
  voided   : Nat
  lastAll  : Nat
  deriving DecidableEq, Repr

/-! ## Capture and monitoring -/

/-- R295 to R298, R303: a monitor tap. `word`, `high`, `low` as written; the detectors, the envelope in 1/65,536 of the
unit; since when the chain runs; the ring; the index of the next output; the waiting outputs, each with its index and device
time; the index after the last one written; the outputs that a full store has lost since then. -/
structure Tap where
  word    : Word
  preset  : Nat
  high    : Word
  low     : Word
  last    : Int
  at_     : Nat
  max     : Int
  min     : Int
  rms     : Int
  env     : Int
  above   : Bool
  winMax  : Int
  winMin  : Int
  winSq   : Int
  winN    : Nat
  gaps    : Nat
  base    : Nat
  size    : Nat
  index   : Nat
  queue   : List (Nat × Nat × Int)
  wrote   : Nat
  since   : Nat
  spilt   : Nat
  deriving DecidableEq, Repr

/-- R303: STATE of a capture. -/
inductive CapState where
  | idle | armed | filling | moving | held | aborted
  deriving DecidableEq, Repr

/-- R285 to R294, R303: the capture of a lane. `filledAt`: when its record was complete in SRAM; `got`: the words of a HELD
record read so far, from its start; `dropped`: triggers missed since its ring was last written, for DROPPED (R292). -/
structure Capture where
  cfg     : Vector Word 8
  state   : CapState
  acq     : Nat
  sums    : List Int
  flags   : List (Bool × Bool)
  sram    : List Word
  seq     : Nat
  at_     : Nat
  offset  : Byte
  missed  : Nat
  before  : Bool
  noLock  : Bool
  record  : List Word
  armedAt : Nat
  filledAt : Nat
  got     : Nat
  dropped : Nat
  deriving DecidableEq, Repr

/-- R289: a common set: its members, in rising order; its first member gives the trigger settings. -/
structure CapSet where
  members : List Nat
  cfg     : Vector Word 8
  deriving DecidableEq, Repr

/-- R299, R300: a housekeeping channel. -/
structure HkChan where
  n      : Nat
  shift  : Nat
  nNext  : Nat
  shNext : Nat
  value  : BitVec 16
  raw    : Nat
  valid  : Bool
  at_    : Nat
  deriving DecidableEq, Repr

/-- R285 to R304: class MON. `dmaAt`: when the DMA engine last wrote a record. -/
structure Mon where
  taps    : Vector Tap 24
  caps    : Vector Capture 24
  sets    : List CapSet
  seq     : Nat
  trigOut : Nat
  dmaAt   : Nat
  hk      : Vector HkChan 40
  rounds  : Nat
  next    : Nat
  deriving DecidableEq, Repr

/-! ## Tests, JTAG -/

/-- R305 to R321: a TST unit. Its counters are the unit's fixed counters (R326). `pend`: the symbols that an RS injection
complements in the next data slot of the lane. -/
structure Tst where
  cfg     : Word
  user    : List Word
  loopSel : Nat
  inject  : Word
  count   : Nat
  left    : Nat
  locked  : Bool
  losses  : Nat
  slip    : Nat
  stopped : Bool
  since   : Nat
  pend    : List Nat
  deriving DecidableEq, Repr

/-- R403: the JTAG instruction in force and what the boundary-scan register holds; whether it drives the balls. -/
inductive JtagIr where
  | extest | idcode | sample | clamp | highz | extestPulse | extestTrain | bypass
  deriving DecidableEq, Repr

/-- R403, R404. -/
structure Jtag where
  ir       : JtagIr
  boundary : BitVec 63
  deriving DecidableEq, Repr

/-! ## The machine -/

/-- The whole state. `free` is the model's own counter behind the free values (entry 9), `pending` the rows that wait.
`txOut` and `hostOut` are the codewords that the last row to put any out has put out for a group, to the line and to the
host, oldest first; `egress` is the egress buffer (R202), `lay` the lay-by region of a line lane, each codeword with the
sequence of its period. -/
structure State where
  pending : List Instr
  now     : Nat
  free    : Nat
  power   : Power
  boot    : Boot
  units   : Vector UnitSet 321
  stats   : Vector Stats 321
  groups  : List (Cls × Nat × BitVec 128)
  obs     : Obs
  port    : Port
  fuse    : Fuse
  fw      : Firmware
  setup   : Setup
  mem     : MemState
  bist    : Vector Bist 78
  repairs : List Word
  mbx     : Mbx
  thm     : Thermal
  dom     : Domains
  board   : List Word
  hrx     : Vector Hrx 16
  htx     : Vector Htx 16
  ltx     : Vector Ltx 8
  lrx     : Vector Lrx 8
  tiling  : Nat × Nat
  xbar    : Vector Word 2
  lfd     : Vector Lfd 8
  grp     : Vector Grp 8
  fec     : Vector Fec 8
  txOut   : Vector (List Output) 8
  hostOut : Vector (List Output) 8
  egress  : Vector (List Output) 8
  sec     : Secure
  seals   : Vector Seal 8
  srx     : Vector (List (BitVec 5140)) 8
  lay     : Vector (List (Nat × Output)) 8
  cal     : Cal
  mon     : Mon
  tst     : Vector Tst 24
  jtag    : Jtag
  deriving DecidableEq, Repr

/-! ## Stops -/

/-- The block has no trap and no fault: every error of the spec is a reply status (R59), an event or a unit state.
No rule raises a fault, so the type has no constructor; that is safe. -/
inductive Fault where
  deriving DecidableEq, Repr

/-- Why a row has no meaning. -/
inductive Refusal where
  /-- Raised by the dispatcher for a row without a meaning; safe, since nothing can be proved of the row. -/
  | notModelled (mnemonic : String)
  /-- Raised by DEBUG_ACCESS in MANUFACTURE: R403 names the Wilrath debug instructions and does not say what they do;
  safe, since nothing can be proved of them. -/
  | debugInstruction (code : BitVec 8)
  deriving DecidableEq, Repr

/-! ## Reset -/

/-- A vector from the list of its elements. -/
abbrev vec {α : Type} {n : Nat} (l : List α) (h : l.length = n) : Vector α n := ⟨⟨l⟩, h⟩

/-- R70: the event mask with every code enabled but those a chapter masks by default. -/
def maskBut (codes : List Nat) : BitVec 256 :=
  BitVec.ofNat 256 (2 ^ 256 - 1 - (codes.map (2 ^ ·)).foldl (· + ·) 0)

/-- R70 and the event tables of the class chapters: the event codes that are masked by default. -/
def maskedCodes : Cls → List Nat
  | .hrx => [0x13] | .ltx => [0x12] | .lrx => [0x13, 0x16] | .grp => [0x11, 0x18] | .fec => [0x14]
  | .seal => [0x16, 0x17, 0x1E] | .cal => [0x15] | .mon => [0x15, 0x16] | .thm => [0x1B] | .bist => [0x11]
  | .perf => [0x10, 0x11] | .tst => [0x10] | .dev => [] | .htx => [] | .mbx => [] | .mem => []

/-- R64, R70: what a unit of a class is set to by a reset. -/
def unitReset (c : Cls) (a : Admin) : UnitSet := { admin := a, mask := maskBut (maskedCodes c) }

/-- R64: every unit DOWN, but BIST, the MBX channels, THM, MEM 0x000 and MON 0x0FE, which are UP. The units stand in the
order of the classes, and in a class in the order of R50. -/
def unitsReset : Vector UnitSet 321 :=
  vec (List.replicate 1 (unitReset .dev .down) ++ (List.replicate 16 (unitReset .hrx .down) ++
    (List.replicate 16 (unitReset .htx .down) ++ (List.replicate 8 (unitReset .ltx .down) ++
    (List.replicate 8 (unitReset .lrx .down) ++ (List.replicate 8 (unitReset .grp .down) ++
    (List.replicate 8 (unitReset .fec .down) ++ (List.replicate 8 (unitReset .seal .down) ++
    (List.replicate 1 (unitReset .cal .down) ++ (List.replicate 24 (unitReset .mon .down) ++
    (List.replicate 1 (unitReset .mon .up) ++ (List.replicate 37 (unitReset .thm .up) ++
    (List.replicate 78 (unitReset .bist .up) ++ (List.replicate 64 (unitReset .perf .down) ++
    (List.replicate 16 (unitReset .mbx .up) ++ (List.replicate 2 (unitReset .mbx .down) ++
    (List.replicate 1 (unitReset .mem .up) ++ List.replicate 24 (unitReset .tst .down))))))))))))))))))
    (by simp only [List.length_append, List.length_replicate])

/-- R322: counters at 0. -/
def statsReset : Stats := { vals := .replicate 9 0, start := 0 }

/-- R62: a record with no change and no mismatch yet. -/
def recReset (o : Oper) (r : Nat) : UnitRec :=
  { oper := o, reason := r, changed := 0, misSince := none, misRaised := false }

/-- The records of a device that a reset has just left: what `State.operOf` gives there, so that no OPER_CHANGED is due
(DEV as in READY, the first state in which it can be read; GRP NOT_A_GROUP, MON DOMAIN_OFF). -/
def recsReset : Vector UnitRec 321 :=
  vec (List.replicate 1 (recReset .off 0x0A) ++ (List.replicate 48 (recReset .off 0) ++
    (List.replicate 8 (recReset .off 0x0A) ++ (List.replicate 17 (recReset .off 0) ++
    (List.replicate 24 (recReset .off 0x06) ++ (List.replicate 116 (recReset .up 0) ++
    (List.replicate 64 (recReset .off 0) ++ (List.replicate 16 (recReset .up 0) ++ (List.replicate 2 (recReset .off 0) ++
    (List.replicate 1 (recReset .up 0) ++ List.replicate 24 (recReset .off 0)))))))))))
    (by simp only [List.length_append, List.length_replicate])

def obsReset : Obs :=
  { recs := recsReset, queue := [], lost := 0, queued := 0, seen := 0, fired := [],
    perf := .replicate 64 { cfg := 0, code := 0, val := 0, sat := false, wrap := false },
    lf := .replicate 16 { cause := 0, since := 0, episodes := 0 }, missed := .replicate 8 0,
    adapt := .replicate 8 (0, 0, 0), carry := .replicate 8 none,
    held := .replicate 8 none }

/-- R72, R76: IRQ_ON_EVENT and IRQ_ON_REPLY are 1, SCRATCH is 0. -/
def portReset : Port :=
  { replies := [], waiting := [], miso := [], dropped := 0, irqOnEvent := true, irqOnReply := true, deferred := [],
    hold := none, holdAuth := none, scratch := .replicate 78 0 }

/-- R346, R351, R352: nothing listed, 64 spare rows, INTERVAL 100 ms, the first slice outside the pinned region next. -/
def memReset : MemState :=
  { cells := [], spares := 64, failed := [], interval := 100, next := 64, passes := 0, repaired := 0,
    run := none, borrow := none, sliceAt := none, collision := false, retryHold := false }

/-- R368: NOT_RUN. -/
def bistNone : BistEnd := { result := 0, partialOk := false, cause := 0, patterns := 0, signature := 0 }

def bistReset : Bist :=
  { phase := .idle, abort := false, supply := false, started := none, last := bistNone, next := bistNone, held := false,
    overrode := false, done := 0 }

/-- R338: every epoch is 1. -/
def mbxReset : Mbx :=
  { ch := .replicate 16 [], bell := .replicate 2 0, epoch := .replicate 5 1,
    legacy := { data := [], writer := 0, unread := false, overwrite := false, collision := false, request := none,
                hostAt := none, mcAt := none, again := [] } }

/-- R391: READING is 0x8000 before the first reading. -/
def sensorReset : Sensor :=
  { reading := 0x8000, subst := none, cause := 0, armed := false, warn := false, same := 0, good := 0, hot := 0, alone := false,
    max := 0x8000, readAt := 0 }

/-- R376, R386, R388; the AVS target is 700 mV, R78's start of VDD_CORE (entry 5). -/
def thmReset : Thermal :=
  { sensors := .replicate 24 sensorReset, stage := 0, exit := 0, changed := 0,
    rails := .replicate 12 { reading := 0, low := false, min := 0, lastMin := 0, lastUs := 0, dip := 0, readAt := 0 },
    supply := .none,
    avs := { host := false, target := 700, old := 700, changing := false, since := 0, fault := false, forced := 0,
             readback := 0, evalAt := none },
    fuseMv := 0 }

def windowReset : HmiWindow := { min := 0, max := 0, sum := 0, count := 0, invalid := 0, start := 0 }

/-- R105, R119, R125: HMI 0x800, override TABLE, marker mode AUTO. -/
def hrxReset : Hrx :=
  { pol := 0, manual := false, slip := 0, frozen := false, chosen := none, profile := 0, eq := .replicate 5 0,
    sd := false, timing := false, amLock := false, deskewed := false, range := false, inverted := false, kept := none,
    searched := false, skew := 0, hmi := 0x800, lastHmi := 0x800, window := windowReset, lowCount := 0, okCount := 0,
    lowMargin := false, acqStart := 0 }

def htxReset : Htx :=
  { force := 0, squelch := false, pol := 0, chosen := none, profile := 0, fir := .replicate 3 0, recovered := false }

/-- R134, R136, R138 to R140: SWING code 50, NORMAL, preset 0, offsets and table 0, skew word 0. -/
def ltxReset : Ltx :=
  { swing := 50, inverted := false, precode := false, squelch := false,
    shape := vec [0x007F_0000, 0, 0] rfl, pd := .replicate 17 0, preset := 0, skew := 0,
    staged := { swing := none, taps := none, lvl := none, pd := none }, stagedAt := .replicate 4 0,
    driving := false, clipsMs := 0, clipsAt := 0,
    clipping := false, clipSince := 0 }

/-- R168: the MLSE gain offset starts at 1.0 dB in 16-state mode and at 0.5 dB in 4-state mode. -/
def lmiReset : Lmi :=
  { value := 0x800, last := 0x800, snrRoute := false, gain16 := 65536, gain4 := 32768, window := windowReset,
    lowCount := 0, okCount := 0, lowMargin := false, below1 := 0, belowExit := 0, over3 := none }

/-- Entry 5: FFE_MAIN 8, 16-state mode, every coefficient 0. -/
def bankReset : Bank := (Vector.replicate 70 0).set 0 0x48

/-- R186, R188: SD_THRESH 5, POL AUTO, PRECODE 0; LMI_WARN 16, FADE_LEN 2, FULL, both sides enabled, TR_BW 1. -/
def lrxReset : Lrx :=
  { setup := 0x205, policy := 0x0007_2010, preset := 0, banks := .replicate 2 bankReset, active := 0, sd := false,
    timing := false, acquired := false, warm := false, inverted := false, kept := none, start := false,
    searched := false, acqStart := 0, confirm := 0, lockAt := 0, fade := none, lastCause := 0,
    lastFade := 0, frozen := false, round := none,
    dropped := false, rounds := 0, commits := 0, voided := 0, delta := 0, committed := false, cand := 0,
    hostTrial := none, leanRetry := 0, skipped := false,
    sides := .replicate 2 { gated := true, cause := 0, offset := 0, training := false },
    afe := { agc := 0, ctle := 0, held := false, ovr := 0, fsc := 0, hotRun := 0, okRun := 0, maxRun := 0,
             driven := false },
    lmi := lmiReset, blocks := 0, trFreq := 0, trPhase := 0 }

def lfdReset : Lfd :=
  { inner := false, offset := 0, badWin := 0, msLock := false, cand := none, misses := 0, last := none, lastAt := 0,
    slot := 0, skew := 0, errMs := 0, uncMs := 0, missed := 0, lockAt := 0 }

/-- R208: REMOTE is UNKNOWN without a valid milestone; R214: no mode. -/
def grpReset : Grp :=
  { mode := 0, running := false, seq := 0, txIdle := true, f := 2, slot := 0, sent := [], remote := 0xE,
    lastValid := 0, rxSeq := 0, peerSize := 0, peerMode := 0, idleRx := false, conflict := false, peerCfg := false,
    deskewed := false, range := false, locked := false, hasFreq := false, freq := 0, holdover := false, holdAt := 0,
    outRange := false, lockAt := 0, fHist := [], h2l := [], l2h := [], latAt := 0, ingress := [], madeAt := 0, made := 0,
    genIx := 0, bip := 0, marks := 0 }

/-- R217: BIN 12, LIMIT 64. -/
def fecReset : Fec :=
  { line := { vals := .replicate 18 0, start := 0, lastUnc := none },
    host := { vals := .replicate 18 0, start := 0, lastUnc := none },
    bin := 12, limit := 64, binW := 12, limitW := 64, count := 0, lastN := 0, low := 0, ok := 0, alarm := false,
    since := 0 }

def hsReset : Handshake :=
  { phase := .idle, attempt := 0, start := 0, step := 0, inService := false, secret := 0, ksI := [], ksR := [],
    prk := none, h2 := none, h3 := none, nacks := 0 }

def sealReset : Seal :=
  { peered := false, peerPeered := false, hello := [], sentHello := [], remembered := none, selfPeer := false, authId := none,
    authOwner := none, stream := false, hs := hsReset, keys := none, pend := none, ann := none, annNext := none,
    heard := none, ackFor := none, txPer := none, tags := [], withdrawn := 0, age := 0, since := 0,
    handshakes := 0, hsTime := 0, hsUs := 0, lastAbort := 0,
    closed := .none, reFailed := false, retryAt := none, failStart := 0, fails := 0, limits := 0, corrupt := 0,
    outbox := [], pacedTo := 0, msgs := [], inbox := none, wpOut := [], wpIn := [], wpHeld := [], lost := 0, txData := [],
    tagBad := false }

def calLaneReset : CalLane :=
  { frozen := false, starved := false, fed := 0, internal := false, untraced := true, swept := false,
    part := false, waits := false, swapDue := false, steps := 0, rounds := 0, voided := 0,
    sweeps := 0, lastRound := 0, lastSweep := 0, sweepStart := 0, begun := 0, occMin := 0, out := [], piOut := [],
    next := .replicate 4 0, covered := .replicate 4 0,
    retired := [], leaving := 0, gone := [], sdOffAt := 0, limits := [], foreground := none }

/-- R275: CALREF is taken to be in use until a reading says otherwise (entry 5). -/
def calReset : Cal :=
  { lanes := .replicate 48 calLaneReset, trims := [], forced := [], toForce := [], round := none, live := false,
    finishing := false, repairs := [],
    refInUse := true, refGood := 0, calref := 0,
    traced := false, fgStart := none, fgDone := false, rounds := 0, voided := 0, lastAll := 0 }

/-- R296, R303: INPUT OFF, W 10, DECAY 6, thresholds off, STRUM. -/
def tapReset : Tap :=
  { word := 0x0006_0A00, preset := 1, high := 0, low := 0, last := 0, at_ := 0, max := 0, min := 0, rms := 0, env := 0,
    above := false, winMax := 0, winMin := 0, winSq := 0, winN := 0, gaps := 0, base := 0, size := 0, index := 0,
    queue := [], wrote := 0, since := 0, spilt := 0 }

def capReset : Capture :=
  { cfg := .replicate 8 0, state := .idle, acq := 0, sums := [], flags := [], sram := [], seq := 0, at_ := 0,
    offset := 0, missed := 0, before := false, noLock := false, record := [], armedAt := 0,
    filledAt := 0, got := 0, dropped := 0 }

/-- R300: N 16, SHIFT 4; a round goes on from channel 24. -/
def monReset : Mon :=
  { taps := .replicate 24 tapReset, caps := .replicate 24 capReset, sets := [], seq := 0, trigOut := 0, dmaAt := 0,
    hk := .replicate 40 { n := 16, shift := 4, nNext := 16, shNext := 4, value := 0, raw := 0, valid := false, at_ := 0 },
    rounds := 0, next := 24 }

def tstReset : Tst :=
  { cfg := 0, user := [], loopSel := 0, inject := 0, count := 0, left := 0, locked := false, losses := 0, slip := 0,
    stopped := false, since := 0, pend := [] }

/-- The device right after a reset has ended (R80, R81): BOOT, device time 0, every domain ON (R373), no firmware
(R89), the fuses as shipped (entry 7), no row waiting. -/
def State.reset : State :=
  { pending := [], now := 0, free := 0,
    power := { powered := true, inReset := false, pinLow := false, railsLow := 0, dev := .boot, latch := false, blind := false,
               mcSilent := false },
    boot := { repaired := 0, failed := 0, islands := 0, ms := 0 },
    units := unitsReset, stats := .replicate 321 statsReset, groups := [], obs := obsReset, port := portReset,
    fuse := { cells := [], rollbackStop := false, rollbackWait := false },
    fw := { declared := 0, stage := [], image := none },
    setup := { step := 0, entered := 0, persSet := none, persInForce := 0 },
    mem := memReset, bist := .replicate 78 bistReset, repairs := [], mbx := mbxReset, thm := thmReset,
    dom := { powered := BitVec.allOnes 80, hostOff := 0, failed := 0, since := .replicate 78 0 },
    board := [], hrx := .replicate 16 hrxReset, htx := .replicate 16 htxReset, ltx := .replicate 8 ltxReset,
    lrx := .replicate 8 lrxReset, tiling := (0, 0), xbar := vec [0x7654_3210, 0xFEDC_BA98] rfl,
    lfd := .replicate 8 lfdReset, grp := .replicate 8 grpReset, fec := .replicate 8 fecReset,
    txOut := .replicate 8 [], hostOut := .replicate 8 [], egress := .replicate 8 [],
    sec := { identity := false, zeroised := false, staging := [], cert := [], policy := [], challenge := none,
             session := none },
    seals := .replicate 8 sealReset, srx := .replicate 8 [], lay := .replicate 8 [], cal := calReset, mon := monReset,
    tst := .replicate 24 tstReset, jtag := { ir := .idcode, boundary := 0 } }

end Sys2Proof.Machine
end

