-- ==== Sys2Proof/Machine/Ops.lean ====
section
/-! DEFINITION. The named operations over the state: bit fields, units and their instances, events, fixed counters,
fuse words, lane groups, islands, and the scratchpad. -/

namespace Sys2Proof.Machine

/-! ## Bit fields and lists -/

/-- R4: the field of `len` bits at bit `lo`. -/
def fld (w : Word) (lo len : Nat) : Nat := w.toNat / 2 ^ lo % 2 ^ len

/-- R4: one bit. -/
def bit (w : Word) (i : Nat) : Bool := w.getLsbD i

/-- A number of `len` bits read as two's complement. -/
def signed (len n : Nat) : Int := if n < 2 ^ (len - 1) then n else (n : Int) - 2 ^ len

/-- A signed field. -/
def sfld (w : Word) (lo len : Nat) : Int := signed len (fld w lo len)

/-- The `len`-bit two's complement of a number. -/
def twos (len : Nat) (v : Int) : Nat := (v % (2 ^ len : Nat)).toNat

/-- A word from (value, lowest bit) pairs. -/
def pk (l : List (Nat × Nat)) : Word := BitVec.ofNat 32 (l.foldr (fun p a => p.1 * 2 ^ p.2 + a) 0)

def b2n (b : Bool) : Nat := if b then 1 else 0

def w32 (n : Nat) : Word := BitVec.ofNat 32 n

/-- A 64-bit number as two words, low word first (R42). -/
def lohi (n : Nat) : List Word := [w32 n, w32 (n / 2 ^ 32)]

/-- A count that saturates at 2^32 - 1. -/
def sat32 (n : Nat) : Nat := min n 0xFFFF_FFFF

/-- R322: a count that saturates at 2^64 - 1. -/
def sat64 (n : Nat) : Nat := min n (2 ^ 64 - 1)

/-- The element `i` of a vector changed by `f`. -/
def upd {α : Type} {n : Nat} (v : Vector α n) (i : Fin n) (f : α → α) : Vector α n := v.set i.val (f v[i]) i.isLt

/-- Every number below `n` as an index. -/
def fins (n : Nat) [NeZero n] : List (Fin n) := (List.range n).map (Fin.ofNat n)

/-- Each element of a list changed by a function of its place. -/
def mapIxGo {α : Type} (f : Nat → α → α) : Nat → List α → List α
  | _, [] => []
  | k, x :: r => f k x :: mapIxGo f (k + 1) r

theorem mapIxGo_length {α : Type} (f : Nat → α → α) : ∀ k l, (mapIxGo f k l).length = l.length
  | _, [] => rfl
  | k, _ :: r => congrArg (· + 1) (mapIxGo_length f (k + 1) r)

/-- Each element of a vector changed by a function of its index. -/
def vmapIx {α : Type} {n : Nat} (f : Nat → α → α) (v : Vector α n) : Vector α n :=
  ⟨⟨mapIxGo f 0 v.toArray.toList⟩, by
    rw [List.size_toArray, mapIxGo_length]; simp⟩

/-- Bytes of a word, least significant first (R4). -/
def wordBytes (w : Word) : List Byte :=
  [BitVec.ofNat 8 w.toNat, BitVec.ofNat 8 (w.toNat / 256), BitVec.ofNat 8 (w.toNat / 65536),
   BitVec.ofNat 8 (w.toNat / 16777216)]

/-- Words from bytes, least significant first; a last partial word is padded with zeros. -/
def bytesWords : List Byte → List Word
  | a :: b :: c :: d :: r =>
    w32 (a.toNat + 256 * b.toNat + 65536 * c.toNat + 16777216 * d.toNat) :: bytesWords r
  | [a, b, c] => [w32 (a.toNat + 256 * b.toNat + 65536 * c.toNat)]
  | [a, b] => [w32 (a.toNat + 256 * b.toNat)]
  | [a] => [w32 a.toNat]
  | [] => []

/-! ## CRC-32C (R43) -/

/-- One bit of the reflected Castagnoli division. -/
def crcBit (c : Nat) : Nat := if c % 2 = 1 then Nat.xor (c / 2) 0x82F6_3B78 else c / 2

/-- One byte. -/
def crcByte (c : Nat) (b : Byte) : Nat :=
  crcBit (crcBit (crcBit (crcBit (crcBit (crcBit (crcBit (crcBit (Nat.xor c b.toNat))))))))

/-- R43: CRC-32C of a sequence of bytes. -/
def crc32c (l : List Byte) : Word := w32 (Nat.xor (l.foldl crcByte 0xFFFF_FFFF) 0xFFFF_FFFF)

/-- R43: CRC-32C over words in wire order. -/
def crcWords (l : List Word) : Word := crc32c (l.flatMap wordBytes)

/-! ## Units (R50) -/

/-- The class with code `n`, and the code of a class. -/
def clsCode : Cls → Nat
  | .dev => 0 | .hrx => 1 | .htx => 2 | .ltx => 3 | .lrx => 4 | .grp => 5 | .fec => 6 | .seal => 7
  | .cal => 8 | .mon => 9 | .thm => 10 | .bist => 11 | .perf => 12 | .mbx => 13 | .mem => 14 | .tst => 15

def clsOf (n : Nat) : Cls :=
  match n % 16 with
  | 0 => .dev | 1 => .hrx | 2 => .htx | 3 => .ltx | 4 => .lrx | 5 => .grp | 6 => .fec | 7 => .seal
  | 8 => .cal | 9 => .mon | 10 => .thm | 11 => .bist | 12 => .perf | 13 => .mbx | 14 => .mem | _ => .tst

/-- R336: the instances of the sixteen channels. -/
def channels : List Nat :=
  [0x002, 0x003, 0x012, 0x013, 0x014, 0x020, 0x021, 0x023, 0x024, 0x030, 0x031, 0x032, 0x034, 0x041, 0x042, 0x043]

/-- R50, R336, R390: the instances of a class, in ascending order. -/
def instances : Cls → List Nat
  | .dev | .cal | .mem => [0]
  | .hrx | .htx => List.range 16
  | .ltx | .lrx | .grp | .fec | .seal => List.range 8
  | .mon => List.range 24 ++ [0xFE]
  | .thm => List.range 24 ++ (List.range 12).map (0x40 + ·) ++ [0x60]
  | .bist => List.range 78
  | .perf => List.range 64
  | .mbx => channels ++ [0xF0, 0xFF]
  | .tst => List.range 24

/-- Where the units of a class begin in the state's vectors of units. -/
def unitBase : Cls → Nat
  | .dev => 0 | .hrx => 1 | .htx => 17 | .ltx => 33 | .lrx => 41 | .grp => 49 | .fec => 57 | .seal => 65
  | .cal => 73 | .mon => 74 | .thm => 99 | .bist => 136 | .perf => 214 | .mbx => 278 | .mem => 296 | .tst => 297

/-- The place of an instance in its class. -/
def slotOf (c : Cls) (i : Nat) : Nat :=
  match c with
  | .mon => if i = 0xFE then 24 else i
  | .thm => if i = 0x60 then 36 else if 0x40 ≤ i then i - 0x40 + 24 else i
  | .mbx => (instances .mbx).findIdx (· == i)
  | _ => i

/-- The index of a unit. -/
def uix (c : Cls) (i : Nat) : Fin 321 := Fin.ofNat 321 (unitBase c + slotOf c i)

/-- Every class, in the order of its code. -/
def classes : List Cls :=
  [.dev, .hrx, .htx, .ltx, .lrx, .grp, .fec, .seal, .cal, .mon, .thm, .bist, .perf, .mbx, .mem, .tst]

/-- Every unit, in the order of the state's vectors of units. -/
def unitTable : List (Cls × Nat) := classes.flatMap fun c => (instances c).map fun i => (c, i)

/-- R50, R411: class and instance as one word. -/
def unitWord (c : Cls) (i : Nat) : Word := pk [(i, 0), (clsCode c, 12)]

def State.unit (s : State) (c : Cls) (i : Nat) : UnitSet := s.units[uix c i]

def State.admin (s : State) (c : Cls) (i : Nat) : Admin := (s.unit c i).admin

def State.recOf (s : State) (c : Cls) (i : Nat) : UnitRec := s.obs.recs[uix c i]

def State.setAdmin (s : State) (c : Cls) (i : Nat) (a : Admin) : State :=
  { s with units := upd s.units (uix c i) fun u => { u with admin := a } }

/-- ADMIN UP or TEST. -/
def State.isUp (s : State) (c : Cls) (i : Nat) : Bool := s.admin c i != .down

def Admin.code : Admin → Nat
  | .down => 0 | .up => 1 | .test => 2

def Oper.code : Oper → Nat
  | .off => 0 | .selftest => 1 | .acquiring => 2 | .up => 3 | .degraded => 4 | .failed => 5

def Oper.carries : Oper → Bool
  | .up | .degraded => true
  | .off | .selftest | .acquiring | .failed => false

def DevState.code : DevState → Nat
  | .boot => 0 | .ready => 1 | .config => 2 | .active => 3 | .sleep => 4 | .maint => 5 | .shutdown => 6 | .off => 7

/-! ## Free values -/

/-- A value the spec leaves open, and the state with the next one (entry 9). -/
def State.freeWord (s : State) : Word := Config.freeWord s.free

def State.useFree (s : State) : State := { s with free := s.free + 1 }

/-! ## Events and counters -/

/-- R70, R288, R328: a condition occurs: it fires triggers and signals whatever the mask; it is queued when its code is
enabled and the queue is not full. -/
def Obs.raise (o : Obs) (mask : BitVec 256) (e : Entry) : Obs :=
  let q := mask.getLsbD e.code
  let full := decide (256 ≤ o.queue.length)
  { o with
    fired := (e.cls, e.inst, e.code) :: o.fired
    queue := if q && !full then o.queue ++ [e] else o.queue
    queued := if q && !full then sat64 (o.queued + 1) else o.queued
    lost := if q && full then sat32 (o.lost + 1) else o.lost }

/-- R25, R38, R81: MC or the boot ROM runs, so records are kept and events can be queued. -/
def State.mcRuns (s : State) : Bool :=
  s.power.powered && !s.power.inReset && !s.power.mcSilent &&
    (match s.power.dev with
     | .off | .boot | .shutdown => false
     | .ready | .config | .active | .sleep | .maint => true)

/-- R71, R288: raise an event of a unit now. MC owns the event queue; without it the condition still fires triggers. -/
def State.raise (s : State) (c : Cls) (i code : Nat) (arg : Word) : State :=
  { s with
    obs :=
      if s.mcRuns then
        s.obs.raise (s.unit c i).mask { code := code, cls := c, inst := i, arg := arg, time := s.now }
      else { s.obs with fired := (c, i, code) :: s.obs.fired } }

/-- Raise an event only under a condition. -/
def State.raiseIf (s : State) (b : Bool) (c : Cls) (i code : Nat) (arg : Word) : State :=
  { s with obs := if b then (s.raise c i code arg).obs else s.obs }

/-! ## Islands and domains -/

/-- The islands a unit lies in or acts through (entry 16). -/
def unitIslands : Cls → Nat → List Nat
  | .dev, _ | .perf, _ | .mbx, _ => [72]
  | .hrx, n => [32 + n]
  | .htx, n => [48 + n]
  | .ltx, l => [16 + l, 24 + l]
  | .lrx, l => [l, 8 + l]
  | .grp, _ | .fec, _ => [64, 65, 66, 67]
  | .seal, _ => [68, 69]
  | .cal, _ => [73]
  | .mon, i => if i = 0xFE then [77] else if i < 16 then [32 + i, 75] else [i - 16, i - 8, 75]
  | .thm, _ => [77]
  | .bist, _ => []
  | .mem, _ => [74]
  | .tst, i => if i < 16 then [32 + i, 48 + i] else [i - 16, i - 8, i, i + 8]

/-- R25, R373: an island is powered; AON (77) with the device. -/
def State.islandOn (s : State) (i : Nat) : Bool :=
  s.power.powered && (i == 77 || s.dom.powered.getLsbD i)

/-- R354: the island is queued for, in, or being re-initialised after a self-test. -/
def State.underTest (s : State) (i : Nat) : Bool := s.bist[Fin.ofNat 78 i].phase != .idle

/-- R354: the island is isolated: from step 3 to the end of step 5. -/
def State.isolated (s : State) (i : Nat) : Bool :=
  match s.bist[Fin.ofNat 78 i].phase with
  | .running | .reinit => true
  | .idle | .queued => false

/-- R25, R358: the island is FAILED. -/
def State.islandFailed (s : State) (i : Nat) : Bool := s.dom.failed.getLsbD i

def State.islandHeld (s : State) (i : Nat) : Bool := s.bist[Fin.ofNat 78 i].held

/-- R322: the unit's islands count: on and not under test. -/
def State.live (s : State) (c : Cls) (i : Nat) : Bool :=
  (unitIslands c i).all fun k => s.islandOn k && !s.underTest k

/-- R322: counter `k` of a unit rises by `n`, up to 2^64 - 1, while its island is on and not under test. -/
def State.count (s : State) (c : Cls) (i : Nat) (k : Fin 9) (n : Nat := 1) : State :=
  { s with
    stats :=
      if s.live c i then
        upd s.stats (uix c i) fun t => { t with vals := upd t.vals k fun v => sat64 (v + n) }
      else s.stats }

/-! ## Fuse words (R360, R361) -/

/-- R360: the words that Wilrath programs. -/
def factoryWord (a : Nat) : Bool :=
  (decide (0x010 ≤ a) && decide (a < 0x020)) || (decide (0x0C0 ≤ a) && decide (a < 0x100)) ||
  (decide (0x220 ≤ a) && decide (a < 0x510))

def blankWord : FuseWord :=
  { data := 0, committed := false, corrected := false, uncorrectable := false, blank := true }

/-- The fuse word at an address. -/
def Fuse.at (f : Fuse) (a : Nat) : FuseWord :=
  match f.cells.find? (fun p => p.1 == a) with
  | some p => p.2
  | none => if factoryWord a then Config.factoryFuse a else blankWord

/-- Insert a pair by its key into a list of rising keys, replacing an equal key. -/
def insertKey {α : Type} (k : Nat) (v : α) : List (Nat × α) → List (Nat × α)
  | [] => [(k, v)]
  | p :: r => if k < p.1 then (k, v) :: p :: r else if k = p.1 then (k, v) :: r else p :: insertKey k v r

def Fuse.put (f : Fuse) (a : Nat) (w : FuseWord) : Fuse := { f with cells := insertKey a w f.cells }

/-- R361: the words of a tagged region that boot reads: committed and correctable. -/
def Fuse.tagged (f : Fuse) (lo hi : Nat) : List Word :=
  (f.cells.filter fun p => decide (lo ≤ p.1) && decide (p.1 < hi) && p.2.committed && !p.2.uncorrectable).map (·.2.data)

def tagKind (w : Word) : Nat := fld w 28 4
def tagIndex (w : Word) : Nat := fld w 24 4
def tagData (w : Word) : Nat := fld w 0 24

/-- R361: the lifecycle state is the highest target present: 0 MANUFACTURE to 3 RETIRED. -/
def Fuse.lifecycle (f : Fuse) : Nat :=
  ((f.tagged 0x000 0x010).filter fun w =>
    tagKind w == 1 && tagData w == 0x3208 && decide (1 ≤ tagIndex w) && decide (tagIndex w ≤ 3)).foldl
      (fun a w => max a (tagIndex w)) 0

/-- R361: the anti-rollback counter: the largest c with steps 1 to c all present. -/
def Fuse.counter (f : Fuse) : Nat :=
  let steps := ((f.tagged 0x100 0x220).filter fun w => tagKind w == 2 && tagIndex w == 0).map tagData
  let rec go : Nat → Nat → Nat
    | 0, c => c
    | n + 1, c => if steps.contains (c + 1) then go n (c + 1) else c
  go 256 0

/-- R224, R361: the parts of an owner slot that are present, as (part, data) in fuse order. -/
def Fuse.parts (f : Fuse) (k : Nat) : List (Nat × Nat) :=
  ((f.tagged 0x020 0x0C0).filter fun w => tagKind w == 4 + k).map fun w => (tagIndex w, tagData w)

/-- R224, R361: an owner slot: 0 empty, 1 bound, 2 revoked. -/
def Fuse.ownerSlot (f : Fuse) (k : Nat) : Nat :=
  let ps := f.parts k
  let revoked := (f.tagged 0x020 0x0C0).any fun w => tagKind w == 8 && tagIndex w == k && tagData w == 0x3208
  let clash := ps.any fun p => ps.any fun q => p.1 == q.1 && p.2 != q.2
  if revoked || clash then 2
  else if (List.range 16).all fun j => ps.any fun p => p.1 == j then 1 else 0

/-- R361: the 16 parts of a hash: part j is bytes 3j to 3j + 2. -/
def hashParts (h : List Word) : List Nat :=
  let bs := h.flatMap wordBytes
  (List.range 16).map fun j =>
    (bs.getD (3 * j) 0).toNat + 256 * (bs.getD (3 * j + 1) 0).toNat + 65536 * (bs.getD (3 * j + 2) 0).toNat

/-- R224: the owner hash of a bound slot, as words. -/
def Fuse.ownerHash (f : Fuse) (k : Nat) : List Word :=
  let ps := f.parts k
  bytesWords ((List.range 16).flatMap fun j =>
    match ps.find? (fun p => p.1 == j) with
    | some p => [BitVec.ofNat 8 p.2, BitVec.ofNat 8 (p.2 / 256), BitVec.ofNat 8 (p.2 / 65536)]
    | none => [0, 0, 0])

/-- R101: SLOTS, two bits per owner slot. -/
def Fuse.slots (f : Fuse) : Nat :=
  f.ownerSlot 0 + 4 * f.ownerSlot 1 + 16 * f.ownerSlot 2 + 64 * f.ownerSlot 3

/-- R234, R256: the hash of the lowest bound, unrevoked slot, or zeros. -/
def Fuse.lowestOwner (f : Fuse) : List Word :=
  match (List.range 4).find? (fun k => f.ownerSlot k == 1) with
  | some k => f.ownerHash k
  | none => List.replicate 12 0

def State.lifecycle (s : State) : Nat := s.fuse.lifecycle

/-- R97: OWNED. -/
def State.owned (s : State) : Bool := s.lifecycle == 2

/-! ## Lane groups (R11 to R13, R133, R215) -/

/-- R12: the size of the group at line lane `j` of a half with tiling `t`; 0 where no group starts. -/
def tileSize (t j : Nat) : Nat :=
  match t, j with
  | 1, 0 => 4
  | 2, 0 | 2, 2 | 3, 0 | 4, 2 => 2
  | 3, 2 | 3, 3 | 4, 0 | 4, 1 | 5, 0 | 5, 1 | 5, 2 | 5, 3 => 1
  | _, _ => 0

/-- R12: the number of line lanes of group `g` under a tiling; 0 where `g` is not the base of a group. -/
def sizeIn (t : Nat × Nat) (g : Nat) : Nat := if g < 4 then tileSize t.1 g else tileSize t.2 (g - 4)

def State.gsize (s : State) (g : Nat) : Nat := sizeIn s.tiling g

/-- The group that line lane `l` belongs to. -/
def groupIn (t : Nat × Nat) (l : Nat) : Option Nat :=
  (List.range 8).find? fun g => decide (g ≤ l) && decide (l < g + sizeIn t g)

def State.groupOf (s : State) (l : Nat) : Option Nat := groupIn s.tiling l

/-- The line lanes of a group. -/
def State.glanes (s : State) (g : Nat) : List (Fin 8) := (List.range (s.gsize g)).map fun p => Fin.ofNat 8 (g + p)

/-- R215: the position of host lane Hn in a crossbar map. -/
def xbarPos (m : Vector Word 2) (n : Nat) : Nat := if n < 8 then fld m[0] (4 * n) 4 else fld m[1] (4 * (n - 8)) 4

/-- R13: the host lanes that serve a group. -/
def State.ghosts (s : State) (g : Nat) : List (Fin 16) :=
  (fins 16).filter fun n =>
    let p := xbarPos s.xbar n
    decide (2 * g ≤ p) && decide (p < 2 * (g + s.gsize g))

/-- R125: the group that host lane Hn serves, and its position in it. -/
def State.hostGroup (s : State) (n : Nat) : Option (Nat × Nat) :=
  let p := xbarPos s.xbar n
  (s.groupOf (p / 2)).map fun g => (g, p - 2 * g)

/-- The groups that exist. -/
def State.bases (s : State) : List (Fin 8) := (fins 8).filter fun g => s.gsize g != 0

/-! ## Modes -/

/-- R38: an open host secure session. -/
def State.inSession (s : State) : Bool := s.sec.session.isSome

/-- R386: a warning episode or its recovery is running. -/
def State.supplyHeld (s : State) : Bool :=
  match s.thm.supply with
  | .none => false
  | .episode .. | .recovering .. => true

/-- R386: a supply is below its warning level. -/
def State.supplyLow (s : State) : Bool :=
  match s.thm.supply with
  | .episode .. => true
  | .none | .recovering .. => false

/-! ## Scratchpad (R346) -/

/-- The byte at an address; an unlisted byte reads 0x00 (entry 6). -/
def readByte (m : List Host.Cell) (a : Nat) : Byte :=
  match m with
  | [] => 0
  | c :: r => if c.1 = a then c.2 else if a < c.1 then 0 else readByte r a

/-- The cells with the byte `b` at address `a`, in canonical form: addresses rise, no byte is 0x00. -/
def writeByte (m : List Host.Cell) (a : Nat) (b : Byte) : List Host.Cell :=
  match m with
  | [] => if b = 0 then [] else [(a, b)]
  | c :: r =>
    if a < c.1 then (if b = 0 then c :: r else (a, b) :: c :: r)
    else if a = c.1 then (if b = 0 then r else (a, b) :: r)
    else c :: writeByte r a b

/-- R346: one byte written; nothing is stored past 6 MiB (R292 and R348 let no access reach there). -/
def putByte (m : List Host.Cell) (a : Nat) (b : Byte) : List Host.Cell := if a < 0x60_0000 then writeByte m a b else m

/-- Bytes written from an address upward. -/
def writeBytes (m : List Host.Cell) (a : Nat) : List Byte → List Host.Cell
  | [] => m
  | b :: r => writeBytes (putByte m a b) (a + 1) r

/-- `n` bytes read from an address upward. -/
def readBytes (m : List Host.Cell) (a : Nat) : Nat → List Byte
  | 0 => []
  | n + 1 => readByte m a :: readBytes m (a + 1) n

/-- The canonical form of the scratchpad: addresses strictly rising from `lo`, below 6 MiB, no byte 0x00. -/
def cellsOk (lo : Nat) : List Host.Cell → Bool
  | [] => true
  | c :: r => decide (lo ≤ c.1) && decide (c.1 < 0x60_0000) && c.2 != 0 && cellsOk (c.1 + 1) r

def Memory.wf (m : List Host.Cell) : Bool := cellsOk 0 m

def State.mapMem (s : State) (f : MemState → MemState) : State := { s with mem := f s.mem }

end Sys2Proof.Machine
end

