-- ==== Sys2Proof/Machine/Rs.lean ====
section
/-! DEFINITION. The RS(544,514) code of R191 and R209: its field, its encoder, and errors-only decoding of up to 15 symbols. The
field polynomial x^10 + x^3 + 1, the generator with the roots α^0 to α^29 and the order of the symbols (the symbol sent first
has the highest degree) are those of IEEE 802.3 (PRESUMED, entry 63). -/

namespace Sys2Proof.Machine

/-! ## Symbols packed ten bits apart -/

/-- Bit 9 of each of the lowest `n` symbols of a packed number. -/
def topBits : Nat → Nat
  | 0 => 0
  | n + 1 => 512 + 1024 * topBits n

/-- Every packed symbol times α: the bit that leaves returns at x^3 + 1. -/
def timesAlpha (tops r : Nat) : Nat :=
  let c := Nat.land r tops / 512
  Nat.xor (Nat.xor (2 * (r - 512 * c)) c) (8 * c)

/-- Every packed symbol times the field element `a`, bit `n - 1` of `a` first. -/
def scaleGo (tops a r : Nat) : Nat → Nat
  | 0 => 0
  | n + 1 => Nat.xor (timesAlpha tops (scaleGo tops (a / 2) r n)) (if a % 2 = 1 then r else 0)

/-- Up to 32 packed symbols times a field element. -/
def scale (a r : Nat) : Nat := if a = 0 then 0 else scaleGo (topBits 32) a r 10

/-- The product of two field elements. -/
def gfMul (a b : Nat) : Nat := scaleGo 512 a b 10

/-- α to the power `n`. -/
def alphaPow : Nat → Nat
  | 0 => 1
  | n + 1 => timesAlpha 512 (alphaPow n)

/-- A field element to the power 2^n - 1. -/
def gfOnes (a : Nat) : Nat → Nat
  | 0 => 1
  | n + 1 => let x := gfOnes a n; gfMul a (gfMul x x)

/-- The inverse of a field element: its power 2^10 - 2. -/
def gfInv (a : Nat) : Nat := let x := gfOnes a 9; gfMul x x

/-! ## Encoder -/

/-- The product of x + α^j over the first `n` values of j, its leading coefficient in the lowest symbol. -/
def rsProduct : Nat → Nat
  | 0 => 1
  | n + 1 => let p := rsProduct n; Nat.xor p (1024 * scale (alphaPow n) p)

/-- The generator of degree 30 without its leading coefficient. -/
def rsGen : Nat := rsProduct 30 / 1024

/-- `n` message symbols divided by the generator; the register holds 30 symbols, that of the highest degree lowest. -/
def rsDivide (m reg : Nat) : Nat → Nat
  | 0 => reg
  | n + 1 => rsDivide (m / 1024) (Nat.xor (reg / 1024) (scale (Nat.xor (m % 1024) (reg % 1024)) rsGen)) n

/-- R191: the 300 parity bits of a message. -/
def rsParity (m : BitVec 5140) : Nat := rsDivide m.toNat 0 514

/-- R191: the codeword of a message: its 514 symbols, then 30 of parity; bit 0 is sent first. -/
def rsCode (m : BitVec 5140) : BitVec 5440 := BitVec.ofNat 5440 (m.toNat + rsParity m * 2 ^ 5140)

/-- R198: the message of a slot that carries words. -/
def wordsMessage (w : List Word) : BitVec 5140 := BitVec.ofNat 5140 (w.foldr (fun x a => x.toNat + 2 ^ 32 * a) 0)

/-! ## Decoder -/

/-- The value of a polynomial at `x`, coefficients by rising degree. -/
def gfEval (p : List Nat) (x : Nat) : Nat := p.foldr (fun c a => Nat.xor c (gfMul x a)) 0

/-- Two polynomials added. -/
def gfAdd : List Nat → List Nat → List Nat
  | a :: p, b :: q => Nat.xor a b :: gfAdd p q
  | p, [] => p
  | [], q => q

/-- The syndromes of a remainder of 30 symbols: its values at α^0 to α^29. -/
def rsSyndromes (rem : Nat) : List Nat :=
  let cs := (List.range 30).map fun i => rem / 1024 ^ (29 - i) % 1024
  (List.range 30).map fun j => gfEval cs (alphaPow j)

/-- Berlekamp and Massey: the register so far (`loc`, of length `len`), the one before its last change (`prev`, shifted
since), the discrepancy then. -/
structure Locator where
  loc  : List Nat
  len  : Nat
  prev : List Nat
  disc : Nat
  deriving DecidableEq, Repr

/-- One syndrome more; `past` are the syndromes up to this one, the latest first. -/
def Locator.next (x : Locator) (n : Nat) (past : List Nat) : Locator :=
  let d := (x.loc.zipWith gfMul past).foldl Nat.xor 0
  let prev := 0 :: x.prev
  if d = 0 then { x with prev := prev }
  else
    let loc := gfAdd x.loc (prev.map (gfMul (gfMul d (gfInv x.disc))))
    if 2 * x.len ≤ n then { loc := loc, len := n + 1 - x.len, prev := x.loc, disc := d }
    else { x with loc := loc, prev := prev }

/-- The locator after a list of syndromes. -/
def Locator.run : Locator → Nat → List Nat → List Nat → Locator
  | x, _, _, [] => x
  | x, n, past, s :: r => (x.next n (s :: past)).run (n + 1) (s :: past) r

def rsLocator (syn : List Nat) : Locator := ({ loc := [1], len := 0, prev := [1], disc := 1 } : Locator).run 0 [] syn

/-- The errors that a locator points at, as (degree, value): Chien's search and Forney's formula. -/
def rsErrors (syn loc : List Nat) : List (Nat × Nat) :=
  let omega := (List.range 30).map fun k =>
    (List.range (k + 1)).foldl (fun a i => Nat.xor a (gfMul (loc.getD i 0) (syn.getD (k - i) 0))) 0
  let slope := mapIxGo (fun i c => if i % 2 = 0 then c else 0) 0 (loc.drop 1)
  (List.range 544).filterMap fun d =>
    let x := gfInv (alphaPow d)
    if gfEval loc x = 0 then some (d, gfMul (alphaPow d) (gfMul (gfEval omega x) (gfInv (gfEval slope x)))) else none

/-- The codeword with the errors taken out; the symbol of degree `d` stands at bits 10 (543 - d) upward. -/
def rsRepair (c : Nat) (es : List (Nat × Nat)) : Nat := es.foldl (fun a e => Nat.xor a (e.2 * 1024 ^ (543 - e.1))) c

/-- R209: errors-only decoding: how many symbols were corrected, at most 15, with the message; none when uncorrectable. -/
def rsDecode (c : BitVec 5440) : Option (Nat × BitVec 5140) :=
  let m := BitVec.ofNat 5140 c.toNat
  let rem := Nat.xor (rsParity m) (c.toNat / 2 ^ 5140)
  if rem = 0 then some (0, m)
  else
    let syn := rsSyndromes rem
    let l := rsLocator syn
    let es := rsErrors syn l.loc
    let fixed := BitVec.ofNat 5440 (rsRepair c.toNat es)
    let m := BitVec.ofNat 5140 fixed.toNat
    if l.len ≤ 15 ∧ es.length = l.len ∧ rsCode m = fixed then some (es.length, m) else none

end Sys2Proof.Machine
end

