-- ==== Sys2Proof/Machine/Flags.lean ====
section
/-! DEFINITION. What the device derives from its state: OPER, REASON and REMOTE of every unit (R62 to R67 and the class
chapters), generated Local Fault (R122), the LEVEL signals (R328), FAST_STATUS and the status lines. -/

namespace Sys2Proof.Machine

/-! ## Device -/

/-- R270: foreground calibration of the whole device is running. -/
def State.fgRuns (s : State) : Bool := s.cal.fgStart.isSome

/-- R270, R272: a lane of calibration is in a foreground run, the device's or its own. -/
def State.laneFg (s : State) (k : Nat) : Bool := s.fgRuns || s.cal.lanes[Fin.ofNat 48 k].foreground.isSome

/-- R374: the highest throttle cause is in force. -/
def State.throttled (s : State) : Bool := s.thm.stage != 0

/-- R377: the pause of an operation, in ns, given in ms for stages 1 and 2. -/
def State.pauseNs (s : State) (one two : Nat) : Nat :=
  if s.thm.stage = 1 then one * 1000000 else if s.thm.stage = 2 then two * 1000000 else 0

/-- R391: effective value of a sensor, as bits: its reading while valid, else its substitute. -/
def Sensor.effective (t : Sensor) : BitVec 16 := if t.cause = 0 then t.reading else t.subst.getD 0x760

/-- Signed value of a 16-bit reading. -/
def s16 (b : BitVec 16) : Int := b.toInt

/-- R362, entry 17: Tj is inside 0 to 95 °C: every effective value read so far is. -/
def State.tjOk (s : State) : Bool :=
  s.thm.sensors.toList.all fun t =>
    t.reading == 0x8000 || (decide (0 ≤ s16 t.effective) && decide (s16 t.effective ≤ 95 * 16))

/-- R385: VDD_FUSE is in range, 1.746 V to 1.854 V. -/
def State.fuseOk (s : State) : Bool := decide (1746 ≤ s.thm.fuseMv) && decide (s.thm.fuseMv ≤ 1854)

/-- R387: the first rail below its warning level, as its instance. -/
def State.lowRail (s : State) : Nat :=
  match s.thm.supply with
  | .episode _ _ first | .recovering _ _ _ first => 0x40 + first
  | .none => 0x40

/-- R388: the AVS target in force, in mV. -/
def State.avsMv (s : State) : Nat := s.thm.avs.target

/-! ## Test functions (R305 to R316) -/

def Tst.gen (t : Tst) : Bool := bit t.cfg 0
def Tst.chk (t : Tst) : Bool := bit t.cfg 1
def Tst.framed (t : Tst) : Bool := bit t.cfg 2
def Tst.manual (t : Tst) : Bool := bit t.cfg 12

/-- R305: the functions of a TST unit run: ADMIN UP and not stopped. -/
def State.tstRuns (s : State) (i : Nat) : Bool := s.admin .tst i == .up && !s.tst[Fin.ofNat 24 i].stopped

/-- R310: a SYMBOL-layer checker runs on the lane pair. -/
def State.symChk (s : State) (i : Nat) : Bool :=
  let t := s.tst[Fin.ofNat 24 i]
  s.tstRuns i && t.chk && !t.framed

/-- R308: a FRAMED-layer generator runs on the base lane of a group. -/
def State.framedGen (s : State) (g : Nat) : Bool :=
  let t := s.tst[Fin.ofNat 24 (16 + g)]
  s.tstRuns (16 + g) && t.gen && t.framed

/-- R315: the loopback in force on a lane pair. -/
def State.loopOn (s : State) (i : Nat) : Nat := if s.tstRuns i then s.tst[Fin.ofNat 24 i].loopSel else 0

/-- R121, R141: a SYMBOL-layer generator or an FE loopback is in force on the lane pair. -/
def State.testContent (s : State) (i : Nat) : Bool :=
  let t := s.tst[Fin.ofNat 24 i]
  s.tstRuns i && ((t.gen && !t.framed) || t.loopSel == 3)

/-! ## The overlay of self-test and failure -/

/-- R25, R85, R354, R358: an island under test, FAILED, beyond repair at boot, or held decides OPER and REASON of its
units (entry 13 gives the order). -/
def State.overlay (s : State) (isl : List Nat) (base : Oper × Nat) : Oper × Nat :=
  if isl.any s.underTest then (.selftest, 0)
  else if isl.any s.islandFailed then (.failed, 0x09)
  else if isl.any s.islandHeld then (.failed, 0x07)
  else if isl.any (fun k => s.boot.islands.getLsbD k) then (.failed, 0)
  else base

/-- R63: the islands are powered, or the unit is OFF with REASON DOMAIN_OFF. -/
def State.needOn (s : State) (isl : List Nat) (base : Oper × Nat) : Oper × Nat :=
  if isl.all s.islandOn then base else (.off, 0x06)

/-! ## Host lanes (R114 to R121) -/

/-- R114 to R118, R183, R271, R310; R272: a lane in its own foreground run is in the same step 1 (entry 80). -/
def State.operHrx (s : State) (n : Fin 16) : Oper × Nat :=
  let h := s.hrx[n]
  let lock := if s.symChk n then s.tst[Fin.ofNat 24 n.val].locked else h.amLock && h.deskewed
  s.overlay [32 + n.val] <|
    if s.admin .hrx n == .down then (.off, 0)
    else s.needOn [32 + n.val] <|
      if !h.sd then (.acquiring, 0x01)
      else if s.laneFg (8 + n.val) || !h.timing then (.acquiring, 0x02)
      else if h.range && !s.symChk n then (.acquiring, 0x0A)
      else if !lock then (.acquiring, 0x02)
      else if h.lowMargin then (.degraded, 0x0B)
      else (.up, 0)

/-- R18, R252: a SEALED group without keys in force is fail-closed. -/
def State.failClosed (s : State) (g : Fin 8) : Bool := s.grp[g].mode == 3 && s.seals[g].keys.isNone

/-- R166, R203, R310: the line receiver has the lock that its acquisition asks for. -/
def State.lineLock (s : State) (l : Fin 8) : Bool :=
  if s.symChk (16 + l.val) then s.tst[Fin.ofNat 24 (16 + l.val)].locked else s.lfd[l].inner

/-- R169, R181 to R183, R271; R272: as for HRX (entry 80). -/
def State.operLrx (s : State) (l : Fin 8) : Oper × Nat :=
  let r := s.lrx[l]
  s.overlay [l.val, 8 + l.val] <|
    if s.admin .lrx l == .down then (.off, 0)
    else s.needOn [l.val, 8 + l.val] <|
      if !r.sd then (.acquiring, 0x01)
      else if s.laneFg l.val || !r.timing || !r.acquired || !s.lineLock l then (.acquiring, 0x02)
      else if r.lmi.lowMargin then (.degraded, 0x0A)
      else if r.afe.driven then (.degraded, 0x0B)
      else (.up, 0)

/-- R122, R203, R205: a line lane of the group has no milestone lock or is not yet UP or DEGRADED, the group is not
deskewed, or it receives IDLE periods (R201). -/
def State.noFrames (s : State) (g : Fin 8) : Bool :=
  !(s.glanes g).all (fun l => s.lfd[l].msLock && (s.operLrx l).1.carries) || !s.grp[g].deskewed || s.grp[g].idleRx

/-- R122, R129: the Local Fault cause that holds for the HTX lanes of a group, 0 if none. A group that is ADMIN DOWN counts
as one without milestone lock (entry 13). -/
def State.groupFault (s : State) (g : Fin 8) : Nat :=
  if !s.isUp .grp g || s.noFrames g then 1
  else if s.failClosed g then 2
  else if s.seals[g].tagBad then 3
  else if s.grp[g].outRange then 4
  else 0

/-- R123: in PASS Local Fault goes on until a codeword with alignment markers is forwarded. -/
def State.passHeld (s : State) (g : Fin 8) : Bool := s.grp[g].mode == 1 && s.obs.held[g] == some s.grp[g].marks

/-- R122, R123, R129: the Local Fault cause in force for an HTX lane, 0 if none; a lane without a group counts as one without
milestone lock (entry 13), and a cause that R123 prolongs stays what it was. -/
def State.lfCause (s : State) (n : Fin 16) : Nat :=
  match s.hostGroup n with
  | none => 1
  | some (g, _) =>
    let c := s.groupFault (Fin.ofNat 8 g)
    if c = 0 ∧ s.passHeld (Fin.ofNat 8 g) then max 1 s.obs.lf[n].cause else c

/-- R121: the lane sends generated Local Fault, with its cause. -/
def State.lfNow (s : State) (n : Fin 16) : Nat :=
  if !s.isUp .htx n || !s.islandOn (48 + n.val) || s.underTest (48 + n.val) || s.laneFg (32 + n.val) || s.htx[n].squelch ||
      s.htx[n].force != 0 || (s.admin .htx n == .test && s.testContent n) then 0
  else s.lfCause n

/-- R121, R271; R272: as for HRX (entry 80). -/
def State.operHtx (s : State) (n : Fin 16) : Oper × Nat :=
  s.overlay [48 + n.val] <|
    if s.admin .htx n == .down then (.off, 0)
    else s.needOn [48 + n.val] <|
      if s.laneFg (32 + n.val) then (.acquiring, 0)
      else if s.htx[n].squelch then (.degraded, 0x0B)
      else if s.htx[n].force = 1 then (.degraded, 0x0A)
      else if s.htx[n].force ≠ 0 then (.degraded, 0)
      else if s.admin .htx n == .test && s.testContent n then (.up, 0)
      else if s.lfCause n ≠ 0 then (.degraded, 0x0A)
      else (.up, 0)

/-! ## Line transmitter (R141) -/

/-- R141: the group sends milestones and fill only. -/
def State.fillOnly (s : State) (g : Fin 8) : Bool :=
  s.failClosed g || !s.seals[g].peered || !(s.glanes g).all (fun l => s.lfd[l].msLock) || !s.grp[g].deskewed ||
    s.grp[g].outRange

/-- R141, R143, R271, R272: the lane may drive: ADMIN UP or TEST, its group ADMIN UP or TEST, islands on, no foreground run. -/
def State.mayDrive (s : State) (l : Fin 8) : Bool :=
  let isl := [16 + l.val, 24 + l.val]
  s.isUp .ltx l && isl.all s.islandOn && !isl.any s.underTest && !isl.any s.islandFailed && !s.laneFg (24 + l.val) &&
    (match s.groupOf l with
     | some g => s.isUp .grp g && s.islandOn 65 && !s.underTest 65 && !s.islandFailed 65
     | none => false)

/-- R141, R143, R271; R272: as for HRX (entry 80). -/
def State.operLtx (s : State) (l : Fin 8) : Oper × Nat :=
  let isl := [16 + l.val, 24 + l.val]
  s.overlay isl <|
    if s.admin .ltx l == .down then (.off, 0)
    else s.needOn isl <|
      if s.laneFg (24 + l.val) then (.acquiring, 0)
      else if s.ltx[l].squelch then (.degraded, 0x0A)
      else if s.admin .ltx l == .test && s.testContent (16 + l.val) then (.up, 0)
      else match s.groupOf l with
        | none => (.off, 0x0C)
        | some g =>
          if !s.isUp .grp g then (.off, 0x0C)
          else if !s.ltx[l].driving then (.acquiring, 0)
          else if s.ltx[l].clipping && !s.fillOnly (Fin.ofNat 8 g) then (.degraded, 0x0B)
          else (.up, 0)

/-! ## Groups (R67, R205 to R208, R214) -/

/-- Entry 12: the order behind "the lower of the two" (R67). -/
def Oper.rank : Oper → Nat
  | .failed => 0 | .off => 1 | .selftest => 2 | .acquiring => 3 | .degraded => 4 | .up => 5

def Oper.lower (a b : Oper) : Oper := if a.rank ≤ b.rank then a else b

/-- The lower of two states, with its REASON; only the reasons of R63 carry over to another class. -/
def lowerOf (a b : Oper × Nat) : Oper × Nat :=
  let r := if b.1.rank < a.1.rank then b else a
  (r.1, if r.2 < 0x0A then r.2 else 0)

/-- R67, R198: the local receive state of a group: its line receivers, framing, deskew and clock. -/
def State.rxLocal (s : State) (g : Fin 8) : Oper × Nat :=
  let lanes := (s.glanes g).foldl (fun a l => lowerOf a (s.operLrx l)) (.up, 0)
  let frame : Oper × Nat :=
    if !(s.glanes g).all (fun l => s.lfd[l].msLock) || !s.grp[g].deskewed || !s.grp[g].locked then (.acquiring, 0x02)
    else (.up, 0)
  lowerOf lanes frame

/-- R67, R198: the local transmit state of a group: its host receivers and line transmitters. -/
def State.txLocal (s : State) (g : Fin 8) : Oper × Nat :=
  let hs := (s.ghosts g).foldl (fun a n => lowerOf a (s.operHrx n)) (.up, 0)
  (s.glanes g).foldl (fun a l => lowerOf a (s.operLtx l)) hs

/-- R198: GRP_LOCAL. -/
def State.grpLocal (s : State) (g : Fin 8) : Oper × Nat := lowerOf (s.rxLocal g) (s.txLocal g)

/-- R63, R67: the OPER that a REMOTE code stands for; UNKNOWN ranks as ACQUIRING in "the lower of the two" (entry 70). -/
def operOfCode : Nat → Oper
  | 0 => .off | 1 => .selftest | 2 => .acquiring | 3 => .up | 4 => .degraded | 5 => .failed | _ => .acquiring

/-- R252, R261. -/
def State.operSeal (s : State) (g : Fin 8) : Oper × Nat :=
  let c := s.seals[g]
  s.overlay [68, 69] <|
    if s.admin .seal g == .down then (.off, 0)
    else s.needOn [68, 69] <|
    if s.grp[g].mode ≠ 3 then (.off, 0)
    else if s.sec.zeroised then (.failed, 0x0C)
    else if c.selfPeer then (.failed, 0x0D)
    else if c.keys.isSome then (if c.reFailed then (.degraded, 0x0F) else (.up, 0))
    else match c.closed with
      | .refused => (.failed, 0x0B)
      | .tagLimit => (.acquiring, 0x0E)
      | .rekey => (.acquiring, 0x0F)
      | .none | .first | .peer | .selfPeer | .sleep | .zeroised => (.acquiring, if c.peered then 0x0A else 0x03)

/-- R25: the shared islands that a group uses. -/
def State.sharedOf (s : State) (g : Fin 8) : List Nat :=
  if s.grp[g].mode = 3 then (if s.seals[g].stream then [64, 65, 66, 67, 68, 69] else [64, 65, 66, 67, 68, 69, 70])
  else [64, 65, 66, 67]

/-- R67, R93, R205, R206, R214, R252 (entry 13 gives the order of the reasons; a group held down by a known REMOTE alone has
REASON NONE: entry 70). In SLEEP every group is OFF with DOMAIN_OFF. -/
def State.operGrp (s : State) (g : Fin 8) : Oper × Nat :=
  let p := s.grp[g]
  s.overlay (s.sharedOf g) <|
    if s.gsize g = 0 then (.off, 0x0A)
    else if p.mode = 0 then (.off, 0x0B)
    else if s.power.dev = .sleep then (.off, 0x06)
    else if s.admin .grp g == .down then (.off, 0)
    else s.needOn (s.sharedOf g) <|
      let loc := s.grpLocal g
      let sl : Oper × Nat := if p.mode = 3 then s.operSeal g else (.up, 0)
      let bad := p.conflict || p.peerCfg || p.range || p.outRange
      let own := (loc.1.lower sl.1).lower (if bad then .acquiring else .up)
      let all := own.lower (operOfCode p.remote)
      if all.carries then (all, 0)
      else if p.conflict then (all, 0x0D)
      else if p.peerCfg then (all, 0x04)
      else if p.mode = 3 && !sl.1.carries then (all, 0x05)
      else if p.range then (all, 0x0C)
      else if p.outRange then (all, 0x08)
      else if !loc.1.carries then (all, loc.2)
      else if p.remote = 0xE || !s.seals[g].peered then (all, 0x03)
      else (all, 0)

/-- R216. -/
def State.operFec (s : State) (g : Fin 8) : Oper × Nat :=
  s.overlay [64, 65, 66, 67] <| if s.admin .fec g == .down then (.off, 0) else s.operGrp g

/-! ## The other classes -/

/-- R12: the tiling covers L0 to L7. -/
def State.tiled (s : State) : Bool := s.tiling.1 != 0 && s.tiling.2 != 0

/-- R90: step `k` has been done, or is not required. -/
def State.stepDone (s : State) (k : Nat) : Bool :=
  match k with
  | 1 => !s.owned || s.sec.cert != []
  | 2 => !s.owned || s.sec.policy != []
  | 4 => s.board != []
  | 5 => s.tiled
  | 6 => (fins 8).all fun g => s.gsize g == 0 || s.grp[g].mode != 0
  | 7 => s.admin .dev 0 == .up
  | _ => true

/-- R83: the DEV reason that names a missing step. -/
def stepReason : Nat → Nat
  | 1 => 0x0B | 2 => 0x0C | 4 => 0x0D | 5 => 0x0E | 6 => 0x0F | _ => 0x11

/-- R91: the first required step before `k` that has not been done. -/
def State.missingStep (s : State) (k : Nat) : Option Nat := ((List.range k).drop 1).find? fun j => !s.stepDone j

/-- R83, R384; in CONFIG the REASON names the first required step that has not been done. -/
def State.operDev (s : State) : Oper × Nat :=
  match s.power.dev with
  | .off | .boot => (.off, 0)
  | .ready => (.off, 0x0A)
  | .config => (.off, match s.missingStep 8 with
    | some k => stepReason k
    | none => 0)
  | .active => if s.dom.failed = 0 then (.up, 0) else (.degraded, 0x09)
  | .sleep => (.degraded, 0x12)
  | .maint => (.degraded, 0x13)
  | .shutdown => (.failed, 0)

/-- R281, R283. -/
def State.operCal (s : State) : Oper × Nat :=
  s.overlay [73] <|
    match s.admin .cal 0 with
    | .down => (.off, 0)
    | .test => s.needOn [73] (.up, 0)
    | .up => s.needOn [73] <|
      if s.fgRuns then (.degraded, 0x0A)
      else if !s.cal.traced then (.degraded, 0x0B)
      else if (List.range 24).any (fun k => s.cal.lanes[Fin.ofNat 48 k].starved) then (.degraded, 0x0C)
      else (.up, 0)

/-- R300, R302: UP while ADMIN is UP, otherwise OFF with DOMAIN_OFF. -/
def State.operMon (s : State) (i : Nat) : Oper × Nat :=
  s.overlay (unitIslands .mon i) <|
    if s.admin .mon i == .up then s.needOn (unitIslands .mon i) (.up, 0) else (.off, 0x06)

/-- R25, R386, R388, R392. -/
def State.operThm (s : State) (i : Nat) : Oper × Nat :=
  s.overlay (unitIslands .thm i) <|
  if i = 0x60 then
    if s.power.blind then (.degraded, 0x0B) else if s.throttled then (.degraded, 0x0C) else (.up, 0)
  else if 0x40 ≤ i then
    if s.thm.rails[Fin.ofNat 12 (i - 0x40)].low then (.degraded, 0x0D)
    else if s.thm.avs.fault && decide (i < 0x44) then (.degraded, 0x0E)
    else (.up, 0)
  else if s.thm.sensors[Fin.ofNat 24 i].cause ≠ 0 then (.failed, 0x0A)
  else (.up, 0)

/-- R367. -/
def State.operBist (s : State) (i : Nat) : Oper × Nat :=
  if s.underTest i then (.selftest, 0) else if s.islandHeld i then (.failed, 0x07) else (.up, 0)

/-- R327: a counter counts only while ADMIN is UP. -/
def State.operPerf (s : State) (i : Nat) : Oper × Nat :=
  if s.admin .perf i != .up then (.off, 0)
  else
    let w := s.obs.perf[Fin.ofNat 64 i].cfg
    if s.live (clsOf (fld w 12 4)) (fld w 0 12) then (.up, 0) else (.degraded, 0x06)

/-- R336: the island of a participant: MC, CC, SC; the host is always there. -/
def partyIsland (p : Nat) : Option Nat :=
  match p with
  | 2 => some 72 | 3 => some 73 | 4 => some 71 | _ => none

/-- R340: the domain of a channel's receiver is on. -/
def State.partyOn (s : State) (p : Nat) : Bool :=
  match partyIsland p with
  | some k => s.islandOn k
  | none => true

/-- R340. -/
def State.operMbx (s : State) (i : Nat) : Oper × Nat :=
  if s.admin .mbx i == .down then (.off, 0)
  else if decide (i < 0xF0) && !s.partyOn (i % 16) then (.degraded, 0x06)
  else (.up, 0)

/-- R25, R352, R365. -/
def State.operMem (s : State) : Oper × Nat :=
  s.overlay [74] <|
  if s.admin .mem 0 == .down then (.off, 0)
  else if s.mem.failed ≠ [] then (.degraded, 0x0A) else (.up, 0)

/-- R305. -/
def State.operTst (s : State) (i : Nat) : Oper × Nat :=
  let t := s.tst[Fin.ofNat 24 i]
  s.overlay (unitIslands .tst i) <|
    if s.admin .tst i == .down then (.off, 0)
    else if t.stopped then (.off, 0x0A)
    else if t.chk && !t.locked then (.acquiring, 0x02) else (.up, 0)

/-- OPER and REASON of a unit. -/
def State.operOf (s : State) (c : Cls) (i : Nat) : Oper × Nat :=
  match c with
  | .dev => s.operDev
  | .hrx => s.operHrx (Fin.ofNat 16 i)
  | .htx => s.operHtx (Fin.ofNat 16 i)
  | .ltx => s.operLtx (Fin.ofNat 8 i)
  | .lrx => s.operLrx (Fin.ofNat 8 i)
  | .grp => s.operGrp (Fin.ofNat 8 i)
  | .fec => s.operFec (Fin.ofNat 8 i)
  | .seal => s.operSeal (Fin.ofNat 8 i)
  | .cal => s.operCal
  | .mon => s.operMon i
  | .thm => s.operThm i
  | .bist => s.operBist i
  | .perf => s.operPerf i
  | .mbx => s.operMbx i
  | .mem => s.operMem
  | .tst => s.operTst i

/-! ## REMOTE and the state word -/

/-- R207: eight periods at nominal rates, in ns. -/
def eightPeriods : Nat := 209715

/-- R62, R183, R208: REMOTE; 0xF for classes other than GRP and LRX. -/
def State.remoteOf (s : State) (c : Cls) (i : Nat) : Nat :=
  match c with
  | .grp => s.grp[Fin.ofNat 8 i].remote
  | .lrx =>
    let f := s.lfd[Fin.ofNat 8 i]
    match f.last with
    | some w => if s.now ≤ f.lastAt + eightPeriods then fld (w.getD 10 0) 0 4 else 0xE
    | none => 0xE
  | .dev | .hrx | .htx | .ltx | .fec | .seal | .cal | .mon | .thm | .bist | .perf | .mbx | .mem | .tst => 0xF

/-- R65: OPER is outside the set expected for ADMIN. -/
def State.mismatch (s : State) (c : Cls) (i : Nat) (o : Oper) : Bool :=
  match s.admin c i with
  | .down => o != .off
  | .up => !o.carries || ((c == .grp || c == .lrx) && !(s.remoteOf c i == 3 || s.remoteOf c i == 4))
  | .test => o == .off || o == .failed

/-- R62: word 0 of STATE_GET, with the REASON given. -/
def State.stateWord (s : State) (c : Cls) (i reason : Nat) : Word :=
  let r := s.recOf c i
  pk [((s.admin c i).code, 0), (r.oper.code, 4), (s.remoteOf c i, 8), (b2n r.misSince.isSome, 12),
      (b2n r.misRaised, 13), (reason, 16)]

/-! ## Signals (R328) -/

/-- R328: the LEVEL signals: none for a signal that is not one. -/
def State.levelOf (s : State) (c : Cls) (i sig : Nat) : Option Bool :=
  match c, sig with
  | .hrx, 3 => some s.hrx[Fin.ofNat 16 i].sd
  | .lrx, 4 => some s.lrx[Fin.ofNat 8 i].timing
  | .lrx, 5 => some s.lrx[Fin.ofNat 8 i].fade.isSome
  | .grp, 4 => some s.grp[Fin.ofNat 8 i].deskewed
  | .grp, 5 => some s.grp[Fin.ofNat 8 i].holdover
  | .seal, 3 => some s.seals[Fin.ofNat 8 i].keys.isSome
  | .dev, 3 => some s.throttled
  | _, _ => none

/-- R328: the highest signal of a class. -/
def topSignal : Cls → Nat
  | .hrx | .seal | .cal | .dev => 3
  | .htx | .ltx => 2
  | .lrx | .grp => 5
  | .fec => 6
  | .mon | .thm | .bist | .perf | .mbx | .mem | .tst => 0

/-- R330: `n` more in a programmable counter, and whether it has just saturated or wrapped. -/
def PerfCtr.add (p : PerfCtr) (n : Nat) : PerfCtr × Bool :=
  if p.val + n < 2 ^ 48 then ({ p with val := p.val + n }, false)
  else if bit p.cfg 24 then ({ p with val := (p.val + n) % 2 ^ 48, wrap := true }, true)
  else ({ p with val := 2 ^ 48 - 1, sat := true }, !p.sat)

/-- R327, R330, R335: each PERF counter that counts grows by what `amt` gives for it; PERF_SAT or PERF_WRAPPED is raised
with EVT_EN. The result is the `obs` of the state. -/
def State.perfMap (s : State) (amt : Nat → PerfCtr → Nat) : Obs :=
  let f := fun (k : Nat) (p : PerfCtr) =>
    if p.cfg = 0 ∧ p.code = 0 then (p, false)
    else
      let n := amt k p
      if n = 0 || s.admin .perf k != .up || !s.live (clsOf (fld p.cfg 12 4)) (fld p.cfg 0 12) then (p, false)
      else p.add n
  let hits : List (Fin 64) := (fins 64).filter fun k => (f k.val s.obs.perf[k]).2 && bit s.obs.perf[k].cfg 25
  let t := hits.foldl (fun t k =>
    let w := s.obs.perf[k].cfg
    t.raise .perf k (if bit w 24 then 0x11 else 0x10) (w32 (fld w 0 24))) s
  { t.obs with perf := vmapIx (fun k p => (f k p).1) s.obs.perf }

/-- R328, R329: `n` occurrences of an EDGE signal of a unit. -/
def State.signal (s : State) (c : Cls) (i sig n : Nat) : State :=
  { s with
    obs := s.perfMap fun _ p => if fld p.cfg 0 24 == i + 4096 * clsCode c + 65536 * sig then n else 0 }

/-- R329: what a LEVEL counter gains while `dt` nanoseconds pass. -/
def State.levelAmt (s : State) (dt : Nat) (p : PerfCtr) : Nat :=
  if s.levelOf (clsOf (fld p.cfg 12 4)) (fld p.cfg 0 12) (fld p.cfg 16 8) == some true then dt else 0

/-- R8, R329: the state after `dt` more nanoseconds: device time, and the LEVEL counters. -/
def State.advance (s : State) (dt : Nat) : State :=
  { s with now := s.now + dt, obs := { s with now := s.now + dt }.perfMap fun _ p => s.levelAmt dt p }

/-! ## FAST_STATUS and the status lines (R38 to R40, R389) -/

/-- R46: free command-queue slots. -/
def State.qfree (s : State) : Nat := 4 - (s.port.replies.length + s.port.waiting.length)

/-- R38: READY. -/
def State.ready (s : State) : Bool :=
  s.power.powered && !s.power.inReset && !s.power.mcSilent &&
    (match s.power.dev with
     | .off | .boot => false
     | .ready | .config | .active | .sleep | .maint | .shutdown => true)

/-- R38, R349, R350: WIN_BUSY. -/
def State.winBusy (s : State) : Bool :=
  s.mem.collision || (s.mem.retryHold &&
    (match s.mem.borrow with
     | some b => decide (s.now < b.2)
     | none => false))

/-- R38: FAST_STATUS. -/
def State.fastStatus (s : State) : Nat :=
  b2n s.ready + 2 * b2n (s.port.replies != []) + 4 * b2n (s.obs.queue != []) + 8 * b2n s.winBusy +
    16 * b2n s.power.latch + 32 * s.power.dev.code + 256 * s.qfree + 2048 * b2n s.inSession

/-- R39: MGMT_IRQ_N is low. -/
def State.irqLow (s : State) : Bool :=
  (s.obs.queue != [] && s.port.irqOnEvent) || (s.port.replies != [] && s.port.irqOnReply)

/-- R25, R40, R349, R350: MGMT_BUSY is high. -/
def State.mgmtBusy (s : State) : Bool := s.qfree == 0 || s.winBusy || s.power.mcSilent

/-- R389: ALERT_N is low. -/
def State.alertLow (s : State) : Bool :=
  s.thm.sensors.toList.any (·.warn) || s.throttled || s.power.blind || s.supplyLow || s.power.latch

/-- R403, R404: a JTAG instruction holds the balls, so SPI cannot reach the device. -/
def State.scanHolds (s : State) : Bool :=
  match s.jtag.ir with
  | .extest | .clamp | .highz | .extestPulse | .extestTrain => true
  | .idcode | .sample | .bypass => false

end Sys2Proof.Machine
end

