-- ==== Sys2Proof/Machine/Observe.lean ====
section
/-! DEFINITION. What follows every row: MC brings its unit records up to date and raises OPER_CHANGED and STATE_MATCH (R62 to R66,
R73), generated Local Fault starts and ends (R123), and the conditions that occurred reach the event counters (R328)
and the event triggers of captures (R288 to R291). -/

namespace Sys2Proof.Machine

/-- R62, R66: the record of a unit after a row. -/
def State.newRec (s : State) (c : Cls) (i : Nat) (r : UnitRec) : UnitRec :=
  let p := s.operOf c i
  let mis := s.mismatch c i p.1
  { oper := p.1, reason := p.2,
    changed := if p.1 != r.oper || p.2 != r.reason then s.now else r.changed,
    misSince := if mis then (match r.misSince with
      | some t => some t
      | none => some s.now) else none,
    misRaised := mis && r.misRaised }

/-- R66, R73: OPER_CHANGED at every change of OPER or REASON, STATE_MATCH at the end of an episode that was raised. -/
def State.recEvents (s : State) (c : Cls) (i : Nat) (r : UnitRec) : List Entry :=
  let p := s.operOf c i
  let moved := p.1 != r.oper || p.2 != r.reason
  (if moved then
    [{ code := 0x01, cls := c, inst := i, arg := pk [(p.1.code, 0), (r.oper.code, 4), (p.2, 8)], time := s.now }]
   else []) ++
  (if r.misRaised && !s.mismatch c i p.1 then
    [{ code := 0x03, cls := c, inst := i, arg := w32 (sat32 ((s.now - r.misSince.getD s.now) / 1000000)),
       time := s.now }]
   else [])

/-- The units beside their records, in order. -/
def withUnits {β : Type} (f : Cls → Nat → UnitRec → β) : List (Cls × Nat) → List UnitRec → List β
  | u :: us, r :: rs => f u.1 u.2 r :: withUnits f us rs
  | _, _ => []

/-- Every record changed by a function of its unit, the units in their order. -/
def mapRecs (f : Cls → Nat → UnitRec → UnitRec) : List UnitRec → List (Cls × Nat) → List UnitRec
  | [], _ => []
  | r :: rs, us => (match us.head? with
    | some u => f u.1 u.2 r
    | none => r) :: mapRecs f rs us.tail

theorem mapRecs_length (f : Cls → Nat → UnitRec → UnitRec) : ∀ rs us, (mapRecs f rs us).length = rs.length
  | [], _ => rfl
  | _ :: rs, us => congrArg (· + 1) (mapRecs_length f rs us.tail)

/-- R123, R129: generated Local Fault of an HTX lane after a row. -/
def State.newLf (s : State) (n : Nat) (l : LocalFault) : LocalFault :=
  let c := s.lfNow (Fin.ofNat 16 n)
  if c = 0 then { l with cause := 0 }
  else if l.cause = 0 then { cause := c, since := s.now, episodes := sat64 (l.episodes + 1) }
  else l

/-- R123, R129: LF_STARTED and LF_ENDED. -/
def State.lfEvents (s : State) (n : Fin 16) : List Entry :=
  let l := s.obs.lf[n]
  let c := s.lfNow n
  if l.cause = 0 && c != 0 then [{ code := 0x10, cls := .htx, inst := n, arg := w32 c, time := s.now }]
  else if l.cause != 0 && c == 0 then
    [{ code := 0x11, cls := .htx, inst := n, arg := w32 (sat32 ((s.now - l.since) / 1000)), time := s.now }]
  else []

/-- R217: the missing milestones of a line lane when its group last became OPER UP. -/
def State.newMissed (s : State) (l b : Nat) : Nat :=
  match s.groupOf l with
  | some g => if (s.operOf .grp g).1 = .up ∧ (s.recOf .grp g).oper ≠ .up then s.lfd[Fin.ofNat 8 l].missed else b
  | none => b

/-- R186: the adaptation counts of a line lane when it last became OPER UP. -/
def State.newAdapt (s : State) (l : Nat) (b : Nat × Nat × Nat) : Nat × Nat × Nat :=
  let r := s.lrx[Fin.ofNat 8 l]
  if (s.operOf .lrx l).1 = .up ∧ (s.recOf .lrx l).oper ≠ .up then (r.rounds, r.commits, r.voided) else b

/-- R212: since when a group is OPER UP or DEGRADED. -/
def State.newCarry (s : State) (g : Nat) (t : Option Nat) : Option Nat :=
  if (s.operOf .grp g).1.carries then some (t.getD s.now) else none

/-- R123: while a group in PASS has cause for Local Fault, the marker count from which its first marker is awaited. -/
def State.newHeld (s : State) (g : Nat) (h : Option Nat) : Option Nat :=
  let g := Fin.ofNat 8 g
  if s.groupFault g ≠ 0 then some s.grp[g].marks else if s.passHeld g then h else none

/-- The records, Local Fault and the events of both, after a row. -/
def State.noteAll (s : State) : State :=
  let es := (withUnits s.recEvents unitTable s.obs.recs.toList).flatten ++ (fins 16).flatMap s.lfEvents
  let o := es.foldl (fun o e => o.raise (s.unit e.cls e.inst).mask e) s.obs
  { s with
    obs := { o with
      recs := ⟨⟨mapRecs s.newRec s.obs.recs.toArray.toList unitTable⟩, by
        rw [List.size_toArray, mapRecs_length]; simp⟩
      lf := vmapIx s.newLf s.obs.lf
      missed := vmapIx s.newMissed s.obs.missed
      adapt := vmapIx s.newAdapt s.obs.adapt
      carry := vmapIx s.newCarry s.obs.carry
      held := vmapIx s.newHeld s.obs.held } }

/-! ## Triggers (R287 to R291) -/

/-- R287: the time that PRE samples take, in ns, rounded up. -/
def preNs (i : Nat) (cfg : Vector Word 8) : Nat :=
  let syms := fld cfg[1] 16 16 * 2 ^ fld cfg[0] 2 4
  if i < 16 then (syms * 1000 + 106249) / 106250 else (syms + 226) / 227

/-- R291: a trigger at one member of its set, at time `at_`. -/
def State.triggerOne (s : State) (seq at_ i : Nat) : State :=
  let k := Fin.ofNat 24 i
  let c := s.mon.caps[k]
  match c.state with
  | .armed =>
    { s with mon := { s.mon with
        caps := upd s.mon.caps k fun c => { c with state := .filling, seq := seq, at_ := at_ } } }
  | .moving | .held =>
    let t := { s with mon := { s.mon with
        caps := upd s.mon.caps k fun c => { c with
          missed := sat32 (c.missed + 1), before := true, dropped := if bit c.cfg[0] 16 then c.dropped + 1 else c.dropped } } }
    (t.count .mon i 1).raise .mon i 0x11 (w32 seq)
  | .idle | .filling | .aborted => s

/-- R287: when a capture that is armed holds its PRE samples. -/
def State.preHeld (s : State) (i : Nat) : Nat :=
  let c := s.mon.caps[Fin.ofNat 24 i]
  c.armedAt + preNs i c.cfg

/-- R285, R291: CAP runs: control, trigger network, DMA engine. -/
def State.capRuns (s : State) : Bool := s.islandOn 75 && !s.underTest 75 && !s.islandFailed 75

/-- R287, R289, R294: the set takes the trigger: some member is armed, or is CONTINUOUS and still moves its record; no member
still fills, so that none sees a trigger that another misses; every armed member holds its PRE samples. -/
def State.setReady (s : State) (x : CapSet) : Bool :=
  let is_ := fun (st : CapState) (i : Nat) => s.mon.caps[Fin.ofNat 24 i].state == st
  let armed := x.members.filter (is_ .armed)
  let moving := x.members.any fun i => is_ .moving i && bit s.mon.caps[Fin.ofNat 24 i].cfg[0] 17
  s.capRuns && (armed != [] || moving) && !x.members.any (is_ .filling) && armed.all fun i => decide (s.preHeld i ≤ s.now)

/-- R289: a trigger instant for a set: SEQ rises, TRIG_OUT pulses, every member captures or misses. -/
def State.triggerAt (s : State) (at_ : Nat) (x : CapSet) : State :=
  let seq := (s.mon.seq + 1) % 2 ^ 32
  let t := { s with mon := { s.mon with seq := seq, trigOut := at_ } }
  x.members.foldl (fun t i => t.triggerOne seq at_ i) t

/-- R287, R289: a trigger instant now, for a set that takes it; an earlier one is ignored. -/
def State.trigger (s : State) (x : CapSet) : State := if s.setReady x then s.triggerAt s.now x else s

/-- A trigger instant for every set whose settings satisfy `p`. -/
def State.triggerSets (s : State) (p : Vector Word 8 → Bool) : State :=
  s.mon.sets.foldl (fun t x => if p x.cfg then t.trigger x else t) s

/-- R288: a trigger source other than an event, with the lane that it names where it names one. -/
def State.triggerFrom (s : State) (src : Nat) (lane : Nat) : State :=
  s.triggerSets fun cfg => fld cfg[2] 0 4 == src && fld cfg[2] 8 8 == lane

/-- R287, R288: a set armed on IMMEDIATE triggers at the end of arming: as soon as all its members are armed and hold their PRE
samples. -/
def State.immediate (s : State) (x : CapSet) : State :=
  if fld x.cfg[2] 0 4 == 0 && (x.members.all fun i => s.mon.caps[Fin.ofNat 24 i].state == .armed) && s.setReady x then
    s.triggerAt (x.members.foldl (fun m i => max m (s.preHeld i)) 0) x
  else s

def State.immediates (s : State) : State := s.mon.sets.foldl State.immediate s

/-- R288: a set is armed on the condition of an event, masked or not. -/
def CapSet.awaits (x : CapSet) (e : Cls × Nat × Nat) : Bool :=
  fld x.cfg[2] 0 4 == 2 && fld x.cfg[2] 16 12 == e.2.2 + 256 * clsCode e.1 &&
    (fld x.cfg[3] 0 12 == 0xFFF || fld x.cfg[3] 0 12 == e.2.1)

/-- R328: what a counter gains: for signal 0x00 the fired conditions of its event code and instance, for DEV signal 0x02 the
events queued. -/
def firedAmt (l : List (Cls × Nat × Nat)) (queued : Nat) (p : PerfCtr) : Nat :=
  if fld p.cfg 16 8 = 0 then
    (l.filter fun e => fld p.cfg 0 16 == e.2.1 + 4096 * clsCode e.1 && fld p.code 0 8 == e.2.2).length
  else if fld p.cfg 0 24 = 0x02_0000 then queued
  else 0

def State.unfired (s : State) : State := { s with obs := { s.obs with fired := [], seen := s.obs.queued } }

/-- R328: the conditions that have occurred, and the events queued since, are counted. -/
def State.countFired (s : State) : State :=
  { s.unfired with obs := s.unfired.perfMap fun _ p => firedAmt s.obs.fired (s.obs.queued - s.obs.seen) p }

/-- R288, R328: the conditions that have occurred are counted, and trigger the sets that await them; those that counters and
triggers raise in turn follow, for `n` turns at most. One instant gives a set one trigger (entry 88). -/
def State.fireAll : Nat → List CapSet → State → State
  | 0, _, s => s
  | n + 1, sets, s =>
    let hit := fun (x : CapSet) => s.obs.fired.any x.awaits
    if s.obs.fired.isEmpty then s
    else State.fireAll n (sets.filter fun x => !hit x) ((sets.filter hit).foldl State.trigger s.countFired)

/-- What follows a row. Only what MC and the counting hardware derive (`obs`), the captures that are triggered (`mon`) and their
counters (`stats`) can change. -/
def finish (s : State) : State :=
  let t := (if s.mcRuns then s.noteAll else s).immediates
  let u := t.fireAll (t.mon.sets.length + 64) t.mon.sets
  { s with obs := { u.obs with fired := [], seen := u.obs.queued }, mon := u.mon, stats := u.stats }

end Sys2Proof.Machine
end

