-- ==== Sys2Proof/Machine/Power.lean ====
section
/-! DEFINITION. Power domains: when the device needs one (R372), and the domains that wait for their power-up (R373). -/

namespace Sys2Proof.Machine

/-- R336: the receiver of a channel. -/
def receiverOf (ch : Nat) : Nat := ch % 16

/-- R336: the sender of a channel. -/
def senderOf (ch : Nat) : Nat := ch / 16

/-- R336: the place of a channel among the sixteen. -/
def chIx (ch : Nat) : Fin 16 := Fin.ofNat 16 (channels.findIdx (· == ch))

/-- R372: a message waits on a channel to a participant. -/
def State.waitsFor (s : State) (party : Nat) : Bool :=
  channels.any fun ch => receiverOf ch == party && s.mbx.ch[chIx ch] != []

/-- R372: the next command is a DEV command of 0x20 to 0x3F, which needs SC. -/
def State.secureNext (s : State) : Bool :=
  match s.port.waiting with
  | .good p :: _ => p.cls == .dev && decide (0x20 ≤ p.op.toNat) && decide (p.op.toNat < 0x40)
  | _ => false

/-- R372: some unit of a class is ADMIN UP or TEST. -/
def State.anyUp (s : State) (c : Cls) : Bool := (instances c).any fun i => s.isUp c i

/-- R14, R214, R372: a group in SEALED is ADMIN UP or TEST. -/
def State.sealedUp (s : State) : Bool :=
  (fins 8).any fun g => s.grp[g].mode == 3 && s.isUp .grp g

def State.sealedMode (s : State) : Bool := (fins 8).any fun g => s.grp[g].mode == 3

/-- R372: MON lane instances, without the housekeeping ADC. -/
def State.monLaneUp (s : State) : Bool := (List.range 24).any fun i => s.isUp .mon i

/-- R372: the device needs a domain. In SLEEP no lane or data-path domain is needed (R93). -/
def State.needed (s : State) (d : Nat) : Bool :=
  let awake := s.power.dev != .sleep
  if d < 16 then awake && (s.isUp .lrx (d % 8) || s.fgRuns)
  else if d < 32 then awake && (s.isUp .ltx (d % 8) || s.fgRuns)
  else if d < 48 then awake && (s.isUp .hrx (d - 32) || s.fgRuns)
  else if d < 64 then awake && (s.isUp .htx (d - 48) || s.fgRuns)
  else if d < 68 then awake && s.anyUp .grp
  else if d < 70 then awake && s.sealedUp
  else if d = 71 then s.secureNext || s.waitsFor 4 || s.sealedMode
  else if d = 73 then s.isUp .cal 0 || s.anyUp .lrx || s.monLaneUp || s.waitsFor 3
  else if d = 75 then (List.range 24).any fun i => s.admin .mon i == .up
  else false

/-- R373: the device is powering the island up because of a need; a command that needs it waits. -/
def State.comingUp (s : State) (i : Nat) : Bool := !s.islandOn i && s.dom.hostOff.getLsbD i && s.needed i

/-- R81, R82: the states in which firmware runs. -/
def State.anyRun (s : State) : Bool :=
  match s.power.dev with
  | .config | .active | .sleep | .maint => true
  | .off | .boot | .ready | .shutdown => false

end Sys2Proof.Machine
end

