-- ==== Sys2Proof/Machine/Port.lean ====
section
/-! DEFINITION. The command interface: packets, the checks of R49, targets and groups, the AUTH trailer, replies, and the
command queue (R34 to R60). -/

namespace Sys2Proof.Machine

/-! ## Status codes (R59) -/

inductive Status where
  | ok | okPartial | queued | busy | busySelftest | busyFade | retry | holdThermal | holdSupply | badCrc | badOpcode
  | badTarget | badParam | badLength | denied | locked | authFail | unitFailed | unitOff | stateConflict | collided
  | shutdown | internalError
  deriving DecidableEq, Repr

def Status.code : Status → Nat
  | .ok => 0x00 | .okPartial => 0x01 | .queued => 0x02 | .busy => 0x10 | .busySelftest => 0x11 | .busyFade => 0x12
  | .retry => 0x14 | .holdThermal => 0x15 | .holdSupply => 0x16 | .badCrc => 0x20 | .badOpcode => 0x21
  | .badTarget => 0x22 | .badParam => 0x23 | .badLength => 0x24 | .denied => 0x30 | .locked => 0x31
  | .authFail => 0x32 | .unitFailed => 0x40 | .unitOff => 0x41 | .stateConflict => 0x42 | .collided => 0x50
  | .shutdown => 0x60 | .internalError => 0x7F

/-- A refusal: its status and its payload. -/
structure Fail where
  status : Status
  pay    : List Word := []
  deriving DecidableEq, Repr

/-- R411: STATE_CONFLICT that names a unit. -/
def State.conflict (s : State) (c : Cls) (i : Nat) : Fail :=
  { status := .stateConflict, pay := [s.stateWord c i (s.recOf c i).reason, unitWord c i] }

/-- R83, R411: STATE_CONFLICT because of the device state or the configuration step. -/
def State.devConflict (s : State) (reason : Nat) : Fail :=
  { status := .stateConflict, pay := [s.stateWord .dev 0 reason, unitWord .dev 0] }

/-- R59: BAD_PARAM with the index of the first bad parameter word. -/
def badAt (i : Nat) : Fail := { status := .badParam, pay := [w32 i] }

/-- R374, R59: HOLD_THERMAL. -/
def State.holdThermal (s : State) : Fail := { status := .holdThermal, pay := [w32 s.thm.stage] }

/-- R386, R59: HOLD_SUPPLY. -/
def State.holdSupply (s : State) : Fail := { status := .holdSupply, pay := [w32 s.lowRail] }

/-! ## Commands -/

/-- What the checks and the effect of a command see of its packet, for one instance of its target. -/
structure Req where
  cls    : Cls
  inst   : Nat
  op     : Nat
  tag    : Byte
  params : List Word
  authed : Bool
  /-- Every instance that the command is to execute on. -/
  all    : List Nat := []
  deriving DecidableEq, Repr

/-- A parameter word; 0 past the end, where check 12 has already refused the packet. -/
def Req.p (r : Req) (k : Nat) : Word := r.params.getD k 0

/-- R59: the outcome of a command that reaches its execution, for one instance. -/
structure Effect where
  st     : State
  pay    : List Word := []
  status : Status := .ok
  silent : Bool := false

/-- What a class chapter says of a command, check by check (R49). A check answers none where it passes. -/
structure CmdSpec where
  op      : Nat
  /-- R412, check 7. -/
  accepts : Cls → Nat → Bool := fun _ _ => true
  /-- R50: GROUP_DEFINE and GROUP_GET. -/
  groupCmd : Bool := false
  /-- Check 8, as the DEV reason of the refusal (R82, R83). -/
  avail   : State → Req → Option Nat
  /-- R232: a secure-class command. -/
  secure  : State → Req → Bool := fun _ _ => false
  /-- R325: a counter read. -/
  counter : Bool := false
  /-- R76: an address that holds key material. -/
  denied  : State → Req → Bool := fun _ _ => false
  /-- Check 11. -/
  locked  : State → Req → Bool := fun _ _ => false
  /-- Check 12, the parameter count. -/
  count   : State → Req → Bool
  /-- Check 12, the index of the first bad parameter. -/
  bad     : State → Req → Option Nat := fun _ _ => none
  /-- Check 13: the islands, and which of its refusals the command's chapter gives it (entry 23). -/
  isl     : State → Req → List Nat := fun _ _ => []
  off     : Bool := true
  failed  : Bool := true
  test    : Bool := true
  busy    : State → Req → Option Fail := fun _ _ => none
  /-- Check 14. -/
  cond    : State → Req → Option Fail := fun _ _ => none
  act     : State → Req → Effect
  /-- R289: what follows once every instance has had its turn, for those that succeeded. -/
  after   : State → List Nat → State := fun s _ => s
  /-- R231, R364: what follows the reply of a command that succeeded. -/
  late    : State → Req → State := fun s _ => s

/-- R82: the states CONFIG, ACTIVE, SLEEP and MAINT admit the command. -/
def availRun (s : State) (_ : Req) : Option Nat :=
  if s.anyRun then none else some (s.recOf .dev 0).reason

/-- R82: READY admits the command too. -/
def availReady (_ : State) (_ : Req) : Option Nat := none

def exactly (n : Nat) (_ : State) (r : Req) : Bool := r.params.length == n

/-- The first index of a list of checks that does not hold. -/
def firstBad (l : List (Bool × Nat)) : Option Nat := (l.find? fun p => !p.1).map (·.2)

/-! ## Targets (R50 to R52) -/

/-- R50: a class that has user groups and broadcast. -/
def hasGroups : Cls → Bool
  | .dev | .cal | .mbx | .mem => false
  | .hrx | .htx | .ltx | .lrx | .grp | .fec | .seal | .mon | .thm | .bist | .perf | .tst => true

/-- R52: the mask of a user group, 0 where it is not defined. -/
def State.groupMask (s : State) (c : Cls) (k : Nat) : BitVec 128 :=
  match s.groups.find? (fun g => g.1 == c && g.2.1 == k) with
  | some g => g.2.2
  | none => 0

/-- R51: the bit of an instance in a mask. -/
def maskBit (i : Nat) : Nat := if i = 0xFE then 127 else i

/-- R50: a target that names several instances. -/
def manyTarget (i : Nat) : Bool := decide (0x800 ≤ i)

/-- R50, R52: the instances that a target names, in ascending order. -/
def State.members (s : State) (c : Cls) (i : Nat) : List Nat :=
  if i < 0x100 then (if (instances c).contains i then [i] else [])
  else if !hasGroups c then []
  else if i = 0xFFF then instances c
  else if 0x800 ≤ i ∧ i < 0x810 then (instances c).filter fun k => (s.groupMask c (i - 0x800)).getLsbD (maskBit k)
  else []

/-- R50: GROUP_DEFINE and GROUP_GET accept every user group of a class that has them. -/
def groupTarget (c : Cls) (i : Nat) : Bool := hasGroups c && decide (0x800 ≤ i) && decide (i < 0x810)

/-! ## AUTH trailers (R56 to R58) -/

/-- R41: word 0 and word 1 of a command packet, and its parameters. -/
def Packet.head (p : Packet) : List Word :=
  pk [(p.cmd.inst.toNat, 0), (clsCode p.cls, 12), (p.op.toNat, 16), (0xC5, 24)] ::
    pk [(p.cmd.params.length, 0), (p.cmd.flags.toNat, 16), (p.cmd.tag.toNat, 24)] :: p.cmd.params

/-- R56: the trailer verifies. -/
def State.verifies (s : State) (p : Packet) (a : Auth) : Bool :=
  match s.sec.session with
  | some k => decide (Config.cmac k.cmdKey (p.head ++ [a.seq]) = a.cmac) && decide (k.last < a.seq.toNat)
  | none => false

/-- R57: the sequence is consumed. -/
def State.consume (s : State) (a : Auth) : State :=
  { s with sec := { s.sec with session := s.sec.session.map fun k => { k with last := a.seq.toNat } } }

/-- R336: the channels to a participant. -/
def inbound (party : Nat) : List Nat := channels.filter fun ch => receiverOf ch == party

/-- R341: the reset of a participant (0 HOST-NS, 1 HOST-S, 2 MC, 3 CC, 4 SC): its inbound channels are flushed, a host that
sends to it hears RECEIVER_RESET, its epoch rises; a reset of HOST-NS or MC clears the legacy shared mailbox. -/
def State.partyReset (s : State) (party : Nat) : State :=
  let chans := inbound party
  let hosts := chans.filter fun ch => decide (senderOf ch < 2)
  let epoch := s.mbx.epoch[Fin.ofNat 5 party] + 1
  { s with
    stats := (chans.foldl (fun t ch => t.count .mbx ch 2 (s.mbx.ch[chIx ch].length)) s).stats
    obs := (hosts.foldl (fun t ch =>
      t.raise .mbx ch 0x11 (pk [(party, 0), (s.mbx.ch[chIx ch].length, 8), (epoch % 65536, 16)])) s).obs
    mbx :=
      { ch := vmapIx (fun k q => if receiverOf (channels.getD k 0) = party then [] else q) s.mbx.ch
        bell := vmapIx (fun h b => if hosts.any (fun ch => senderOf ch == h) then b ||| BitVec.ofNat 3 (2 ^ (party - 2)) else b)
          s.mbx.bell
        epoch := s.mbx.epoch.set (Fin.ofNat 5 party) epoch
        legacy := if party = 0 ∨ party = 2 then mbxReset.legacy else s.mbx.legacy } }

/-- R231, R341: an open session closes, with the cause that SESSION_CLOSED gives, and HOST-S is reset. -/
def State.closeSession (s : State) (why : Nat) : State :=
  let t := if s.inSession then (s.partyReset 1).raise .dev 0 0x23 (w32 why) else s
  { s with sec := { s.sec with session := none }, obs := t.obs, stats := t.stats, mbx := t.mbx }

/-- R57, R229: after sequence 0xFFFF_FFFF the session closes and SESSION_EXPIRED is raised; a session that the command
itself has opened has its own sequence and stays. -/
def State.expire (s : State) (a : Option Auth) : State :=
  match a, s.sec.session with
  | some a, some k =>
    if a.seq = 0xFFFF_FFFF ∧ k.last = 0xFFFF_FFFF then (s.raise .dev 0 0x12 0xFFFF_FFFF).closeSession 2 else s
  | _, _ => s

/-! ## Checks (R49) -/

/-- Checks 5 to 8. -/
def State.early (s : State) (sp : CmdSpec) (r : Req) : Option Fail :=
  if s.power.dev = .shutdown ∧ ¬(sp.op = 0 ∧ r.cls = .dev ∧ r.inst = 0) then some { status := .shutdown }
  else if s.members r.cls r.inst = [] ∧ !(sp.groupCmd && groupTarget r.cls r.inst) then some { status := .badTarget }
  else if sp.groupCmd && !groupTarget r.cls r.inst then some { status := .badTarget }
  else if !sp.groupCmd && (s.members r.cls r.inst).all (fun i => !sp.accepts r.cls i) then
    some { status := .badTarget }
  else match sp.avail s r with
    | some reason => some (s.devConflict reason)
    | none => none

/-- R227: a permit of the owner policy in force. -/
def State.permit (s : State) (k : Nat) : Bool := bit (s.sec.policy.getD 3 0) k

/-- R55, R57, R325, R97: check 10 and the lifecycle part of check 11. -/
def State.level (s : State) (sp : CmdSpec) (r : Req) : Option Fail :=
  if s.owned && !r.authed &&
      (sp.secure s r || (decide (0x80 ≤ sp.op) && !s.permit 1) || (sp.counter && !s.permit 0)) then
    some { status := .denied }
  else if sp.denied s r then some { status := .denied }
  else if s.lifecycle == 3 && sp.secure s r && !(sp.op == 0x30 || sp.op == 0x31) then some { status := .locked }
  else if sp.locked s r then some { status := .locked }
  else none

/-- Check 12; for several instances the first of them that finds a parameter bad decides. -/
def State.shape (s : State) (sp : CmdSpec) (r : Req) (is : List Nat) : Option Fail :=
  if !sp.count s r then some { status := .badLength }
  else (is.findSome? fun i => sp.bad s { r with inst := i }).map badAt

/-- Checks 13 for one instance: powered, not FAILED nor held, not under test, not busy. The remaining time is an estimate
(R59): a free value. -/
def State.unitCheck (s : State) (sp : CmdSpec) (r : Req) : Option Fail :=
  let l := sp.isl s r
  if sp.off && l.any (fun i => !s.islandOn i) then some { status := .unitOff }
  else if sp.failed && l.any (fun i => s.islandFailed i || s.islandHeld i) then some { status := .unitFailed }
  else if sp.test && l.any s.underTest then some { status := .busySelftest, pay := [s.freeWord] }
  else sp.busy s r

/-- Checks 13 and 14 for one instance. -/
def State.lastChecks (s : State) (sp : CmdSpec) (r : Req) : Option Fail :=
  match s.unitCheck sp r with
  | some f => some f
  | none => sp.cond s r

/-- The instances on which a command executes (R412). -/
def State.aims (s : State) (sp : CmdSpec) (r : Req) : List Nat :=
  if sp.groupCmd then [r.inst] else (s.members r.cls r.inst).filter (sp.accepts r.cls)

/-! ## Execution -/

/-- The outcome of a command: the state, and the reply it gives, if any. -/
structure Answer where
  st     : State
  status : Status
  pay    : List Word := []
  bitmap : Bool := false
  silent : Bool := false

/-- R69: how many commands wait for a unit. -/
def State.deferredOf (s : State) (c : Cls) (i : Nat) : Nat :=
  (s.port.deferred.filter fun d => d.cls == c && d.cmd.inst.toNat == i).length

/-- R45, R49, R69: a command to one instance. -/
def State.runOne (s : State) (sp : CmdSpec) (r : Req) (cmd : Cmd) : Answer :=
  match s.lastChecks sp r with
  | some f =>
    let n := s.deferredOf r.cls r.inst
    if f.status = .busySelftest ∧ (sp.isl s r).any s.underTest ∧ cmd.flags.getLsbD 2 ∧ r.cls ≠ .bist ∧ n < 4 then
      { st := { s with port := { s.port with
                  deferred := s.port.deferred ++
                    [{ op := BitVec.ofNat 8 sp.op, cls := r.cls, cmd := cmd, authed := r.authed, isl := sp.isl s r }] } },
        status := .queued, pay := [w32 (n + 1)] }
    else { st := s, status := f.status, pay := f.pay }
  | none =>
    let e := sp.act s r
    { st := if e.status = .ok then sp.after e.st [r.inst] else e.st, status := e.status, pay := e.pay, silent := e.silent }

/-- R53: what a command to several instances has gathered: state, instances that succeeded, their parts, the first failure. -/
structure Gather where
  st    : State
  done  : List Nat
  parts : List Word
  fail  : Option (Nat × Status)

/-- R53: one instance of a command to several. -/
def Gather.add (sp : CmdSpec) (r : Req) (x : Gather) (i : Nat) : Gather :=
  let q := { r with inst := i }
  match x.st.lastChecks sp q with
  | some f => { x with fail := x.fail.or (some (i, f.status)) }
  | none =>
    let e := sp.act x.st q
    if e.status = .ok then
      { st := e.st, done := x.done ++ [i], parts := x.parts ++ pk [(i, 0), (e.pay.length, 16)] :: e.pay, fail := x.fail }
    else { x with st := e.st, fail := x.fail.or (some (i, e.status)) }

/-- R51, R53: the SUCCESS mask. -/
def maskWords (is : List Nat) : List Word :=
  (List.range 4).map fun k => pk ((is.filter fun i => maskBit i / 32 == k).map fun i => (1, maskBit i % 32))

/-- R53: a command to a user group or a broadcast. -/
def State.runMany (s : State) (sp : CmdSpec) (r : Req) : Answer :=
  let x := (s.aims sp r).foldl (Gather.add sp r) { st := s, done := [], parts := [], fail := none }
  let pay := maskWords x.done ++
    (match x.fail with
     | some f => pk [(f.1, 0), (f.2.code, 16)]
     | none => 0xFFFF) :: x.parts
  if 1020 < pay.length then { st := s, status := .badLength }
  else
    let status := match x.fail with
      | none => Status.ok
      | some f => if x.done = [] then f.2 else .okPartial
    { st := sp.after x.st x.done, status := status, pay := pay, bitmap := true }

/-- R49 from check 10 on, once the trailer is settled. A command to several instances that checks 5 to 12 refuse has not
executed on any: its reply carries no bitmap (entry 69). -/
def State.runChecked (s : State) (sp : CmdSpec) (q : Req) (cmd : Cmd) : Answer :=
  let r := { q with all := s.aims sp q }
  match s.level sp r with
  | some f => { st := s, status := f.status, pay := f.pay }
  | none =>
    match s.shape sp r r.all with
    | some f => { st := s, status := f.status, pay := f.pay }
    | none => if manyTarget r.inst && !sp.groupCmd then s.runMany sp r else s.runOne sp r cmd

/-- R373: the command passes checks 5 to 12 and needs a domain that the device is powering up. -/
def State.waits (s : State) (sp : CmdSpec) (r : Req) : Bool :=
  (s.level sp r).isNone && (s.shape sp { r with all := s.aims sp r } (s.aims sp r)).isNone && sp.off &&
    (s.aims sp r).any fun i => (sp.isl s { r with inst := i }).any s.comingUp

/-- The request of a packet. -/
def Packet.req (p : Packet) : Req :=
  { cls := p.cls, inst := p.cmd.inst.toNat, op := p.op.toNat, tag := p.cmd.tag, params := p.cmd.params,
    authed := p.cmd.auth.isSome }

/-- R49: a command executes; none while it waits for a domain (R373). -/
def State.perform (s : State) (sp : CmdSpec) (p : Packet) : Option Answer :=
  let r := p.req
  match s.early sp r with
  | some f => some { st := s, status := f.status, pay := f.pay }
  | none =>
    match p.cmd.auth with
    | none => if s.waits sp r then none else some (s.runChecked sp r p.cmd)
    | some a =>
      if s.verifies p a then
        if s.waits sp r then none
        else
          let x := (s.consume a).runChecked sp r p.cmd
          some { x with st := x.st.expire (some a) }
      else some { st := (s.count .dev 0 3).raise .dev 0 0x11 a.seq, status := .authFail }

/-! ## Replies (R42, R58) -/

/-- R42, R58: a reply; `key` is the reply key and the sequence of a command whose trailer verified. -/
def State.reply (s : State) (key : Option (Key × Word)) (status : Nat) (target : BitVec 16) (tag : Byte) (bitmap : Bool)
    (pay : List Word) : List Word :=
  let flags := b2n (s.obs.queue != []) + 2 * b2n key.isSome + 4 * b2n bitmap
  let body := pk [(target.toNat, 0), (status, 16), (0x5C, 24)] :: pk [(pay.length, 0), (flags, 16), (tag.toNat, 24)] ::
    lohi s.now ++ pay
  let full := match key with
    | none => body
    | some k =>
      let m := body ++ [k.2]
      let c := Config.cmac k.1 m
      m ++ [c.extractLsb' 0 32, c.extractLsb' 32 32, c.extractLsb' 64 32, c.extractLsb' 96 32]
  full ++ [crcWords full]

/-- R41: class and instance of a packet. -/
def Packet.target (p : Packet) : BitVec 16 := BitVec.ofNat 16 (p.cmd.inst.toNat + 4096 * clsCode p.cls)

/-- R58: the key and the sequence with which the reply to a packet is signed: those of a trailer that verified, in a
packet that passed checks 5 to 8. -/
def State.signer (s : State) (sp : CmdSpec) (p : Packet) : Option (Key × Word) :=
  match p.cmd.auth, s.sec.session with
  | some a, some k => if (s.early sp p.req).isNone && s.verifies p a then some (k.rplKey, a.seq) else none
  | _, _ => none

/-- R46, R47: the packet at the head of the queue has been executed: its reply takes its slot, or the slot is free. The
model's counter of free values moves on. -/
def State.deliver (s : State) (key : Option (Key × Word)) (p : Packet) (x : Answer) : State :=
  if x.silent then x.st
  else
    let t := x.st
    let quiet := x.status = .ok ∧ p.cmd.flags.getLsbD 1
    { t with
      free := t.free + 1
      port := { t.port with
        waiting := s.port.waiting.tail
        replies :=
          if quiet then t.port.replies
          else t.port.replies ++ [t.reply key x.status.code p.target p.cmd.tag x.bitmap x.pay] } }

/-! ## The queue -/

/-- R61 and the catalogues of the class chapters: the opcodes of a class. -/
def opcodes : Cls → List Nat
  | .dev => [0x10, 0x11, 0x12, 0x13, 0x14, 0x15, 0x16, 0x17, 0x20, 0x21, 0x22, 0x23, 0x24, 0x25, 0x26, 0x27, 0x28, 0x29,
             0x30, 0x31, 0x32, 0x33, 0x34, 0x40, 0x41, 0x44, 0x80, 0x81]
  | .hrx => [0x10, 0x11, 0x12, 0x13, 0x80, 0x81, 0x82, 0x83, 0x84]
  | .htx => [0x10, 0x11, 0x80, 0x81, 0x82]
  | .ltx => [0x10, 0x11, 0x12, 0x13, 0x14, 0x80, 0x81, 0x82, 0x83, 0x84]
  | .lrx => [0x10, 0x11, 0x12, 0x13, 0x14, 0x15, 0x16, 0x17, 0x80, 0x81, 0x82, 0x83, 0x84, 0x85, 0x86]
  | .grp => [0x10, 0x11, 0x12, 0x13, 0x14]
  | .fec => [0x10, 0x11, 0x12]
  | .seal => [0x10, 0x11, 0x12, 0x13, 0x80, 0x81]
  | .cal => [0x10, 0x11, 0x80, 0x81, 0x82, 0x83]
  | .mon => [0x10, 0x11, 0x12, 0x13, 0x14, 0x15, 0x80, 0x81, 0x82, 0x83, 0x84]
  | .thm => [0x10, 0x11, 0x12, 0x13, 0x14, 0x15, 0x80]
  | .bist => [0x10, 0x11, 0x12, 0x80]
  | .perf => [0x10, 0x11, 0x80]
  | .mbx => [0x10, 0x11, 0x12, 0x13, 0x14, 0x15, 0x80]
  | .mem => [0x10, 0x11, 0x80, 0x81, 0x82]
  | .tst => [0x10, 0x11, 0x12, 0x80, 0x81, 0x82]

/-- R36, R42, R49: a packet's bytes are taken apart: checks 1 to 4. A packet shorter than one word echoes the TARGET that
its bytes give with zeros for the missing ones (entry 68). -/
def parsePacket (bs : List Byte) : Waiting :=
  let ws := bytesWords bs
  let w0 := ws.getD 0 0
  let w1 := ws.getD 1 0
  let target := BitVec.ofNat 16 w0.toNat
  let tag : Byte := if 8 ≤ bs.length then BitVec.ofNat 8 (fld w1 24 8) else 0
  let n := fld w1 0 16
  let auth := bit w1 16
  let len := ws.length
  if bs.length % 4 ≠ 0 ∨ len < 3 then .bad Status.badLength.code target tag
  else if crcWords ws.dropLast ≠ ws.getLastD 0 then .bad Status.badCrc.code target tag
  else if fld w0 24 8 ≠ 0xC5 then .bad Status.badCrc.code target tag
  else if 1020 < n ∨ len ≠ n + 3 + (if auth then 5 else 0) then .bad Status.badLength.code target tag
  else
    .good
      { op := BitVec.ofNat 8 (fld w0 16 8), cls := clsOf (fld w0 12 4),
        cmd :=
          { inst := BitVec.ofNat 12 (fld w0 0 12), tag := tag, flags := BitVec.ofNat 8 (fld w1 16 8),
            params := (ws.drop 2).take n,
            auth :=
              if auth then
                some { seq := ws.getD (n + 2) 0,
                       cmac := (ws.getD (n + 6) 0) ++ (ws.getD (n + 5) 0) ++ (ws.getD (n + 4) 0) ++ (ws.getD (n + 3) 0) }
              else none } }

/-- R61: whether an opcode is defined for a class. -/
def opDefined (c : Cls) (op : Nat) : Bool := decide (op < 0x08) || op == 0x0E || op == 0x0F || (opcodes c).contains op

/-- R49: the reply to a packet whose opcode its class does not define. -/
def State.undefinedOp (s : State) (p : Packet) : Status :=
  if s.power.dev = .shutdown then .shutdown
  else if s.members p.cls p.cmd.inst.toNat = [] then .badTarget
  else .badOpcode

/-- R46: a packet at the head of the queue that no row of the table executes is answered: one refused by checks 1 to 4,
and one with an undefined opcode. -/
def State.settleOne (s : State) : State :=
  match s.port.waiting with
  | .bad st target tag :: rest =>
    { s with
      stats := if st = Status.badCrc.code then (s.count .dev 0 2).stats else s.stats
      port := { s.port with
        waiting := rest, replies := s.port.replies ++ [s.reply none st target tag false []] } }
  | .good p :: rest =>
    if opDefined p.cls p.op.toNat then s
    else
      { s with port := { s.port with
          waiting := rest
          replies := s.port.replies ++ [s.reply none (s.undefinedOp p).code p.target p.cmd.tag false []] } }
  | [] => s

/-- At most four packets wait (R46). -/
def State.settle (s : State) : State := s.settleOne.settleOne.settleOne.settleOne

/-- R36, R40, R46: a packet arrives. It is discarded while READY is 0 or JTAG holds the balls (R404), discarded and
counted while QFREE is 0, and taken in otherwise. -/
def State.takeIn (s : State) (w : Waiting) : State :=
  if !s.ready || s.scanHolds then s
  else if s.qfree = 0 then
    let t := (s.count .dev 0 1).raise .dev 0 0x10 (w32 (sat32 (s.port.dropped + 1)))
    { t with port := { t.port with
        dropped := if t.obs.queued = s.obs.queued then sat32 (s.port.dropped + 1) else 0 } }
  else
    let t : State := { s with port := { s.port with waiting := s.port.waiting ++ [w] } }
    (t.count .dev 0 0).signal .dev 0 1 1

/-- R46, R49: a host command. Its packet is taken in, unless it already stands at the head of the queue, and it executes
when it is the next in order; otherwise it keeps its place. -/
def hostRow (dt : Nat) (sp : CmdSpec) (c : Cls) (cmd : Cmd) (s : State) : State :=
  let p : Packet := { op := BitVec.ofNat 8 sp.op, cls := c, cmd := cmd }
  let a := s.advance dt
  let b := if a.port.waiting.head? = some (.good p) then a else a.takeIn (.good p)
  let d :=
    if b.port.waiting.head? = some (.good p) ∧ b.ready then
      match b.perform sp p with
      | some x =>
        let t := b.deliver (b.signer sp p) p x
        if x.status = .ok then sp.late t p.req else t
      | none => b
    else b
  finish d.settle

/-- The outcome of a row that has its effect. -/
abbrev done (s : State) : Host.Outcome State Fault Refusal := .next s

end Sys2Proof.Machine
end

