-- ==== Sys2Proof/Machine/Setup.lean ====
section
/-! DEFINITION. What several families share: the configuration steps (R90, R91), and small forms of command
specifications. -/

namespace Sys2Proof.Machine

/-! ## Configuration steps -/

/-- R91: the refusal of a command of step `k` in CONFIG. -/
def State.stepRefused (s : State) (k : Nat) : Option Fail :=
  if s.power.dev ≠ .config then none
  else match s.missingStep k with
    | some j => some (s.devConflict (stepReason j))
    | none => if k < s.setup.step then some (s.devConflict 0x10) else none

/-- R91: step `k` begins. -/
def State.beginStep (s : State) (k : Nat) : State :=
  { s with setup := { s.setup with step := if s.power.dev = .config then k else s.setup.step } }

/-! ## Forms of command specifications -/

/-- The islands of the addressed unit. -/
def ownIsl (_ : State) (r : Req) : List Nat := unitIslands r.cls r.inst

/-- Answered from MC's records or recorded settings: check 13 never refuses it. -/
def noIsl (_ : State) (_ : Req) : List Nat := []

/-- R49, check 14: a refusal unless a condition holds. -/
def require (b : Bool) (f : Fail) : Option Fail := if b then none else some f

/-- Check 14: the unit's ADMIN is one of a list, or STATE_CONFLICT names it. -/
def adminIn (l : List Admin) (s : State) (r : Req) : Option Fail :=
  require (l.contains (s.admin r.cls r.inst)) (s.conflict r.cls r.inst)

/-- The bits of a parameter word from `lo` upward are RSVD. -/
def clear (w : Word) (lo : Nat) : Bool := fld w lo (32 - lo) == 0

/-- A command that only answers. -/
def answer (f : State → Req → List Word) (s : State) (r : Req) : Effect := { st := s, pay := f s r }

/-- A command that changes the state and answers nothing. -/
def change (f : State → Req → State) (s : State) (r : Req) : Effect := { st := f s r }

end Sys2Proof.Machine
end

