-- ==== Sys2Proof/Machine/CalOps.lean ====
section
/-! DEFINITION. Calibration: its lanes, trim points and rounds (R263 to R280), as far as other families act on them. -/

namespace Sys2Proof.Machine

/-! ## Lanes: 0 to 7 LRX, 8 to 23 HRX, 24 to 31 LTX, 32 to 47 HTX -/

/-- The unit of a calibration lane. -/
def calUnit (k : Nat) : Cls × Nat :=
  if k < 8 then (.lrx, k) else if k < 24 then (.hrx, k - 8) else if k < 32 then (.ltx, k - 24) else (.htx, k - 32)

/-- R282: the code of a lane, and the lane of a code. -/
def calCode (k : Nat) : Nat :=
  if k < 8 then k else if k < 24 then 0x10 + (k - 8) else if k < 32 then 0x20 + (k - 24) else 0x30 + (k - 32)

def calLane (code : Nat) : Option (Fin 48) :=
  if code < 0x08 then some (Fin.ofNat 48 code)
  else if 0x10 ≤ code ∧ code < 0x20 then some (Fin.ofNat 48 (code - 0x10 + 8))
  else if 0x20 ≤ code ∧ code < 0x28 then some (Fin.ofNat 48 (code - 0x20 + 24))
  else if 0x30 ≤ code ∧ code < 0x40 then some (Fin.ofNat 48 (code - 0x30 + 32))
  else none

def calIslands (k : Nat) : List Nat := unitIslands (calUnit k).1 (calUnit k).2

/-- The lane is a receiver. -/
def calRx (k : Nat) : Bool := decide (k < 24)

/-- R263: slices of an ADC lane, or cells per phase of a DAC lane. -/
def calElems (k : Nat) : Nat := if k < 8 then 136 else if k < 24 then 72 else 260

/-- R263: DAC phases of a lane; 1 for an ADC lane. -/
def calPhases (k : Nat) : Nat := if k < 24 then 1 else if k < 32 then 4 else 2

def State.setCal (s : State) (k : Fin 48) (f : CalLane → CalLane) : State :=
  { s with cal := { s.cal with lanes := upd s.cal.lanes k f } }

/-! ## Trim points (R263 to R266) -/

/-- The key of a trim point (entry 21), and the lane, KIND and element of a key. -/
def trimKey (lane kind elem idx : Nat) : Nat := ((lane * 4 + kind) * 2048 + elem) * 32 + idx
def keyLane (key : Nat) : Nat := key / 262144
def keyKind (key : Nat) : Nat := key / 65536 % 4
def keyElem (key : Nat) : Nat := key / 32 % 2048

/-- R281: the forced values of a lane that meet `p` apply. -/
def State.applyForcedAt (s : State) (k : Fin 48) (p : Nat → Bool) : State :=
  let mine := fun (q : Nat × BitVec 16) => keyLane q.1 == k.val && p q.1
  { s with cal := { s.cal with
    trims := (s.cal.toForce.filter mine).foldl (fun t q => insertKey q.1 q.2 t) s.cal.trims
    toForce := s.cal.toForce.filter fun q => !mine q } }

/-- R281: the forced values of a lane apply. -/
def State.applyForced (s : State) (k : Fin 48) : State := s.applyForcedAt k fun _ => true

/-! ## Spares (R278, R279). The spares of an ADC lane, or of a DAC phase, are its last elements (entry 84). -/

/-- The phase of a converter element; 0 for an ADC lane. -/
def calPhase (k elem : Nat) : Nat := if k < 24 then 0 else elem / 260

/-- R279: sympathetic slices of an ADC lane, or spare cells of a DAC phase. -/
def calSpares (k : Nat) : Nat := if k < 24 then 8 else 4

def isSpare (k elem : Nat) : Bool := decide (calElems k - calSpares k ≤ elem % calElems k)

/-- R279: the spares of a phase that retirement has taken. -/
def State.calRetired (s : State) (k : Fin 48) (ph : Nat) : Nat :=
  (s.cal.lanes[k].retired.filter fun p => calPhase k p.2 == ph).length

/-- R279: the elements of a phase that repairs in force have taken out, each for one spare; one spare stays free (entry 85). -/
def State.calRepaired (s : State) (k : Fin 48) (ph : Nat) : List Nat :=
  (s.cal.repairs.filterMap fun w =>
    let q := Config.repairSpare w
    let e := q.2 % (calElems k * calPhases k)
    if q.1 = k ∧ calPhase k e = ph then some e else none).take (calSpares k - 1 - s.calRetired k ph)

/-- R279: the free spares of a phase of a DAC lane, or of an ADC lane. -/
def State.calFree (s : State) (k : Fin 48) (ph : Nat) : Nat :=
  calSpares k - s.calRetired k ph - (s.calRepaired k ph).length

/-- R268, R282: the free spares of the phase with the fewest. -/
def State.fewestFree (s : State) (k : Fin 48) : Nat :=
  (List.range (calPhases k)).foldl (fun a p => if s.calFree k p < a then s.calFree k p else a) 8

/-- R278: the element holds a position for good: a spare only where it has taken one over, another until a spare has taken
over. The spares that repairs have taken are the last ones (entry 84). -/
def State.calHolds (s : State) (k : Fin 48) (e : Nat) : Bool :=
  let gone := s.cal.lanes[k].gone
  let rep := s.calRepaired k (calPhase k e)
  (!isSpare k e || gone.any (·.2 == some e) || decide (calElems k - rep.length ≤ e % calElems k)) &&
    !gone.any (·.1 == e) && !rep.contains e

/-- R279: the spares of a phase that hold no position and are not gone, lowest first. -/
def State.spareSet (s : State) (k : Fin 48) (ph : Nat) : List Nat :=
  ((List.range (calSpares k)).map fun i => ph * 260 + (calElems k - calSpares k + i)).filter fun e =>
    !s.calHolds k e && !s.cal.lanes[k].gone.any (·.1 == e) && !(s.calRepaired k ph).contains e

/-- R267, R268: the spares that stand in for the elements out of service of a phase: the lowest ones that are not out themselves
(entry 84). -/
def State.standIns (s : State) (k : Fin 48) (ph : Nat) : List Nat :=
  let out := s.cal.lanes[k].out
  ((s.spareSet k ph).filter fun e => !out.contains e).take
    (out.filter fun e => calPhase k e == ph && s.calHolds k e).length

/-- R278: a retired element has left service; a spare takes over the position it held. -/
def State.replaced (s : State) (k : Fin 48) (e : Nat) : State :=
  let free := s.spareSet k (calPhase k e)
  let sp := if s.calHolds k e then (free.find? fun x => !s.cal.lanes[k].out.contains x).or free.head? else none
  s.setCal k fun c => { c with gone := c.gone ++ [(e, sp)] }

/-! ## Steps (R267, R268) -/

/-- R268: the elements of a phase that a step takes: one slice of an ADC lane; of a DAC phase with c free spares
min(nominal, c) cells. -/
def State.calStep (s : State) (k : Fin 48) (ph : Nat) : Nat :=
  if k.val < 24 then 1 else max 1 (min (if k.val < 32 then 2 else 4) (s.calFree k ph))

/-- R267: the elements of a phase whose turn it is, in ascending physical index, which wraps. -/
def State.calTurn (s : State) (k : Fin 48) (ph : Nat) : List Nat :=
  let n := s.cal.lanes[k].next.toList.getD ph 0
  (List.range (s.calStep k ph)).map fun i => ph * 260 + (n + i) % calElems k

def State.hasLeft (s : State) (k : Fin 48) (e : Nat) : Bool := s.cal.lanes[k].retired.any (·.2 == e)

/-- R281: the converter elements of a phase (or the PI entries) with a forced value that waits. -/
def State.forcedElems (s : State) (k : Fin 48) (p : Nat → Bool) : List Nat :=
  ((s.cal.toForce.map (·.1)).filterMap fun q => if keyLane q = k.val ∧ p q then some (keyElem q) else none).eraseDups

/-- R267, R268, R281: the elements out of service in a step: those with a forced value first, then those whose turn it is,
as far as spares stand in (entry 84). -/
def State.calOut (s : State) (k : Fin 48) : List Nat :=
  (List.range (calPhases k)).flatMap fun ph =>
    let c := s.calFree k ph
    let f := ((s.forcedElems k fun q => decide (keyKind q < 2) && calPhase k (keyElem q) == ph).filter
      fun e => !s.hasLeft k e).take c
    f ++ ((s.calTurn k ph).filter fun e => !s.hasLeft k e && !f.contains e).take (c - f.length)

/-- R268, R281: the PI entries of a step: the next 16, and those with a forced value. -/
def State.calPiOut (s : State) (k : Fin 48) : List Nat :=
  let n := if calRx k then 256 else 64
  let f := s.forcedElems k fun q => decide (2 ≤ keyKind q)
  f ++ ((List.range 16).map fun i => (16 * s.cal.lanes[k].steps + i) % n).filter fun e => !f.contains e

/-- R267: the element is out of service in the present step of its lane. -/
def State.elemOut (s : State) (k : Fin 48) (kind elem : Nat) : Bool :=
  if kind < 2 then s.cal.lanes[k].out.contains elem else s.cal.lanes[k].piOut.contains elem

/-- R267, R269, R278, R281, R326: the swap: the calibrated elements return with their forced values, retired ones are
replaced, and the next ones leave service. -/
def State.swap (s : State) (k : Fin 48) : State :=
  let c := s.cal.lanes[k]
  let leave := ((c.retired.take c.leaving ++ c.retired.filter fun p => c.out.contains p.2).map (·.2)).eraseDups.filter
    fun e => !c.gone.any (·.1 == e)
  let a := s.applyForcedAt k fun q => s.elemOut k (keyKind q) (keyElem q)
  let b := a.setCal k fun c => { c with out := a.calOut k, piOut := a.calPiOut k, swapDue := false }
  ((leave.foldl (fun t e => t.replaced k e) b).count .cal 0 2).signal .cal 0 3 1

/-! ## Rounds (R267, R277) -/

/-- R29: CC runs, which owns calibration, adaptation scheduling, shadow evaluation, monitor and capture control. -/
def State.ccRuns (s : State) : Bool := s.anyRun && s.islandOn 73 && !s.isolated 73 && !s.islandFailed 73

/-- R267, R277: rounds run. -/
def State.calRuns (s : State) : Bool :=
  s.cal.fgDone && !s.fgRuns && !s.supplyHeld && s.ccRuns &&
    (s.admin .cal 0 == .up || s.cal.finishing)

/-- R272, R273, R277: nothing keeps the lane out of rounds but a fade. -/
def State.calJoins (s : State) (k : Fin 48) : Bool :=
  let c := s.cal.lanes[k]
  !c.frozen && !c.starved && c.foreground.isNone &&
    (calIslands k).all fun i => s.islandOn i && !s.isolated i && !s.islandFailed i

/-- A cross-fade runs on the lane (R277). -/
def State.fadeOn (s : State) (k : Fin 48) : Bool := decide (k.val < 8) && s.lrx[Fin.ofNat 8 k.val].fade.isSome

/-- R267, R277, R281: the round that is due begins: lanes take part as things stand; on those that do, the elements with a
forced value leave service too. It is called before anything that changes who takes part. -/
def State.roundOpens (s : State) : State :=
  match s.cal.round with
  | none => s
  | some t =>
    if s.cal.live || s.now < t || !s.calRuns then s
    else
      let p := fun k => s.calJoins k && !s.fadeOn k
      { s with cal := { s.cal with
        live := true
        lanes := vmapIx (fun n c =>
          let k := Fin.ofNat 48 n
          if p k then { c with part := true, waits := false, out := s.calOut k, piOut := s.calPiOut k, leaving := c.retired.length }
          else { c with part := false, waits := s.fadeOn k }) s.cal.lanes } }

/-- R267, R275, R277: rounds begin, or begin again, where none is in progress. -/
def State.roundsResume (s : State) : State :=
  if s.calRuns && !s.cal.live then ({ s with cal := { s.cal with round := some s.now } } : State).roundOpens else s

/-- R277: no round is in progress and none is due. -/
def State.roundsStop (s : State) : State :=
  { s with cal := { s.cal with
    round := none, live := false, finishing := false, lanes := s.cal.lanes.map fun c => { c with part := false } } }

/-- The lane has a step in the round in progress. -/
def State.inStep (s : State) (k : Fin 48) : Bool := s.calRuns && s.cal.live && s.cal.lanes[k].part

/-- R277: the step of one lane is voided. -/
def State.voidLane (s : State) (k : Fin 48) (cause : Nat) : State :=
  let a := s.roundOpens
  if a.inStep k then
    (a.setCal k fun c => { c with part := false, voided := sat32 (c.voided + 1) }).raise .cal 0 0x15
      (pk [(cause, 0), (calCode k, 8)])
  else a

/-- R277: the round in progress is voided for the whole device; after a change of CALREF the next begins at once. -/
def State.voidAll (s : State) (cause : Nat) : State :=
  let a := s.roundOpens
  let u : State :=
    if a.calRuns && a.cal.live then
      let t : State := { a with cal := { a.cal with
        lanes := a.cal.lanes.map fun c => if c.part then { c with voided := sat32 (c.voided + 1) } else c
        voided := sat32 (a.cal.voided + 1) } }
      ((t.count .cal 0 1).signal .cal 0 2 1).raise .cal 0 0x15 (pk [(cause, 0), (0xFF, 8)])
    else a
  if cause = 2 then u.roundsStop.roundsResume else u.roundsStop

/-- R171, R173, R277: a fade has ended: a swap that fell due takes place. -/
def State.fadeOver (s : State) (l : Fin 8) : State :=
  let k := Fin.ofNat 48 l.val
  if s.cal.lanes[k].swapDue then s.swap k else s

/-! ## The internal test source (R274) -/

/-- Signal detect of a receiving lane. -/
def State.calSd (s : State) (k : Nat) : Bool := if k < 8 then s.lrx[Fin.ofNat 8 k].sd else s.hrx[Fin.ofNat 16 (k - 8)].sd

/-- R274: the lane is to be calibrated from the test source. -/
def State.wantsSource (s : State) (k : Fin 48) : Bool :=
  let u := calUnit k
  !s.isUp u.1 u.2 || (!s.calSd k && decide (s.cal.lanes[k].sdOffAt + 10000000 ≤ s.now))

/-- R274: the source is connected to a lane that goes ADMIN DOWN, and disconnected, with its round voided, from a lane that
no longer needs it. -/
def State.sourceCheck (s : State) (k : Fin 48) : State :=
  let u := calUnit k
  if s.fgRuns then s
  else if s.cal.lanes[k].internal && !s.wantsSource k then (s.voidLane k 5).setCal k fun c => { c with internal := false }
  else if !s.isUp u.1 u.2 then s.setCal k fun c => { c with internal := true }
  else s

/-! ## TRACED (R276) -/

/-- R276: the conditions of TRACED. -/
def State.tracedNow (s : State) : Bool :=
  s.cal.refInUse && s.cal.fgDone && (fins 48).all fun k => !(calIslands k).all s.islandOn || s.cal.lanes[k].swept

/-- R276: TRACED is brought up to date; CAL_TRACED is raised when it becomes 1. -/
def State.traceCheck (s : State) : State :=
  let now1 := s.tracedNow
  ({ s with cal := { s.cal with traced := now1 } } : State).raiseIf (now1 && !s.cal.traced) .cal 0 0x14 0

/-- R275: a reading of CALREF, in 0.1 mV. -/
def State.calrefRead (s : State) (v : Nat) : State :=
  let inside := decide (4950 ≤ v) && decide (v ≤ 5050)
  let t : State := { s with cal := { s.cal with calref := v, refGood := if inside then s.cal.refGood + 1 else 0 } }
  if s.cal.refInUse && !inside then
    let u := t.voidAll 2
    let w : State := { u with cal := { u.cal with
      refInUse := false, lanes := u.cal.lanes.map fun c => { c with swept := false, steps := 0, covered := .replicate 4 0 } } }
    (w.raise .cal 0 0x13 (if v ≤ 500 then 1 else 2)).traceCheck
  else t

end Sys2Proof.Machine
end

