-- ==== Sys2Proof/Machine/HostLanes.lean ====
section
/-! DEFINITION. Host lanes (R103 to R129): the board table, HRX, HTX, their commands, and what happens on the lanes. -/

namespace Sys2Proof.Machine

/-! ## Board table (R107 to R111) -/

def State.tableWord (s : State) (k : Nat) : Word := s.board.getD k 0

/-- R107: PROFILES; 0 with no table. -/
def State.profiles (s : State) : Nat := fld (s.tableWord 1) 8 4

/-- R107, R118: HMI_WARN. -/
def State.hmiWarn (s : State) : Int := sfld (s.tableWord 4) 0 12

/-- R107: the DEFAULT profile of lane Hn. -/
def State.defaultProfile (s : State) (n : Nat) : Nat := fld (s.tableWord 5) (2 * n) 2

/-- R107, R108: word `k` of the HRX entry of lane Hn in profile `p`. -/
def State.hrxEntry (s : State) (p n k : Nat) : Word := s.tableWord (8 + 192 * p + 8 * n + k)

/-- R107, R109: word `k` of the HTX entry. -/
def State.htxEntry (s : State) (p n k : Nat) : Word := s.tableWord (8 + 192 * p + 128 + 4 * n + k)

/-- A signed byte of a word. -/
def sbyte (w : Word) (k : Nat) : Int := sfld w (8 * k) 8

/-- A number lies in a range. -/
def within (lo hi v : Int) : Bool := decide (lo ≤ v) && decide (v ≤ hi)

/-- R108: tap `k` of sixteen packed in words. -/
def tapOf (f : Nat → Word) (k : Nat) : Int := sbyte (f (k / 4)) (k % 4)

/-- R108: the checks of an HRX entry, with the word each belongs to. -/
def hrxEntryChecks (f : Nat → Word) (base : Nat) : List (Bool × Nat) :=
  let main := fld (f 1) 0 4
  [(decide (fld (f 0) 0 8 ≤ 20) && decide (fld (f 0) 8 8 ≤ 63) && decide (fld (f 0) 16 8 ≤ 60) && clear (f 0) 28, base),
   (decide (2 ≤ main) && decide (main ≤ 8) && clear (f 1) 4, base + 1),
   (decide (0 < tapOf (fun k => f (2 + k)) main), base + 2 + main / 4),
   (clear (f 6) 8, base + 6), (clear (f 7) 8, base + 7)]

/-- R109: the sum of the magnitudes of the six taps. -/
def firSum (w0 w1 : Word) : Nat :=
  (sbyte w0 0).natAbs + (sbyte w0 1).natAbs + (sbyte w0 2).natAbs + (sbyte w0 3).natAbs + (sbyte w1 0).natAbs +
    (sbyte w1 1).natAbs

/-- R109: the checks of words 0 to 2 of an HTX entry. -/
def firChecks (w0 w1 w2 : Word) (base : Nat) : List (Bool × Nat) :=
  [(within (-64) 64 (sbyte w0 0) && within (-64) 64 (sbyte w0 1) && within (-64) 64 (sbyte w0 2) &&
      within 48 127 (sbyte w0 3) && decide (firSum w0 w1 ≤ 128), base),
   (within (-64) 64 (sbyte w1 0) && within (-64) 64 (sbyte w1 1) && decide (fld w1 16 8 ≤ 75) && clear w1 25, base + 1),
   (within (-32) 31 (sbyte w2 0) && within (-32) 31 (sbyte w2 1) && clear w2 16, base + 2)]

/-- R109: the checks of an HTX entry. -/
def htxEntryChecks (f : Nat → Word) (base : Nat) : List (Bool × Nat) :=
  firChecks (f 0) (f 1) (f 2) base ++ [(f 3 == 0, base + 3)]

/-- R110: the checks of a board table, in order. -/
def boardChecks (t : List Word) : List (Bool × Nat) :=
  let w := fun k => t.getD k 0
  let p := fld (w 1) 8 4
  let len := 8 + 192 * p + 1
  [(w 0 == 0x4D42_4C31, 0), (fld (w 1) 0 8 == 1, 1), (decide (1 ≤ p) && decide (p ≤ 4), 1),
   (fld (w 1) 16 16 == t.length && fld (w 1) 16 16 == len, 1),
   (crcWords t.dropLast == t.getLastD 0, t.length - 1),
   (fld (w 1) 12 4 == 0, 1), (clear (w 4) 12, 4),
   ((List.range 16).all (fun n => decide (fld (w 5) (2 * n) 2 < p)), 5), (w 6 == 0, 6), (w 7 == 0, 7)] ++
  (List.range p).flatMap fun q =>
    ((List.range 16).flatMap fun n =>
      let b := 8 + 192 * q + 8 * n
      hrxEntryChecks (fun k => w (b + k)) b) ++
    ((List.range 16).flatMap fun n =>
      let b := 8 + 192 * q + 128 + 4 * n
      htxEntryChecks (fun k => w (b + k)) b)

/-! ## State of the lanes -/

def State.setHrx (s : State) (n : Fin 16) (f : Hrx → Hrx) : State := { s with hrx := upd s.hrx n f }

def State.setHtx (s : State) (n : Fin 16) (f : Htx → Htx) : State := { s with htx := upd s.htx n f }

def hostLane (i : Nat) : Fin 16 := Fin.ofNat 16 i

/-- R106, R114 step 2: the equaliser settings that a profile seeds, as an EQ block (R125). -/
def State.seedEq (s : State) (p n : Nat) : Vector Word 5 :=
  let w0 := s.hrxEntry p n 0
  let dfe := if bit w0 26 then fld (s.hrxEntry p n 6) 0 8 else 0
  Vector.ofFn fun k =>
    if k.val = 0 then pk [(fld w0 0 8, 0), (fld w0 8 8, 8), (dfe, 16), (fld (s.hrxEntry p n 1) 0 4, 24)]
    else s.hrxEntry p n (1 + k.val)

/-- R115: the polarity that the table or the override gives (override 0 TABLE, 1 NORMAL, 2 INVERTED, 3 AUTO). -/
def State.basePol (s : State) (n : Fin 16) : Bool :=
  match s.hrx[n].pol with
  | 1 => false
  | 2 => true
  | _ => bit (s.hrxEntry s.hrx[n].profile n 0) 24

/-- R115: the starting polarity of an acquisition. -/
def State.startPol (s : State) (n : Fin 16) : Bool := s.hrx[n].kept.getD (s.basePol n)

/-- R115: the lane searches for its polarity. -/
def State.searches (s : State) (n : Fin 16) : Bool :=
  !s.hrx[n].manual && (s.hrx[n].pol == 3 || (s.hrx[n].pol == 0 && bit (s.hrxEntry s.hrx[n].profile n 0) 25))

/-- R105, R114: a lane without timing lock; a low-margin condition ends with its counts and no event (entry 74). -/
def Hrx.unlock (h : Hrx) : Hrx :=
  { h with timing := false, amLock := false, deskewed := false, range := false, hmi := 0x800, lowCount := 0,
           okCount := 0, lowMargin := false }

/-- R114 steps 1 and 2: an acquisition begins: seeds loaded, frozen or not; starting polarity in use, no polarity searched
for yet (entry 73). -/
def State.acquireHrx (s : State) (n : Fin 16) : State :=
  s.setHrx n fun h =>
    { h.unlock with
      inverted := s.startPol n, searched := false, acqStart := s.now, eq := s.seedEq h.profile n }

/-- R5, R104, R106, R125: the EQ block that adaptation leaves: the CTLE within two codes of its table value with ADAPT_CTLE and
at its table value without, no DFE tap without DFE_EN, RSVD 0. -/
def State.adaptedEq (s : State) (n : Fin 16) (m : Vector Word 5) : Vector Word 5 :=
  let e := s.hrxEntry s.hrx[n].profile n 0
  let c := fld e 0 8
  let ctle := if bit e 27 then max (c - 2) (min (min 20 (c + 2)) (fld m[0] 0 8)) else c
  m.set 0 (pk [(ctle, 0), (min 63 (fld m[0] 8 8), 8), (if bit e 26 then fld m[0] 16 8 else 0, 16),
    (max 2 (min 8 (fld m[0] 24 4)), 24)])

/-- R114, R115: step 5 starts afresh. -/
def Hrx.remark (h : Hrx) : Hrx := { h with amLock := false, deskewed := false, range := false }

/-- R108, R129: the SD_THRESH code in use. -/
def State.sdThresh (s : State) (n : Fin 16) : Nat := fld (s.hrxEntry s.hrx[n].profile n 0) 16 8

/-- R22: the group's loop is locked or in holdover. -/
def State.groupFreq (s : State) (n : Fin 16) : Bool :=
  match s.hostGroup n with
  | some (g, _) => s.grp[Fin.ofNat 8 g].hasFreq
  | none => false

/-- R64, R111, R114, R119, R129: ADMIN of a host receiver changes. -/
def State.adminHrxLane (s : State) (i : Nat) (a : Admin) : State :=
  let n := hostLane i
  let old := s.admin .hrx n
  let t := s.setAdmin .hrx n a
  if a = .down then t.setHrx n fun h => { h.unlock with slip := if old = .test then 0 else h.slip }
  else if old = .down then
    let u := t.setHrx n fun h => { h with profile := h.chosen.getD (s.defaultProfile n) }
    (u.acquireHrx n).raiseIf s.hrx[n].sd .hrx n 0x11 (w32 (u.sdThresh n))
  else t.setHrx n fun h => { h with slip := if old = .test ∧ a ≠ .test then 0 else h.slip }

/-- R64, R274: ADMIN of a host receiver, and the test source of its lane. -/
def State.adminHrx (s : State) (i : Nat) (a : Admin) : State := (s.adminHrxLane i a).sourceCheck (Fin.ofNat 48 (8 + i))

/-- R64, R111, R120, R126: ADMIN of a host transmitter changes. -/
def State.adminHtx (s : State) (i : Nat) (a : Admin) : State :=
  let n := hostLane i
  let old := s.admin .htx n
  let t := s.setAdmin .htx n a
  if a = .down then t.setHtx n fun h => { h with force := 0, squelch := false, recovered := false }
  else if old = .down then
    t.setHtx n fun h =>
      let p := h.chosen.getD (s.defaultProfile n)
      { h with profile := p, fir := Vector.ofFn fun k => s.htxEntry p n k.val, recovered := s.groupFreq n }
  else t

/-- R127: the polarity of a host transmitter: 1 inverted. -/
def Htx.inverted (h : Htx) : Bool :=
  match h.pol with
  | 1 => false
  | 2 => true
  | _ => bit h.fir[1] 24

/-- R125, R127: GROUP and POSITION of a host lane; POSITION is 0 without a group (entry 75). -/
def State.placeBits (s : State) (n : Nat) : List (Nat × Nat) :=
  match s.hostGroup n with
  | some (g, p) => [(g, 16), (p, 20)]
  | none => [(0xF, 16)]

/-- R125: the class words of STATUS_GET. -/
def State.statusHrx (s : State) (i : Nat) : List Word :=
  let n := hostLane i
  let h := s.hrx[n]
  [pk ([(b2n h.sd, 0), (b2n h.timing, 1), (b2n h.amLock, 2), (b2n h.deskewed, 3), (b2n h.inverted, 4),
        (b2n h.searched, 5), (b2n h.frozen, 6), (b2n h.manual, 7), (h.profile, 8)] ++ s.placeBits n),
   pk [(h.hmi.toNat, 0), (h.skew.toNat, 16)]]

/-- R127, R271, R272, R315: CONTENT: 0 data, 1 generated Local Fault, 2 to 4 forced, 5 squelched. -/
def State.content (s : State) (n : Fin 16) : Nat :=
  let h := s.htx[n]
  if !s.isUp .htx n || !s.islandOn (48 + n.val) || s.laneFg (32 + n.val) || h.squelch || s.loopOn n == 2 then 5
  else if h.force ≠ 0 then h.force + 1
  else if s.lfNow n ≠ 0 then 1
  else 0

/-- R127: the class words of STATUS_GET; FREQ is 0 until the group frequency is in use (R120). -/
def State.statusHtx (s : State) (i : Nat) : List Word :=
  let n := hostLane i
  let h := s.htx[n]
  let g : Fin 8 := match s.hostGroup n with
    | some (g, _) => Fin.ofNat 8 g
    | none => 0
  let c := s.content n
  [pk ([(b2n (c != 5), 0), (b2n h.recovered, 1), (b2n s.grp[g].holdover, 2), (c, 3), (b2n h.inverted, 6),
        (h.profile, 8)] ++ s.placeBits n),
   if h.recovered then s.grp[g].freq else 0]

/-! ## HRX commands (R124, R125) -/

/-- R124: BOARD_TABLE_LOAD and BOARD_TABLE_INFO accept HRX 0x000 only. -/
def onlyZero (_ : Cls) (i : Nat) : Bool := i == 0

/-- R111: the first HRX or HTX unit that is not ADMIN DOWN. -/
def State.hostUp (s : State) : Option (Cls × Nat) :=
  match (List.range 16).find? fun n => s.isUp .hrx n with
  | some n => some (.hrx, n)
  | none => ((List.range 16).find? fun n => s.isUp .htx n).map fun n => (.htx, n)

/-- R110, R111: a table is loaded; every polarity override returns to TABLE. -/
def State.loadBoard (s : State) (t : List Word) : State :=
  { s with
    board := t
    hrx := s.hrx.map fun h => { h with pol := 0, chosen := none, kept := none }
    htx := s.htx.map fun h => { h with pol := 0, chosen := none } }

/-- R110, R111, BOARD_TABLE_LOAD. -/
def specBoardTableLoad : CmdSpec :=
  { op := 0x10, accepts := onlyZero, avail := availRun,
    count := fun _ r => decide (1 ≤ r.params.length) && decide (r.params.length ≤ 1020),
    bad := fun _ r => firstBad (boardChecks r.params),
    cond := fun s _ =>
      if s.power.dev = .config then s.stepRefused 4
      else s.hostUp.map fun u => s.conflict u.1 u.2,
    act := change fun s r => (s.loadBoard r.params).beginStep 4 }

/-- R125, BOARD_TABLE_INFO. -/
def specBoardTableInfo : CmdSpec :=
  { op := 0x11, accepts := onlyZero, avail := availRun, count := exactly 0,
    act := answer fun s _ =>
      if s.board = [] then [0, 0, 0, 0]
      else [s.tableWord 2, s.tableWord 3, pk [(s.profiles, 0), (fld (s.tableWord 1) 16 16, 16)], s.board.getLastD 0] }

/-- R125: a signed 12-bit statistic of a window, 0x800 when it holds no valid value. -/
def stat12 (w : HmiWindow) (v : Int) : Nat := if w.count = 0 then 0x800 else twos 12 v

/-- R125: a margin block. -/
def marginBlock (hmi : BitVec 12) (w : HmiWindow) (now : Nat) : List Word :=
  [pk [(hmi.toNat, 0), (stat12 w w.min, 16)],
   pk [(stat12 w w.max, 0), (stat12 w (w.sum / w.count), 16)],
   w32 (sat32 ((now - w.start) / 1000000)), w32 (sat32 w.invalid)]

/-- R125: a new window begins. -/
def windowAt (now : Nat) : HmiWindow := { windowReset with start := now }

/-- R125: one update enters a window: a value, or none without timing lock. -/
def HmiWindow.add (w : HmiWindow) (v : Option Int) : HmiWindow :=
  match v with
  | none => { w with invalid := w.invalid + 1 }
  | some x =>
    { w with
      min := if w.count = 0 ∨ x < w.min then x else w.min
      max := if w.count = 0 ∨ w.max < x then x else w.max
      sum := w.sum + x
      count := w.count + 1 }

/-- A one-bit parameter. -/
def oneBit (_ : State) (r : Req) : Option Nat := firstBad [(clear (r.p 0) 1, 0)]

/-- R125, HRX_MARGIN_GET. -/
def specHrxMarginGet : CmdSpec :=
  { op := 0x12, avail := availRun, count := exactly 1, bad := oneBit, isl := ownIsl,
    act := fun s r =>
      let n := hostLane r.inst
      { st := s.setHrx n fun h => { h with window := if bit (r.p 0) 0 then windowAt s.now else h.window },
        pay := marginBlock s.hrx[n].hmi s.hrx[n].window s.now } }

/-- R124: a new polarity setting, the one in use among them (entry 78): in TEST it applies at once and is the starting
polarity. -/
def State.hrxPolarity (s : State) (n : Fin 16) (mode : Nat) : State :=
  let t := s.setHrx n fun h => { h with pol := mode, kept := none }
  if s.admin .hrx n = .test then
    t.setHrx n fun h => { (if h.timing then h.remark else h) with inverted := t.basePol n, searched := false }
  else t

/-- R115, R124, HRX_POLARITY_SET. -/
def specHrxPolaritySet : CmdSpec :=
  { op := 0x13, avail := availRun, count := exactly 1, bad := fun _ r => firstBad [(clear (r.p 0) 2, 0)], isl := ownIsl,
    cond := adminIn [.down, .test],
    act := change fun s r => s.hrxPolarity (hostLane r.inst) (fld (r.p 0) 0 2) }

/-- R125, HRX_EQ_GET. -/
def specHrxEqGet : CmdSpec :=
  { op := 0x80, avail := availRun, count := exactly 0, isl := ownIsl,
    act := answer fun s r => s.hrx[hostLane r.inst].eq.toList }

/-- R104, R125: the checks of an EQ block; a DFE tap without DFE_EN is out of range (entry 79). -/
def State.eqChecks (s : State) (r : Req) : List (Bool × Nat) :=
  let w := r.p 0
  let n := hostLane r.inst
  [(decide (fld w 0 8 ≤ 20) && decide (fld w 8 8 ≤ 63) && decide (2 ≤ fld w 24 4) && decide (fld w 24 4 ≤ 8) &&
      (bit (s.hrxEntry s.hrx[n].profile n 0) 26 || fld w 16 8 == 0) && clear w 28, 0)]

/-- R124, HRX_EQ_FORCE. -/
def specHrxEqForce : CmdSpec :=
  { op := 0x81, avail := availRun, count := exactly 5, bad := fun s r => firstBad (s.eqChecks r), isl := ownIsl,
    cond := adminIn [.test],
    act := change fun s r => s.setHrx (hostLane r.inst) fun h =>
      { h with eq := Vector.ofFn fun k => r.p k.val, frozen := true } }

/-- R106, HRX_ADAPT_FREEZE. -/
def specHrxAdaptFreeze : CmdSpec :=
  { op := 0x82, avail := availRun, count := exactly 1, bad := oneBit, isl := ownIsl,
    act := change fun s r => s.setHrx (hostLane r.inst) fun h => { h with frozen := bit (r.p 0) 0 } }

/-- R119, HRX_AM_MODE. -/
def specHrxAmMode : CmdSpec :=
  { op := 0x83, avail := availRun, count := exactly 1, bad := oneBit, isl := ownIsl, cond := adminIn [.down, .test],
    act := change fun s r => s.setHrx (hostLane r.inst) fun h =>
      { h with manual := bit (r.p 0) 0, slip := if bit (r.p 0) 0 then h.slip else 0 } }

/-- R119, HRX_SLIP. -/
def specHrxSlip : CmdSpec :=
  { op := 0x84, avail := availRun, count := exactly 1, isl := ownIsl,
    bad := fun _ r => firstBad [(clear (r.p 0) 10 && r.p 0 != 0, 0)],
    cond := adminIn [.test],
    act := fun s r =>
      let n := hostLane r.inst
      let o := (s.hrx[n].slip + fld (r.p 0) 0 10) % 65536
      { st := s.setHrx n fun h => { h with slip := o }, pay := [w32 o] } }

/-! ## HTX commands (R126, R127) -/

/-- R126, HTX_FAULT_FORCE. -/
def specHtxFaultForce : CmdSpec :=
  { op := 0x10, avail := availRun, count := exactly 1, bad := fun _ r => firstBad [(clear (r.p 0) 2, 0)], isl := ownIsl,
    cond := adminIn [.up, .test],
    act := change fun s r => s.setHtx (hostLane r.inst) fun h => { h with force := fld (r.p 0) 0 2 } }

/-- R127, HTX_POLARITY_SET. -/
def specHtxPolaritySet : CmdSpec :=
  { op := 0x11, avail := availRun, count := exactly 1,
    bad := fun _ r => firstBad [(clear (r.p 0) 2 && fld (r.p 0) 0 2 != 3, 0)], isl := ownIsl,
    cond := adminIn [.down, .test],
    act := change fun s r => s.setHtx (hostLane r.inst) fun h => { h with pol := fld (r.p 0) 0 2 } }

/-- R127, HTX_FIR_GET. -/
def specHtxFirGet : CmdSpec :=
  { op := 0x80, avail := availRun, count := exactly 0, isl := ownIsl,
    act := answer fun s r => s.htx[hostLane r.inst].fir.toList }

/-- R126, HTX_FIR_SET. -/
def specHtxFirSet : CmdSpec :=
  { op := 0x81, avail := availRun, count := exactly 3, bad := fun _ r => firstBad (firChecks (r.p 0) (r.p 1) (r.p 2) 0),
    isl := ownIsl, cond := adminIn [.test],
    act := change fun s r => s.setHtx (hostLane r.inst) fun h => { h with fir := Vector.ofFn fun k => r.p k.val } }

/-- R126, HTX_SQUELCH. -/
def specHtxSquelch : CmdSpec :=
  { op := 0x82, avail := availRun, count := exactly 1, bad := oneBit, isl := ownIsl, cond := adminIn [.up, .test],
    act := change fun s r => s.setHtx (hostLane r.inst) fun h => { h with squelch := bit (r.p 0) 0 } }

/-! ## PRESET_APPLY (R112) -/

/-- R112: the preset ID names a profile that the table holds, or the DEFAULT. -/
def State.profileBad (s : State) (r : Req) : Option Nat :=
  let id := fld (r.p 0) 0 8
  firstBad [(clear (r.p 0) 8 && (id == 0xFF || (decide (id < 4) && (s.board == [] || decide (id < s.profiles)))), 0)]

/-- R112: the profile that a preset ID chooses. -/
def presetChoice (w : Word) : Option Nat := if fld w 0 8 = 0xFF then none else some (fld w 0 8)

/-- R112: PRESET_APPLY to an HRX unit. Every choice of a profile ends the polarity kept (R115, entry 78). -/
def State.presetHrx (s : State) (i : Nat) (w : Word) : State :=
  let n := hostLane i
  let c := presetChoice w
  let t := s.setHrx n fun h => { h with chosen := c, kept := none }
  if s.admin .hrx n = .test then
    (t.setHrx n fun h => { h with profile := c.getD (s.defaultProfile n) }).acquireHrx n
  else t

/-- R112: PRESET_APPLY to an HTX unit. -/
def State.presetHtx (s : State) (i : Nat) (w : Word) : State :=
  let n := hostLane i
  let c := presetChoice w
  let p := c.getD (s.defaultProfile n)
  if s.admin .htx n = .test then
    s.setHtx n fun h => { h with chosen := c, profile := p, fir := Vector.ofFn fun k => s.htxEntry p n k.val }
  else s.setHtx n fun h => { h with chosen := c }

/-- R112: the ADMIN states and the table that PRESET_APPLY to a host lane asks for. -/
def State.presetHostCond (s : State) (r : Req) : Option Fail :=
  (adminIn [.down, .test] s r).or (require (s.board != []) (s.conflict r.cls r.inst))

/-! ## What happens on the lanes -/

/-- The lane's island counts and runs (R322). -/
def State.hrxLive (s : State) (n : Fin 16) : Bool := s.live .hrx n && !s.islandFailed (32 + n.val)

/-- R113, R129: signal detect of a host lane asserts. -/
def State.hostDetected (s : State) (n : Fin 16) : State :=
  if s.hrxLive n && !s.hrx[n].sd then
    let t := (s.setHrx n fun h => { h with sd := true })
    if s.isUp .hrx n then ((t.acquireHrx n).raise .hrx n 0x11 (w32 (s.sdThresh n))).sourceCheck (Fin.ofNat 48 (8 + n.val)) else t
  else s

/-- R113, R116, R129: signal detect of a host lane deasserts. -/
def State.hostLost (s : State) (n : Fin 16) : State :=
  if s.hrxLive n && s.hrx[n].sd then
    let t := (s.setHrx n fun h => { h.unlock with sd := false }).count .hrx n 4
    let u := t.setCal (Fin.ofNat 48 (8 + n.val)) fun c => { c with sdOffAt := s.now }
    u.raiseIf (s.isUp .hrx n) .hrx n 0x10 (w32 s.hrx[n].lastHmi.toNat)
  else s

/-- R117: 180 ns in units of 10 ps. -/
def deskewWindow : Nat := 18000

/-- R114 to R117, R129, R310: an HRX lane completes its acquisition. Where a checker's lock ends it, no marker is locked to:
AM_LOCKED is not raised and no marker counts (entry 77). -/
def State.hrxAcquired (s : State) (n : Fin 16) (m : HrxAcq) : State :=
  let h := s.hrx[n]
  let flip := m.inverted != s.startPol n
  let chk := s.symChk n
  if s.hrxLive n && s.isUp .hrx n && h.sd && !s.laneFg (8 + n.val) && !(h.amLock && h.timing) && (!flip || s.searches n) &&
      (!chk || s.tst[Fin.ofNat 24 n.val].locked) then
    let ok := chk || decide (m.skew.toNat ≤ deskewWindow)
    let t := s.setHrx n fun h =>
      { h with
        timing := true, amLock := !chk, deskewed := !chk && ok, range := !ok, inverted := m.inverted, kept := some m.inverted
        searched := h.searched || flip, skew := m.skew, hmi := m.hmi, lastHmi := m.hmi
        eq := if h.frozen then h.eq else s.adaptedEq n m.eq }
    let k := if chk then 0 else m.markers
    let u := (t.count .hrx n 1 k).signal .hrx n 1 k
    let v := u.raiseIf (!chk) .hrx n 0x13 (w32 (sat32 ((s.now - h.acqStart) / 1000)))
    let w := ({ v with stats := if flip then (v.count .hrx n 5).stats else v.stats }).raiseIf flip .hrx n 0x14
      (w32 (b2n m.inverted))
    w.raiseIf (!ok) .hrx n 0x17 (w32 m.skew.toNat)
  else s

/-- R115: no marker lock within 8 T_AM of the marker search: the lane, which holds timing lock there, tries the other
polarity. -/
def State.hrxTry (s : State) (n : Fin 16) : State :=
  let h := s.hrx[n]
  let lock := if s.symChk n then s.tst[Fin.ofNat 24 n.val].locked else h.amLock
  if s.hrxLive n && s.isUp .hrx n && h.sd && !s.laneFg (8 + n.val) && !lock && s.searches n then
    s.setHrx n fun h => { h with timing := true, inverted := !h.inverted, searched := true }
  else s

/-- R116, R129: marker lock of a host lane is lost after consecutive bad markers; the next search is a new one (entry 73). -/
def State.amLost (s : State) (n : Fin 16) (bad : Nat) : State :=
  if s.hrxLive n && s.hrx[n].amLock && decide (4 ≤ bad) then
    let t := s.setHrx n fun h => { h.remark with searched := false }
    let u := ((t.count .hrx n 1 bad).count .hrx n 2 bad).count .hrx n 3
    ((u.signal .hrx n 1 bad).signal .hrx n 2 bad).raise .hrx n 0x12 (w32 (sat32 bad))
  else s

/-- R118: the run counts against a warning threshold: below it, or at least 0.5 dB above it. -/
def lowRun (v warn : Int) (k : Nat) : Nat := if v < warn then k + 1 else 0

def okRun (v warn : Int) (k : Nat) : Nat := if warn + 8 ≤ v then k + 1 else 0

/-- R105, R106, R114, R118, R326: a millisecond of a host lane; timing recovery may lock in it (R114 step 3). The
milliseconds of an ADMIN DOWN lane enter no window (entry 76). -/
def State.hrxMs (s : State) (n : Fin 16) (m : HmiMeasure) : State :=
  let h := s.hrx[n]
  if s.hrxLive n && s.isUp .hrx n then
    let v := m.hmi.toInt
    let lock := h.timing || (m.locked && h.sd && !s.laneFg (8 + n.val))
    let t := s.setHrx n fun h =>
      if lock then
        { h with
          timing := true, hmi := m.hmi, lastHmi := m.hmi
          eq := if h.frozen then h.eq else s.adaptedEq n m.eq
          window := h.window.add (some v)
          lowCount := lowRun v s.hmiWarn h.lowCount, okCount := okRun v s.hmiWarn h.okCount }
      else { h with hmi := 0x800, window := h.window.add none, lowCount := 0, okCount := 0 }
    if lock then
      ((((t.count .hrx n 0 m.blocks).count .hrx n 1 m.markers).count .hrx n 2 m.bad).signal .hrx n 1 m.markers).signal
        .hrx n 2 m.bad
    else t
  else s

/-- R118: ten updates below HMI_WARN. -/
def State.hrxLow (s : State) (n : Fin 16) : State :=
  if s.isUp .hrx n && !s.hrx[n].lowMargin && decide (10 ≤ s.hrx[n].lowCount) then
    (s.setHrx n fun h => { h with lowMargin := true }).raise .hrx n 0x15 (w32 s.hrx[n].hmi.toNat)
  else s

/-- R118: ten updates at or above HMI_WARN + 0.5 dB. -/
def State.hrxOk (s : State) (n : Fin 16) : State :=
  if s.isUp .hrx n && s.hrx[n].lowMargin && decide (10 ≤ s.hrx[n].okCount) then
    (s.setHrx n fun h => { h with lowMargin := false }).raise .hrx n 0x16 (w32 s.hrx[n].hmi.toNat)
  else s

/-- R114, R156: timing lock of a host lane ends; it acquires again. -/
def State.hostUnlocked (s : State) (n : Fin 16) : State :=
  if s.hrxLive n && s.isUp .hrx n && s.hrx[n].timing then s.acquireHrx n else s

/-! ## Rows -/

/-- A row that is an event: time passes, the event has its effect, and MC takes note. -/
def eventRow (dt : Nat) (f : State → State) (s : State) : State := finish (f (s.advance dt))

/-- R110, BOARD_TABLE_LOAD. -/
def execBoardTableLoad (dt : Nat) (c : Cmd) (s : State) := done (hostRow dt specBoardTableLoad .hrx c s)
/-- R125, BOARD_TABLE_INFO. -/
def execBoardTableInfo (dt : Nat) (c : Cmd) (s : State) := done (hostRow dt specBoardTableInfo .hrx c s)
/-- R125, HRX_MARGIN_GET. -/
def execHrxMarginGet (dt : Nat) (c : Cmd) (s : State) := done (hostRow dt specHrxMarginGet .hrx c s)
/-- R124, HRX_POLARITY_SET. -/
def execHrxPolaritySet (dt : Nat) (c : Cmd) (s : State) := done (hostRow dt specHrxPolaritySet .hrx c s)
/-- R125, HRX_EQ_GET. -/
def execHrxEqGet (dt : Nat) (c : Cmd) (s : State) := done (hostRow dt specHrxEqGet .hrx c s)
/-- R124, HRX_EQ_FORCE. -/
def execHrxEqForce (dt : Nat) (c : Cmd) (s : State) := done (hostRow dt specHrxEqForce .hrx c s)
/-- R106, HRX_ADAPT_FREEZE. -/
def execHrxAdaptFreeze (dt : Nat) (c : Cmd) (s : State) := done (hostRow dt specHrxAdaptFreeze .hrx c s)
/-- R119, HRX_AM_MODE. -/
def execHrxAmMode (dt : Nat) (c : Cmd) (s : State) := done (hostRow dt specHrxAmMode .hrx c s)
/-- R119, HRX_SLIP. -/
def execHrxSlip (dt : Nat) (c : Cmd) (s : State) := done (hostRow dt specHrxSlip .hrx c s)
/-- R126, HTX_FAULT_FORCE. -/
def execHtxFaultForce (dt : Nat) (c : Cmd) (s : State) := done (hostRow dt specHtxFaultForce .htx c s)
/-- R127, HTX_POLARITY_SET. -/
def execHtxPolaritySet (dt : Nat) (c : Cmd) (s : State) := done (hostRow dt specHtxPolaritySet .htx c s)
/-- R127, HTX_FIR_GET. -/
def execHtxFirGet (dt : Nat) (c : Cmd) (s : State) := done (hostRow dt specHtxFirGet .htx c s)
/-- R126, HTX_FIR_SET. -/
def execHtxFirSet (dt : Nat) (c : Cmd) (s : State) := done (hostRow dt specHtxFirSet .htx c s)
/-- R126, HTX_SQUELCH. -/
def execHtxSquelch (dt : Nat) (c : Cmd) (s : State) := done (hostRow dt specHtxSquelch .htx c s)

/-- R114, HRX_ACQUIRE. -/
def execHrxAcquire (dt : Nat) (n : Fin 16) (m : HrxAcq) (s : State) := done (eventRow dt (·.hrxAcquired n m) s)
/-- R115, HRX_POLARITY_TRY. -/
def execHrxPolarityTry (dt : Nat) (n : Fin 16) (s : State) := done (eventRow dt (·.hrxTry n) s)
/-- R116, AM_LOCK_LOST. -/
def execAmLockLost (dt : Nat) (n : Fin 16) (bad : Nat) (s : State) := done (eventRow dt (·.amLost n bad) s)
/-- R105, HMI_UPDATE. -/
def execHmiUpdate (dt : Nat) (n : Fin 16) (m : HmiMeasure) (s : State) := done (eventRow dt (·.hrxMs n m) s)
/-- R118, HMI_LOW. -/
def execHmiLow (dt : Nat) (n : Fin 16) (s : State) := done (eventRow dt (·.hrxLow n) s)
/-- R118, HMI_RESTORED. -/
def execHmiRestored (dt : Nat) (n : Fin 16) (s : State) := done (eventRow dt (·.hrxOk n) s)

end Sys2Proof.Machine
end

