-- ==== Sys2Proof/Machine/Ltx.lean ====
section
/-! DEFINITION. The line transmitter (R130 to R149): its arithmetic, its settings and their staging, and its commands. -/

namespace Sys2Proof.Machine

/-! ## From bits to DAC values (R131 to R137) -/

/-- R131: Gray mapping of a bit pair, first bit first. -/
def gray : Bool → Bool → Nat
  | false, false => 0 | false, true => 1 | true, true => 2 | true, false => 3

/-- R131, R306: a bit stream as symbols, the first bit of a pair most significant. -/
def bitSymbols : List Bool → List Nat
  | a :: b :: r => gray a b :: bitSymbols r
  | _ => []

/-- R132: precoding 1/(1+D) mod 4 of a stream of symbols, from the symbol last sent. -/
def precode : Nat → List Nat → List Nat
  | _, [] => []
  | t, s :: r => let u := (s + 4 - t % 4) % 4; u :: precode u r

/-- R132: what undoes it: s(n) = (t(n) + t(n-1)) mod 4. -/
def unprecode : Nat → List Nat → List Nat
  | _, [] => []
  | t, u :: r => ((u + t) % 4) :: unprecode u r

/-- R134: the level of a symbol with the offsets of a LVL_OFS word. -/
def levelX (lvl : Word) (s : Nat) : Int := ([-96, -32, 32, 96] : List Int).getD s 0 + sbyte lvl s

/-- R135: division by 128, half away from zero. -/
def round128 (v : Int) : Int := if 0 ≤ v then (v + 64) / 128 else -((64 - v) / 128)

/-- R147: the seven taps of a shape block, c−2 to c+4. -/
def tapList (w0 w1 : Word) : List Int :=
  [sbyte w0 0, sbyte w0 1, fld w0 16 8, sbyte w0 3, sbyte w1 0, sbyte w1 1, sbyte w1 2]

/-- R135: the pre-emphasis FFE; `xs` is x(n+2) down to x(n−4). -/
def ffeOut (taps xs : List Int) : Int := round128 ((taps.zipWith (· * ·) xs).foldl (· + ·) 0)

/-- R136: the index of a predistortion entry. -/
def pdIndex (before here after : Nat) : Nat := 16 * before + 4 * here + after

/-- R136: entry `i` of a PD block, 0 while disabled. -/
def pdEntry (pd : Vector Word 17) (i : Nat) : Int :=
  if bit pd[0] 0 then sbyte (pd.toList.getD (1 + i / 4) 0) (i % 4) else 0

/-- R137: the DAC value. -/
def clampDac (v : Int) : Int := max (-128) (min 127 v)

/-- R137: the symbol is counted as a clip. -/
def clips (v : Int) : Bool := decide (v < -128) || decide (127 < v)

/-- R134 to R137: the DAC value before the clamp, for seven symbols s(n+2) down to s(n−4). -/
def dacSum (x : Ltx) (syms : List Nat) : Int :=
  ffeOut (tapList x.shape[0] x.shape[1]) (syms.map (levelX x.shape[2])) +
    pdEntry x.pd (pdIndex (syms.getD 3 0) (syms.getD 2 0) (syms.getD 1 0))

/-- R130: a bit stream as the symbols sent after the symbol `t`: Gray mapping, then precoding where it is on. -/
def Ltx.symbols (x : Ltx) (t : Nat) (bits : List Bool) : List Nat :=
  if x.precode then Sys2Proof.Machine.precode t (bitSymbols bits) else bitSymbols bits

/-- R134 to R137: the DAC values before the clamp, of every symbol of a stream that has its four predecessors and two successors
in it. -/
def dacSums (x : Ltx) : List Nat → List Int
  | a :: b :: c :: d :: e :: f :: g :: r =>
    dacSum x [g, f, e, d, c, b, a] :: dacSums x (b :: c :: d :: e :: f :: g :: r)
  | _ => []

/-- R139: the differential output in units of mV/256: d × V_FS; R140: inverted polarity exchanges the legs. -/
def outMv256 (x : Ltx) (d : Int) : Int :=
  let v := d * (400 + 8 * x.swing)
  if x.inverted then -v else v

/-- R130: what a lane puts out for an inner-coded bit stream, stage by stage, in mV/256. -/
def Ltx.drive (x : Ltx) (t : Nat) (bits : List Bool) : List Int :=
  (dacSums x (x.symbols t bits)).map fun v => outMv256 x (clampDac v)

/-- R137: the clips of the same stream. -/
def Ltx.clipsIn (x : Ltx) (t : Nat) (bits : List Bool) : Nat := ((dacSums x (x.symbols t bits)).filter clips).length

/-! ## Presets (R138) -/

/-- R138: words 0 and 1 of the shape block of a preset. -/
def ltxPreset (id : Nat) : Option (Word × Word) :=
  let w := fun (a b c d e f g : Int) =>
    some (pk [(twos 8 a, 0), (twos 8 b, 8), (twos 8 c, 16), (twos 8 d, 24)],
          pk [(twos 8 e, 0), (twos 8 f, 8), (twos 8 g, 16)])
  match id with
  | 0 => w 0 0 127 0 0 0 0
  | 1 => w 0 (-4) 118 (-6) 0 0 0
  | 2 => w 0 (-8) 108 (-12) 0 0 0
  | 3 => w (-2) (-10) 100 (-14) (-2) 0 0
  | 4 => w 0 (-4) 112 (-10) (-2) 0 0
  | 5 => w (-2) (-14) 92 (-16) (-4) 0 0
  | 6 => w 0 (-6) 104 (-12) (-4) (-2) 0
  | 7 => w (-4) (-16) 84 (-18) (-4) (-2) 0
  | _ => none

/-! ## State and staging -/

def lineLane (i : Nat) : Fin 8 := Fin.ofNat 8 i

def State.setLtx (s : State) (l : Fin 8) (f : Ltx → Ltx) : State := { s with ltx := upd s.ltx l f }

/-- R145: a change is staged while the lane drives in ADMIN UP; otherwise it applies at once. -/
def State.stages (s : State) (l : Fin 8) : Bool := s.ltx[l].driving && s.admin .ltx l == .up

def ltxNoStage : LtxStaged := { swing := none, taps := none, lvl := none, pd := none }

/-- R147: a change waits for its milestone. -/
def LtxStaged.any (g : LtxStaged) : Bool := g.swing.isSome || g.taps.isSome || g.lvl.isSome || g.pd.isSome

/-- R145: the staged changes are applied whole. -/
def Ltx.applyStaged (x : Ltx) : Ltx :=
  let g := x.staged
  { x with
    swing := g.swing.getD x.swing
    preset := (g.taps.map (·.1)).getD x.preset
    shape := vec [(g.taps.map (·.2.1)).getD x.shape[0], (g.taps.map (·.2.2)).getD x.shape[1], g.lvl.getD x.shape[2]] rfl
    pd := g.pd.getD x.pd
    staged := ltxNoStage }

/-- R145: a change of some kinds on a lane: staged, or applied at once. It replaces what is staged of those kinds, and its
own time counts for them. -/
def State.ltxChange (s : State) (l : Fin 8) (g : LtxStaged) : State :=
  s.setLtx l fun x =>
    let y := { x with
      staged := { swing := g.swing.or x.staged.swing, taps := g.taps.or x.staged.taps, lvl := g.lvl.or x.staged.lvl,
                  pd := g.pd.or x.staged.pd }
      stagedAt := vec [if g.swing.isSome then s.now else x.stagedAt[0], if g.taps.isSome then s.now else x.stagedAt[1],
        if g.lvl.isSome then s.now else x.stagedAt[2], if g.pd.isSome then s.now else x.stagedAt[3]] rfl }
    if s.stages l then y else y.applyStaged

/-- R145: the staged changes that a milestone formed at time `now` takes: those whose reply left at least 5 µs before. -/
def Ltx.ripe (x : Ltx) (now : Nat) : LtxStaged :=
  let due := fun (k : Fin 4) => decide (x.stagedAt[k] + 5000 ≤ now)
  { swing := if due 0 then x.staged.swing else none, taps := if due 1 then x.staged.taps else none,
    lvl := if due 2 then x.staged.lvl else none, pd := if due 3 then x.staged.pd else none }

/-- The staged changes that still wait. -/
def Ltx.unripe (x : Ltx) (now : Nat) : LtxStaged :=
  let due := fun (k : Fin 4) => decide (x.stagedAt[k] + 5000 ≤ now)
  { swing := if due 0 then none else x.staged.swing, taps := if due 1 then none else x.staged.taps,
    lvl := if due 2 then none else x.staged.lvl, pd := if due 3 then none else x.staged.pd }

/-- R145: at a milestone the ripe changes are applied whole. -/
def Ltx.atMilestone (x : Ltx) (now : Nat) : Ltx :=
  { ({ x with staged := x.ripe now } : Ltx).applyStaged with staged := x.unripe now }

/-- R145: after a row that may stop lanes: a lane that no longer drives in ADMIN UP takes its staged changes at once, with
no SHAPE_APPLIED. -/
def State.ltxSettle (s : State) : State :=
  let ends := fun (l : Fin 8) (x : Ltx) => x.staged.any && (s.admin .ltx l != .up || !s.mayDrive l)
  { s with
    ltx := vmapIx (fun i x =>
      let l := lineLane i
      { (if ends l x then x.applyStaged else x) with driving := x.driving && s.mayDrive l }) s.ltx
    stats := (((fins 8).filter fun l => ends l s.ltx[l]).foldl (fun t l => t.count .ltx l 3) s).stats }

/-- R64, R145: ADMIN of a line transmitter changes. -/
def State.adminLtx (s : State) (i : Nat) (a : Admin) : State := (s.setAdmin .ltx i a).ltxSettle

/-- R141, R147, R315: CONTENT: 0 milestones, data and fill; 1 milestones and fill; 2 test content; 3 silent, as in NEP. -/
def State.ltxContent (s : State) (l : Fin 8) : Nat :=
  if !s.isUp .ltx l || s.ltx[l].squelch || s.laneFg (24 + l.val) || !(unitIslands .ltx l).all s.islandOn ||
      (unitIslands .ltx l).any s.underTest || s.loopOn (16 + l.val) == 2 then 3
  else if s.admin .ltx l == .test && s.testContent (16 + l.val) then 2
  else if !s.ltx[l].driving then 3
  else match s.groupOf l with
    | none => 3
    | some g => if s.fillOnly (lineLane g) then 1 else 0

/-- R147: CLIPS_MS: the clips of the last whole millisecond, where the latest report is of it; a free value otherwise (entry
81). -/
def State.clipsOf (s : State) (l : Fin 8) : Nat :=
  let x := s.ltx[l]
  min (if s.now < x.clipsAt + 1000000 then x.clipsMs else (Config.freeAt s.free l.val).toNat) 0xFFFF

/-- R147: the class words of STATUS_GET; with no group, GROUP is the lane's own number and POSITION is 0 (entry 25). -/
def State.statusLtx (s : State) (i : Nat) : List Word :=
  let l := lineLane i
  let g := (s.groupOf l).getD l
  let c := s.ltxContent l
  [pk [(b2n (c != 3), 0), (b2n s.ltx[l].staged.any, 1), (c, 2), (g, 4), (l.val - g, 8), (s.clipsOf l, 16)]]

/-! ## Commands (R146, R147) -/

/-- R139, LTX_SWING_SET. -/
def specLtxSwingSet : CmdSpec :=
  { op := 0x10, avail := availRun, count := exactly 1,
    bad := fun _ r => firstBad [(clear (r.p 0) 7 && decide (fld (r.p 0) 0 7 ≤ 100), 0)], isl := ownIsl, off := false,
    act := change fun s r => s.ltxChange (lineLane r.inst) { ltxNoStage with swing := some (fld (r.p 0) 0 7) } }

/-- R140, LTX_POLARITY_SET. -/
def specLtxPolaritySet : CmdSpec :=
  { op := 0x11, avail := availRun, count := exactly 1, bad := oneBit, isl := ownIsl, off := false,
    cond := adminIn [.down, .test],
    act := change fun s r => s.setLtx (lineLane r.inst) fun x => { x with inverted := bit (r.p 0) 0 } }

/-- R132, R140, LTX_PRECODE_SET. -/
def specLtxPrecodeSet : CmdSpec :=
  { op := 0x12, avail := availRun, count := exactly 1, bad := oneBit, isl := ownIsl, off := false,
    cond := adminIn [.down, .test],
    act := change fun s r => s.setLtx (lineLane r.inst) fun x => { x with precode := bit (r.p 0) 0 } }

/-- R142, R149, LTX_SQUELCH. -/
def specLtxSquelch : CmdSpec :=
  { op := 0x13, avail := availRun, count := exactly 1, bad := oneBit, isl := ownIsl, off := false,
    act := change fun s r =>
      let l := lineLane r.inst
      let on := bit (r.p 0) 0
      (s.setLtx l fun x => { x with squelch := on }).raiseIf (on != s.ltx[l].squelch) .ltx l 0x13 (w32 (b2n on)) }

/-- R147, LTX_CONFIG_GET. -/
def specLtxConfigGet : CmdSpec :=
  { op := 0x14, avail := availRun, count := exactly 0,
    act := answer fun s r =>
      let x := s.ltx[lineLane r.inst]
      [pk [(x.swing, 0), (b2n x.inverted, 7), (b2n x.precode, 8), (b2n x.squelch, 9), (b2n (bit x.pd[0] 0), 10),
           (x.preset, 16)], x.skew] }

/-- R147, LTX_SHAPE_GET. -/
def specLtxShapeGet : CmdSpec :=
  { op := 0x80, avail := availRun, count := exactly 0, act := answer fun s r => s.ltx[lineLane r.inst].shape.toList }

/-- R135, R147: the checks of a shape block. -/
def shapeChecks (w0 w1 w2 : Word) : List (Bool × Nat) :=
  let t := tapList w0 w1
  [(within (-64) 64 (t.getD 0 0) && within (-64) 64 (t.getD 1 0) && within 48 127 (t.getD 2 0) &&
      within (-64) 64 (t.getD 3 0) && decide ((t.map Int.natAbs).foldl (· + ·) 0 ≤ 128), 0),
   (within (-64) 64 (t.getD 4 0) && within (-64) 64 (t.getD 5 0) && within (-64) 64 (t.getD 6 0) && clear w1 24, 1),
   ((List.range 4).all fun k => within (-32) 31 (sbyte w2 k), 2)]

/-- R145, R147, LTX_SHAPE_SET. -/
def specLtxShapeSet : CmdSpec :=
  { op := 0x81, avail := availRun, count := exactly 3, bad := fun _ r => firstBad (shapeChecks (r.p 0) (r.p 1) (r.p 2)),
    isl := ownIsl, off := false,
    act := change fun s r => s.ltxChange (lineLane r.inst)
      { ltxNoStage with taps := some (0xFF, r.p 0, r.p 1), lvl := some (r.p 2) } }

/-- R147, LTX_PD_GET. -/
def specLtxPdGet : CmdSpec :=
  { op := 0x82, avail := availRun, count := exactly 0, act := answer fun s r => s.ltx[lineLane r.inst].pd.toList }

/-- R136, R147: the checks of a PD block. -/
def pdChecks (r : Req) : List (Bool × Nat) :=
  (clear (r.p 0) 1, 0) ::
    (List.range 16).map fun k => ((List.range 4).all (fun j => within (-32) 31 (sbyte (r.p (1 + k)) j)), 1 + k)

/-- R136, R145, LTX_PD_SET. -/
def specLtxPdSet : CmdSpec :=
  { op := 0x83, avail := availRun, count := exactly 17, bad := fun _ r => firstBad (pdChecks r), isl := ownIsl,
    off := false,
    act := change fun s r => s.ltxChange (lineLane r.inst)
      { ltxNoStage with pd := some (Vector.ofFn fun k => r.p k.val) } }

/-- R140, R147, LTX_SKEW_SET. -/
def specLtxSkewSet : CmdSpec :=
  { op := 0x84, avail := availRun, count := exactly 1,
    bad := fun _ r => firstBad [(fld (r.p 0) 5 3 == 0 && fld (r.p 0) 14 2 == 0 && clear (r.p 0) 20, 0)],
    isl := ownIsl, off := false, cond := adminIn [.down, .test],
    act := change fun s r => s.setLtx (lineLane r.inst) fun x => { x with skew := r.p 0 } }

/-- R138, R145: PRESET_APPLY to an LTX unit. -/
def State.presetLtx (s : State) (i : Nat) (w : Word) : State :=
  match ltxPreset (fld w 0 8) with
  | some t => s.ltxChange (lineLane i) { ltxNoStage with taps := some (fld w 0 8, t.1, t.2) }
  | none => s

/-- R138: the ID names a preset. -/
def ltxPresetBad (r : Req) : Option Nat := firstBad [(clear (r.p 0) 8 && (ltxPreset (fld (r.p 0) 0 8)).isSome, 0)]

/-! ## What happens on the lanes (R137) -/

/-- R137: the clip limit, in clips per millisecond. -/
def clipLimit : Nat := 227

/-- R326, R328: the clips of the milliseconds since the last report (entry 81) are counted. -/
def State.addClips (s : State) (l : Fin 8) (ms : List Nat) : State :=
  let n := ms.foldl (· + ·) 0
  ((s.setLtx l fun x => { x with clipsMs := ms.getLastD 0, clipsAt := s.now }).count .ltx l 2 n).signal .ltx l 1 n

/-- The last `n` of some milliseconds all satisfy `p`. -/
def lastAll (n : Nat) (p : Nat → Bool) (ms : List Nat) : Bool := decide (n ≤ ms.length) && (ms.drop (ms.length - n)).all p

/-- R137, R141: the DAC of the lane has symbols: it drives, or sends test content. -/
def State.ltxSends (s : State) (l : Fin 8) : Bool := s.ltx[l].driving || s.ltxContent l == 2

/-- R137, R149: ten milliseconds above the limit, the last of those that the row reports. -/
def State.ltxClips (s : State) (l : Fin 8) (ms : List Nat) : State :=
  if s.ltxSends l && !s.ltx[l].clipping && lastAll 10 (fun n => decide (clipLimit < n)) ms then
    ((s.addClips l ms).setLtx l fun x => { x with clipping := true, clipSince := s.now }).raise .ltx l 0x10
      (w32 (min (ms.getLastD 0) 0xFFFF))
  else s

/-- R137, R149: a hundred milliseconds at or below it, the last of those that the row reports. -/
def State.ltxClipsEnd (s : State) (l : Fin 8) (ms : List Nat) : State :=
  if s.ltx[l].clipping && lastAll 100 (fun n => decide (n ≤ clipLimit)) ms then
    ((s.addClips l ms).setLtx l fun x => { x with clipping := false }).raise .ltx l 0x11
      (w32 (sat32 ((s.now - s.ltx[l].clipSince) / 1000000)))
  else s

/-! ## Rows -/

/-- R139, LTX_SWING_SET. -/
def execLtxSwingSet (dt : Nat) (c : Cmd) (s : State) := done (hostRow dt specLtxSwingSet .ltx c s)
/-- R140, LTX_POLARITY_SET. -/
def execLtxPolaritySet (dt : Nat) (c : Cmd) (s : State) := done (hostRow dt specLtxPolaritySet .ltx c s)
/-- R132, LTX_PRECODE_SET. -/
def execLtxPrecodeSet (dt : Nat) (c : Cmd) (s : State) := done (hostRow dt specLtxPrecodeSet .ltx c s)
/-- R142, LTX_SQUELCH. -/
def execLtxSquelch (dt : Nat) (c : Cmd) (s : State) := done (hostRow dt specLtxSquelch .ltx c s)
/-- R147, LTX_CONFIG_GET. -/
def execLtxConfigGet (dt : Nat) (c : Cmd) (s : State) := done (hostRow dt specLtxConfigGet .ltx c s)
/-- R147, LTX_SHAPE_GET. -/
def execLtxShapeGet (dt : Nat) (c : Cmd) (s : State) := done (hostRow dt specLtxShapeGet .ltx c s)
/-- R145, LTX_SHAPE_SET. -/
def execLtxShapeSet (dt : Nat) (c : Cmd) (s : State) := done (hostRow dt specLtxShapeSet .ltx c s)
/-- R147, LTX_PD_GET. -/
def execLtxPdGet (dt : Nat) (c : Cmd) (s : State) := done (hostRow dt specLtxPdGet .ltx c s)
/-- R136, LTX_PD_SET. -/
def execLtxPdSet (dt : Nat) (c : Cmd) (s : State) := done (hostRow dt specLtxPdSet .ltx c s)
/-- R140, LTX_SKEW_SET. -/
def execLtxSkewSet (dt : Nat) (c : Cmd) (s : State) := done (hostRow dt specLtxSkewSet .ltx c s)

/-- R137, TX_CLIPPING. -/
def execTxClipping (dt : Nat) (l : Fin 8) (clips : List Nat) (s : State) := done (eventRow dt (·.ltxClips l clips) s)
/-- R137, TX_CLIP_CLEARED. -/
def execTxClipCleared (dt : Nat) (l : Fin 8) (clips : List Nat) (s : State) :=
  done (eventRow dt (·.ltxClipsEnd l clips) s)

end Sys2Proof.Machine
end

