-- ==== Sys2Proof/Machine/Lrx.lean ====
section
/-! DEFINITION. The line receiver (R150 to R190): coefficient banks and cross-fades, adaptation, acquisition, crosstalk sides,
its commands, and what happens on the lanes. -/

namespace Sys2Proof.Machine

/-! ## Coefficient banks (R158 to R165, R179, R187) -/

def bankWord (b : Bank) (k : Nat) : Word := b.toList.getD k 0

def bankMain (b : Bank) : Nat := fld (bankWord b 0) 0 6
def bankMlse16 (b : Bank) : Bool := fld (bankWord b 0) 6 2 == 1
def bankLean (b : Bank) : Bool := bit (bankWord b 0) 8
def bankNl (b : Bank) : Bool := bit (bankWord b 0) 11

/-- R187: the side's enable bit: lower, upper. -/
def bankXt (b : Bank) (hi : Bool) : Bool := bit (bankWord b 0) (if hi then 10 else 9)

/-- R187: a signed field of `len` bits, two to a word. -/
def pairField (w : Word) (k len : Nat) : Int := sfld w (16 * (k % 2)) len

/-- R158: FFE tap k. -/
def ffeTap (b : Bank) (k : Nat) : Int := pairField (bankWord b (1 + k / 2)) k 12

/-- R159: crosstalk tap j of a side. -/
def xtTap (b : Bank) (hi : Bool) (j : Nat) : Int := pairField (bankWord b ((if hi then 41 else 33) + j / 2)) j 10

/-- R164: nonlinear coefficient t. -/
def nlTap (b : Bank) (t : Nat) : Int := pairField (bankWord b (49 + t / 2)) t 10

/-- R165: MLSE target i. -/
def target (b : Bank) (i : Nat) : Int := sbyte (bankWord b (54 + i / 4)) (i % 4)

/-- R164: the order of the nonlinear terms. -/
def nlPairs : List (Nat × Nat) :=
  [(0, 0), (0, 1), (0, 2), (0, 3), (1, 1), (1, 2), (1, 3), (2, 2), (2, 3), (3, 3)]

/-- R165: the target of a pattern s(n−2), s(n−1), s(n); a 4-state set repeats each target for every s(n−2). -/
def targetFor (b : Bank) (s2 s1 s0 : Nat) : Int :=
  if bankMlse16 b then target b (16 * s2 + 4 * s1 + s0) else target b (4 * s1 + s0)

/-- R179: FFE tap k lies inside the lean window of main position M. -/
def inLean (m k : Nat) : Bool := decide (m ≤ k + 8) && decide (k ≤ m + 23)

/-- R179, R187: the checks of a bank block, each with its word. -/
def bankChecks (w : Nat → Word) : List (Bool × Nat) :=
  let h := w 0
  let m := fld h 0 6
  let lean := bit h 8
  let four := fld h 6 2 == 0
  let pairOk := fun (k len : Nat) (zero : Nat → Bool) =>
    (List.range 2).all fun j =>
      fld (w k) (16 * j + len) (16 - len) == 0 && (!(lean && zero j) || fld (w k) (16 * j) len == 0)
  (decide (8 ≤ m) && decide (m ≤ 24) && decide (fld h 6 2 ≤ 1) && clear h 12 &&
      (!lean || (four && fld h 9 3 == 0)), 0) ::
    (((List.range 32).map fun i => (pairOk (1 + i) 12 (fun j => !inLean m (2 * i + j)), 1 + i)) ++
     (((List.range 21).map fun i => (pairOk (33 + i) 10 (fun _ => true), 33 + i)) ++
      ((List.range 12).map fun i => (!four || w (58 + i) == 0, 58 + i))))

/-- R165, R179: a set reduced to the lean profile: taps outside the window, sides, nonlinear terms and 16-state targets go. -/
def leanBank (b : Bank) : Bank :=
  let m := bankMain b
  vmapIx (fun k w =>
    if k = 0 then pk [(m, 0), (1, 8)]
    else if k ≤ 32 then
      pk ((List.range 2).map fun j => (if inLean m (2 * (k - 1) + j) then fld w (16 * j) 12 else 0, 16 * j))
    else if k ≤ 53 then 0
    else if 58 ≤ k then 0
    else w) b

/-- R165, R180: a lean set extended to the full profile: the added coefficients start from zero, and each 4-state target is
repeated for every s(n−2). -/
def fullBank (b : Bank) : Bank :=
  vmapIx (fun k w =>
    if k = 0 then pk [(bankMain b, 0), (1, 6), (1, 11)]
    else if 54 ≤ k then bankWord b (54 + (k - 54) % 4)
    else w) b

/-- R161, R162: a side disabled in a set, or enabled with its taps at zero. -/
def sideBank (b : Bank) (hi on : Bool) : Bank :=
  let i := if hi then 10 else 9
  let base := if hi then 41 else 33
  vmapIx (fun k w =>
    if k = 0 then (if on then w ||| BitVec.ofNat 32 (2 ^ i) else w &&& ~~~(BitVec.ofNat 32 (2 ^ i)))
    else if base ≤ k ∧ k < base + 8 then 0
    else w) b

/-- R168: a reported value: clamped to −8 dB to +16 dB. -/
def clampLmi (v : Int) : Int := max (-128) (min 256 v)

/-! ## Cross-fade arithmetic (R171, R172) -/

/-- R171: division by 256, half away from zero. -/
def round256 (v : Int) : Int := if 0 ≤ v then (v + 128) / 256 else -((128 - v) / 256)

/-- R171: a coefficient at step `w` of a fade from S to T. -/
def fadeMix (w : Nat) (src tgt : Int) : Int := round256 ((256 - (w : Int)) * src + w * tgt)

/-- R172: symbols per step of a FADE_LEN code. -/
def fadeStepSymbols (len : Nat) : Nat := 4096 * 4 ^ len

/-- R173: symbols remaining, counted at the last block boundary; 227 symbols pass in a nanosecond. -/
def Fade.remaining (f : Fade) (now : Nat) : Nat :=
  let all := (256 - f.step) * fadeStepSymbols f.len
  let gone := (now - f.stepAt) * 227 / 4096 * 4096
  all - min gone (fadeStepSymbols f.len - 4096)

/-! ## State of a lane -/

def State.setLrx (s : State) (l : Fin 8) (f : Lrx → Lrx) : State := { s with lrx := upd s.lrx l f }

def otherBank (b : Fin 2) : Fin 2 := if b = 0 then 1 else 0

def Lrx.live (r : Lrx) : Bank := r.banks[r.active]
def Lrx.standby (r : Lrx) : Bank := r.banks[otherBank r.active]

/-- Write the standby bank. -/
def Lrx.setStandby (r : Lrx) (b : Bank) : Lrx := { r with banks := r.banks.set (otherBank r.active) b }

/-- R151, R171: the coefficient in use: the active bank's, or the interpolated one while a fade runs. -/
def Lrx.coef (r : Lrx) (f : Bank → Int) : Int :=
  match r.fade with
  | none => f r.live
  | some x => fadeMix x.step (f r.live) (f r.standby)

def sideIx (hi : Bool) : Fin 2 := if hi then 1 else 0

/-- R187: a crosstalk tap as a set applies it: 0 while the set's side is disabled. -/
def xtUsed (b : Bank) (hi : Bool) (j : Nat) : Int := if bankXt b hi then xtTap b hi j else 0

/-- R187: a nonlinear coefficient as a set applies it: 0 while the set's terms are disabled. -/
def nlUsed (b : Bank) (t : Nat) : Int := if bankNl b then nlTap b t else 0

/-- R151: the equaliser output at symbol n, in equaliser units times 131,072: FFE taps in 1/1,024 of samples `x` given by
offset from n, crosstalk taps in 1/2,048 of the neighbour streams, nonlinear terms; a gated side adds nothing (R161). -/
def Lrx.eqOut (r : Lrx) (x : Int → Int) (lo hi : Int → Int) : Int :=
  let m : Int := bankMain r.live
  let ffe := ((List.range 64).map fun k => r.coef (ffeTap · k) * x (m - k)).foldl (· + ·) 0
  let side := fun (h : Bool) (u : Int → Int) =>
    if r.sides[sideIx h].gated then 0
    else ((List.range 16).map fun j => r.coef (xtUsed · h j) * u (8 - j)).foldl (· + ·) 0
  let nl := (((List.range 10).zip nlPairs).map fun p =>
    r.coef (nlUsed · p.1) * x (-(p.2.1 : Int)) * x (-(p.2.2 : Int))).foldl (· + ·) 0
  128 * ffe + 64 * (side false lo + side true hi) + nl

/-- R186: the fields of the setup and policy words. -/
def Lrx.sdCode (r : Lrx) : Nat := fld r.setup 0 5
def Lrx.polSet (r : Lrx) : Nat := fld r.setup 8 2
def Lrx.precode (r : Lrx) : Bool := bit r.setup 10
def Lrx.warn (r : Lrx) : Int := sfld r.policy 0 12
def Lrx.fadeLen (r : Lrx) : Nat := fld r.policy 12 2
def Lrx.profile (r : Lrx) : Nat := fld r.policy 14 2
def Lrx.xtOn (r : Lrx) (hi : Bool) : Bool := bit r.policy (if hi then 17 else 16)

/-- R166: the starting polarity of an acquisition. -/
def Lrx.startPol (r : Lrx) : Bool :=
  match r.polSet with
  | 0 => false
  | 1 => true
  | _ => r.kept.getD false

/-- The lane's islands run. -/
def State.lrxLive (s : State) (l : Fin 8) : Bool :=
  s.live .lrx l && !(unitIslands .lrx l).any s.islandFailed

/-! ## Crosstalk sides (R159 to R162) -/

/-- R159: the neighbour on a side. -/
def neighbour (l : Fin 8) (hi : Bool) : Option (Fin 8) :=
  if hi then (if h : l.val + 1 < 8 then some ⟨l.val + 1, h⟩ else none)
  else if 0 < l.val then some ⟨l.val - 1, by omega⟩ else none

/-- R186: OFFSET: the neighbour's frequency minus the lane's own, in 0.01 ppm. -/
def State.xtOffset (s : State) (l n : Fin 8) : Int := s.lrx[n].trFreq.toInt - s.lrx[l].trFreq.toInt

/-- R161: why a side is not available, in the codes of DROP_CAUSE: 0 while it is (DESIGN CHOICE, log 26: of several causes,
the domain, the self-test, the lock, the range, the host). -/
def State.sideCause (s : State) (l : Fin 8) (hi : Bool) : Nat :=
  match neighbour l hi with
  | none => 2
  | some n =>
    if !(unitIslands .lrx n).all s.islandOn then 2
    else if (unitIslands .lrx n).any s.underTest then 3
    else if !s.lrx[n].timing || s.loopOn (16 + n.val) == 2 then 1
    else if !within (-25000) 25000 (s.xtOffset l n) then 4
    else if !s.lrx[l].xtOn hi then 5
    else 0

def State.sideOk (s : State) (l : Fin 8) (hi : Bool) : Bool := s.sideCause l hi == 0

/-- R186: IN_USE: taps applied and not gated. -/
def Lrx.inUse (r : Lrx) (hi : Bool) : Bool := bankXt r.live hi && !r.sides[sideIx hi].gated

/-- R177: the round in progress is voided and counted. -/
def State.voidRound (s : State) (l : Fin 8) : State :=
  if s.lrx[l].round.isSome then
    (s.setLrx l fun r =>
      { r with round := none, voided := r.voided + 1, sides := r.sides.map fun x => { x with training := false } }).count
        .lrx l 5
  else s

/-- R177: the rounds of lanes one of whose gated sides has become available from `s` to `t` are voided. -/
def State.voidRestored (s t : State) : State :=
  (fins 8).foldl (fun u l =>
    if [false, true].any fun hi => t.lrx[l].sides[sideIx hi].gated && !s.sideOk l hi && t.sideOk l hi then u.voidRound l else u) t

/-- R161, R177: a side is gated: counted, raised, and the round voided; the next round follows a drop. -/
def State.gateSide (s : State) (l : Fin 8) (hi : Bool) (cause : Nat) (offset : BitVec 16) : State :=
  match neighbour l hi with
  | none => s
  | some n =>
    let t := (s.voidRound l).setLrx l fun r =>
      { r with
        dropped := true
        sides := upd r.sides (sideIx hi) fun _ => { gated := true, cause := cause, offset := offset, training := false } }
    let u := t.count .lrx l 4
    if cause = 4 then u.raise .lrx l 0x1C (pk [(b2n hi, 0), (offset.toNat, 16)])
    else u.raise .lrx l 0x1A (pk [(b2n hi, 0), (n.val, 4), (cause, 8)])

/-! ## Fades (R171 to R174) -/

/-- R172: a fade to the standby bank starts. -/
def State.startFade (s : State) (l : Fin 8) (len cause : Nat) (prof : Option Nat) : State :=
  (s.roundOpens.setLrx l fun r =>
    { r with
      fade := some { step := 0, stepAt := s.now, len := len, cause := cause, profile := prof }
      lastCause := cause }).raise .lrx l 0x16 (pk [(cause, 0), (len, 2)])

/-- R162, R180: the target bank is in force: sides it has trained come into use, and a profile change is complete. -/
def State.inForce (s : State) (l : Fin 8) (prof : Option Nat) : State :=
  let back := fun (hi : Bool) => s.lrx[l].sides[sideIx hi].training
  let t := s.setLrx l fun r =>
    { r with sides := r.sides.map fun x => if x.training then { x with gated := false, training := false } else x }
  let ev := fun (u : State) (hi : Bool) =>
    u.raiseIf (back hi) .lrx l 0x1B (pk [(b2n hi, 0), (((neighbour l hi).map (·.val)).getD 0, 4)])
  let u := ev (ev t false) true
  match prof with
  | some c => u.raise .lrx l 0x1D (pk [(b2n (bankLean s.lrx[l].live), 0), (c, 1)])
  | none => u

/-- R171, R190: one step of a fade; after step 256 the target is active. -/
def State.fadeStepped (s : State) (l : Fin 8) : State :=
  match s.lrx[l].fade with
  | none => s
  | some f =>
    if !s.lrxLive l then s
    else if f.step + 1 < 256 then
      s.setLrx l fun r => { r with fade := some { f with step := f.step + 1, stepAt := s.now } }
    else
      let t := (s.roundOpens.setLrx l fun r => { r with fade := none, active := otherBank r.active, lastFade := s.now }).fadeOver l
      (t.raise .lrx l 0x17 (pk [((otherBank s.lrx[l].active).val, 0), (f.cause, 1)])).inForce l f.profile

/-- R174: the symbols that remain when an abort takes effect, one block later. -/
def Lrx.abortRemaining (r : Lrx) (now : Nat) : Nat :=
  match r.fade with
  | some f => f.remaining now - 4096
  | none => 0

/-- R173, R174: a fade snaps to its source or its target. -/
def State.snapFade (s : State) (l : Fin 8) (toTarget : Bool) (trigger : Nat) : State :=
  match s.lrx[l].fade with
  | none => s
  | some f =>
    let rem := s.lrx[l].abortRemaining s.now
    let t := s.roundOpens.setLrx l fun r =>
      { r with
        fade := none, active := if toTarget then otherBank r.active else r.active
        sides := if toTarget then r.sides else r.sides.map fun x => { x with training := false } }
    let u := ((t.fadeOver l).count .lrx l 7).raise .lrx l 0x18 (pk [(rem, 0), (b2n toTarget, 27), (trigger, 28)])
    if toTarget then u.inForce l f.profile else u

/-! ## Acquisition (R166, R181 to R183) -/

/-- R168, R183: a lane without timing lock. -/
def Lrx.unlock (r : Lrx) (warm : Bool) (now : Nat) : Lrx :=
  { r with
    timing := false, acquired := false, warm := warm, inverted := r.startPol, start := r.startPol, searched := false
    acqStart := now, confirm := 0
    lmi := { r.lmi with value := 0x800, lowCount := 0, okCount := 0, lowMargin := false, below1 := 0, belowExit := 0,
                        over3 := none } }

/-- R188: the CTLE code that a preset starts from: 4, 9 or 14 dB. -/
def ctleStart : Nat → Option Nat
  | 1 => some 8 | 2 => some 18 | 3 => some 28 | _ => none

/-- R181: the CTLE codes among which step 4 chooses under preset 0: 4.5, 9, 13.5 and 18 dB. -/
def ctleChoices : List Nat := [9, 18, 27, 36]

/-- R181 step 2: the CTLE is set from the preset, unless LRX_AFE_FORCE holds it. -/
def Lrx.ctleSet (r : Lrx) : Lrx :=
  { r with afe := { r.afe with ctle := if r.afe.held then r.afe.ctle else (ctleStart r.preset).getD r.afe.ctle } }

/-- R181, R182: an acquisition begins, warm or cold. -/
def Lrx.acquire (r : Lrx) (warm : Bool) (now : Nat) : Lrx :=
  if warm || !r.sd then r.unlock warm now else (r.unlock warm now).ctleSet

/-- R156, R181 step 3: timing recovery locks. -/
def Lrx.lockTiming (r : Lrx) (now : Nat) : Lrx := { r with timing := true, lockAt := if r.timing then r.lockAt else now }

/-- R166, R190: at inner lock, or the checker lock in its place (R310), the lane keeps its polarity; POLARITY_FLIPPED is
raised when the search has left the starting polarity. -/
def State.keepPol (s : State) (l : Fin 8) : State :=
  let r := s.lrx[l]
  let flip := r.inverted != r.start && r.kept != some r.inverted
  (s.setLrx l fun r => { r with kept := some r.inverted, searched := r.searched || flip }).raiseIf flip .lrx l 0x20
    (w32 (b2n r.inverted))

/-- R173, R177, R182: timing lock ends: the fade snaps to its source, the round is voided, and the lane re-acquires, warm
or cold. -/
def State.relock (s : State) (l : Fin 8) (warm : Bool) (trigger : Nat) : State :=
  ((s.snapFade l false trigger).voidRound l).setLrx l fun r => { r.acquire warm s.now with hostTrial := none }

/-- R182: a lane that must acquire cold: after self-test of its islands, or after its domains have been off. -/
def State.coldLane (s : State) (l : Fin 8) : State :=
  (s.setLrx l fun r =>
    { r.unlock false s.now with
      fade := none, round := none, hostTrial := none, sd := false, dropped := false
      sides := r.sides.map fun x => { x with gated := true, training := false } }).fadeOver l

/-- R64, R181, R185, R190: ADMIN of a line receiver changes. -/
def State.adminLrxLane (s : State) (i : Nat) (a : Admin) : State :=
  let l := lineLane i
  let old := s.admin .lrx l
  let t := s.setAdmin .lrx l a
  let held := fun (r : Lrx) =>
    { r with afe := { r.afe with held := r.afe.held && !(old == .test && a != .test) } }
  if a = .down then
    (t.setLrx l fun r => held { r.unlock false s.now with fade := none, round := none, hostTrial := none }).fadeOver l
  else if old = .down then
    (t.setLrx l fun r => r.acquire false s.now).raiseIf s.lrx[l].sd .lrx l 0x11 (w32 s.lrx[l].sdCode)
  else t.setLrx l held

/-- R64, R274: ADMIN of a line receiver, and the test source of its lane. -/
def State.adminLrx (s : State) (i : Nat) (a : Admin) : State := (s.adminLrxLane i a).sourceCheck (Fin.ofNat 48 i)

/-- R181, R190: a lane completes an acquisition: frequency, LMI, and what it raises. -/
def State.acquiredLrx (s : State) (l : Fin 8) (m : LrxAcq) (warm : Bool) (f : Lrx → Lrx) : State :=
  let r := s.lrx[l]
  let v : BitVec 12 := BitVec.ofInt 12 (clampLmi m.lmi)
  let t := s.setLrx l fun r =>
    { (f r).lockTiming s.now with
      acquired := true, warm := false, trFreq := m.freq, lmi := { r.lmi with value := v, last := v } }
  t.raise .lrx l 0x13 (pk [(min ((s.now - r.acqStart) / 1000) (2 ^ 31 - 1), 0), (b2n warm, 31)])

/-- R156: a frequency lies outside the tracking range of ±300 ppm. -/
def farFreq (f : Word) : Bool := !within (-30000) 30000 f.toInt

/-- R181 to R183: the lane may complete an acquisition: it holds inner lock in the polarity that `m` names, its frequency is
in the tracking range, and `n` consecutive LMI updates have confirmed it. -/
def State.mayAcquire (s : State) (l : Fin 8) (m : LrxAcq) (n : Nat) : Bool :=
  let r := s.lrx[l]
  s.lrxLive l && s.isUp .lrx l && r.sd && !s.laneFg l.val && !r.acquired && s.lineLock l && m.inverted == r.inverted &&
    !farFreq m.freq && decide (n ≤ r.confirm)

/-- R181: a cold acquisition completes: the trained set is in both banks, the CTLE at the preset's code or the one that step
4 has chosen, and the crosstalk sides that are available are in use. -/
def State.lrxCold (s : State) (l : Fin 8) (m : LrxAcq) : State :=
  let start := ctleStart s.lrx[l].preset
  if s.mayAcquire l m 100 && m.found && !s.lrx[l].warm && (firstBad (bankChecks (bankWord m.bank))).isNone &&
      (s.lrx[l].afe.held || start.isSome || ctleChoices.contains m.ctle) then
    s.voidRestored <| s.acquiredLrx l m false fun r =>
      { r with
        banks := .replicate 2 m.bank
        afe := if r.afe.held then r.afe else { r.afe with agc := min m.agc 104, ctle := start.getD m.ctle }
        sides := vmapIx (fun k x =>
          let c := s.sideCause l (k == 1)
          { x with gated := c != 0, cause := if c = 0 then x.cause else c, training := false }) r.sides }
  else s

/-- R182: a warm acquisition completes, or continues as a cold one from step 2: no timing lock in time, or LMI below
LMI_WARN − 1.0 dB at the check of 10 updates. -/
def State.lrxWarm (s : State) (l : Fin 8) (m : LrxAcq) : State :=
  let r := s.lrx[l]
  if !(s.lrxLive l && s.isUp .lrx l && r.sd && !s.laneFg l.val && !r.acquired && r.warm) then s
  else if !m.found || (decide (10 ≤ r.confirm) && decide (clampLmi m.lmi < r.warn - 16)) then
    s.setLrx l fun r => { r.ctleSet with warm := false, confirm := 0 }
  else if s.mayAcquire l m 10 then s.voidRestored (s.acquiredLrx l m true id)
  else s

/-- R166: no inner lock 5 ms after the FFE has converged: the lane tries the other polarity. -/
def State.lrxTry (s : State) (l : Fin 8) : State :=
  let r := s.lrx[l]
  if s.lrxLive l && s.isUp .lrx l && r.sd && !s.laneFg l.val && !r.acquired && !s.lineLock l && r.polSet == 2 then
    s.voidRestored <| s.setLrx l fun r => { r.lockTiming s.now with inverted := !r.inverted, searched := true }
  else s

/-- R153, R190: signal detect of a line receiver asserts. -/
def State.lineDetected (s : State) (l : Fin 8) : State :=
  if s.lrxLive l && !s.lrx[l].sd then
    let t := s.setLrx l fun r => ({ r with sd := true } : Lrx).acquire r.warm s.now
    (t.raiseIf (s.isUp .lrx l) .lrx l 0x11 (w32 s.lrx[l].sdCode)).sourceCheck (Fin.ofNat 48 l.val)
  else s

/-- R153, R173, R190: signal detect deasserts; a timing lock that the lane held ends with it. -/
def State.lineLost (s : State) (l : Fin 8) : State :=
  if s.lrxLive l && s.lrx[l].sd then
    let r := s.lrx[l]
    let t := (s.relock l (r.acquired || r.warm) 1).setLrx l fun r => { r with sd := false }
    let u := (t.count .lrx l 8).setCal (Fin.ofNat 48 l.val) fun c => { c with sdOffAt := s.now }
    u.raiseIf (s.isUp .lrx l) .lrx l 0x10 (w32 r.lmi.last.toNat)
  else s

/-- R156, R182, R190: timing lock of a line receiver ends with signal detect held. -/
def State.lineUnlocked (s : State) (l : Fin 8) (range : Bool) : State :=
  let r := s.lrx[l]
  if s.lrxLive l && s.isUp .lrx l && r.sd && r.timing then
    ((s.relock l (r.acquired || r.warm) 1).count .lrx l 3).raise .lrx l 0x12 (w32 (b2n range))
  else s

/-- R161: a side whose conditions fail is gated. -/
def State.dropSide (s : State) (l : Fin 8) (hi : Bool) (cause : Nat) (offset : BitVec 16) : State :=
  let far := !within (-25000) 25000 offset.toInt
  if s.lrxLive l && !s.lrx[l].sides[sideIx hi].gated &&
      (if cause = 4 then far else cause != 0 && s.sideCause l hi == cause) then
    s.gateSide l hi cause offset
  else s

/-! ## AGC and LMI (R153 to R155, R167 to R169) -/

/-- R153, R155: a millisecond of the front end. 4 × 10⁻⁶, 2.5 × 10⁻⁷ and 10⁻⁴ of 227 × 10⁶ samples are 908, 56.75 and
22,700. -/
def Afe.step (a : Afe) (m : AgcMeasure) : Afe :=
  let hot := decide (a.agc = 0) && decide (22700 < m.overs)
  let cool := decide (m.overs ≤ 908)
  let low := decide (m.overs ≤ 56)
  let ok := if cool then a.okRun + 1 else 0
  { a with
    agc := if a.held then a.agc else if 908 < m.overs then a.agc - 1 else if low ∧ a.agc < 104 then a.agc + 1 else a.agc
    ovr := m.overs, fsc := m.fulls
    hotRun := if hot then a.hotRun + 1 else 0
    okRun := ok
    maxRun := if a.agc = 104 ∧ low then a.maxRun + 1 else 0
    driven := a.driven && decide (ok < 100) }

/-- R153, R154, R155: the AGC evaluates a millisecond, whatever the lane receives. -/
def State.agcMs (s : State) (l : Fin 8) (m : AgcMeasure) : State :=
  if s.lrxLive l then
    let a := s.lrx[l].afe.step m
    let t := s.setLrx l fun r => { r with afe := a }
    let u := (((t.count .lrx l 1 m.overs).count .lrx l 2 m.fulls).signal .lrx l 1 m.overs).signal .lrx l 2 m.fulls
    u.raiseIf (a.maxRun == 100) .lrx l 0x21 0
  else s

/-- R155: a hundred milliseconds of over-range at code 0. -/
def State.overdrive (s : State) (l : Fin 8) : State :=
  if s.lrxLive l && !s.lrx[l].afe.driven && decide (100 ≤ s.lrx[l].afe.hotRun) then
    (s.setLrx l fun r => { r with afe := { r.afe with driven := true } }).raise .lrx l 0x21 1
  else s

/-- R168: the MLSE gain offset in use, in 1/65,536 dB: 16-state mode also throughout a fade. -/
def Lrx.gain (r : Lrx) : Int := if bankMlse16 r.live || r.fade.isSome then r.lmi.gain16 else r.lmi.gain4

/-- R167: the pre-inner bit error ratios, in 10⁻⁹, half-way between two LMI values from −128 (−8 dB) up: 0.75 · Q(√(SNR/5)) at
SNR = 15.13 dB + LMI. -/
def berSteps : List Nat :=
  [115407644, 114102533, 112797942, 111494015, 110190896, 108888733, 107587675, 106287871, 104989475, 103692640, 102397523, 101104281, 99813073, 98524059, 97237402, 95953265, 94671814, 93393216, 92117637, 90845248] ++
  [89576219, 88310721, 87048927, 85791011, 84537148, 83287513, 82042284, 80801637, 79565751, 78334804, 77108975, 75888446, 74673394, 73464002, 72260449, 71062917, 69871586, 68686636, 67508249, 66336604] ++
  [65171882, 64014261, 62863920, 61721037, 60585790, 59458354, 58338905, 57227616, 56124660, 55030208, 53944429, 52867492, 51799562, 50740803, 49691378, 48651446, 47621164, 46600687, 45590167, 44589754] ++
  [43599594, 42619830, 41650604, 40692051, 39744306, 38807497, 37881752, 36967192, 36063936, 35172098, 34291787, 33423110, 32566166, 31721053, 30887862, 30066679, 29257586, 28460660, 27675971, 26903587] ++
  [26143566, 25395965, 24660832, 23938212, 23228141, 22530653, 21845772, 21173519, 20513908, 19866947, 19232637, 18610974, 18001947, 17405539, 16821727, 16250481, 15691764, 15145535, 14611746, 14090341] ++
  [13581260, 13084435, 12599794, 12127256, 11666736, 11218144, 10781381, 10356345, 9942928, 9541015, 9150487, 8771218, 8403079, 8045934, 7699644, 7364063, 7039043, 6724430, 6420066, 6125789] ++
  [5841433, 5566830, 5301806, 5046185, 4799789, 4562436, 4333942, 4114120, 3902782, 3699738, 3504795, 3317760, 3138439, 2966636, 2802156, 2644802, 2494378, 2350687, 2213534, 2082722] ++
  [1958058, 1839347, 1726398, 1619019, 1517021, 1420217, 1328421, 1241450, 1159124, 1081265, 1007697, 938249, 872751, 811037, 752945, 698316, 646995, 598830, 553673, 511381] ++
  [471812, 434833, 400309, 368115, 338126, 310223, 284290, 260216, 237896, 217225, 198105, 180442, 164144, 149127, 135306, 122603, 110943, 100256, 90472, 81529] ++
  [73365, 65923, 59149, 52993, 47405, 42342, 37761, 33623, 29890, 26529, 23507, 20795, 18364, 16190, 14249, 12518, 10977, 9609, 8396]

/-- R167: the LMI, in 1/16 dB, of `errors` among `bits`. -/
def lmiOf (errors bits : Nat) : Int := ((berSteps.filter fun b => decide (errors * 1000000000 < b * bits)).length : Nat) - 128

/-- R167, R168: the value of the BER route: within 0.25 dB of the LMI of the millisecond's error ratio from −3 dB to +4.4
dB; codewords that the decoder cannot correct are excluded. -/
def berLmi (m : LmiMeasure) : Int :=
  let v := lmiOf m.errors (128 * (m.codewords - m.uncorr))
  if -48 ≤ v ∧ v ≤ 70 then max (v - 4) (min (v + 4) m.ber) else m.ber

/-- R168, R169, R180: one LMI update of a lane with timing lock; `snrOnly`: a SYMBOL-layer checker runs (R310). -/
def Lrx.lmiStep (r : Lrx) (m : LmiMeasure) (now : Nat) (snrOnly : Bool) : Lrx :=
  let ber := decide (4000 ≤ m.errors) && !snrOnly
  let v := clampLmi (if ber then berLmi m else m.snr + r.gain / 4096)
  let move := fun (g : Int) => g + (4096 * (berLmi m - m.snr) - g) / 16
  let sixteen := bankMlse16 r.live || r.fade.isSome
  let x := r.lmi
  { r with
    trFreq := m.freq, trPhase := m.phase, blocks := (r.blocks + m.blocks) % 2 ^ 64
    lmi := { x with
      value := BitVec.ofInt 12 v, last := BitVec.ofInt 12 v, snrRoute := !ber
      gain16 := if ber ∧ sixteen then move x.gain16 else x.gain16
      gain4 := if ber ∧ ¬sixteen then move x.gain4 else x.gain4
      window := x.window.add (some v)
      lowCount := lowRun v r.warn x.lowCount, okCount := okRun v r.warn x.okCount
      below1 := if v < 16 then x.below1 + 1 else 0
      belowExit := if v < 4 then x.belowExit + 1 else 0
      over3 := if v < 48 then none else (match x.over3 with
        | some t => some t
        | none => some now) } }

/-- R168, R194, R326: a millisecond of a line receiver with timing lock. -/
def State.lmiValid (s : State) (l : Fin 8) (m : LmiMeasure) : State :=
    let t := { s.setLrx l fun r =>
        { (r.lockTiming s.now).lmiStep m s.now (s.symChk (16 + l.val)) with confirm := if s.lineLock l then r.confirm + 1 else 0 } with
      lfd := upd s.lfd l fun f => { f with errMs := m.errors, uncMs := m.uncorr } }
    let u := (t.count .lrx l 0 m.blocks).signal .lrx l 3 m.blocks
    match s.groupOf l with
    | none => u
    | some g =>
      let v := (((u.count .fec g 0 m.codewords).count .fec g 1 m.errors).count .fec g 2 m.uncorr)
      ((v.signal .fec g 1 m.codewords).signal .fec g 2 m.errors).signal .fec g 3 m.uncorr

/-- R156, R168, R181: a millisecond of a line receiver: timing recovery may lock in it (step 3) or leave its tracking range;
without timing lock LMI reads 0x800. -/
def State.lmiMs (s : State) (l : Fin 8) (m : LmiMeasure) : State :=
  let r := s.lrx[l]
  if !(s.lrxLive l && s.isUp .lrx l) then s
  else if r.timing && farFreq m.freq then s.lineUnlocked l true
  else if r.timing || (m.locked && r.sd && !s.laneFg l.val && !farFreq m.freq) then s.voidRestored (s.lmiValid l m)
  else
    s.setLrx l fun r =>
      { r with confirm := 0
               lmi := { r.lmi with value := 0x800, window := r.lmi.window.add none, lowCount := 0, okCount := 0, below1 := 0,
                                   belowExit := 0, over3 := none } }

/-- R169: ten updates below LMI_WARN. -/
def State.lmiLowers (s : State) (l : Fin 8) : State :=
  if s.isUp .lrx l && !s.lrx[l].lmi.lowMargin && decide (10 ≤ s.lrx[l].lmi.lowCount) then
    (s.setLrx l fun r => { r with lmi := { r.lmi with lowMargin := true } }).raise .lrx l 0x14
      (w32 s.lrx[l].lmi.value.toNat)
  else s

/-- R169: ten updates at or above LMI_WARN + 0.5 dB. -/
def State.lmiRestores (s : State) (l : Fin 8) : State :=
  if s.isUp .lrx l && s.lrx[l].lmi.lowMargin && decide (10 ≤ s.lrx[l].lmi.okCount) then
    (s.setLrx l fun r => { r with lmi := { r.lmi with lowMargin := false } }).raise .lrx l 0x15
      (w32 s.lrx[l].lmi.value.toNat)
  else s

/-! ## Adaptation rounds (R175 to R180) -/

/-- The live LMI, in 1/16 dB. -/
def Lrx.lmiNow (r : Lrx) : Int := r.lmi.value.toInt

/-- R180: the profile move that the next round aims at: lean or full, with the cause of PROFILE_CHANGED. -/
def State.profileMove (s : State) (l : Fin 8) : Option (Bool × Nat) :=
  let r := s.lrx[l]
  let stage2 := s.thm.stage == 2
  let retry := decide (r.leanRetry ≤ s.now)
  if bankLean r.live then
    if 10 ≤ r.lmi.belowExit then some (false, 2)
    else if r.profile = 2 ∧ 10 ≤ r.lmi.below1 then some (false, 0)
    else if r.profile = 0 ∧ !stage2 then some (false, 0)
    else none
  else if stage2 && decide (24 < r.lmiNow) && retry then some (true, 1)
  else if r.profile = 1 && retry then some (true, 0)
  else if r.profile = 2 then
    match r.lmi.over3 with
    | some t => if t + 10000000000 ≤ s.now then some (true, 0) else none
    | none => none
  else none

/-- R162: the side joins the next round: gated, available, the neighbour locked for 10 ms. -/
def State.trains (s : State) (l : Fin 8) (hi : Bool) : Bool :=
  s.lrx[l].sides[sideIx hi].gated && s.sideOk l hi &&
    (match neighbour l hi with
     | some n => decide (s.lrx[n].lockAt + 10000000 ≤ s.now)
     | none => false)

/-- R176, R180: the candidate that a round starts from; on a return to the full profile the sides that are not gated start
from zero. -/
def State.candidate (s : State) (l : Fin 8) (move : Option (Bool × Nat)) : Bank :=
  let r := s.lrx[l]
  let b := match move with
    | some (true, _) => leanBank r.live
    | some (false, _) => fullBank r.live
    | none => r.live
  if bankLean b then b
  else
    let side := fun (b : Bank) (hi : Bool) =>
      if s.trains l hi && !r.dropped then sideBank b hi true
      else if r.sides[sideIx hi].gated then sideBank b hi false
      else if move.isSome then sideBank b hi true
      else b
    side (side b false) true

/-- R29, R176: CC starts a round. -/
def State.roundStart (s : State) (l : Fin 8) : State :=
  let r := s.lrx[l]
  if s.ccRuns && (s.operLrx l).1.carries && !r.frozen && r.fade.isNone && r.round.isNone && r.hostTrial.isNone then
    let move := if r.dropped then none else s.profileMove l
    let b := s.candidate l move
    s.setLrx l fun r =>
      { r.setStandby b with
        round := some { trial := false, avail := (s.sideOk l false, s.sideOk l true), move := move, afterDrop := r.dropped }
        dropped := false
        sides := vmapIx (fun k x => { x with training := s.trains l (k == 1) && bankXt b (k == 1) && !r.dropped }) r.sides }
  else s

/-- R176: training has ended with the values of `b`; flags and main position are those of the copy. -/
def State.trialStart (s : State) (l : Fin 8) (b : Bank) : State :=
  let r := s.lrx[l]
  let c : Bank := b.set 0 (bankWord r.standby 0)
  match r.round with
  | none => s
  | some x =>
    if s.ccRuns && !x.trial && s.lrxLive l && (firstBad (bankChecks (bankWord c))).isNone then
      s.setLrx l fun r => { r.setStandby c with round := some { x with trial := true } }
    else s

/-- The mean of some numbers, rounded down (entry 83). -/
def meanOf (l : List Int) : Int := l.foldl (· + ·) 0 / l.length

/-- R175: ΔLMI and the candidate's LMI of a trial: means over its blocks. -/
def trialDelta (m : TrialMeasure) : Int := meanOf (m.blocks.map fun b => b.1 - b.2)
def trialCand (m : TrialMeasure) : Int := meanOf (m.blocks.map (·.1))

/-- R175: the blocks of 4,096 symbols that the shadow evaluator takes, one of every 16. -/
def shadowBlocks (n : Nat) : List Nat := (List.range n).map fun k => 16 * k + (Config.shadowLfsr k).toNat

/-- R180: the candidate LMI that a move to lean asks for. -/
def leanFloor (policy cause : Nat) : Int := if cause = 0 ∧ policy = 2 then 32 else 8

/-- R176, R180: the decision of a round whose trial gave `m`. -/
def State.roundEnds (s : State) (l : Fin 8) (m : TrialMeasure) : State :=
  let r := s.lrx[l]
  match r.round with
  | none => s
  | some x =>
    let back := fun (hi : Bool) (was : Bool) => r.sides[sideIx hi].gated && s.sideOk l hi && !was
    if !x.trial || !s.lrxLive l || !s.ccRuns then s
    else if back false x.avail.1 || back true x.avail.2 then s.voidRound l
    else
      let refused := match x.move with
        | some (true, c) => decide (trialCand m < leanFloor r.profile c)
        | _ => false
      let commit := x.afterDrop || (if x.move.isSome then !refused else decide (2 ≤ trialDelta m))
      let t := s.setLrx l fun r =>
        { r with
          round := none, rounds := r.rounds + 1, commits := if commit then r.commits + 1 else r.commits
          delta := trialDelta m, cand := trialCand m, committed := commit
          leanRetry := if refused then s.now + 10000000000 else r.leanRetry
          lmi := { r.lmi with over3 := if refused then r.lmi.over3.map fun _ => s.now else r.lmi.over3 }
          sides := if commit then r.sides else r.sides.map fun y => { y with training := false } }
      let u := t.raise .lrx l 0x19 (pk [(twos 12 (trialDelta m), 0), (b2n commit, 12), (twos 12 (trialCand m), 16)])
      let v := u.raiseIf refused .lrx l 0x1E (w32 (twos 12 (trialCand m)))
      if commit then
        (v.count .lrx l 6).startFade l r.fadeLen (if x.afterDrop then 3 else if x.move.isSome then 2 else 0)
          (x.move.map (·.2))
      else v

/-- R185: a host-ordered trial ends after DURATION_MS, without commit. -/
def State.hostTrialEnds (s : State) (l : Fin 8) (m : TrialMeasure) : State :=
  match s.lrx[l].hostTrial with
  | some t =>
    if t ≤ s.now ∧ s.ccRuns ∧ s.lrxLive l then
      (s.setLrx l fun r => { r with hostTrial := none, delta := trialDelta m, cand := trialCand m, committed := false }).raise .lrx l 0x19
        (pk [(twos 12 (trialDelta m), 0), (1, 13), (twos 12 (trialCand m), 16)])
    else s
  | none => s

/-! ## Commands (R185, R186) -/

/-- R185, LRX_SETUP_SET: SD_THRESH, POL, PRECODE. In TEST a new polarity is in use at once. -/
def State.lrxSetup (s : State) (l : Fin 8) (w : Word) : State :=
  let r := s.lrx[l]
  let pol := decide (fld w 8 2 ≠ r.polSet) || (bit w 10 != r.precode)
  let t := s.setLrx l fun r => { r with setup := w, kept := none }
  if s.admin .lrx l = .test then
    if pol ∧ r.timing then t.relock l true 1
    else t.setLrx l fun r => { r with inverted := r.startPol, start := r.startPol, searched := false }
  else t

def specLrxSetupSet : CmdSpec :=
  { op := 0x10, avail := availRun, count := exactly 1, isl := ownIsl, off := false, cond := adminIn [.down, .test],
    bad := fun _ r =>
      let w := r.p 0
      firstBad [(decide (fld w 0 5 ≤ 30) && fld w 5 3 == 0 && fld w 8 2 != 3 && clear w 11, 0)],
    act := change fun s r => s.lrxSetup (lineLane r.inst) (r.p 0) }

/-- R161, R177, R186, LRX_POLICY_SET. -/
def State.lrxPolicy (s : State) (l : Fin 8) (w : Word) : State :=
  let r := s.lrx[l]
  let moved := decide (fld w 14 2 ≠ r.profile) || decide (fld w 16 2 ≠ fld r.policy 16 2)
  let t := (if moved then s.voidRound l else s).setLrx l fun r => { r with policy := w }
  let gate := fun (u : State) (hi : Bool) =>
    if !(bit w (if hi then 17 else 16)) && !u.lrx[l].sides[sideIx hi].gated then
      u.gateSide l hi 5 (match neighbour l hi with
        | some n => BitVec.ofInt 16 (s.xtOffset l n)
        | none => 0)
    else u
  gate (gate t false) true

def specLrxPolicySet : CmdSpec :=
  { op := 0x11, avail := availRun, count := exactly 1, isl := ownIsl, off := false,
    bad := fun _ r =>
      let w := r.p 0
      firstBad [(within (-32) 96 (sfld w 0 12) && fld w 14 2 != 3 && clear w 20, 0)],
    act := change fun s r => s.lrxPolicy (lineLane r.inst) (r.p 0) }

/-- R186, LRX_CONFIG_GET. -/
def specLrxConfigGet : CmdSpec :=
  { op := 0x12, avail := availRun, count := exactly 0,
    act := answer fun s r =>
      let x := s.lrx[lineLane r.inst]
      [x.setup, x.policy, w32 x.preset] }

/-- R186, LRX_MARGIN_GET. -/
def specLrxMarginGet : CmdSpec :=
  { op := 0x13, avail := availRun, count := exactly 1, bad := oneBit, isl := ownIsl,
    act := fun s r =>
      let l := lineLane r.inst
      let x := s.lrx[l].lmi
      { st := s.setLrx l fun r' =>
          { r' with lmi := { r'.lmi with window := if bit (r.p 0) 0 then windowAt s.now else r'.lmi.window } },
        pay := marginBlock x.value x.window s.now ++ [w32 (b2n x.snrRoute)] } }

/-- R173, R182, LRX_RETRAIN. -/
def specLrxRetrain : CmdSpec :=
  { op := 0x14, avail := availRun, count := exactly 1, bad := oneBit, isl := ownIsl, cond := adminIn [.up, .test],
    act := change fun s r => s.relock (lineLane r.inst) (!bit (r.p 0) 0) 2 }

/-- R186: PHASE: 0 idle or frozen, 1 copy or training, 2 trial, 3 fade. -/
def Lrx.phase (r : Lrx) : Nat :=
  if r.fade.isSome then 3
  else if r.hostTrial.isSome then 2
  else match r.round with
    | some x => if x.trial then 2 else 1
    | none => 0

/-- R186: FADE_REMAINING. -/
def Lrx.fadeLeft (r : Lrx) (now : Nat) : Nat :=
  match r.fade with
  | some f => f.remaining now
  | none => 0

/-- R186, LRX_ADAPT_STATUS_GET: ROUNDS, COMMITS and VOIDED count since the lane last became OPER UP. -/
def specLrxAdaptStatusGet : CmdSpec :=
  { op := 0x15, avail := availRun, count := exactly 0, isl := ownIsl,
    act := answer fun s q =>
      let r := s.lrx[lineLane q.inst]
      let z := s.obs.adapt[lineLane q.inst]
      [pk [(r.active.val, 0), (b2n r.fade.isSome, 1), (b2n r.frozen, 2), (b2n (bankLean r.live), 3), (r.lastCause, 4),
           (r.phase, 6)],
       w32 (r.fadeLeft s.now), w32 (sat32 (r.rounds - z.1)), w32 (sat32 (r.commits - z.2.1)), w32 (sat32 (r.voided - z.2.2)),
       pk [(twos 12 r.delta, 0), (b2n r.committed, 12), (twos 12 r.cand, 16)]] ++ lohi r.lastFade }

/-- R186: DROP_CAUSE (DESIGN CHOICE, log 26): why the side is not available; once it is again, why it was dropped, while it
stays gated. -/
def State.dropCause (s : State) (l : Fin 8) (hi : Bool) : Nat :=
  let x := s.lrx[l].sides[sideIx hi]
  if s.sideOk l hi then (if x.gated then x.cause else 0) else s.sideCause l hi

/-- R186: a word of the crosstalk block. -/
def State.xtWord (s : State) (l : Fin 8) (hi : Bool) : Word :=
  match neighbour l hi with
  | none => 0
  | some n =>
    let r := s.lrx[l]
    pk [(1, 0), (b2n (r.xtOn hi), 1), (b2n (s.sideOk l hi), 2), (b2n (r.inUse hi), 3), (n.val, 4),
        (s.dropCause l hi, 8), (twos 16 (s.xtOffset l n), 16)]

/-- R186, LRX_XT_STATUS_GET. -/
def specLrxXtStatusGet : CmdSpec :=
  { op := 0x16, avail := availRun, count := exactly 0, isl := ownIsl,
    act := answer fun s q => [s.xtWord (lineLane q.inst) false, s.xtWord (lineLane q.inst) true] }

/-- R186, LRX_AFE_GET. -/
def specLrxAfeGet : CmdSpec :=
  { op := 0x17, avail := availRun, count := exactly 0, isl := ownIsl,
    act := answer fun s q =>
      let a := s.lrx[lineLane q.inst].afe
      [pk [(a.agc, 0), (a.ctle, 8), (b2n a.held, 16), (b2n (a.agc == 104), 17), (b2n (a.agc == 0), 18)],
       w32 (sat32 a.ovr), w32 (sat32 a.fsc)] }

/-- R177, R185, LRX_ADAPT_SET. -/
def specLrxAdaptSet : CmdSpec :=
  { op := 0x80, avail := availRun, count := exactly 1, bad := oneBit, isl := ownIsl,
    act := change fun s r =>
      let l := lineLane r.inst
      let f := bit (r.p 0) 0
      (if f then s.voidRound l else s).setLrx l fun x => { x with frozen := f } }

/-- R173, R187, LRX_BANK_READ. -/
def specLrxBankRead : CmdSpec :=
  { op := 0x81, avail := availRun, count := exactly 1, bad := oneBit, isl := ownIsl,
    act := answer fun s r => (s.lrx[lineLane r.inst].banks[Fin.ofNat 2 (fld (r.p 0) 0 1)]).toList }

/-- R173: a running fade refuses the command, with the symbols that remain. -/
def busyFade (s : State) (r : Req) : Option Fail :=
  match s.lrx[lineLane r.inst].fade with
  | some f => some { status := .busyFade, pay := [w32 (f.remaining s.now)] }
  | none => none

/-- R185: adaptation is frozen and the lane is OPER UP or DEGRADED. -/
def frozenUp (s : State) (r : Req) : Option Fail :=
  let l := lineLane r.inst
  require (s.lrx[l].frozen && (s.operLrx l).1.carries) (s.conflict .lrx l)

/-- R185, R187, LRX_BANK_WRITE. -/
def specLrxBankWrite : CmdSpec :=
  { op := 0x82, avail := availRun, count := exactly 71, isl := ownIsl, busy := busyFade,
    bad := fun _ r => firstBad ((clear (r.p 0) 1, 0) ::
      (bankChecks fun k => r.p (1 + k)).map fun p => (p.1, p.2 + 1)),
    cond := fun s r => (frozenUp s r).or
      (require (decide (fld (r.p 0) 0 1 ≠ (s.lrx[lineLane r.inst].active).val)) (s.conflict .lrx r.inst)),
    act := change fun s r => s.setLrx (lineLane r.inst) fun x => x.setStandby (Vector.ofFn fun k => r.p (1 + k.val)) }

/-- R171, R185, LRX_BANK_SWAP. -/
def specLrxBankSwap : CmdSpec :=
  { op := 0x83, avail := availRun, count := exactly 1, bad := fun _ r => firstBad [(clear (r.p 0) 2, 0)], isl := ownIsl,
    busy := busyFade, cond := frozenUp,
    act := change fun s r =>
      let x := s.lrx[lineLane r.inst]
      s.startFade (lineLane r.inst) (fld (r.p 0) 0 2) 1 (if bankLean x.live != bankLean x.standby then some 0 else none) }

/-- R174, LRX_FADE_ABORT. -/
def specLrxFadeAbort : CmdSpec :=
  { op := 0x84, avail := availRun, count := exactly 1, bad := oneBit, isl := ownIsl,
    cond := fun s r => require s.lrx[lineLane r.inst].fade.isSome (s.conflict .lrx r.inst),
    act := fun s r =>
      let l := lineLane r.inst
      { st := s.snapFade l (bit (r.p 0) 0) 0, pay := [w32 (s.lrx[l].abortRemaining s.now)] } }

/-- R175, R185, LRX_SHADOW_TRIAL. -/
def specLrxShadowTrial : CmdSpec :=
  { op := 0x85, avail := availRun, count := exactly 1, isl := ownIsl, busy := busyFade, cond := frozenUp,
    bad := fun _ r => firstBad [(clear (r.p 0) 8 && r.p 0 != 0, 0)],
    act := change fun s r => s.setLrx (lineLane r.inst) fun x =>
      { x with hostTrial := some (s.now + fld (r.p 0) 0 8 * 1000000) } }

/-- R177, R185, LRX_AFE_FORCE. -/
def specLrxAfeForce : CmdSpec :=
  { op := 0x86, avail := availRun, count := exactly 1, isl := ownIsl, cond := adminIn [.test],
    bad := fun _ r =>
      let w := r.p 0
      firstBad [(decide (fld w 0 8 ≤ 104) && decide (fld w 8 8 ≤ 36) && clear w 17, 0)],
    act := change fun s r =>
      let l := lineLane r.inst
      (s.voidRound l).setLrx l fun x =>
        { x with afe := { x.afe with agc := fld (r.p 0) 0 8, ctle := fld (r.p 0) 8 8, held := bit (r.p 0) 16 } } }

/-- R188: PRESET_APPLY to an LRX unit. -/
def State.presetLrx (s : State) (i : Nat) (w : Word) : State :=
  s.setLrx (lineLane i) fun r => { r with preset := fld w 0 8 }

/-- R186: the class words of STATUS_GET. -/
def State.statusLrx (s : State) (i : Nat) : List Word :=
  let l := lineLane i
  let r := s.lrx[l]
  [pk [(b2n r.sd, 0), (b2n r.timing, 1), (b2n s.lfd[l].inner, 2), (b2n r.inverted, 3), (b2n r.searched, 4),
       (b2n r.precode, 5), (r.active.val, 6), (b2n r.fade.isSome, 7), (b2n (bankLean r.live), 8), (b2n r.frozen, 9),
       (b2n (r.inUse false), 10), (b2n (r.inUse true), 11), (b2n (bankMlse16 r.live || r.fade.isSome), 12),
       (r.lmi.value.toNat, 16)],
   pk [(r.afe.agc, 0), (r.afe.ctle, 8), (twos 16 r.trFreq.toInt, 16)]]

/-! ## Rows -/

/-- R185, LRX_SETUP_SET. -/
def execLrxSetupSet (dt : Nat) (c : Cmd) (s : State) := done (hostRow dt specLrxSetupSet .lrx c s)
/-- R186, LRX_POLICY_SET. -/
def execLrxPolicySet (dt : Nat) (c : Cmd) (s : State) := done (hostRow dt specLrxPolicySet .lrx c s)
/-- R186, LRX_CONFIG_GET. -/
def execLrxConfigGet (dt : Nat) (c : Cmd) (s : State) := done (hostRow dt specLrxConfigGet .lrx c s)
/-- R186, LRX_MARGIN_GET. -/
def execLrxMarginGet (dt : Nat) (c : Cmd) (s : State) := done (hostRow dt specLrxMarginGet .lrx c s)
/-- R182, LRX_RETRAIN. -/
def execLrxRetrain (dt : Nat) (c : Cmd) (s : State) := done (hostRow dt specLrxRetrain .lrx c s)
/-- R186, LRX_ADAPT_STATUS_GET. -/
def execLrxAdaptStatusGet (dt : Nat) (c : Cmd) (s : State) := done (hostRow dt specLrxAdaptStatusGet .lrx c s)
/-- R186, LRX_XT_STATUS_GET. -/
def execLrxXtStatusGet (dt : Nat) (c : Cmd) (s : State) := done (hostRow dt specLrxXtStatusGet .lrx c s)
/-- R186, LRX_AFE_GET. -/
def execLrxAfeGet (dt : Nat) (c : Cmd) (s : State) := done (hostRow dt specLrxAfeGet .lrx c s)
/-- R185, LRX_ADAPT_SET. -/
def execLrxAdaptSet (dt : Nat) (c : Cmd) (s : State) := done (hostRow dt specLrxAdaptSet .lrx c s)
/-- R187, LRX_BANK_READ. -/
def execLrxBankRead (dt : Nat) (c : Cmd) (s : State) := done (hostRow dt specLrxBankRead .lrx c s)
/-- R187, LRX_BANK_WRITE. -/
def execLrxBankWrite (dt : Nat) (c : Cmd) (s : State) := done (hostRow dt specLrxBankWrite .lrx c s)
/-- R171, LRX_BANK_SWAP. -/
def execLrxBankSwap (dt : Nat) (c : Cmd) (s : State) := done (hostRow dt specLrxBankSwap .lrx c s)
/-- R174, LRX_FADE_ABORT. -/
def execLrxFadeAbort (dt : Nat) (c : Cmd) (s : State) := done (hostRow dt specLrxFadeAbort .lrx c s)
/-- R185, LRX_SHADOW_TRIAL. -/
def execLrxShadowTrial (dt : Nat) (c : Cmd) (s : State) := done (hostRow dt specLrxShadowTrial .lrx c s)
/-- R185, LRX_AFE_FORCE. -/
def execLrxAfeForce (dt : Nat) (c : Cmd) (s : State) := done (hostRow dt specLrxAfeForce .lrx c s)

/-- R113, SIGNAL_DETECTED. -/
def execSignalDetected (dt : Nat) (lane : RxLane) (s : State) := done (eventRow dt (fun s =>
  match lane with
  | .host n => s.hostDetected n
  | .line l => s.lineDetected l) s)
/-- R113, SIGNAL_LOST. -/
def execSignalLost (dt : Nat) (lane : RxLane) (s : State) := done (eventRow dt (fun s =>
  match lane with
  | .host n => s.hostLost n
  | .line l => s.lineLost l) s)
/-- R156, TIMING_LOCK_LOST. -/
def execTimingLockLost (dt : Nat) (lane : RxLane) (range : Bool) (s : State) := done (eventRow dt (fun s =>
  match lane with
  | .host n => s.hostUnlocked n
  | .line l => s.lineUnlocked l range) s)
/-- R153, AGC_UPDATE. -/
def execAgcUpdate (dt : Nat) (l : Fin 8) (m : AgcMeasure) (s : State) := done (eventRow dt (·.agcMs l m) s)
/-- R155, LANE_OVERDRIVEN. -/
def execLaneOverdriven (dt : Nat) (l : Fin 8) (s : State) := done (eventRow dt (·.overdrive l) s)
/-- R168, LMI_UPDATE. -/
def execLmiUpdate (dt : Nat) (l : Fin 8) (m : LmiMeasure) (s : State) := done (eventRow dt (·.lmiMs l m) s)
/-- R169, LMI_LOW. -/
def execLmiLow (dt : Nat) (l : Fin 8) (s : State) := done (eventRow dt (·.lmiLowers l) s)
/-- R169, LMI_RESTORED. -/
def execLmiRestored (dt : Nat) (l : Fin 8) (s : State) := done (eventRow dt (·.lmiRestores l) s)
/-- R181, LRX_ACQUIRE. -/
def execLrxAcquire (dt : Nat) (l : Fin 8) (m : LrxAcq) (s : State) := done (eventRow dt (·.lrxCold l m) s)
/-- R182, LRX_WARM_ACQUIRE. -/
def execLrxWarmAcquire (dt : Nat) (l : Fin 8) (m : LrxAcq) (s : State) := done (eventRow dt (·.lrxWarm l m) s)
/-- R166, LRX_POLARITY_TRY. -/
def execLrxPolarityTry (dt : Nat) (l : Fin 8) (s : State) := done (eventRow dt (·.lrxTry l) s)
/-- R161, NEIGHBOUR_DROPPED. -/
def execNeighbourDropped (dt : Nat) (l : Fin 8) (hi : Bool) (cause : Nat) (offset : BitVec 16) (s : State) :=
  done (eventRow dt (·.dropSide l hi cause offset) s)
/-- R176, ADAPT_ROUND_START. -/
def execAdaptRoundStart (dt : Nat) (l : Fin 8) (s : State) := done (eventRow dt (·.roundStart l) s)
/-- R176, ADAPT_TRIAL_START. -/
def execAdaptTrialStart (dt : Nat) (l : Fin 8) (bank : Vector Word 70) (s : State) :=
  done (eventRow dt (·.trialStart l bank) s)
/-- R176, ADAPT_DECISION. -/
def execAdaptDecision (dt : Nat) (l : Fin 8) (m : TrialMeasure) (s : State) := done (eventRow dt (·.roundEnds l m) s)
/-- R185, HOST_TRIAL_END. -/
def execHostTrialEnd (dt : Nat) (l : Fin 8) (m : TrialMeasure) (s : State) := done (eventRow dt (·.hostTrialEnds l m) s)
/-- R171, FADE_STEP. -/
def execFadeStep (dt : Nat) (l : Fin 8) (s : State) := done (eventRow dt (·.fadeStepped l) s)

end Sys2Proof.Machine
end

