-- ==== Sys2Proof/Machine/Receive.lean ====
section
/-! DEFINITION. The receive path of a line lane from ADC samples to soft bits, stage by stage (R150): digital gain compensation,
the neighbours' resampled streams, the equaliser, the sequence estimator with its early and committed decisions, and precoding
removal. Its analog stages and the timing loop are measured, not computed: their rows carry what they come to. -/

namespace Sys2Proof.Machine

/-! ## Samples (R153, R160, R166) -/

/-- R153, R166: a compensated sample: the ADC code with the inverse of the gain steps, inverted with the lane's polarity. -/
def Lrx.compensated (r : Lrx) (code : Int) : Int :=
  let x := code * Config.gainComp r.afe.agc / 65536
  if r.inverted then -x else x

/-- R160: how well a neighbour's stream fits a lane's at a shift: the magnitude of their correlation over a block. -/
def correlation (x u : Int → Int) (shift : Int) : Nat :=
  ((List.range 4096).foldl (fun (a : Int) n => a + x n * u (n + shift)) 0).natAbs

/-- R160: the alignment of a neighbour's stream, found within ±32 symbols. -/
def alignment (x u : Int → Int) : Int :=
  ((List.range 65).foldl (fun (best : Nat × Int) k =>
    let c := correlation x u ((k : Int) - 32)
    if best.1 < c then (c, (k : Int) - 32) else best) (0, 0)).2

/-- R160: the place in a neighbour's stream that symbol n of a lane meets, in 1/64 symbols: `offset` is the neighbour's
frequency less the lane's, in 0.01 ppm. -/
def resamplePlace (align offset n : Int) : Int := 64 * (n + align) + 64 * n * offset / 100000000

/-- R160, R161: symbol n of a neighbour's stream on the lane's symbol clock; a stream whose side is not available is not
valid and counts as zero. -/
def State.neighbourSample (s : State) (l : Fin 8) (hi : Bool) (align : Int) (codes : Fin 8 → Int → Int) (n : Int) : Int :=
  match neighbour l hi with
  | none => 0
  | some m =>
    if !s.sideOk l hi then 0
    else
      let p := resamplePlace align (s.xtOffset l m) n
      Config.interpolate (p % 64).toNat ((List.range 8).map fun k => s.lrx[m].compensated (codes m (p / 64 + 4 - k)))

/-- R150 steps 5 to 9, R151: the equaliser output of symbol n, times 131,072. -/
def State.equalised (s : State) (l : Fin 8) (align : Bool → Int) (codes : Fin 8 → Int → Int) (n : Int) : Int :=
  s.lrx[l].eqOut (fun k => s.lrx[l].compensated (codes l (n + k))) (fun k => s.neighbourSample l false (align false) codes (n + k))
    (fun k => s.neighbourSample l true (align true) codes (n + k))

/-! ## The sequence estimator (R157, R165) -/

/-- R165, R171: the target in force of a pattern s(n−2), s(n−1), s(n). -/
def Lrx.targetNow (r : Lrx) (s2 s1 s0 : Nat) : Int := r.coef (targetFor · s2 s1 s0)

/-- The least of some costs; 0 of none. -/
def least : List Int → Int
  | [] => 0
  | x :: r => r.foldl min x

/-- R165: the branch metric: squared Euclidean distance, in units of 1/131,072 of an equaliser unit. -/
def branchMetric (tgt : Nat → Nat → Nat → Int) (y : Int) (s2 s1 s0 : Nat) : Int := (y - 131072 * tgt s2 s1 s0) ^ 2

/-- R165: the path metrics of the sixteen states 4·s(n−1) + s(n), one symbol on. -/
def pathsOn (tgt : Nat → Nat → Nat → Int) (p : List Int) (y : Int) : List Int :=
  (List.range 16).map fun t =>
    least ((List.range 4).map fun a => p.getD (4 * a + t / 4) 0 + branchMetric tgt y a (t / 4) (t % 4))

/-- R165: the best cost from each state through what follows, one symbol back. -/
def pathsBack (tgt : Nat → Nat → Nat → Int) (q : List Int) (y : Int) : List Int :=
  (List.range 16).map fun t =>
    least ((List.range 4).map fun u => q.getD (4 * (t % 4) + u) 0 + branchMetric tgt y (t / 4) (t % 4) u)

/-- R157: the cost of every pair s(n−1), s(n) of the newest symbol, judged on the outputs that follow it: a traceback of as many
symbols. -/
def pairCosts (tgt : Nat → Nat → Nat → Int) (p ys : List Int) : List Int :=
  p.zipWith (· + ·) (ys.reverse.foldl (pathsBack tgt) (List.replicate 16 0))

/-- The cost of each value 0 to 3 that `f` makes of a pair. -/
def valueCosts (f : Nat → Nat → Nat) (costs : List Int) : List Int :=
  (List.range 4).map fun v => least ((List.range 16).filterMap fun t => if f (t / 4) (t % 4) = v then costs[t]? else none)

/-- The value of least cost; the lowest on a tie (entry 82). -/
def cheapest (costs : List Int) : Nat := costs.findIdx (· == least costs)

/-- R131: the two bits of a symbol. -/
def symbolBit (v k : Nat) : Bool := if k = 0 then decide (2 ≤ v) else v == 1 || v == 2

/-- R165: a 5-bit soft value: the hard bit, and the max-log likelihood ratio in steps of 0.5, up to 15. -/
def softBit (costs : List Int) (hard k : Nat) : Nat :=
  let of := fun (b : Bool) => least ((List.range 4).filterMap fun v => if symbolBit v k = b then costs[v]? else none)
  16 * b2n (symbolBit hard k) + min 15 ((of true - of false).natAbs / (Config.softNoise + 1))

/-- R157, R165: what the MLSE gives for a symbol: the early decision, the committed decision, the symbol handed over, the
soft values of its two bits, and the error behind the early decisions. -/
structure Decided where
  early     : Nat
  committed : Nat
  symbol    : Nat
  soft      : List Nat
  error     : Int
  deriving DecidableEq, Repr

/-- R150 steps 10 to 12, R157, R165, R166: the decisions of a stream of equaliser outputs, each with 48 outputs after it: an
early decision on 8 of them, a committed one on 48; with precoding, the symbol is the sum of two committed ones, and its
soft values are those of the sum (entry 82). `p` are the path metrics so far, `e2`, `e1` the early decisions before, `c1`
the committed one. -/
def decide48 (tgt : Nat → Nat → Nat → Int) (pre : Bool) (p : List Int) (e2 e1 c1 : Nat) : List Int → List Decided
  | [] => []
  | y :: r =>
    if r.length < 48 then []
    else
      let p' := pathsOn tgt p y
      let e := cheapest (valueCosts (fun _ u => u) (pairCosts tgt p' (r.take 8)))
      let costs := pairCosts tgt p' (r.take 48)
      let c := cheapest (valueCosts (fun _ u => u) costs)
      let v := if pre then (c + c1) % 4 else c
      let vs := valueCosts (if pre then fun b u => (b + u) % 4 else fun _ u => u) costs
      { early := e, committed := c, symbol := v, soft := [softBit vs v 0, softBit vs v 1], error := y - 131072 * tgt e2 e1 e } ::
        decide48 tgt pre p' e1 e c r

/-- R150: what a line receiver hands to LFD for symbols 0 to n − 1 of its ADC codes. -/
def State.received (s : State) (l : Fin 8) (align : Bool → Int) (codes : Fin 8 → Int → Int) (n : Nat) : List Decided :=
  decide48 s.lrx[l].targetNow s.lrx[l].precode (List.replicate 16 0) 0 0 0
    ((List.range (n + 48)).map fun k => s.equalised l align codes k)

end Sys2Proof.Machine
end

