-- ==== Sys2Proof/Machine/SealOps.lean ====
section
/-! DEFINITION. The sealed link's operations: messages and fragments, identity and admission, the key schedule, epochs, and
entry to fail-closed (R220 to R254). -/

namespace Sys2Proof.Machine

/-- R207, R235, R241: numbers of periods at nominal rates, in ns. -/
def fourPeriods : Nat := 104857
def retryPeriods : Nat := 6710886
def longRetry : Nat := 1717986918

/-- `n` words of a list, with zeros where it is shorter. -/
def fit (n : Nat) (l : List Word) : List Word := (l ++ List.replicate n 0).take n

/-- A hash from the words that carry it. -/
def hashOf (l : List Word) : Hash := Vector.ofFn fun k => l.getD k.val 0

/-- A key from the words that carry it. -/
def keyOf (l : List Word) : Key := Vector.ofFn fun k => l.getD k.val 0

/-- R221: a hash as a 384-bit integer, byte 0 most significant. -/
def hashNat (h : Hash) : Nat := ((h.toList.flatMap wordBytes).foldl (fun a b => 256 * a + b.toNat) 0)

/-- The period sequence `b` periods after which `a` follows, modulo 2^40. -/
def seqDist (a b : Nat) : Nat := (a + 2 ^ 40 - b % 2 ^ 40) % 2 ^ 40

/-! ## Messages and fragments (R233, R234) -/

/-- R234: the header of a message. -/
def msgHeader (type bytes attempt : Nat) : List Word := [pk [(type, 0), (1, 8)], w32 bytes, w32 attempt, 0]

def msgType (m : List Word) : Nat := fld (m.getD 0 0) 0 8
def msgAttempt (m : List Word) : Nat := (m.getD 2 0).toNat

/-- R234: the size in words of a message of each type. -/
def msgWords : Nat → Nat
  | 1 => 32 | 2 => 3180 | 3 => 4032 | 4 => 856 | 5 => 16 | 6 => 8 | 7 => 8 | _ => 0

/-- R234: a message with the header and the size of its type. -/
def msgOk (type : Nat) (m : List Word) : Bool :=
  msgType m == type && fld (m.getD 0 0) 8 8 == 1 && (m.getD 1 0).toNat == 4 * msgWords type && m.length == msgWords type

/-- A message cut into pieces of up to 126 words (504 bytes); `n` bounds the pieces. -/
def cut : Nat → List Word → List (List Word)
  | 0, _ => []
  | n + 1, l => if l.isEmpty then [] else l.take 126 :: cut n (l.drop 126)

/-- R233: the fragments of a message, each behind its 8-byte header. -/
def fragments (m : List Word) : List (List Word) :=
  let ps := cut 40 m
  mapIxGo (fun i p => pk [(msgType m, 0), (msgAttempt m % 256, 8), (i, 16)] :: w32 ps.length :: p) 0 ps

/-- R234: the fields of a HELLO and of the certificate chain in a KEYSHARE. -/
def helloId (m : List Word) : Hash := hashOf ((m.drop 4).take 12)
def helloOwner (m : List Word) : Hash := hashOf ((m.drop 16).take 12)

/-! ## Identity, certificates, admission (R221 to R228, R238) -/

def State.setSeal (s : State) (g : Fin 8) (f : Seal → Seal) : State := { s with seals := upd s.seals g f }

def State.setGrp (s : State) (g : Fin 8) (f : Grp → Grp) : State := { s with grp := upd s.grp g f }

/-- R221: the device's identity hash. -/
def identityHash : Hash := Config.sha384 Config.identityKey

/-- R222: the fields of a certificate that starts at word 0 of a list; RSVD is ignored on read. -/
def certFields (role : Nat) (c : List Word) : Bool :=
  c.getD 0 0 == 0x5743_4552 && fld (c.getD 1 0) 0 16 == 1 + 256 * role &&
    hashOf ((c.drop 4).take 12) == Config.sha384 ((c.drop 16).take 512)

def certKey (c : List Word) : List Word := (c.drop 16).take 512

/-- R222: length, fields and SUBJECT of both certificates. -/
def chainFormed (c : List Word) : Bool :=
  c.length == 2760 && certFields 1 (c.take 1380) && certFields 2 (c.drop 1380)

/-- R223 (1): CERT_LOAD wants the RSVD fields of both certificates 0. -/
def chainClear (c : List Word) : Bool := fld (c.getD 1 0) 16 16 == 0 && fld (c.getD 1381 0) 16 16 == 0

/-- R222, R223 (2): the signatures of the chain. -/
def chainSigned (c : List Word) : Bool :=
  let dev := c.take 1380
  let iss := c.drop 1380
  Config.hybridValid Config.vendorRoot (iss.take 528) (iss.drop 528) &&
    Config.hybridValid (certKey iss) (dev.take 528) (dev.drop 528)

/-- R227: the identities that a policy lists. -/
def policyPeers (p : List Word) : List Hash :=
  (List.range (fld (p.getD 6 0) 0 6)).map fun i => hashOf ((p.drop (16 + 12 * i)).take 12)

/-- R227: a peer with this identity and owner is admitted. -/
def State.admitted (s : State) (id owner : Hash) : Bool :=
  (policyPeers s.sec.policy).contains id ||
    (bit (s.sec.policy.getD 4 0) 1 &&
      (List.range 4).any fun k => s.fuse.ownerSlot k == 1 && hashOf (s.fuse.ownerHash k) == owner)

/-- R234: this device's HELLO. A device without identity sends zeros (DEDUCED). -/
def State.ownHello (s : State) : List Word :=
  msgHeader 1 128 0 ++ (if s.sec.identity then identityHash.toList else List.replicate 12 0) ++
    fit 12 s.fuse.lowestOwner ++ [s.setup.persInForce, 0x3208, 3, 0]

/-- R239: the side with the lower identity hash is the initiator. -/
def State.initiates (s : State) (g : Fin 8) : Bool := decide (hashNat identityHash < hashNat (helloId s.seals[g].hello))

/-! ## Key schedule (R240, R242, R244) -/

/-- R244: a chain key from PRK or from the chain key before. -/
def chainKey (from_ : Hash) (dir epoch : Nat) : Hash :=
  hashOf (Config.hkdfExpand from_ "GZN chain" [w32 dir, w32 epoch] 48)

/-- R244: the key of an epoch. -/
def epochKey (chain : Hash) (dir epoch : Nat) : Key := keyOf (Config.hkdfExpand chain "GZN key" [w32 dir, w32 epoch] 32)

/-- R244: a direction at the first epoch of a session. -/
def firstKeys (prk : Hash) (dir epoch : Nat) : DirKeys :=
  let c := chainKey prk dir epoch
  { epoch := epoch, chain := (epoch, c), key := epochKey c dir epoch, next := none, old := none }

/-- R244: the chain key of epoch `e` of a session in force, which takes the place of the one before. -/
def DirKeys.chainAt (k : DirKeys) (dir e : Nat) : Hash := if k.chain.1 = e then k.chain.2 else chainKey k.chain.2 dir e

/-- R244, R248: the first chain key of a direction of a new session, none once it has entered. -/
def Pending.first (p : Pending) (x : FirstKey) (dir e : Nat) : Option Hash :=
  match x with
  | .due => p.prk.map fun k => chainKey k dir e
  | .held _ c => some c
  | .entered => none

/-- R240: PRK is erased once the first chain keys of both directions exist. -/
def Pending.tidy (p : Pending) : Pending := { p with prk := if p.tx = .due ∨ p.rx = .due then p.prk else none }

/-- R240: the confirm message of a role. -/
def confirmOf (prk h3 : Hash) (role : Nat) : Hash :=
  Config.hmac384 (Config.hkdfExpand prk "GZN confirm" [] 48) (w32 role :: h3.toList)

/-- R242: the IV of a lane of a period. -/
def periodIv (epoch seq lane dir : Nat) : BitVec 96 :=
  BitVec.ofNat 96 (epoch * 2 ^ 64 + seq % 2 ^ 40 * 2 ^ 24 + lane * 2 ^ 20 + dir * 2 ^ 19)

/-- R242: DIR of what this side sends, and of what it receives. -/
def Keys.txDir (k : Keys) : Nat := if k.initiator then 0 else 1
def Keys.rxDir (k : Keys) : Nat := if k.initiator then 1 else 0

/-- R227, R228: the fields of policy word 4 in force in a group. -/
def Seal.tagLimit (c : Seal) : Nat := fld c.limits 8 8
def Seal.rehandEpochs (c : Seal) : Nat := fld c.limits 16 8
def Seal.epochLog2 (c : Seal) : Nat := fld c.limits 24 6

/-! ## Fail-closed (R252, R253) -/

/-- R252, R253: a SEALED group enters, or stays in, fail-closed for a cause: keys erased, the rest of the period fill,
what LAY and SRX hold discarded, a handshake in progress ended. FAIL_CLOSED is raised when keys were in force. -/
def State.failClose (s : State) (g : Fin 8) (why : Closed) : State :=
  let had := s.seals[g].keys.isSome
  let t : State := { s with
    seals := upd s.seals g fun c => { c with
      keys := none, pend := none, ann := none, annNext := none, heard := none, ackFor := none, txPer := none, tags := []
      age := 0, since := 0, withdrawn := 0, closed := why, reFailed := false, stream := false, fails := 0, txData := []
      tagBad := false, wpHeld := [], authId := none, authOwner := none, outbox := [], msgs := [], inbox := none
      hs := { hsReset with attempt := c.hs.attempt } }
    grp := upd s.grp g fun p => { p with txIdle := true }
    lay := vmapIx (fun l q => if (s.glanes g).any (fun x => x.val == l) then [] else q) s.lay
    srx := vmapIx (fun l q => if (s.glanes g).any (fun x => x.val == l) then [] else q) s.srx }
  t.raiseIf had .seal g 0x1B (w32 (t.operSeal g).2)

/-- R93, R254: every SEALED group fails closed. -/
def State.failCloseAll (s : State) (why : Closed) : State :=
  (fins 8).foldl (fun t g => if t.grp[g].mode = 3 then t.failClose g why else t) s

/-! ## Epochs (R246 to R248) -/

/-- R244, R246: the transmitter announces the epoch after the one in force, at the milestone with sequence `m`. -/
def State.announce (s : State) (g : Fin 8) (m : Nat) : State :=
  match s.seals[g].keys with
  | none => s
  | some k =>
    let e := k.tx.epoch + 1
    match s.seals[g].pend.bind fun p => (p.first p.tx (if p.initiator then 0 else 1) e).map fun c => (p, c) with
    | some (p, c) =>
      s.setSeal g fun x => { x with
        keys := some { k with tx := { k.tx with next := some (e, epochKey c (if p.initiator then 0 else 1) e) } }
        pend := some ({ p with tx := .held e c } : Pending).tidy
        ann := some { m := m, epoch := e, fresh := true, acked := false, drawn := false }, annNext := none }
    | none =>
      let c := k.tx.chainAt k.txDir e
      s.setSeal g fun x => { x with
        keys := some { k with tx := { k.tx with chain := (e, c), next := some (e, epochKey c k.txDir e) } }
        ann := some { m := m, epoch := e, fresh := false, acked := false, drawn := false }, annNext := none }

/-- R246: the next milestone opens the announcement: the epoch nears its end, a repeat or SEAL_EPOCH_ADVANCE is due. -/
def State.announceDue (s : State) (g : Fin 8) (next : Nat) : Bool :=
  let c := s.seals[g]
  c.keys.isSome && c.ann.isNone &&
    (match c.annNext with
     | some q => decide (seqDist next q < 2 ^ 39)
     | none => decide (2 ^ c.epochLog2 - 64 ≤ c.age))

/-- R246: m+49 is formed without an ACK. -/
def State.withdrawDue (s : State) (g : Fin 8) (next : Nat) : Bool :=
  match s.seals[g].ann with
  | some a => !a.acked && !a.drawn && decide (49 ≤ seqDist next a.m) && decide (seqDist next a.m < 2 ^ 39)
  | none => false

/-- R246: the announcement is withdrawn; after eight in a row the epochs have stalled. -/
def State.withdraw (s : State) (g : Fin 8) : State :=
  match s.seals[g].ann, s.seals[g].keys with
  | some a, some k =>
    let n := s.seals[g].withdrawn + 1
    let t := ((s.setSeal g fun c => { c with
      ann := some { a with drawn := true }, annNext := some ((a.m + 1024) % 2 ^ 40), withdrawn := n
      keys := some { k with tx := { k.tx with next := none } } }).count .seal g 3).raise .seal g 0x18 (w32 a.epoch)
    if n < 8 then t else (t.raise .seal g 0x19 (w32 k.tx.epoch)).failClose g .rekey
  | _, _ => s

/-- R246: m+64 is formed with the announcement acknowledged. -/
def State.switchDue (s : State) (g : Fin 8) (next : Nat) : Bool :=
  match s.seals[g].ann with
  | some a => a.acked && !a.drawn && decide (64 ≤ seqDist next a.m) && decide (seqDist next a.m < 2 ^ 39)
  | none => false

/-- R248: a new session enters in one direction; it no longer waits once it has entered in both. -/
def Seal.entered (c : Seal) (tx : Bool) : Option Pending :=
  c.pend.bind fun p =>
    let q : Pending := if tx then { p with tx := .entered } else { p with rx := .entered }
    if q.tx = .entered ∧ q.rx = .entered then none else some q

/-- R244: the chain key that a switch leaves in force: the first one of a new session, or the one held. -/
def DirKeys.chainAfter (k : DirKeys) (x : Option FirstKey) : Nat × Hash :=
  match x with
  | some (.held e c) => (e, c)
  | _ => k.chain

/-- R228, R246, R248: the transmitter switches; the limits of the policy in force apply from here. -/
def State.switchTx (s : State) (g : Fin 8) : State :=
  match s.seals[g].ann, s.seals[g].keys with
  | some a, some k =>
    match k.tx.next with
    | some (e, ky) =>
      let ch := k.tx.chainAfter (if a.fresh then s.seals[g].pend.map (·.tx) else none)
      let t := (s.setSeal g fun c => { c with
        keys := some { k with tx := { epoch := e, chain := ch, key := ky, next := none, old := none } }
        ann := none, age := 0, since := if a.fresh then 0 else c.since + 1, withdrawn := 0
        pend := if a.fresh then c.entered true else c.pend
        limits := s.sec.policy.getD 4 0 }).raise .seal g 0x16 (w32 e)
      if 2 * t.seals[g].rehandEpochs ≤ t.seals[g].since ∧ t.seals[g].pend.isNone then t.failClose g .rekey else t
    | none => s
  | _, _ => s

/-- R246: a withdrawn announcement ends at m+63. -/
def State.annEnds (s : State) (g : Fin 8) (next : Nat) : State :=
  match s.seals[g].ann with
  | some a => if a.drawn ∧ 64 ≤ seqDist next a.m then s.setSeal g fun c => { c with ann := none } else s
  | none => s

/-- R246: what is due in a group's epochs as the milestone with sequence `next` is formed. -/
def State.epochTick (s : State) (g : Fin 8) (next : Nat) : State :=
  let a := s.annEnds g next
  let b := if a.withdrawDue g next then a.withdraw g else a
  let c := if b.switchDue g next then b.switchTx g else b
  if c.announceDue g next then c.announce g next else c

/-- R247: the key that the receiver holds for a period with this EPOCH and sequence: the one in force, the announced one
from m+62, the one before up to the second period after the switch. -/
def Keys.rxKey (k : Keys) (heard : Option (Nat × Bool × Nat)) (epoch seq : Nat) : Option Key :=
  if epoch = k.rx.epoch then some k.rx.key
  else match k.rx.next, k.rx.old with
    | some (e, ky), o =>
      let near := match heard with
        | some h => decide (62 ≤ seqDist seq h.2.2) && decide (seqDist seq h.2.2 < 2 ^ 39)
        | none => false
      if epoch == e && near then some ky
      else match o with
        | some (e', ky', q) => if epoch = e' ∧ seqDist seq q < 2 then some ky' else none
        | none => none
    | none, some (e', ky', q) =>
      if epoch = e' ∧ (seqDist seq q < 2 ∨ seqDist q seq < 2 ^ 39) then some ky' else none
    | none, none => none

end Sys2Proof.Machine
end

