-- ==== Sys2Proof/Machine/Code.lean ====
section
/-! DEFINITION. Line coding: the scrambler (R192), the inner code and its decoder (R193, R194), the slot stream (R191), fill (R200),
the patterns of R306, and the milestone (R198, R199). -/

namespace Sys2Proof.Machine

/-! ## Scrambler and inner code -/

/-- R192: `n` more bits of the scrambler after the 31 bits in the window, oldest first. -/
def scrambleGo : Nat → List Bool → List Bool
  | 0, _ => []
  | n + 1, w => let b := xor (w.getD 3 false) (w.getD 0 false); b :: scrambleGo n (w.drop 1 ++ [b])

/-- R192: the first `n` bits of the scrambler sequence. -/
def scrambler (n : Nat) : List Bool := (List.replicate 31 true ++ scrambleGo n (List.replicate 31 true)).take n

/-- R192: a slot stream, from the first bit of a milestone, scrambled; the same function undoes it. -/
def scramble (bits : List Bool) : List Bool := bits.zipWith xor (scrambler bits.length)

/-- R193: the column values v(0) to v(119). -/
def columns : List Nat := (List.range 128).filter fun v => decide (3 ≤ v) && !([4, 8, 16, 32, 64].contains v)

/-- The XOR of a list of bits. -/
def xorAll (l : List Bool) : Bool := l.foldl xor false

/-- R193: parity bit p(j). -/
def innerParity (a : List Bool) (j : Nat) : Bool := xorAll (a.zipWith (fun x v => x && v.testBit j) columns)

/-- R193: the inner codeword of a block of 120 bits. -/
def innerEncode (a : List Bool) : List Bool :=
  let c := a ++ (List.range 7).map (innerParity a)
  c ++ [xorAll c]

/-- R193: the column that each of the 128 bits stands for; the last bit has none. -/
def columnOf (i : Nat) : Nat := if i < 120 then columns.getD i 0 else if i < 127 then 2 ^ (i - 120) else 0

/-- R194: the syndrome of 128 hard bits: the column sum and the overall parity. -/
def syndrome (c : List Bool) : Nat × Bool :=
  (((List.range 128).zipWith (fun i b => if b then columnOf i else 0) c).foldl Nat.xor 0, xorAll c)

/-- R196: the syndrome that the hunt counts: even overall parity and not zero. -/
def huntCounts (c : List Bool) : Bool := !(syndrome c).2 && (syndrome c).1 != 0

/-- One bit of a list flipped. -/
def flipAt (c : List Bool) (i : Nat) : List Bool := c.modify i (!·)

/-- R194 (3): decoding by syndrome: none when the result is not valid. -/
def decodeHard (c : List Bool) : Option (List Bool) :=
  let y := syndrome c
  if y = (0, false) then some c
  else if y.2 then
    ((List.range 128).find? fun i => if y.1 = 0 then i == 127 else i != 127 && columnOf i == y.1).map (flipAt c)
  else none

/-- R194 (1): the four least reliable positions, the lower position first on a tie. -/
def leastFour (rel : List Nat) : List Nat :=
  let ps := (List.range 128).map fun i => (rel.getD i 0) * 128 + i
  let pick := fun (l : List Nat) => l.foldl (fun a b => if b < a then b else a) (16 * 128 * 128)
  let go := fun (p : List Nat × List Nat) => let x := pick p.2; (p.1 ++ [x % 128], p.2.filter (· != x))
  (go (go (go (go ([], ps))))).1

/-- R194 (4): the reliabilities of the bits that differ. -/
def metric (rel : List Nat) (hard out : List Bool) : Nat :=
  ((hard.zipWith (fun a b => a != b) out).zipWith (fun d r => if d then r else 0) rel).foldl (· + ·) 0

/-- R194: the Chase decoder: the bits put out, and the number of bits corrected (none: inner-uncorrectable). Pattern bit `k`
flips the k-th least reliable position (DEDUCED). -/
def chase (hard : List Bool) (rel : List Nat) : List Bool × Option Nat :=
  let four := leastFour rel
  let trials := (List.range 16).filterMap fun p =>
    decodeHard ((List.range 4).foldl (fun c k => if p.testBit k then flipAt c (four.getD k 0) else c) hard)
  let best := trials.foldl (fun (a : Option (List Bool)) t =>
    match a with
    | none => some t
    | some b => if metric rel hard t < metric rel hard b then some t else some b) none
  match best with
  | none => (hard, none)
  | some b => (b, some ((hard.zipWith (fun x y => x != y) b).filter id).length)

/-! ## The slot stream (R191, R197, R201) -/

/-- R191: the bits of a slot, in the order in which they are sent. -/
def slotBits (c : BitVec 5440) : List Bool := (List.range 5440).map c.getLsbD

/-- R191, R197, R201: the bits of a period of a line lane: its milestone, its data slots (fill in an IDLE period), `f` fill
slots. -/
def periodBits (ms : List Word) (data : List (BitVec 5440)) (f : Nat) : List Bool :=
  scramble ((rsCode (wordsMessage ms) :: data ++ List.replicate f 0).flatMap slotBits)

/-- R193: a stream of slot bits as inner codewords; `n` bounds the blocks of 120 bits. -/
def innerBlocks : Nat → List Bool → List (List Bool)
  | 0, _ => []
  | n + 1, a => if a.length < 120 then [] else innerEncode (a.take 120) :: innerBlocks n (a.drop 120)

/-- R130, R133, R191, R193: what a line transmitter puts out for the milestone slot with words `ms`, after the symbol `t`. -/
def Ltx.driveMilestone (x : Ltx) (t : Nat) (ms : List Word) : List Int :=
  x.drive t (innerBlocks 46 (scramble (slotBits (rsCode (wordsMessage ms))))).flatten

/-! ## Patterns (R306) -/

/-- R306: the exponents of the polynomial of a PRBS, codes 0 to 5. -/
def prbsTaps : Nat → List Nat
  | 0 => [7, 6] | 1 => [9, 5] | 2 => [13, 12, 2, 1] | 3 => [15, 14] | 4 => [23, 18] | 5 => [31, 28]
  | _ => []

/-- R306: the next bit of a PRBS, from the bits before it, the latest first. -/
def prbsNext (taps : List Nat) (past : List Bool) : Bool := taps.foldl (fun b k => b != past.getD (k - 1) false) false

def prbsRun (taps : List Nat) (past : List Bool) : Nat → List Bool
  | 0 => []
  | n + 1 => prbsNext taps past :: prbsRun taps (prbsNext taps past :: past) n

/-- R308: message `i` of the data slots that a FRAMED-layer generator fills with the bit pattern `code`, which starts after
all ones (R312; entry 65). -/
def framedMessage (code i : Nat) : BitVec 5140 :=
  let bits := (prbsRun (prbsTaps code) (List.replicate 31 true) (5140 * (i + 1))).drop (5140 * i)
  BitVec.ofNat 5140 (bits.foldr (fun b a => b2n b + 2 * a) 0)

/-! ## Error injection (R313) -/

/-- R313: the symbol that one SYMBOL injection leaves. -/
def injectSymbol (s : Nat) : Nat := (s + 2) % 4

/-- R313: one injection inverts bits of a stream: one bit for BIT, SIZE bits of an inner codeword for INNER. -/
def injectBits (at_ : List Nat) (bits : List Bool) : List Bool := bits.zipIdx.map fun x => x.1 != at_.contains x.2

/-- R313: an RS injection complements 10-bit symbols of a codeword. -/
def injectRs (at_ : List Nat) (w : BitVec 5440) : BitVec 5440 := at_.foldl (fun v p => v ^^^ (0x3FF#5440 <<< (10 * p))) w

/-- R313: `size` distinct positions among `n`, from the LFSR: each the next one free from the LFSR's on. -/
def injectPlaces (n size k : Nat) : List Nat :=
  (List.range size).foldl (fun l j =>
    let p := (Config.injectLfsr (16 * k + j)).toNat
    l ++ (((List.range n).map fun d => (p + d) % n).find? fun q => !l.contains q).toList) []

/-- R313: the RS injections that wait on lane positions are made in the first data slots of those lanes. -/
def injectSlots (pend : Nat → List Nat) : List Output → List Output
  | [] => []
  | .data p n w :: r => .data p n (injectRs (pend p) w) :: injectSlots (fun q => if q = p then [] else pend q) r
  | o :: r => o :: injectSlots pend r

/-! ## Fill (R200) -/

/-- R200: F from D, in units of 1/256 codeword. -/
def fillOf (d : Int) : Nat :=
  let f := 2 - (d + 128) / 256
  if f < 0 then 0 else if 4 < f then 4 else f.toNat

/-! ## Milestones (R198, R199) -/

def msType (w : List Word) : Nat := fld (w.getD 0 0) 24 4
def msSeq (w : List Word) : Nat := (w.getD 1 0).toNat + 2 ^ 32 * fld (w.getD 2 0) 0 8
def msLane (w : List Word) : Nat := fld (w.getD 2 0) 8 2
def msSize (w : List Word) : Nat := fld (w.getD 2 0) 10 2
def msGroup (w : List Word) : Nat := fld (w.getD 2 0) 12 3
def msF (w : List Word) : Nat := fld (w.getD 2 0) 16 3
def msMode (w : List Word) : Nat := fld (w.getD 2 0) 20 2
def msEpoch (w : List Word) : Nat := (w.getD 3 0).toNat
def msTag (w : List Word) : BitVec 128 := (w.getD 8 0) ++ (w.getD 7 0) ++ (w.getD 6 0) ++ (w.getD 5 0)
def msTagValid (w : List Word) : Bool := bit (w.getD 10 0) 8

/-- R198: the code of a group size. -/
def sizeCode (k : Nat) : Nat := if k = 4 then 2 else if k = 2 then 1 else 0

/-- R199: a received milestone is valid. -/
def msValid (rsOk : Bool) (w : List Word) : Bool :=
  rsOk && w.length == 160 && crcWords (w.take 159) == w.getD 159 0 && fld (w.getD 0 0) 0 24 == 0x6B2DF1 &&
    fld (w.getD 0 0) 28 4 == 1 && (msType w == 1 || msType w == 2) && msSize w != 3 && decide (msF w ≤ 4) &&
    msMode w != 0 && decide (msLane w < 2 ^ msSize w)

/-- R243: the AAD. -/
def msAad (w : List Word) : List Word := w.take 159

/-- R10, R209: every host lane of the group is locked and deskewed. -/
def State.hostLocked (s : State) (g : Fin 8) : Bool := (s.ghosts g).all fun n => s.hrx[n].amLock && s.hrx[n].deskewed

/-- R13, R15, R206: the position at which a line lane has joined its group: the LANE of its milestones, while it is locked to
milestones of the group with a LANE below the group size. -/
def State.joined (s : State) (g l : Fin 8) : Option Nat :=
  match s.lfd[l].last with
  | some w => if s.lfd[l].msLock && msGroup w == g.val && decide (msLane w < s.gsize g) then some (msLane w) else none
  | none => none

/-- R245: EPOCH_CTL of the milestone with sequence `seq`. -/
def State.epochCtl (s : State) (g : Fin 8) (seq : Nat) : Nat :=
  let c := s.seals[g]
  let a := match c.ann with
    | some a =>
      if a.drawn then 2 else 1 + 4 * (64 - seqDist seq a.m) + 16384 * b2n a.fresh
    | none => 0
  let k := match c.ackFor with
    | some e => 512 + 1024 * (e % 16)
    | none => 0
  a + k

/-- R198: the words of a milestone at lane position `p`; `wp` is its waypost payload as (WP_KIND, WP_LEN, words). -/
def State.milestone (s : State) (g : Fin 8) (p seq f : Nat) (idle : Bool) (tag : Option (BitVec 128))
    (wp : Nat × Nat × List Word) : List Word :=
  let m := s.grp[g].mode
  let l := Fin.ofNat 8 (g.val + p)
  let t := tag.getD 0
  let body :=
    [pk [(0x6B2DF1, 0), (if idle then 2 else 1, 24), (1, 28)], w32 seq,
     pk [(seq / 2 ^ 32 % 256, 0), (p, 8), (sizeCode (s.gsize g), 10), (g, 12), (f, 16), (m, 20)],
     (match m, s.seals[g].keys with
      | 3, some k => w32 k.tx.epoch
      | _, _ => 0),
     w32 (if m = 3 then s.epochCtl g seq else 0),
     t.extractLsb' 0 32, t.extractLsb' 32 32, t.extractLsb' 64 32, t.extractLsb' 96 32,
     s.setup.persInForce,
     pk [((s.operLrx l).1.code, 0), ((s.grpLocal g).1.code, 4), (b2n tag.isSome, 8), (b2n (s.hostLocked g), 9),
         (b2n (s.failClosed g), 10), (b2n s.seals[g].peered, 11)],
     pk [(wp.2.1, 0), (wp.1, 10)], 0, 0, 0, 0] ++ fit 128 wp.2.2 ++ List.replicate 15 0
  body ++ [crcWords body]

end Sys2Proof.Machine
end

