-- ==== Sys2Proof/Machine/FrameTx.lean ====
section
/-! DEFINITION. Line framing, transmit side: the milestone of a period (R197 to R201), host codewords on ingress (R209 to R211),
and the groups' ADMIN. -/

namespace Sys2Proof.Machine

/-- Islands that are powered, not under test and not FAILED. -/
def State.usable (s : State) (is : List Nat) : Bool :=
  is.all fun i => s.islandOn i && !s.underTest i && !s.islandFailed i

/-- The last 256 (or other number) of a list with one more. -/
def keepLast {α : Type} (n : Nat) (l : List α) (x : α) : List α := (l ++ [x]).drop (l.length + 1 - n)

/-- R212: a latency sample joins the last 256, with its time. -/
def State.sampled (s : State) (l : List (Nat × Nat)) (x : Option Nat) : List (Nat × Nat) :=
  match x with
  | some v => keepLast 256 l (s.now, v)
  | none => l

/-! ## Waypost payloads (R233, R236, R237) -/

/-- R237: a HELLO leaves in the milestone with this sequence. -/
def State.helloDue (s : State) (g : Fin 8) (seq : Nat) : Bool :=
  let c := s.seals[g]
  (!c.peered && decide (seq % 16 = 0)) || (s.grp[g].remote != 0xE && !c.peerPeered)

/-- R233, R377: the Basog fragments that may leave, a HELLO that is due first. -/
def State.basogNext (s : State) (g : Fin 8) (seq : Nat) : List (List Word) :=
  (if s.helloDue g seq then fragments s.ownHello else []) ++ if s.seals[g].pacedTo ≤ s.now then s.seals[g].outbox else []

/-- R233, R236: the payloads of a milestone, by lane position: fragments first, then user data. -/
def State.payloads (s : State) (g : Fin 8) (seq : Nat) : List (Nat × Nat × List Word) :=
  let k := s.gsize g
  let b := ((s.basogNext g seq).take k).map fun w => (1, 4 * w.length, w)
  b ++ (s.seals[g].wpOut.take (k - b.length)).map fun w => (2, w.1, w.2)

/-- What has left with the milestone no longer waits. -/
def State.payloadsSent (s : State) (g : Fin 8) (seq : Nat) : State :=
  let k := s.gsize g
  let n := min k (s.basogNext g seq).length
  let due := s.helloDue g seq
  s.setSeal g fun c => { c with
    outbox := c.outbox.drop (if due then n - 1 else n)
    wpOut := c.wpOut.drop (k - n)
    sentHello := if due then s.ownHello else c.sentHello }

/-! ## Tags (R243, R259) -/

/-- R243, R259: the tag of the previous period at lane position `p`, none after an IDLE period; SEAL_TAG_CORRUPT inverts bit 0
on position 0. -/
def State.tagOf (s : State) (g : Fin 8) (p : Nat) : Option (BitVec 128) :=
  s.seals[g].txPer.map fun x =>
    let t := Config.gcmTag x.2.1 (periodIv x.1 s.grp[g].seq p (b2n x.2.2)) (msAad (s.grp[g].sent.getD p []))
      ((s.seals[g].txData.filter fun d => d.1 == p).map (·.2))
    if p = 0 ∧ 0 < s.seals[g].corrupt then t ^^^ 1 else t

/-! ## The milestone -/

/-- R145, R149, R326: a line transmitter at a milestone. -/
def State.laneMilestone (s : State) (seq f : Nat) (idle : Bool) (l : Fin 8) : State :=
  let x := s.ltx[l]
  let applies := (x.ripe s.now).any && s.mayDrive l
  let a := s.setLtx l fun x => { (if applies then x.atMilestone s.now else x) with driving := s.mayDrive l }
  let b := if applies then (a.count .ltx l 3).raise .ltx l 0x12 (w32 seq) else a
  if b.ltxContent l < 2 then
    let fill := f + (if idle then 2048 else 0)
    ((b.count .ltx l 0 (2049 + f)).count .ltx l 1 fill).signal .ltx l 2 fill
  else b

/-- R141, R197 to R201: the group's transmit side runs. -/
def State.sends (s : State) (g : Fin 8) : Bool :=
  s.gsize g != 0 && s.grp[g].mode != 0 && s.isUp .grp g && s.usable [65] && !s.fgRuns

/-- R197: the sequence of the next milestone. -/
def State.nextSeq (s : State) (g : Fin 8) : Nat := if s.grp[g].running then (s.grp[g].seq + 1) % 2 ^ 40 else 0

/-! ## The ingress buffer and the data slots (R133, R200, R209, R243, R308) -/

/-- R122, R200, R308: generated codewords take the place of host codewords: the host is not locked, or a FRAMED-layer generator
runs. -/
def State.generates (s : State) (g : Fin 8) : Bool := !s.hostLocked g || s.framedGen g

/-- R122, R308: message `i` of the generated stream. -/
def State.madeMessage (s : State) (g : Fin 8) (i : Nat) : BitVec 5140 :=
  if s.framedGen g then framedMessage (fld s.tst[Fin.ofNat 24 (16 + g.val)].cfg 4 4) i else Config.faultMessage (s.grp[g].mode == 1) i

/-- `n` generated codewords as they stand in the ingress buffer. -/
def State.makes (s : State) (g : Fin 8) (n : Nat) : List Carried :=
  (List.range n).map fun i => .message (s.madeMessage g (s.grp[g].genIx + i))

/-- R200: generated codewords arrive at the rate of the local host PLL, 78.125 M/s for each lane of the group (R10). -/
def State.ingest (s : State) (g : Fin 8) : State :=
  if s.generates g then
    let n := (s.now - s.grp[g].madeAt) * (10 * s.gsize g) / 128 - s.grp[g].made
    s.setGrp g fun p => { p with ingress := p.ingress ++ s.makes g n, genIx := p.genIx + n, made := p.made + n }
  else s.setGrp g fun p => { p with madeAt := s.now, made := 0 }

/-- R200: before its first milestone LFE fills the ingress buffer to 12 codewords per lane: the latest host codewords, and
generated ones before them where there are fewer. -/
def State.prime (s : State) (g : Fin 8) : State :=
  let n := 12 * s.gsize g - s.grp[g].ingress.length
  s.setGrp g fun p => { p with
    ingress := s.makes g n ++ p.ingress.drop (p.ingress.length - 12 * s.gsize g), genIx := p.genIx + n, madeAt := s.now, made := 0 }

/-- R191, R209, R242: a carried codeword in data slot `i` of the group's period: encrypted under the keys of the period, its
parity computed after that. -/
def State.placed (s : State) (g : Fin 8) (i : Nat) (c : Carried) : Output :=
  let k := s.gsize g
  .data (i % k) (i / k) (match c with
    | .intact w => w
    | .message m => rsCode (match s.seals[g].txPer with
      | some x => m ^^^ Config.gcmMask x.2.1 (periodIv x.1 s.grp[g].seq (i % k) (b2n x.2.2)) (i / k)
      | none => m))

/-- R243: a message with its lane position, as the tag of the period takes it. -/
def State.plain (s : State) (g : Fin 8) (i : Nat) (c : Carried) : Nat × BitVec 5140 :=
  (i % s.gsize g, match c with
    | .intact w => BitVec.ofNat 5140 w.toNat
    | .message m => m)

/-- R133, R200, R201: the next `r` data slots of the period take the oldest codewords of the ingress buffer, generated ones
where it runs out (entry 64); in an IDLE period they are fill, and the codewords go. RS injections that wait are made in
them (R313). -/
def State.fillSlots (s : State) (g : Fin 8) (r : Nat) : State :=
  let n := r - s.grp[g].ingress.length
  let all := s.grp[g].ingress ++ s.makes g n
  let now := (all.take r).zipIdx s.grp[g].slot
  let t := (s.setGrp g fun p => { p with ingress := all.drop r, genIx := p.genIx + n, slot := p.slot + r }).setSeal g fun c =>
    { c with txData := if c.txPer.isSome then c.txData ++ now.map fun x => s.plain g x.2 x.1 else c.txData }
  let pair := fun (p : Nat) => Fin.ofNat 24 (16 + g.val + p)
  let out := if s.grp[g].txIdle then [] else now.map fun x => s.placed g x.2 x.1
  let done := fun (i : Nat) => out.any fun o => match o with
    | .data p _ _ => (pair p).val == i
    | .marked .. | .localFault .. => false
  { t with
    txOut := s.txOut.set g.val (injectSlots (fun p => s.tst[pair p].pend) out) g.isLt
    tst := vmapIx (fun i x => if done i then { x with pend := [] } else x) s.tst }

/-- R197, R200: the period in progress ends: its data slots are all filled. -/
def State.endPeriod (s : State) (g : Fin 8) : State :=
  let t := s.ingest g
  if t.grp[g].running then t.fillSlots g (2048 * t.gsize g - t.grp[g].slot) else t.prime g

/-- R200: D in units of 1/256 codeword per lane. -/
def State.excess (s : State) (g : Fin 8) (part : Byte) : Int :=
  (256 * s.grp[g].ingress.length / s.gsize g + part.toNat : Nat) - 3072

/-! ## PERIOD_START -/

/-- R200, PERIOD_START: LFE ends the group's period and forms its next milestone. -/
def State.periodStart (s : State) (g : Fin 8) (m : PeriodMeasure) : State :=
  if !s.sends g then s
  else
    let seq := s.nextSeq g
    let e := s.endPeriod g
    let f := if s.grp[g].running then fillOf (e.excess g m.part) else 2
    let a := e.epochTick g seq
    let idle := a.fillOnly g
    let wps := a.payloads g seq
    let words := (List.range (a.gsize g)).map fun p => a.milestone g p seq f idle (a.tagOf g p) (wps.getD p (0, 0, []))
    let b := (a.payloadsSent g seq).setSeal g fun c => { c with
      corrupt := if c.txPer.isSome then c.corrupt - 1 else c.corrupt
      txPer := if idle || a.grp[g].mode != 3 then none else c.keys.map fun k => (k.tx.epoch, k.tx.key, k.txDir == 1)
      txData := [], age := c.age + (if c.keys.isSome then 1 else 0) }
    let d := b.setGrp g fun p => { p with
      running := true, seq := seq, txIdle := idle, f := f, slot := 0, sent := words
      h2l := s.sampled p.h2l m.latency, latAt := if m.latency.isSome then s.now else p.latAt }
    (d.glanes g).foldl (fun t l => t.laneMilestone seq f idle l) d

/-! ## Host codewords (R209 to R211) -/

/-- R211: a codeword in an RS histogram. -/
def Hist.add (h : Hist) (corrected : Option Nat) (now : Nat) : Hist :=
  let i : Fin 18 := match corrected with
    | some n => Fin.ofNat 18 (min n 15)
    | none => 16
  { h with
    vals := upd (upd h.vals i fun v => sat64 (v + 1)) 17 fun v => sat64 (v + 1)
    lastUnc := if corrected.isNone then some now else h.lastUnc }

/-- R219: UNCORR_SEEN: the first uncorrectable codeword after 1 s without one. -/
def Hist.firstUnc (h : Hist) (now : Nat) : Bool :=
  match h.lastUnc with
  | some t => decide (t + 1000000000 ≤ now)
  | none => true

def State.setFec (s : State) (g : Fin 8) (f : Fec → Fec) : State := { s with fec := upd s.fec g f }

/-- R209, R210: what the ingress buffer takes of a host codeword: in PASS its bits; otherwise its corrected message, or that
of an error-marked codeword, with placeholders in place of alignment markers. -/
def State.carried (s : State) (g : Fin 8) (m : CodewordResult) (d : Option (Nat × BitVec 5140)) : Carried :=
  if s.grp[g].mode = 1 then .intact m.bits
  else match d with
    | some x => .message (if m.marks then Config.amPlace x.2 else x.2)
    | none => .message Config.errorMessage

/-- R209, HOST_CODEWORD_RECEIVED: decoded outside PASS, and queued for the data slots unless generated codewords take its
place; the next data slot of the period is filled. -/
def State.hostCodeword (s : State) (g : Fin 8) (m : CodewordResult) : State :=
  if !s.sends g || !s.usable [64] || !s.hostLocked g || s.scanHolds then s
  else
    let pass := s.grp[g].mode = 1
    let d := if pass then none else rsDecode m.bits
    let bad := !pass && d.isNone
    let a := if pass then s
      else (s.setFec g fun x => { x with host := x.host.add (d.map (·.1)) s.now }).raiseIf
        (bad && s.fec[g].host.firstUnc s.now) .fec g 0x10 1
    let b := if bad then a.count .fec g 4 else a
    if s.generates g then b
    else
      let t := b.setGrp g fun p => { p with
        ingress := if p.running then p.ingress ++ [s.carried g m d] else keepLast (12 * s.gsize g) p.ingress (s.carried g m d)
        madeAt := s.now, made := 0 }
      if s.grp[g].running && decide (s.grp[g].slot < 2048 * s.gsize g) then t.fillSlots g 1 else t

/-! ## ADMIN of a group -/

/-- R14, R214, R253: ADMIN of a group changes. Going DOWN stops its transmit side; the sequence restarts at 0 (R197), so a
SEALED group drops its keys (DEDUCED). -/
def State.adminGrp (s : State) (i : Nat) (a : Admin) : State :=
  let g := lineLane i
  let t := s.setAdmin .grp g a
  if a = .down then
    let u := t.setGrp g fun p => { p with running := false, sent := [], slot := 0, txIdle := true, ingress := [] }
    (if u.grp[g].mode = 3 ∧ !s.sec.zeroised then u.failClose g .first else u).ltxSettle
  else t

end Sys2Proof.Machine
end

