-- ==== Sys2Proof/Machine/FrameRx.lean ====
section
/-! DEFINITION. Line framing, receive side: inner lock, milestones, deskew, peers' flags, epochs and tags as received, data slots,
and the host clock (R196, R201 to R212, R245 to R251, R20 to R22). -/

namespace Sys2Proof.Machine

def State.setLfd (s : State) (l : Fin 8) (f : Lfd → Lfd) : State := { s with lfd := upd s.lfd l f }

/-- R219: position and line lane in an event argument. -/
def lanePos (p l : Nat) : List (Nat × Nat) := [(p, 0), (l, 4)]

/-- The position that events name for a lane: that of its latest milestone, else its place in the group. -/
def State.posOf (s : State) (g l : Fin 8) : Nat :=
  match s.lfd[l].last with
  | some w => msLane w
  | none => l.val - g.val

/-! ## Losing lock (R22, R204, R207) -/

/-- R22, R204, R207: a lane of the group has lost its milestones: no deskew, the clock loop holds, the egress buffer is
emptied. Once no lane is locked, nothing of the group awaits its tags any more. -/
def State.groupUnlock (s : State) (g : Fin 8) : State :=
  let p := s.grp[g]
  let t : State := { s.setGrp g fun p => { p with
      deskewed := false, locked := false, holdover := p.holdover || p.hasFreq
      holdAt := if p.hasFreq && !p.holdover then s.now else p.holdAt } with egress := s.egress.set g.val [] g.isLt }
  let u : State :=
    if (s.glanes g).any fun l => s.lfd[l].msLock then t
    else { t.setSeal g fun c => { c with tags := [], wpHeld := [] } with
      lay := vmapIx (fun l q => if (s.glanes g).any (fun x => x.val == l) then [] else q) s.lay }
  u.raiseIf (p.hasFreq && !p.holdover) .grp g 0x16 (w32 p.rxSeq)

/-! ## Tags (R243, R249 to R251) -/

/-- R236: a user payload is queued; the oldest of sixteen is dropped. -/
def State.queueWaypost (s : State) (g : Fin 8) (w : Waypost) : State :=
  let full := decide (16 ≤ s.seals[g].wpIn.length)
  let t := s.setSeal g fun c => { c with
    wpIn := (if full then c.wpIn.drop 1 else c.wpIn) ++ [w]
    lost := if full then min (c.lost + 1) 255 else c.lost }
  (if full then t.count .seal g 8 else t).raise .seal g 0x1E (w32 w.len)

/-- R236: what becomes of the payloads of a period once its tags are in. -/
def State.settleWayposts (s : State) (g : Fin 8) (seq : Nat) (ok : Bool) : State :=
  let mine := s.seals[g].wpHeld.filter fun w => w.seq == seq
  let t := s.setSeal g fun c => { c with wpHeld := c.wpHeld.filter fun w => w.seq != seq }
  if ok then mine.foldl (fun t w => t.queueWaypost g { w with verified := true }) t else t

/-- R251, R262: a tag failure at a position. -/
def State.tagFail (s : State) (g : Fin 8) (seq pos : Nat) : State :=
  let win := s.now / 1000000000
  (((s.setSeal g fun c => { c with
    fails := if c.failStart = win then c.fails + 1 else 1, failStart := win }).count .seal g 1).signal .seal g 2 1).raise
      .seal g 0x1A (pk [(pos, 0), (seq % 2 ^ 24, 8)])

/-! ### The egress buffer (R202) -/

/-- R122: a codeword whose place Local Fault takes. -/
def Output.lost : Output → Output
  | .data a b _ | .marked a b | .localFault a b => .localFault a b

def Output.isMarked : Output → Bool
  | .marked .. => true
  | .data .. | .localFault .. => false

/-- R122, R123, R202, R203: codewords enter the egress buffer, Local Fault in their place while PASS awaits its first
marker; HTX reads so that 32 per lane remain, and sends Local Fault instead while the group has cause for it. Error-marked
codewords that are delivered are counted (R326). -/
def State.deliverOut (s : State) (g : Fin 8) (os : List Output) : State :=
  let q := s.egress[g] ++ (if s.passHeld g then os.map Output.lost else os)
  let n := q.length - 32 * s.gsize g
  let bad := !s.isUp .grp g || s.noFrames g || s.failClosed g || s.grp[g].outRange
  let out := if bad then (q.take n).map Output.lost else q.take n
  { (s.count .fec g 3 (if bad || s.passHeld g then 0 else (os.filter Output.isMarked).length)) with
    egress := s.egress.set g.val (q.drop n) g.isLt, hostOut := s.hostOut.set g.val out g.isLt }

/-! ### Periods (R249 to R251) -/

/-- The heads of several lists, then the next of each, and so on: at most `n` rounds. -/
def roundRobin {α : Type} : Nat → List (List α) → List α
  | 0, _ => []
  | n + 1, ls => ls.filterMap List.head? ++ roundRobin n (ls.map List.tail)

/-- R133, R249: what the lay-by buffer holds of a period of the group, in the order of its codewords. -/
def State.layOf (s : State) (g : Fin 8) (seq : Nat) : List Output :=
  roundRobin 2048 ((List.range (s.gsize g)).filterMap fun p =>
    ((s.glanes g).find? fun l => s.posOf g l == p).map fun l => (s.lay[l].filter fun x => x.1 == seq).map (·.2))

/-- R249, R251: a period leaves the lay-by buffer. -/
def State.layDrop (s : State) (g : Fin 8) (seq : Nat) : State :=
  { s with lay := vmapIx (fun l q => if (s.glanes g).any (fun x => x.val == l) then q.filter fun x => x.1 != seq else q) s.lay }

/-- R251: what replaces a discarded period: the first codeword marked, the rest Local Fault. -/
def replacedBy : List Output → List Output
  | [] => []
  | o :: r => (match o with
    | .data a b _ | .marked a b | .localFault a b => Output.marked a b) :: r.map Output.lost

/-- R249 to R251: a period of the group has been judged on its lanes (0 verified, 1 failed, 2 unverifiable). -/
def State.periodJudged (s : State) (g : Fin 8) (seq : Nat) : State :=
  let rs := (s.glanes g).map fun l =>
    (l, match s.seals[g].tags.find? (fun x => x.1 == l.val && x.2.1 == seq) with
      | some x => x.2.2
      | none => 2)
  let stream := s.seals[g].stream
  let ok := rs.all fun r => r.2 == 0
  let fails := rs.filter fun r => r.2 == 1
  let a := s.setSeal g fun c => { c with tags := c.tags.filter fun x => x.2.1 != seq, tagBad := !stream && !ok }
  let b := fails.foldl (fun t r => t.tagFail g seq (t.posOf g r.1)) a
  let c :=
    if ok then (b.count .seal g 0).signal .seal g 1 1
    else if fails.isEmpty && stream then (b.count .grp g 5).count .seal g 2
    else b
  let out := s.layOf g seq
  let d := if out.isEmpty then c else (c.deliverOut g (if ok then out else replacedBy out)).layDrop g seq
  d.settleWayposts g seq ok

/-- R249, R250: every lane of the group has a verdict on the period, or is not locked, so that it can have none. -/
def State.periodOver (s : State) (g : Fin 8) (seq : Nat) : Bool :=
  (s.glanes g).all fun l => !s.lfd[l].msLock || s.seals[g].tags.any fun x => x.1 == l.val && x.2.1 == seq

/-- The periods on which every lane has been judged are settled, oldest verdict first. -/
def State.settlePeriods (s : State) (g : Fin 8) : State :=
  s.seals[g].tags.foldl (fun t x =>
    if t.seals[g].tags.any (fun y => y.2.1 == x.2.1) && t.periodOver g x.2.1 then t.periodJudged g x.2.1 else t) s

/-- R204: the sequence of the period in progress on a locked lane. -/
def Lfd.period (f : Lfd) : Nat :=
  match f.last with
  | some w => (msSeq w + f.misses) % 2 ^ 40
  | none => 0

/-- R204, R243, R247, R250: the verdict on the period that a milestone ends on a lane, none where nothing was to be
verified; a period whose own milestone was not received cannot be authenticated. -/
def State.verdict (s : State) (g l : Fin 8) (w : List Word) : Option Nat :=
  match s.seals[g].keys with
  | none => none
  | some k =>
    if s.grp[g].mode ≠ 3 then none
    else match s.lfd[l].last with
      | none => if msTagValid w then some 2 else none
      | some o =>
        if 0 < s.lfd[l].misses then some 2
        else if msType o ≠ 1 then none
        else if !msTagValid w then some 2
        else match k.rxKey s.seals[g].heard (msEpoch o) (msSeq o) with
          | none => some 1
          | some ky =>
            let t := Config.gcmTag ky (periodIv (msEpoch o) (msSeq o) (msLane o) k.rxDir) (msAad o) s.srx[l]
            some (if t = msTag w then 0 else 1)

/-- R243, R249: a verdict on a period of a lane; the period is settled once every lane has one. -/
def State.judge (s : State) (g l : Fin 8) (seq : Nat) (v : Option Nat) : State :=
  let a : State := { s with srx := s.srx.set l.val [] l.isLt }
  match v with
  | none => a
  | some r => (a.setSeal g fun c => { c with tags := c.tags ++ [(l.val, seq, r)] }).settlePeriods g

/-- R204, R207, R219: milestone lock of a lane is lost; the periods that waited for it alone are settled. -/
def State.loseLock (s : State) (g l : Fin 8) (byInner : Bool) : State :=
  if !s.lfd[l].msLock then s.setLfd l fun f => { f with cand := none }
  else
    let t := ((s.setLfd l fun f => { f with msLock := false, cand := none, misses := 0 }).count .grp g 3).raise .grp g 0x10
      (pk ((b2n byInner, 8) :: lanePos (s.posOf g l) l))
    (({ t with srx := t.srx.set l.val [] l.isLt } : State).settlePeriods g).groupUnlock g

/-! ## Inner lock (R196) -/

/-- R166, R196, R271, INNER_WINDOW: inner lock is found or goes on; a lane that finds it holds timing lock and keeps its
polarity. -/
def State.innerWindowed (s : State) (l : Fin 8) (count : Nat) : State :=
  if !s.usable [66] then s
  else
    let f := s.lfd[l]
    if f.inner then s.setLfd l fun f => { f with badWin := if 384 < count then f.badWin + 1 else 0 }
    else if !s.isUp .lrx l || !s.lrx[l].sd || s.laneFg l.val then s
    else if count ≤ 192 then
      let t := s.voidRestored (((s.setLfd l fun f => { f with inner := true, badWin := 0, cand := none }).setLrx l
        (·.lockTiming s.now)).keepPol l)
      match s.groupOf l with
      | some g => t.raise .fec g 0x14 (pk ((f.offset, 8) :: lanePos (l.val - g) l))
      | none => t
    else s.setLfd l fun f => { f with offset := (f.offset + 1) % 128 }

/-- R196, INNER_LOCK_LOST: inner lock and milestone lock end. -/
def State.innerLost (s : State) (l : Fin 8) : State :=
  if !s.lfd[l].inner || decide (s.lfd[l].badWin < 4) then s
  else
    let t := s.setLfd l fun f => { f with inner := false, badWin := 0 }
    match s.groupOf l with
    | some g =>
      let g := lineLane g
      (t.raise .fec g 0x13 (pk (lanePos (s.posOf g l) l))).loseLock g l true
    | none => t.setLfd l fun f => { f with msLock := false, cand := none }

/-! ## Conditions on the group (R205 to R208) -/

/-- The milestones in force on the locked lanes of a group. -/
def State.milestones (s : State) (g : Fin 8) : List (Fin 8 × List Word) :=
  (s.glanes g).filterMap fun l => if s.lfd[l].msLock then s.lfd[l].last.map fun w => (l, w) else none

/-- R206: a lane identity conflict. -/
def State.laneConflict (s : State) (g : Fin 8) : Bool :=
  let ms := s.milestones g
  ms.any (fun x => msGroup x.2 != g.val) ||
    ms.any fun x => ms.any fun y => x.1 != y.1 && msGroup x.2 == g.val && msGroup y.2 == g.val && msLane x.2 == msLane y.2

/-- R19, R206: a peer configuration difference. -/
def State.peerDiffers (s : State) (g : Fin 8) : Bool :=
  (s.milestones g).any fun x =>
    msGroup x.2 == g.val && (msSize x.2 != sizeCode (s.gsize g) || msMode x.2 != s.grp[g].mode)

/-- R205, R206, R208, R219: the conditions of a group after a valid milestone on lane `l`; only lanes that have joined the group
count towards its deskew. -/
def State.groupConditions (s : State) (g l : Fin 8) (w : List Word) : State :=
  let p := s.grp[g]
  let set := p.mode != 0
  let conflict := set && s.laneConflict g
  let here := msGroup w == g.val && (msSize w != sizeCode (s.gsize g) || msMode w != p.mode)
  let differs := set && (s.peerDiffers g || here)
  let locked := (s.glanes g).all fun x => (s.joined g x).isSome
  let far := (s.glanes g).any fun x => (s.joined g x).isSome && decide (20000 < s.lfd[x].skew.toNat)
  let rem := fld (w.getD 10 0) 4 4
  let remote := if differs && (rem == 3 || rem == 4) then 2 else rem
  let deskewed := locked && !far
  let back := locked && p.holdover
  let t := s.setGrp g fun p => { p with
    conflict := conflict, peerCfg := differs, range := far, deskewed := deskewed, remote := remote
    lockAt := if deskewed && !p.deskewed then s.now else p.lockAt
    holdover := p.holdover && !locked
    lastValid := s.now, rxSeq := msSeq w, peerSize := msSize w, peerMode := msMode w, idleRx := msType w == 2 }
  let a := t.raiseIf (conflict && !p.conflict) .grp g 0x13 (pk [(l, 4), (msLane w, 8), (msGroup w, 12)])
  let b := a.raiseIf (differs && !p.peerCfg) .grp g 0x14 (pk [(msSize w, 0), (msMode w, 4)])
  let c := if far && !p.range then
      (b.count .grp g 4).raise .grp g 0x12 (pk [(msLane w, 0), (s.lfd[l].skew.toNat, 16)]) else b
  let d := c.raiseIf (remote != p.remote) .grp g 0x19 (pk [(remote, 0), (p.remote, 4)])
  let ms := (s.now - p.holdAt) / 1000000
  if back then (d.count .grp g 6 ms).raise .grp g 0x17 (w32 (sat32 ms)) else d

/-! ## Epochs and payloads as received -/

/-- R247: the receiver switches to the announced key. -/
def State.switchRx (s : State) (g : Fin 8) (seq : Nat) : State :=
  match s.seals[g].keys with
  | some k =>
    match k.rx.next with
    | some (e, ky) =>
      let fresh := s.seals[g].heard.any fun h => h.2.1
      let ch := k.rx.chainAfter (if fresh then s.seals[g].pend.map (·.rx) else none)
      (s.setSeal g fun c => { c with
        keys := some { k with
          rx := { epoch := e, chain := ch, key := ky, next := none, old := some (k.rx.epoch, k.rx.key, seq) } }
        heard := none, ackFor := none, pend := if fresh then c.entered false else c.pend }).raise .seal g 0x17 (w32 e)
    | none => s
  | none => s

/-- R245 to R247: EPOCH and EPOCH_CTL of a valid milestone. -/
def State.epochsHeard (s : State) (g : Fin 8) (w : List Word) : State :=
  match s.seals[g].keys with
  | none => s
  | some k =>
    let c := w.getD 4 0
    let seq := msSeq w
    let a := s.setSeal g fun x =>
      { x with
        ann := x.ann.map fun n =>
          if bit c 9 && !n.drawn && fld c 10 4 == n.epoch % 16 then { n with acked := true } else n
        heard :=
          if fld c 0 2 = 1 ∧ 1 ≤ fld c 2 7 ∧ fld c 2 7 ≤ 64 ∧ msEpoch w = k.rx.epoch then
            some (k.rx.epoch + 1, bit c 14, (seq + 2 ^ 40 + fld c 2 7 - 64) % 2 ^ 40)
          else if fld c 0 2 = 2 then none else x.heard
        ackFor := if fld c 0 2 = 2 then none else x.ackFor
        keys := some { k with rx := { k.rx with
          next := if fld c 0 2 = 2 then none else k.rx.next
          old := match k.rx.old with
            | some o => if 2 ≤ seqDist seq o.2.2 ∧ seqDist seq o.2.2 < 2 ^ 39 then none else some o
            | none => none } } }
    match k.rx.next with
    | some n => if msEpoch w = n.1 ∧ fld c 0 2 ≠ 2 then a.switchRx g seq else a
    | none => a

/-- R239: both ends hold each other's HELLO, SEAL ADMIN is UP or TEST, a certificate is accepted; identity and keys are not
zeroised and the peer is not this device (R238, R254). -/
def State.canHandshake (s : State) (g : Fin 8) : Bool :=
  let c := s.seals[g]
  s.grp[g].mode == 3 && s.isUp .grp g && s.isUp .seal g && s.usable [68, 69, 71] && c.peered && c.peerPeered &&
    c.sentHello != [] && !c.selfPeer && s.sec.cert != [] && s.sec.identity && !s.sec.zeroised

/-- R235, R248: the first fragment of a KEYSHARE_I begins a handshake of a responder in service, which waits for the rest. -/
def State.respondsTo (s : State) (g : Fin 8) (type att : Nat) : Handshake :=
  let h := s.seals[g].hs
  if type = 2 ∧ h.phase = .idle ∧ s.canHandshake g ∧ ¬s.initiates g then
    { hsReset with phase := .waitI, attempt := h.attempt + (att + 256 - h.attempt % 256) % 256, start := s.now, step := s.now
                   inService := s.seals[g].keys.isSome }
  else h

/-- R233: a fragment of a message of several joins the message in progress, or begins another. -/
def State.fragmentIn (s : State) (g : Fin 8) (d : List Word) : State :=
  let ty := fld (d.getD 0 0) 0 8
  let att := fld (d.getD 0 0) 8 8
  let ix := fld (d.getD 0 0) 16 16
  let n := fld (d.getD 1 0) 0 16
  if n < 2 ∨ n ≤ ix then s
  else
    let same := s.seals[g].inbox.any fun r => r.type == ty && r.attempt == att && r.total == n
    s.setSeal g fun c =>
      let got := if same then (match c.inbox with
        | some r => r.got
        | none => []) else []
      { c with
        inbox := some { type := ty, attempt := att, total := n, got := insertKey ix (d.drop 2) got, at_ := s.now }
        hs := if same then c.hs else { s.respondsTo g ty att with nacks := 0 } }

/-- R233, R236: the waypost payload of a valid milestone. -/
def State.waypostIn (s : State) (g : Fin 8) (w : List Word) : State :=
  let len := fld (w.getD 11 0) 0 10
  let d := (w.drop 16).take ((len + 3) / 4)
  match fld (w.getD 11 0) 10 2 with
  | 1 => s.fragmentIn g d
  | 2 =>
    let p : Waypost := { len := len, verified := false, seq := msSeq w, position := msLane w, data := d }
    if s.grp[g].mode ≠ 3 then s.queueWaypost g p
    else if msType w = 1 ∧ s.seals[g].keys.isSome then s.setSeal g fun c => { c with wpHeld := c.wpHeld ++ [p] }
    else s
  | _ => s

/-! ## Milestones -/

/-- R203, R208: the flags, the epoch and the payload of a valid milestone of the group are used, from inner lock on. -/
def State.flagsHeard (s : State) (g l : Fin 8) (w : List Word) : State :=
  let c := s.groupConditions g l w
  if msGroup w ≠ g.val ∨ s.gsize g ≤ msLane w then c
  else
    let d := c.setSeal g fun x => { x with peerPeered := bit (w.getD 10 0) 11 }
    let e := if d.grp[g].mode = 3 then d.epochsHeard g w else d
    if e.isUp .grp g then e.waypostIn g w else e

/-- R20, R21, R202: the host frequency after a period with `f` fill slots, inside ±250 ppm. -/
def nextFreq (freq : Word) (f : Nat) : Word := BitVec.ofInt 32 (max (-250000) (min 250000 (Config.hostLoop freq f).toInt))

/-- What a valid milestone of a locked lane does: it judges the period before, opens the next, and at position 0 counts the
period and steers the locked host clock. -/
def State.useMilestone (s : State) (g l : Fin 8) (m : MilestoneArrival) : State :=
  let w := m.words
  let v := s.verdict g l w
  let a := s.judge g l ((msSeq w + 2 ^ 40 - 1) % 2 ^ 40) v
  let b := a.setLfd l fun f => { f with last := some w, lastAt := s.now, slot := 0, misses := 0, skew := m.lag }
  let f := (b.flagsHeard g l w).signal .grp g 3 (msF w)
  if f.joined g l ≠ some 0 then f
  else
    let h := (f.setGrp g fun p => { p with
      fHist := keepLast 1024 p.fHist (msF w), l2h := s.sampled p.l2h m.latency
      latAt := if m.latency.isSome then s.now else p.latAt
      freq := if p.locked && !p.outRange then nextFreq p.freq (msF w) else p.freq }).count .grp g 0
    (if msType w = 2 then h.count .grp g 1 else h).signal .grp g 1 1

/-- R203: milestone lock is declared. -/
def State.gainLock (s : State) (g l : Fin 8) (w : List Word) : State :=
  let t := s.setLfd l fun f => { f with msLock := true, cand := none, misses := 0, last := none, lockAt := s.now }
  let all := (s.glanes g).all fun x => t.lfd[x].msLock
  (t.setGrp g fun p => { p with fHist := if all then [] else p.fHist }).raise .grp g 0x11 (pk (lanePos (msLane w) l))

/-- R203, R204: the milestone stands where one is expected. -/
def Lfd.expects (f : Lfd) (slots : Nat) : Bool :=
  let fill := match f.last with
    | some w => msF w
    | none => 0
  if f.misses = 0 then slots == 2049 + fill
  else decide (4098 + fill ≤ slots) && decide (slots ≤ 4102 + fill)

/-- R199, R203, MILESTONE_RECEIVED. -/
def State.milestoneArrives (s : State) (l : Fin 8) (m : MilestoneArrival) : State :=
  match s.groupOf l with
  | none => s
  | some g =>
    let g := lineLane g
    let f := s.lfd[l]
    if !f.inner || !s.usable [66] || !msValid m.rsOk m.words then s
    else if f.msLock then (if f.expects m.slots then s.useMilestone g l m else s)
    else if f.cand.any (fun c => m.slots == 2049 + c) then (s.gainLock g l m.words).useMilestone g l m
    else (s.setLfd l fun f => { f with cand := some (msF m.words), last := some m.words, lastAt := s.now }).flagsHeard g l m.words

/-- R288: a valid milestone triggers the captures that are armed on it. -/
def State.milestoneTrigger (s : State) (l : Fin 8) (m : MilestoneArrival) : State :=
  if msValid m.rsOk m.words then
    s.triggerSets fun cfg =>
      fld cfg[2] 0 4 == 3 && fld cfg[2] 8 8 == 16 + l.val &&
        (bit cfg[5] 8 || fld cfg[4] 0 32 + 2 ^ 32 * fld cfg[5] 0 8 == msSeq m.words)
  else s

/-- R204, R207, MILESTONE_MISSED: bridged once, then lock is lost. -/
def State.milestoneMiss (s : State) (l : Fin 8) : State :=
  match s.groupOf l with
  | none => s
  | some g =>
    let g := lineLane g
    let f := s.lfd[l]
    if !f.msLock then s
    else
      let carried := s.seals[g].keys.isSome && s.grp[g].mode == 3 && f.last.any fun w => msType w == 1
      let a := s.judge g l f.period (if carried then some 2 else none)
      let b := ((a.setLfd l fun f => { f with misses := f.misses + 1, missed := sat32 (f.missed + 1), slot := 0 }).count
        .grp g 2).signal .grp g 2 1
      if f.misses = 0 then b else b.loseLock g l false

/-! ## Data slots (R209, R210, R247 to R250) -/

/-- R194, R210: counts of an RS codeword decoded on line receive; `n` symbols were corrected (none: uncorrectable). -/
def State.lineStats (s : State) (g : Fin 8) (n : Option Nat) : State :=
  let low := match n with
    | some k => decide (s.fec[g].binW ≤ k)
    | none => true
  let a := (s.setFec g fun x => { x with
    line := x.line.add n s.now, count := x.count + b2n low }).raiseIf (n.isNone && s.fec[g].line.firstUnc s.now) .fec g 0x10 0
  let b := a.signal .fec g 4 1
  match n with
  | some k => b.signal .fec g 5 k
  | none => b.signal .fec g 6 1

/-- R242, R247: a data slot of a SEALED period decrypted, none where no key is held. -/
def State.decrypted (s : State) (g l : Fin 8) (msg : BitVec 5140) : Option (BitVec 5140) :=
  match s.seals[g].keys, s.lfd[l].last with
  | some k, some w =>
    (k.rxKey s.seals[g].heard (msEpoch w) s.lfd[l].period).map fun ky =>
      msg ^^^ Config.gcmMask ky (periodIv (msEpoch w) s.lfd[l].period (msLane w) k.rxDir) s.lfd[l].slot
  | _, _ => none

/-- R209: the message towards the host: its placeholders give way to alignment markers. -/
def State.regenerated (s : State) (g : Fin 8) (marks : Bool) (plain : BitVec 5140) : BitVec 5140 :=
  if marks then Config.amRegenerate s.grp[g].bip plain else plain

/-- R15, R17, R209, R210: what a data slot of the lane at position `p` gives the host: in PASS the codeword as received;
otherwise its corrected (and decrypted) message with new parity, or an error-marked codeword. -/
def State.slotOut (s : State) (g l : Fin 8) (p : Nat) (m : CodewordResult) (ok : Bool) (plain : BitVec 5140) : Output :=
  if s.grp[g].mode = 1 then .data p s.lfd[l].slot m.bits
  else if ok then .data p s.lfd[l].slot (rsCode (s.regenerated g m.marks plain)) else .marked p s.lfd[l].slot

/-- R209: the running BIP and the count of marker codewords after a codeword towards the host. -/
def State.markersSeen (s : State) (g : Fin 8) (m : CodewordResult) (plain : BitVec 5140) : State :=
  s.setGrp g fun x => { x with
    bip := if x.mode = 1 then x.bip else Config.bipNext x.bip (s.regenerated g m.marks plain)
    marks := if x.mode = 1 ∧ m.marks then x.marks + 1 else x.marks }

/-- LINE_CODEWORD_RECEIVED: a data slot of a locked lane: decoded, and from a lane that has joined its group decrypted and
passed on, in HOLD through the lay-by buffer. -/
def State.lineCodeword (s : State) (l : Fin 8) (m : CodewordResult) : State :=
  match s.groupOf l with
  | none => s
  | some g =>
    let g := lineLane g
    let f := s.lfd[l]
    if !f.msLock || !s.usable [66, 67] || decide (2048 ≤ f.slot) then s
    else
      let d := rsDecode m.bits
      let a := (s.lineStats g (d.map (·.1))).setLfd l fun f => { f with slot := f.slot + 1 }
      if s.grp[g].mode = 0 ∨ f.last.all (fun w => msType w == 2) then a
      else match s.joined g l with
        | none => a
        | some p =>
          let msg := match d with
            | some x => x.2
            | none => BitVec.ofNat 5140 m.bits.toNat
          let sealed_ := s.grp[g].mode == 3
          let plain := if sealed_ then (s.decrypted g l msg).getD (Config.keyless msg) else msg
          let out := s.slotOut g l p m d.isSome plain
          let b := a.markersSeen g m plain
          let c : State := if sealed_ && s.seals[g].keys.isSome then { b with srx := upd b.srx l fun q => q ++ [plain] } else b
          if sealed_ && !s.seals[g].stream then
            (if s.seals[g].keys.isSome then { c with lay := upd c.lay l fun q => q ++ [(f.period, out)] } else c)
          else c.deliverOut g [out]

/-! ## Host clock (R20 to R22) -/

/-- R21, CLOCK_LOCKED: the loop locks to a frequency inside ±250 ppm. -/
def State.clockLocks (s : State) (g : Fin 8) (freq : Word) : State :=
  if s.gsize g = 0 || !s.grp[g].deskewed || s.grp[g].locked || s.grp[g].outRange || decide (250000 < freq.toInt.natAbs) then s
  else
    let t := s.setGrp g fun p => { p with locked := true, hasFreq := true, freq := freq }
    let mine := fun (n : Nat) => (s.ghosts g).any fun x => x.val == n
    ({ t with htx := vmapIx (fun n h => { h with recovered := h.recovered || mine n }) t.htx } : State).raise .grp g 0x18
      (w32 (sat32 ((s.now - s.grp[g].lockAt) / 1000)))

/-- R21, R22: outside ±250 ppm; the offset is in 0.01 ppm. -/
def outOfTracking (o : Word) : Bool := decide (o.toInt < -25000) || decide (25000 < o.toInt)

/-- R22, FREQ_RANGE: the frequency is held at the limit of the range. -/
def State.freqLeaves (s : State) (g : Fin 8) (o : Word) : State :=
  if s.gsize g = 0 || s.grp[g].outRange || !outOfTracking o then s
  else
    (s.setGrp g fun p => { p with
      outRange := true, freq := BitVec.ofInt 32 (if o.toInt < 0 then -250000 else 250000), hasFreq := true }).raise .grp g 0x15 o

/-- R22, PEER_FREQUENCY_IN_RANGE. -/
def State.freqReturns (s : State) (g : Fin 8) (o : Word) : State :=
  if !s.grp[g].outRange || outOfTracking o then s
  else s.setGrp g fun p => { p with outRange := false, freq := BitVec.ofInt 32 (10 * o.toInt) }

/-! ## RS margin (R216) -/

/-- R216, RS_MARGIN_WINDOW: a 1 s window ends; FEC_MARGIN_SET applies to the next. -/
def State.marginWindow (s : State) (g : Fin 8) : State :=
  s.setFec g fun x =>
    let low := decide (x.limitW ≤ x.count)
    { x with
      lastN := x.count, count := 0, low := if low then x.low + 1 else 0, ok := if low then 0 else x.ok + 1
      binW := x.bin, limitW := x.limit }

/-- R216, RS_MARGIN_LOW. -/
def State.marginFalls (s : State) (g : Fin 8) : State :=
  if s.fec[g].alarm || decide (s.fec[g].low < 10) then s
  else (s.setFec g fun x => { x with alarm := true, since := s.now }).raise .fec g 0x11 (w32 (sat32 s.fec[g].lastN))

/-- R216, RS_MARGIN_RESTORED. -/
def State.marginReturns (s : State) (g : Fin 8) : State :=
  if !s.fec[g].alarm || decide (s.fec[g].ok < 10) then s
  else (s.setFec g fun x => { x with alarm := false }).raise .fec g 0x12 (w32 ((s.now - s.fec[g].since) / 1000000000))

end Sys2Proof.Machine
end

