-- ==== Sys2Proof/Machine/Frame.lean ====
section
/-! DEFINITION. Classes GRP and FEC (R214 to R217), LATENCY_GET (R213), and the rows of line framing. -/

namespace Sys2Proof.Machine

/-! ## Tiling, crossbar, mode (R12 to R14, R214, R215) -/

/-- R214: the groups that a tiling change affects: every group, before and after, of a half whose code changes. -/
def State.tilingHits (s : State) (t : Nat × Nat) : List (Fin 8) :=
  (fins 8).filter fun g =>
    (sizeIn s.tiling g != 0 || sizeIn t g != 0) && (if g.val < 4 then s.tiling.1 != t.1 else s.tiling.2 != t.2)

/-- R14: the first affected group that is not ADMIN DOWN. -/
def State.groupsHeld (s : State) (gs : List (Fin 8)) : Option Fail :=
  (gs.find? fun g => s.isUp .grp g).map fun g => s.conflict .grp g

/-- R215: the tiling that GRP_TILING_SET names. -/
def tilingParam (w : Word) : Nat × Nat := (fld w 0 3, fld w 4 3)

/-- R120: a host transmitter whose group has no recovered frequency runs from the host PLL. -/
def State.hostPll (s : State) : State :=
  { s with htx := vmapIx (fun n h =>
      { h with recovered := h.recovered && (s.hostGroup n).any fun g => s.grp[Fin.ofNat 8 g.1].hasFreq }) s.htx }

/-- R214, R237: a new tiling. A group that keeps its base and its size keeps its mode (DEDUCED: it is not created by the
change); an affected group starts without peer, and a new one without a mode. -/
def State.setTiling (s : State) (t : Nat × Nat) : State :=
  let hits := s.tilingHits t
  let hit := fun (k : Nat) => hits.any fun g => g.val == k
  State.hostPll { s with
    tiling := t
    egress := vmapIx (fun k q => if hit k then [] else q) s.egress
    grp := vmapIx (fun k p =>
      if hit k then { grpReset with mode := if sizeIn s.tiling k = sizeIn t k then p.mode else 0 } else p) s.grp
    seals := vmapIx (fun k c => if hit k then { sealReset with hs := { hsReset with attempt := c.hs.attempt }
                                                               handshakes := c.handshakes, hsTime := c.hsTime, hsUs := c.hsUs
                                                               lastAbort := c.lastAbort } else c) s.seals }

/-- R214, GRP_TILING_SET. -/
def specGrpTilingSet : CmdSpec :=
  { op := 0x10, accepts := onlyZero, avail := availRun, count := exactly 1,
    bad := fun _ r =>
      let t := tilingParam (r.p 0)
      firstBad [(decide (1 ≤ t.1) && decide (t.1 ≤ 5) && decide (1 ≤ t.2) && decide (t.2 ≤ 5) && !bit (r.p 0) 3 &&
        clear (r.p 0) 7, 0)],
    cond := fun s r =>
      let t := tilingParam (r.p 0)
      let hits := s.tilingHits t
      ((s.stepRefused 5).or (s.groupsHeld hits)).or
        ((hits.find? fun (g : Fin 8) => s.grp[g].mode == 3 && sizeIn t g != sizeIn s.tiling g && s.isUp .seal g).map fun (g : Fin 8) =>
          s.conflict .seal g),
    act := change fun s r => (s.setTiling (tilingParam (r.p 0))).beginStep 5 }

/-- R215: the parameter words as a map. -/
def xbarParam (r : Req) : Vector Word 2 := vec [r.p 0, r.p 1] rfl

/-- R215: the first host lane whose position an earlier one already has. -/
def xbarClash (m : Vector Word 2) : Option Nat :=
  (List.range 16).find? fun n => (List.range n).any fun k => xbarPos m k == xbarPos m n

/-- R214: the groups whose host-lane positions a new map changes. -/
def State.xbarHits (s : State) (m : Vector Word 2) : List (Fin 8) :=
  s.bases.filter fun g => (List.range 16).any fun n =>
    let a := xbarPos s.xbar n
    let b := xbarPos m n
    a != b && [a, b].any fun p => decide (2 * g.val ≤ p) && decide (p < 2 * (g.val + s.gsize g))

/-- R120, R214: a new crossbar map; a host transmitter that moves takes the frequency of its new group when the loop next
locks. -/
def State.setXbar (s : State) (m : Vector Word 2) : State :=
  { s with
    xbar := m
    htx := vmapIx (fun n h => { h with recovered := h.recovered && xbarPos s.xbar n == xbarPos m n }) s.htx }

/-- R214, GRP_XBAR_SET. -/
def specGrpXbarSet : CmdSpec :=
  { op := 0x11, accepts := onlyZero, avail := availRun, count := exactly 2,
    bad := fun _ r => (xbarClash (xbarParam r)).map (· / 8),
    cond := fun s r => (s.stepRefused 5).or (s.groupsHeld (s.xbarHits (xbarParam r))),
    act := change fun s r => (s.setXbar (xbarParam r)).beginStep 5 }

/-- R214: a group's mode changes. -/
def State.setMode (s : State) (g : Fin 8) (m : Nat) : State :=
  if s.grp[g].mode = m then s
  else
    let t := s.setGrp g fun p => { p with mode := m, conflict := false, peerCfg := false }
    if m = 3 then t.setSeal g fun c => { c with
        closed := if s.sec.zeroised then .zeroised else if c.selfPeer then .selfPeer else .first }
    else if s.grp[g].mode = 3 then t.setSeal g fun c => { c with closed := .none, retryAt := none, reFailed := false }
    else t

/-- R55, R214, R232: a mode of SEALED, or a change away from it. -/
def sealMode (s : State) (r : Req) : Bool :=
  fld (r.p 0) 0 2 == 3 || (s.members .grp r.inst).any fun g => s.grp[lineLane g].mode == 3

/-- R214, R317, GRP_MODE_SET. -/
def specGrpModeSet : CmdSpec :=
  { op := 0x12, avail := availRun, count := exactly 1, secure := sealMode,
    locked := fun s r => fld (r.p 0) 0 2 == 3 && !s.owned,
    bad := fun _ r => firstBad [(clear (r.p 0) 2 && fld (r.p 0) 0 2 != 0, 0)],
    cond := fun s r =>
      let g := lineLane r.inst
      ((s.stepRefused 6).or (require (s.gsize g != 0 && s.admin .grp g == .down) (s.conflict .grp g))).or
        (require (s.grp[g].mode != 3 || fld (r.p 0) 0 2 == 3 || s.admin .seal g == .down) (s.conflict .seal g)) |>.or
        (if fld (r.p 0) 0 2 ≠ 3 then none
         else ((s.glanes g).find? fun l => s.isUp .tst (16 + l.val)).map fun l => s.conflict .tst (16 + l.val)),
    act := change fun s r => (s.setMode (lineLane r.inst) (fld (r.p 0) 0 2)).beginStep 6 }

/-- R215: the tiling word. -/
def tilingWord (t : Nat × Nat) : Word := pk [(t.1, 0), (t.2, 4)]

/-- R214, GRP_CONFIG_GET. -/
def specGrpConfigGet : CmdSpec :=
  { op := 0x13, accepts := onlyZero, avail := availRun, count := exactly 0,
    act := answer fun s _ =>
      [tilingWord s.tiling, s.xbar[0], s.xbar[1],
       pk ((fins 8).flatMap fun g =>
         [(s.grp[g].mode, 4 * g.val), (b2n (s.grp[g].mode == 3 && s.seals[g].stream), 4 * g.val + 2)])] }

/-- R215: pairs of 16-bit values in words. -/
def pairWords : List Nat → List Word
  | a :: b :: r => pk [(min a 0xFFFF, 0), (min b 0xFFFF, 16)] :: pairWords r
  | [a] => [w32 (min a 0xFFFF)]
  | [] => []

/-- The element of a list at each place that is not yet taken: `none`s filled from a second list, in order. -/
def fillGaps {α : Type} : List (Option α) → List α → List (Option α)
  | [], _ => []
  | some x :: r, l => some x :: fillGaps r l
  | none :: r, l => l.head? :: fillGaps r l.tail

/-- R206, R215: the line lane at each position of a group: the lane that has joined it there; the positions that none has
joined show the lanes that have joined none, in rising order (entry 66). -/
def State.atPos (s : State) (g : Fin 8) (p : Nat) : Option (Fin 8) :=
  let taken := (List.range (s.gsize g)).map fun k => (s.glanes g).find? fun l => s.joined g l == some k
  (fillGaps taken ((s.glanes g).filter fun l => !taken.contains (some l))).getD p none

/-- One bit per position, from a property of the lane there. -/
def State.posBits (s : State) (g : Fin 8) (f : Fin 8 → Bool) : Nat :=
  (List.range 4).foldl (fun a p => a + 2 ^ p * b2n ((s.atPos g p).any f)) 0

/-- R215: words 0 and 1 of the frame status block. -/
def State.frameHead (s : State) (g : Fin 8) : List Word :=
  let p := s.grp[g]
  [pk [(s.posBits g (fun l => (s.joined g l).isSome), 0), (s.posBits g (fun l => s.lfd[l].inner), 4), (b2n p.deskewed, 8), (b2n p.locked, 9),
      (b2n p.holdover, 10),
       (b2n p.idleRx, 11), (p.peerSize, 12), (p.peerMode, 14), (p.remote, 16)], p.freq]

/-- R215: the frame status block. -/
def State.frameStatus (s : State) (g : Fin 8) : List Word :=
  let p := s.grp[g]
  s.frameHead g ++ lohi p.rxSeq ++ lohi p.seq ++
    pairWords ((List.range 4).map fun k => match s.atPos g k with
      | some l => if (s.joined g l).isSome then s.lfd[l].skew.toNat else 0
      | none => 0) ++
    pairWords ((List.range 5).map fun f => (p.fHist.filter (· == f)).length)

/-- R214, GRP_FRAME_STATUS_GET. -/
def specGrpFrameStatusGet : CmdSpec :=
  { op := 0x14, avail := availRun, count := exactly 0, isl := ownIsl,
    act := answer fun s r => s.frameStatus (lineLane r.inst) }

/-! ## FEC (R216, R217) -/

/-- R217: an RS histogram as a block. -/
def histBlock (h : Hist) (side : Nat) (monitor : Bool) : List Word :=
  let sat := (List.range 18).foldl (fun a i => a + 2 ^ i * b2n (decide (2 ^ 64 - 1 ≤ h.vals.toList.getD i 0))) 0
  pk [(side, 0), (b2n monitor, 1)] :: lohi h.start ++ h.vals.toList.flatMap lohi ++ [w32 sat]

/-- R324: a cleared histogram. -/
def Hist.cleared (h : Hist) (now : Nat) : Hist := { h with vals := .replicate 18 0, start := now }

/-- R216, FEC_HIST_GET. -/
def specFecHistGet : CmdSpec :=
  { op := 0x10, avail := availRun, counter := true, count := exactly 1,
    bad := fun _ r => firstBad [(clear (r.p 0) 2, 0)], isl := ownIsl,
    cond := fun s r =>
      require (!(bit (r.p 0) 0 && s.grp[lineLane r.inst].mode == 1)) (s.conflict .grp r.inst),
    act := fun s r =>
      let g := lineLane r.inst
      let x := s.fec[g]
      let side := bit (r.p 0) 0
      { st := if bit (r.p 0) 1 then
            s.setFec g fun x => if side then { x with host := x.host.cleared s.now } else { x with line := x.line.cleared s.now }
          else s,
        pay := histBlock (if side then x.host else x.line) (b2n side) (!side && s.grp[g].mode == 1) } }

/-- R216, FEC_LANE_GET. -/
def specFecLaneGet : CmdSpec :=
  { op := 0x11, avail := availRun, count := exactly 0, isl := ownIsl,
    act := answer fun s r =>
      let g := lineLane r.inst
      (List.range 4).flatMap fun p => match s.atPos g p with
        | some l =>
          let f := s.lfd[l]
          [pk [(b2n f.inner, 0), (b2n (s.joined g l).isSome, 1), (l, 4), (f.offset, 8)], w32 (sat32 f.errMs), w32 (sat32 f.uncMs),
           w32 (f.missed - s.obs.missed[l])]
        | none => [0xF0, 0, 0, 0] }

/-- R216, FEC_MARGIN_SET. -/
def specFecMarginSet : CmdSpec :=
  { op := 0x12, avail := availRun, count := exactly 1,
    bad := fun _ r => firstBad [(fld (r.p 0) 0 4 != 0 && fld (r.p 0) 4 12 == 0 && fld (r.p 0) 16 16 != 0, 0)],
    act := change fun s r => s.setFec (lineLane r.inst) fun x =>
      { x with bin := fld (r.p 0) 0 4, limit := fld (r.p 0) 16 16 } }

/-! ## Latency (R212, R213) -/

/-- R213: mean, minimum and maximum of the samples. -/
def figures (l : List Nat) : List Word :=
  match l with
  | [] => [0, 0, 0]
  | a :: r => [w32 ((a :: r).foldl (· + ·) 0 / (a :: r).length), w32 (r.foldl (fun x y => if y < x then y else x) a),
               w32 (r.foldl (fun x y => if x < y then y else x) a)]

/-- R212: the samples of a direction that is valid: 256 taken since the group last became OPER UP or DEGRADED. -/
def State.latencyOf (s : State) (g : Fin 8) (l : List (Nat × Nat)) : List Nat :=
  match s.obs.carry[g] with
  | none => []
  | some t =>
    let vs := (l.filter fun x => decide (t ≤ x.1)).map (·.2)
    if 256 ≤ vs.length then vs else []

/-- R213, LATENCY_GET. -/
def specLatencyGet : CmdSpec :=
  { op := 0x44, avail := availRun, count := exactly 1,
    bad := fun s r => firstBad [(clear (r.p 0) 3 && s.gsize (fld (r.p 0) 0 3) != 0, 0)],
    isl := fun _ _ => [64, 65, 66, 67],
    act := answer fun s r =>
      let g := lineLane (fld (r.p 0) 0 3)
      let p := s.grp[g]
      let h2l := s.latencyOf g p.h2l
      let l2h := s.latencyOf g p.l2h
      pk [(b2n (h2l != []), 0), (b2n (l2h != []), 1), (g, 4)] :: figures h2l ++ figures l2h ++ lohi p.latAt }

/-! ## Rows -/

/-- R214, GRP_TILING_SET. -/
def execGrpTilingSet (dt : Nat) (c : Cmd) (s : State) := done (hostRow dt specGrpTilingSet .grp c s)
/-- R214, GRP_XBAR_SET. -/
def execGrpXbarSet (dt : Nat) (c : Cmd) (s : State) := done (hostRow dt specGrpXbarSet .grp c s)
/-- R214, R317, GRP_MODE_SET. -/
def execGrpModeSet (dt : Nat) (c : Cmd) (s : State) := done (hostRow dt specGrpModeSet .grp c s)
/-- R214, GRP_CONFIG_GET. -/
def execGrpConfigGet (dt : Nat) (c : Cmd) (s : State) := done (hostRow dt specGrpConfigGet .grp c s)
/-- R214, GRP_FRAME_STATUS_GET. -/
def execGrpFrameStatusGet (dt : Nat) (c : Cmd) (s : State) := done (hostRow dt specGrpFrameStatusGet .grp c s)
/-- R216, FEC_HIST_GET. -/
def execFecHistGet (dt : Nat) (c : Cmd) (s : State) := done (hostRow dt specFecHistGet .fec c s)
/-- R216, FEC_LANE_GET. -/
def execFecLaneGet (dt : Nat) (c : Cmd) (s : State) := done (hostRow dt specFecLaneGet .fec c s)
/-- R216, FEC_MARGIN_SET. -/
def execFecMarginSet (dt : Nat) (c : Cmd) (s : State) := done (hostRow dt specFecMarginSet .fec c s)
/-- R213, LATENCY_GET. -/
def execLatencyGet (dt : Nat) (c : Cmd) (s : State) := done (hostRow dt specLatencyGet .dev c s)

/-- R196, INNER_WINDOW. -/
def execInnerWindow (dt : Nat) (l : Fin 8) (count : Nat) (s : State) := done (eventRow dt (·.innerWindowed l count) s)
/-- R196, INNER_LOCK_LOST. -/
def execInnerLockLost (dt : Nat) (l : Fin 8) (s : State) := done (eventRow dt (·.innerLost l) s)
/-- R200, PERIOD_START. -/
def execPeriodStart (dt : Nat) (g : Fin 8) (m : PeriodMeasure) (s : State) := done (eventRow dt (·.periodStart g m) s)
/-- R209, HOST_CODEWORD_RECEIVED. -/
def execHostCodewordReceived (dt : Nat) (g : Fin 8) (m : CodewordResult) (s : State) :=
  done (eventRow dt (·.hostCodeword g m) s)
/-- R210, LINE_CODEWORD_RECEIVED. -/
def execLineCodewordReceived (dt : Nat) (l : Fin 8) (m : CodewordResult) (s : State) :=
  done (eventRow dt (·.lineCodeword l m) s)
/-- R203, MILESTONE_RECEIVED. -/
def execMilestoneReceived (dt : Nat) (l : Fin 8) (m : MilestoneArrival) (s : State) :=
  done (eventRow dt (fun s => (s.milestoneTrigger l m).milestoneArrives l m) s)
/-- R204, MILESTONE_MISSED. -/
def execMilestoneMissed (dt : Nat) (l : Fin 8) (s : State) := done (eventRow dt (·.milestoneMiss l) s)
/-- R21, CLOCK_LOCKED. -/
def execClockLocked (dt : Nat) (g : Fin 8) (freq : Word) (s : State) := done (eventRow dt (·.clockLocks g freq) s)
/-- R22, FREQ_RANGE. -/
def execFreqRange (dt : Nat) (g : Fin 8) (offset : Word) (s : State) := done (eventRow dt (·.freqLeaves g offset) s)
/-- R22, PEER_FREQUENCY_IN_RANGE. -/
def execPeerFrequencyInRange (dt : Nat) (g : Fin 8) (offset : Word) (s : State) :=
  done (eventRow dt (·.freqReturns g offset) s)
/-- R216, RS_MARGIN_WINDOW. -/
def execRsMarginWindow (dt : Nat) (g : Fin 8) (s : State) := done (eventRow dt (·.marginWindow g) s)
/-- R216, RS_MARGIN_LOW. -/
def execRsMarginLow (dt : Nat) (g : Fin 8) (s : State) := done (eventRow dt (·.marginFalls g) s)
/-- R216, RS_MARGIN_RESTORED. -/
def execRsMarginRestored (dt : Nat) (g : Fin 8) (s : State) := done (eventRow dt (·.marginReturns g) s)

end Sys2Proof.Machine
end

