-- ==== Sys2Proof/Machine/Seal.lean ====
section
/-! DEFINITION. The sealed link: peers (R237, R238), handshakes (R239 to R241), epochs' rows (R246 to R248), tag failures (R251)
and class SEAL (R259, R260). -/

namespace Sys2Proof.Machine

/-! ## Peers -/

/-- R237, R238: a HELLO received by a group. -/
def State.helloArrives (s : State) (g : Fin 8) (m : List Word) : State :=
  if s.gsize g = 0 || s.grp[g].mode = 0 || !msgOk 1 m then s
  else
    let c := s.seals[g]
    let id := helloId m
    let inSeal := s.grp[g].mode == 3 && !s.sec.zeroised
    if s.sec.identity && id == identityHash then
      let t := s.setSeal g fun c => { c with peered := true, selfPeer := true, hello := m, retryAt := none }
      (if inSeal && !c.selfPeer then t.failClose g .selfPeer else t).raiseIf (!c.selfPeer) .seal g 0x1D 0
    else
      let changed := c.selfPeer || c.remembered.any (· != id)
      let t := if inSeal && changed then s.failClose g .peer else s
      let u := t.setSeal g fun c => { c with
        peered := true, selfPeer := false, hello := m, remembered := some id
        retryAt := if changed then none else c.retryAt }
      match c.remembered with
      | none => u.raise .seal g 0x10 (m.getD 4 0)
      | some r => u.raiseIf (r != id) .seal g 0x12 (m.getD 4 0)

/-- R238, PEER_LOST: no valid milestone for 8 periods. -/
def State.peerLost (s : State) (g : Fin 8) : State :=
  let p := s.grp[g]
  let c := s.seals[g]
  if decide (s.now < p.lastValid + eightPeriods) || (!c.peered && p.remote == 0xE) then s
  else
    let t := s.setGrp g fun p => { p with remote := 0xE, conflict := false, peerCfg := false, range := false }
    let u := t.raiseIf (p.remote != 0xE) .grp g 0x19 (pk [(0xE, 0), (p.remote, 4)])
    let v := u.raiseIf c.peered .seal g 0x11 (w32 p.rxSeq)
    let w := v.setSeal g fun c => { c with peered := false, peerPeered := false, selfPeer := false, hello := [], retryAt := none }
    if p.mode = 3 ∧ !s.sec.zeroised then w.failClose g .peer else w

/-! ## Handshake (R239 to R241) -/

/-- A message joins the fragments that wait. -/
def Seal.send (c : Seal) (m : List Word) : Seal := { c with outbox := c.outbox ++ fragments m, msgs := c.msgs ++ [m] }

/-- R241, R248, R252: a handshake fails for a cause, on this side or by the peer's ABORT. -/
def State.failHandshake (s : State) (g : Fin 8) (cause : Nat) (byPeer : Bool) : State :=
  let c := s.seals[g]
  let a := ((s.setSeal g fun c => { c with
      lastAbort := cause % 256, outbox := [], msgs := [], inbox := none, hs := { hsReset with attempt := c.hs.attempt }
      reFailed := c.keys.isSome
      retryAt := some (s.now + (if cause = 4 || c.keys.isSome then longRetry else retryPeriods)) }).count .seal g 5).raise
        .seal g 0x15 (pk [(cause % 256, 0), (b2n byPeer, 8)])
  let b := if cause = 4 then (a.raise .seal g 0x13 (w32 (b2n byPeer))).failClose g .refused else a
  if byPeer then b
  else b.setSeal g fun x => { x with outbox := fragments (msgHeader 7 32 c.hs.attempt ++ [w32 cause, 0, 0, 0]) }

/-- R241, R248: a new attempt is due. -/
def State.handshakeDue (s : State) (g : Fin 8) : Bool :=
  let c := s.seals[g]
  match c.retryAt with
  | some t => decide (t ≤ s.now)
  | none => c.keys.isNone || (c.pend.isNone && decide (c.rehandEpochs ≤ c.since))

/-- R239, R248: step 1 or 2: the initiator sends KEYSHARE_I; the responder of a group without keys waits for it. -/
def State.beginHandshake (s : State) (g : Fin 8) : State :=
  let c := s.seals[g]
  if !s.canHandshake g || !s.handshakeDue g || c.hs.phase != .idle then s
  else
    let att := if c.retryAt.isSome then (c.hs.attempt + 1) % 2 ^ 32 else c.hs.attempt
    let base : Handshake := { hsReset with attempt := att, start := s.now, step := s.now, inService := c.keys.isSome }
    if s.initiates g then
      let m := msgHeader 2 12720 att ++ fit 392 (Config.kemPublic s.freeWord) ++ fit 24 (Config.ecdhShare s.freeWord) ++
        fit 2760 s.sec.cert
      (s.setSeal g fun c => { ({ c with msgs := [] } : Seal).send m with
        retryAt := none, hs := { base with phase := .sentI, secret := s.freeWord, ksI := m } }).useFree
    else if c.keys.isNone then s.setSeal g fun c => { c with retryAt := none, hs := { base with phase := .waitI } }
    else s

/-- R240: H1. -/
def transcript (helloI helloR ksI ksR : List Word) : Hash := Config.sha384 (helloI ++ helloR ++ ksI ++ ksR)

/-- R238, R239: the peer's certificate chain is well formed and signed, and names the identity of its HELLO; otherwise
BAD_CERT. -/
def State.chainGood (s : State) (g : Fin 8) (chain : List Word) : Bool :=
  chainFormed chain && chainSigned chain && hashOf ((chain.drop 4).take 12) == helloId s.seals[g].hello

/-- R227, R238: the policy admits the identity of the chain; otherwise POLICY. -/
def State.chainAdmitted (s : State) (g : Fin 8) (chain : List Word) : Bool :=
  s.admitted (hashOf ((chain.drop 4).take 12)) (helloOwner s.seals[g].hello)

/-- R239: step 4: the responder holds KEYSHARE_I. -/
def State.keyshareIArrives (s : State) (g : Fin 8) (m : List Word) : State :=
  let c := s.seals[g]
  let ready := s.canHandshake g && !s.initiates g
  if !ready then s
  else if c.hs.phase ≠ .waitI ∧ c.hs.phase ≠ .idle then s.failHandshake g 6 false
  else if !msgOk 2 m then s.failHandshake g 6 false
  else
    let a := s.setSeal g fun c => { c with
      inbox := none, outbox := [], msgs := []
      hs := { c.hs with attempt := msgAttempt m, start := if c.hs.phase = .waitI then c.hs.start else s.now, step := s.now
                        inService := c.keys.isSome, ksI := m, phase := .waitI } }
    if !s.chainGood g (m.drop 420) then a.failHandshake g 2 false
    else if !s.chainAdmitted g (m.drop 420) then a.failHandshake g 4 false
    else
      let e := Config.kemEncap s.freeWord ((m.drop 4).take 392)
      let x := Config.ecdhSecret s.freeWord ((m.drop 396).take 24)
      let u := msgHeader 3 16128 (msgAttempt m) ++ fit 392 e.1 ++ fit 24 (Config.ecdhShare s.freeWord) ++ fit 2760 s.sec.cert
      let h1 := transcript c.hello c.sentHello m u
      let sig := fit 852 (Config.identitySign h1.toList)
      (a.setSeal g fun c => { c.send (u ++ sig) with
        hs := { c.hs with phase := .sentR, secret := s.freeWord, ksR := u ++ sig
                          prk := some (Config.hkdfExtract h1.toList (e.2 ++ x)), h2 := some (Config.sha384 (h1.toList ++ sig)) }
        }).useFree

/-- R239: step 6: the initiator holds KEYSHARE_R; it verifies, then checks admission, and sends FINISH_I and its CONFIRM. -/
def State.keyshareRArrives (s : State) (g : Fin 8) (m : List Word) : State :=
  let c := s.seals[g]
  if c.hs.phase = .idle then s
  else if c.hs.phase ≠ .sentI ∨ !msgOk 3 m then s.failHandshake g 6 false
  else if msgAttempt m ≠ c.hs.attempt then s
  else
    let chain := (m.drop 420).take 2760
    let h1 := transcript c.sentHello c.hello c.hs.ksI (m.take 3180)
    let sig := m.drop 3180
    if !s.chainGood g chain then s.failHandshake g 2 false
    else if !Config.hybridValid (certKey chain) h1.toList sig then s.failHandshake g 3 false
    else if !s.chainAdmitted g chain then s.failHandshake g 4 false
    else
      let ss := Config.kemDecap c.hs.secret ((m.drop 4).take 392)
      let x := Config.ecdhSecret c.hs.secret ((m.drop 396).take 24)
      let prk := Config.hkdfExtract h1.toList (ss ++ x)
      let h2 := Config.sha384 (h1.toList ++ sig)
      let mine := fit 852 (Config.identitySign h2.toList)
      let h3 := Config.sha384 (h2.toList ++ mine)
      let att := c.hs.attempt
      s.setSeal g fun c => { (c.send (msgHeader 4 3424 att ++ mine)).send
          (msgHeader 5 64 att ++ (confirmOf prk h3 0).toList) with
        inbox := none
        hs := { c.hs with phase := .sentFinish, step := s.now, ksR := m, prk := some prk, h2 := some h2, h3 := some h3 } }

/-- R239: step 8: the responder holds FINISH_I. -/
def State.finishIArrives (s : State) (g : Fin 8) (m : List Word) : State :=
  let c := s.seals[g]
  if c.hs.phase = .idle then s
  else if c.hs.phase ≠ .sentR ∨ !msgOk 4 m then s.failHandshake g 6 false
  else if msgAttempt m ≠ c.hs.attempt then s
  else
    let h2 := c.hs.h2.getD (hashOf [])
    let sig := m.drop 4
    if !Config.hybridValid (certKey (c.hs.ksI.drop 420)) h2.toList sig then s.failHandshake g 3 false
    else s.setSeal g fun c => { c with
      inbox := none, hs := { c.hs with phase := .gotFinish, step := s.now, h3 := some (Config.sha384 (h2.toList ++ sig)) } }

/-- R228, R239, R244, R248: a handshake is done, and STREAM of the policy applies. From fail-closed its keys are in force under
epoch 1; in service they enter at the next announcements. -/
def State.handshakeDone (s : State) (g : Fin 8) (initiator : Bool) (prk : Hash) : State :=
  let c := s.seals[g]
  let us := (s.now - c.hs.start) / 1000
  let pol := s.sec.policy.getD 4 0
  let d := if initiator then 0 else 1
  let a := s.setSeal g fun c => { c with
    keys := match c.keys with
      | some k => some k
      | none => some { initiator := initiator, tx := firstKeys prk d 1, rx := firstKeys prk (1 - d) 1 }
    pend := if c.keys.isSome then some { initiator := initiator, prk := some prk, tx := .due, rx := .due } else none
    age := if c.keys.isSome then c.age else 0
    limits := if c.keys.isSome then c.limits else pol
    stream := bit pol 0
    since := 0, handshakes := min (c.handshakes + 1) 65535, hsTime := s.now, hsUs := us, reFailed := false, retryAt := none
    closed := .none, authId := some (helloId c.hello), authOwner := some (helloOwner c.hello), inbox := none
    hs := { hsReset with attempt := c.hs.attempt } }
  let b := (a.count .seal g 4).raise .seal g 0x14 (w32 (sat32 us))
  b.raiseIf c.keys.isNone .seal g 0x1C 1

/-- R239, R240: steps 8 and 9: a CONFIRM is verified. -/
def State.confirmArrives (s : State) (g : Fin 8) (m : List Word) : State :=
  let c := s.seals[g]
  let prk := c.hs.prk.getD (hashOf [])
  let h3 := c.hs.h3.getD (hashOf [])
  if c.hs.phase = .idle then s
  else if !msgOk 5 m then s.failHandshake g 6 false
  else if msgAttempt m ≠ c.hs.attempt then s
  else match c.hs.phase with
    | .gotFinish =>
      if hashOf (m.drop 4) ≠ confirmOf prk h3 0 then s.failHandshake g 5 false
      else (s.handshakeDone g false prk).setSeal g fun c =>
        c.send (msgHeader 5 64 c.hs.attempt ++ (confirmOf prk h3 1).toList)
    | .sentFinish =>
      if hashOf (m.drop 4) ≠ confirmOf prk h3 1 then s.failHandshake g 5 false else s.handshakeDone g true prk
    | .idle | .sentI | .waitI | .sentR => s.failHandshake g 6 false

/-- R235, NACK: the missing fragments of a message of the present attempt are repeated. -/
def State.nackArrives (s : State) (g : Fin 8) (m : List Word) : State :=
  if !msgOk 6 m then s
  else
    let ty := (m.getD 4 0).toNat
    let map := (m.getD 5 0).toNat + 2 ^ 32 * (m.getD 6 0).toNat
    match s.seals[g].msgs.find? (fun x => msgType x == ty) with
    | none => s
    | some x =>
      let fs := fragments x
      let again := ((List.range fs.length).filter map.testBit).map fun i => fs.getD i []
      (s.setSeal g fun c => { c with outbox := c.outbox ++ again }).count .seal g 7 again.length

/-- R241, R260, ABORT: its cause is recorded, and a handshake in progress fails. -/
def State.abortArrives (s : State) (g : Fin 8) (m : List Word) : State :=
  let why := (m.getD 4 0).toNat
  if !msgOk 7 m then s
  else if s.seals[g].hs.phase = .idle then s.setSeal g fun c => { c with lastAbort := why % 256 }
  else s.failHandshake g why true

/-- R235: the fragments that a message still misses. -/
def Reassembly.missing (r : Reassembly) : Nat :=
  (List.range r.total).foldl (fun a i => a + (if r.got.any (fun p => p.1 == i) then 0 else 2 ^ i)) 0

/-- R234: ATTEMPT of a message being received: as its header says once that is here, else the attempt in progress that the
fragment headers agree with modulo 256. -/
def State.inboxAttempt (s : State) (g : Fin 8) (r : Reassembly) : Nat :=
  match r.got.find? (fun x => x.1 == 0) with
  | some x => (x.2.getD 2 0).toNat
  | none =>
    let a := s.seals[g].hs.attempt
    (a + (r.attempt + 256 - a % 256) % 256) % 2 ^ 32

/-- R235, FRAGMENT_WAIT_EXPIRY: a NACK. -/
def State.fragmentWait (s : State) (g : Fin 8) : State :=
  match s.seals[g].inbox with
  | none => s
  | some r =>
    let map := r.missing
    if map = 0 || decide (s.now < r.at_ + fourPeriods) || decide (8 ≤ s.seals[g].hs.nacks) then s
    else
      let m := msgHeader 6 32 (s.inboxAttempt g r) ++ [w32 r.type, w32 map, w32 (map / 2 ^ 32), 0]
      (s.setSeal g fun c => { c with
        outbox := c.outbox ++ fragments m, inbox := some { r with at_ := s.now }
        hs := { c.hs with nacks := c.hs.nacks + 1 } }).count .seal g 6

/-- R235, HANDSHAKE_TIMEOUT. -/
def State.handshakeTimeout (s : State) (g : Fin 8) : State :=
  let h := s.seals[g].hs
  if h.phase = .idle ∨ (h.nacks < 8 ∧ s.now < h.step + 20000000) then s else s.failHandshake g 1 false

/-- R241, HANDSHAKE_RETRY. -/
def State.handshakeRetry (s : State) (g : Fin 8) : State := if s.seals[g].retryAt.isNone then s else s.beginHandshake g

/-! ## Epochs and tags -/

/-- R247, EPOCH_KEY_DERIVED. -/
def State.deriveRx (s : State) (g : Fin 8) : State :=
  match s.seals[g].keys, s.seals[g].heard with
  | some k, some (e, fresh, _) =>
    if s.seals[g].ackFor = some e then s
    else if fresh then
      match s.seals[g].pend.bind fun p => (p.first p.rx k.rxDir e).map fun c => (p, c) with
      | none => s
      | some (p, c) => s.setSeal g fun x => { x with
          keys := some { k with rx := { k.rx with next := some (e, epochKey c k.rxDir e) } }
          pend := some ({ p with rx := .held e c } : Pending).tidy, ackFor := some e }
    else
      let c := k.rx.chainAt k.rxDir e
      s.setSeal g fun x => { x with
        keys := some { k with rx := { k.rx with chain := (e, c), next := some (e, epochKey c k.rxDir e) } }, ackFor := some e }
  | _, _ => s

/-- R251, TAG_FAIL_LIMIT_REACHED: under REHANDSHAKE the group fails closed. -/
def State.tagLimitReached (s : State) (g : Fin 8) : State :=
  let c := s.seals[g]
  if c.keys.isSome && decide (1 ≤ c.tagLimit) && decide (c.tagLimit ≤ c.fails) && bit (s.sec.policy.getD 4 0) 2 then
    s.failClose g .tagLimit
  else s

/-- R228, R252: a policy comes into force: groups whose present peer it does not admit fail closed; a refused handshake is
tried again at once (R241). -/
def State.policyApplies (s : State) : State :=
  (fins 8).foldl (fun t g =>
    let c := t.seals[g]
    if t.grp[g].mode ≠ 3 then t
    else
      let out := match c.keys, c.authId with
        | some _, some id => !t.admitted id (c.authOwner.getD (hashOf []))
        | _, _ => false
      if out then t.failClose g .refused
      else if c.closed = .refused then t.setSeal g fun c => { c with retryAt := some t.now } else t) s

/-- R252, R253: ADMIN of a SEAL unit changes. -/
def State.adminSeal (s : State) (i : Nat) (a : Admin) : State :=
  let g := lineLane i
  let t := s.setAdmin .seal g a
  let u := t.setSeal g fun c => { c with corrupt := if a = .test then c.corrupt else 0 }
  if a = .down ∧ !s.sec.zeroised ∧ s.grp[g].mode = 3 then (u.failClose g (if s.seals[g].selfPeer then .selfPeer else .first))
  else u

/-! ## Class SEAL (R259, R260) -/

/-- R260: the info block. -/
def State.sealInfo (s : State) (g : Fin 8) : List Word :=
  let c := s.seals[g]
  let id := c.authId.getD (helloId c.hello)
  let owner := c.authOwner.getD (helloOwner c.hello)
  let tx := match c.keys with
    | some k => k.tx.epoch
    | none => 0
  let rx := match c.keys with
    | some k => k.rx.epoch
    | none => 0
  let first := match c.keys with
    | some k => k.initiator
    | none => c.peered && s.sec.identity && !c.selfPeer && s.initiates g
  [pk [(b2n c.peered, 0), (b2n first, 1), (b2n c.keys.isSome, 2), (b2n (s.grp[g].mode == 3 && c.stream), 3), (c.lastAbort, 8),
       (min c.withdrawn 255, 16)],
   w32 tx, w32 rx, w32 (sat32 c.age), pk [(min c.since 65535, 0), (c.handshakes, 16)], c.hello.getD 28 0, c.hello.getD 30 0] ++
    id.toList ++ owner.toList ++ lohi c.hsTime ++ [w32 (sat32 c.hsUs)]

/-- R259, SEAL_INFO_GET. -/
def specSealInfoGet : CmdSpec :=
  { op := 0x10, avail := availRun, count := exactly 0, act := answer fun s r => s.sealInfo (lineLane r.inst) }

/-- R241, R259: SEAL OPER is UP, or the peer was refused and a new attempt is asked for. -/
def sealMayRetry (s : State) (r : Req) : Option Fail :=
  let g := lineLane r.inst
  require ((s.operSeal g).1 == .up || (s.seals[g].closed == .refused && (s.operSeal g).2 == 0x0B)) (s.conflict .seal r.inst)

/-- R259: SEAL OPER is UP. -/
def sealUp (s : State) (r : Req) : Option Fail :=
  require ((s.operSeal (lineLane r.inst)).1 == .up) (s.conflict .seal r.inst)

/-- R259: a handshake or an announcement runs. -/
def sealBusy (s : State) (r : Req) : Option Fail :=
  let c := s.seals[lineLane r.inst]
  require (c.hs.phase == .idle && c.ann.isNone) { status := .busy, pay := [s.freeWord] }

/-- R248, R259, SEAL_REHANDSHAKE. -/
def specSealRehandshake : CmdSpec :=
  { op := 0x11, avail := availRun, secure := fun _ _ => true, count := exactly 0, isl := ownIsl, busy := sealBusy,
    cond := sealMayRetry,
    act := change fun s r => s.setSeal (lineLane r.inst) fun c => { c with retryAt := some s.now } }

/-- R236: in OWNED the user payloads need the WAYPOST_USER permit or a session. -/
def waypostSecure (s : State) (_ : Req) : Bool := s.owned && !s.permit 2

/-- R236, R259, SEAL_WAYPOST_SEND. -/
def specSealWaypostSend : CmdSpec :=
  { op := 0x12, avail := availRun, secure := waypostSecure,
    count := fun _ r => decide (2 ≤ r.params.length) && decide (r.params.length ≤ 127),
    bad := fun _ r =>
      let len := fld (r.p 0) 0 9
      firstBad [(clear (r.p 0) 9 && decide (1 ≤ len) && decide (len ≤ 504) && r.params.length == 1 + (len + 3) / 4, 0)],
    busy := fun s r =>
      require (decide (s.seals[lineLane r.inst].wpOut.length < 4)) { status := .busy, pay := [s.freeWord] },
    cond := fun s r => require (s.gsize r.inst != 0) (s.conflict .grp r.inst),
    act := change fun s r => s.setSeal (lineLane r.inst) fun c =>
      { c with wpOut := c.wpOut ++ [(fld (r.p 0) 0 9, r.params.drop 1)] } }

/-- R260, SEAL_WAYPOST_READ: the oldest payload. -/
def specSealWaypostRead : CmdSpec :=
  { op := 0x13, avail := availRun, secure := waypostSecure, count := exactly 0,
    act := fun s r =>
      let g := lineLane r.inst
      let c := s.seals[g]
      { st := s.setSeal g fun c => { c with wpIn := c.wpIn.drop 1, lost := 0 },
        pay := match c.wpIn with
          | [] => [pk [(c.lost, 24)], 0, 0]
          | w :: q =>
            [pk [(w.len, 0), (b2n w.verified, 9), (q.length, 16), (c.lost, 24)], w32 w.seq,
             pk [(w.seq / 2 ^ 32, 0), (w.position, 8)]] ++ w.data } }

/-- R246, R259, SEAL_EPOCH_ADVANCE. -/
def specSealEpochAdvance : CmdSpec :=
  { op := 0x80, avail := availRun, secure := fun _ _ => true, count := exactly 0, isl := ownIsl, busy := sealBusy,
    cond := sealUp,
    act := change fun s r =>
      let g := lineLane r.inst
      s.setSeal g fun c => { c with annNext := some (s.nextSeq g) } }

/-- R259, SEAL_TAG_CORRUPT. -/
def specSealTagCorrupt : CmdSpec :=
  { op := 0x81, avail := availRun, secure := fun _ _ => true, count := exactly 1, isl := ownIsl,
    bad := fun _ r => firstBad [(clear (r.p 0) 8 && r.p 0 != 0, 0)], cond := adminIn [.test],
    act := change fun s r => s.setSeal (lineLane r.inst) fun c => { c with corrupt := fld (r.p 0) 0 8 } }

/-- R248, R377: a step of an in-service re-handshake is preceded by the pause of the throttle stage: what it sends leaves
after it (entry 89). -/
def State.paced (f : State → State) (g : Fin 8) (s : State) : State :=
  let t := f s
  if s.seals[g].keys.isSome && s.throttled && t.seals[g].outbox != s.seals[g].outbox then
    t.setSeal g fun c => { c with pacedTo := s.now + s.pauseNs 2 10 }
  else t

/-! ## Rows -/

/-- R259, SEAL_INFO_GET. -/
def execSealInfoGet (dt : Nat) (c : Cmd) (s : State) := done (hostRow dt specSealInfoGet .seal c s)
/-- R259, SEAL_REHANDSHAKE. -/
def execSealRehandshake (dt : Nat) (c : Cmd) (s : State) := done (hostRow dt specSealRehandshake .seal c s)
/-- R259, SEAL_WAYPOST_SEND. -/
def execSealWaypostSend (dt : Nat) (c : Cmd) (s : State) := done (hostRow dt specSealWaypostSend .seal c s)
/-- R260, SEAL_WAYPOST_READ. -/
def execSealWaypostRead (dt : Nat) (c : Cmd) (s : State) := done (hostRow dt specSealWaypostRead .seal c s)
/-- R246, SEAL_EPOCH_ADVANCE. -/
def execSealEpochAdvance (dt : Nat) (c : Cmd) (s : State) := done (hostRow dt specSealEpochAdvance .seal c s)
/-- R259, SEAL_TAG_CORRUPT. -/
def execSealTagCorrupt (dt : Nat) (c : Cmd) (s : State) := done (hostRow dt specSealTagCorrupt .seal c s)

/-- R237, HELLO. -/
def execHello (dt : Nat) (g : Fin 8) (msg : List Word) (s : State) := done (eventRow dt (·.helloArrives g msg) s)
/-- R238, PEER_LOST. -/
def execPeerLost (dt : Nat) (g : Fin 8) (s : State) := done (eventRow dt (·.peerLost g) s)
/-- R239, HANDSHAKE_START. -/
def execHandshakeStart (dt : Nat) (g : Fin 8) (s : State) := done (eventRow dt (State.paced (·.beginHandshake g) g) s)
/-- R239, KEYSHARE_I. -/
def execKeyshareI (dt : Nat) (g : Fin 8) (msg : List Word) (s : State) := done (eventRow dt (State.paced (·.keyshareIArrives g msg) g) s)
/-- R239, KEYSHARE_R. -/
def execKeyshareR (dt : Nat) (g : Fin 8) (msg : List Word) (s : State) := done (eventRow dt (State.paced (·.keyshareRArrives g msg) g) s)
/-- R239, FINISH_I. -/
def execFinishI (dt : Nat) (g : Fin 8) (msg : List Word) (s : State) := done (eventRow dt (State.paced (·.finishIArrives g msg) g) s)
/-- R239, CONFIRM. -/
def execConfirm (dt : Nat) (g : Fin 8) (msg : List Word) (s : State) := done (eventRow dt (State.paced (·.confirmArrives g msg) g) s)
/-- R235, NACK. -/
def execNack (dt : Nat) (g : Fin 8) (msg : List Word) (s : State) := done (eventRow dt (·.nackArrives g msg) s)
/-- R241, ABORT. -/
def execAbort (dt : Nat) (g : Fin 8) (msg : List Word) (s : State) := done (eventRow dt (·.abortArrives g msg) s)
/-- R235, FRAGMENT_WAIT_EXPIRY. -/
def execFragmentWaitExpiry (dt : Nat) (g : Fin 8) (s : State) := done (eventRow dt (·.fragmentWait g) s)
/-- R235, HANDSHAKE_TIMEOUT. -/
def execHandshakeTimeout (dt : Nat) (g : Fin 8) (s : State) := done (eventRow dt (·.handshakeTimeout g) s)
/-- R241, HANDSHAKE_RETRY. -/
def execHandshakeRetry (dt : Nat) (g : Fin 8) (s : State) :=
  done (eventRow dt (State.paced (·.handshakeRetry g) g) s)
/-- R246, EPOCH_ANNOUNCE. -/
def execEpochAnnounce (dt : Nat) (g : Fin 8) (s : State) := done (eventRow dt (fun s =>
  if s.announceDue g (s.nextSeq g) then s.announce g (s.nextSeq g) else s) s)
/-- R247, EPOCH_KEY_DERIVED. -/
def execEpochKeyDerived (dt : Nat) (g : Fin 8) (s : State) := done (eventRow dt (·.deriveRx g) s)
/-- R246, EPOCH_WITHDRAWN. -/
def execEpochWithdrawn (dt : Nat) (g : Fin 8) (s : State) := done (eventRow dt (fun s =>
  if s.withdrawDue g (s.nextSeq g) then s.withdraw g else s) s)
/-- R246, EPOCH_TX_SWITCHED. -/
def execEpochTxSwitched (dt : Nat) (g : Fin 8) (s : State) := done (eventRow dt (fun s =>
  if s.switchDue g (s.nextSeq g) then s.switchTx g else s) s)
/-- R251, TAG_FAIL_LIMIT_REACHED. -/
def execTagFailLimitReached (dt : Nat) (g : Fin 8) (s : State) := done (eventRow dt (·.tagLimitReached g) s)

end Sys2Proof.Machine
end

