-- ==== Sys2Proof/Machine/Cal.lean ====
section
/-! DEFINITION. Class CAL (R263 to R284): trims, rounds, foreground calibration, and their commands. -/

namespace Sys2Proof.Machine

/-! ## Trim points (R263 to R266) -/

/-- R264, R265: the number of trims of an element. -/
def trimCount (kind : Nat) : Nat := if kind = 0 then 32 else if kind = 1 then 2 else 1

/-- R264, R265: the range of a trim. -/
def trimRange (kind idx : Nat) : Int × Int :=
  if kind = 0 then
    (if idx = 0 ∨ idx = 2 then (0, 15) else if idx = 3 ∨ idx = 4 then (-512, 511) else if idx = 5 then (-64, 63)
     else if 7 ≤ idx ∧ idx < 23 then (0, 65535) else (-128, 127))
  else if kind = 1 ∧ idx = 1 then (-32, 31)
  else (-128, 127)

/-- R360: the seed byte of a slice. -/
def State.seed (s : State) (lane elem : Nat) : Nat :=
  let sl := if lane < 8 then 136 * lane + elem else 1088 + 72 * (lane - 8) + elem
  fld (s.fuse.at (0x220 + sl / 3)).data (8 * (sl % 3)) 8

/-- R266: the value of a trim at boot. -/
def State.bootTrim (s : State) (lane kind elem idx : Nat) : BitVec 16 :=
  if kind = 0 then
    (if idx = 0 then BitVec.ofNat 16 (s.seed lane elem % 16)
     else if idx = 2 then BitVec.ofNat 16 (s.seed lane elem / 16)
     else if 7 ≤ idx ∧ idx < 23 then Config.capNominal (idx - 7) else 0)
  else 0

/-- The copy of a trim in SPM. -/
def State.trim (s : State) (lane kind elem idx : Nat) : BitVec 16 :=
  match s.cal.trims.find? (fun p => p.1 == trimKey lane kind elem idx) with
  | some p => p.2
  | none => s.bootTrim lane kind elem idx

/-- The number that a trim stands for. -/
def trimValue (kind idx : Nat) (v : BitVec 16) : Int := if (trimRange kind idx).1 = 0 then v.toNat else v.toInt

def State.setTrim (s : State) (lane kind elem idx : Nat) (v : BitVec 16) : State :=
  { s with cal := { s.cal with trims := insertKey (trimKey lane kind elem idx) v s.cal.trims } }

/-! ## Spares (R278, R279) -/

/-- R279: CAL_SPARE_LOW for a lane or phase that has reached its last free spare since `old`. -/
def State.spareLow (s old : State) (k : Fin 48) (ph : Nat) : State :=
  s.raiseIf (s.calFree k ph == 1 && old.calFree k ph != 1) .cal 0 0x18 (pk [(calCode k, 0), (ph, 8)])

/-- R278, R279: an element is retired. -/
def State.retire (s : State) (k : Fin 48) (kind elem : Nat) : State :=
  (s.setCal k fun c => { c with retired := c.retired ++ [(kind, elem)] }).spareLow s k (calPhase k elem)

/-- R279: CAL_SPARE_LOW for every lane or phase that has reached its last free spare since `old`. -/
def State.sparesLow (s old : State) : State :=
  (fins 48).foldl (fun t (k : Fin 48) => (List.range (calPhases k)).foldl (fun u ph => u.spareLow old k ph) t) s

/-- R279, R359: repairs come into force, and take spares. -/
def State.withRepairs (s : State) (ws : List Word) : State :=
  ({ s with cal := { s.cal with repairs := s.cal.repairs ++ ws } } : State).sparesLow s

def State.isRetired (s : State) (k : Fin 48) (kind elem : Nat) : Bool := s.cal.lanes[k].retired.contains (kind, elem)

/-! ## A computed trim (R269, R278) -/

/-- R269: how far a phase-interpolator entry may move in one round. -/
def moveLimit (kind : Nat) : Int := if kind = 2 then 16 else 4

/-- R278: a computed trim is stored; outside its range its element is retired, or the trim is clamped. -/
def State.computed (s : State) (round : Bool) (w : TrimWrite) : State :=
  let k := w.lane
  let key := trimKey k w.kind w.elem w.idx
  let rg := trimRange w.kind w.idx
  if s.cal.forced.contains key || s.isRetired k w.kind w.elem then s
  else
    let old := trimValue w.kind w.idx (s.trim k w.kind w.elem w.idx)
    let m := moveLimit w.kind
    let v := if round && decide (2 ≤ w.kind) then (if w.value < old - m then old - m else if old + m < w.value then old + m else w.value)
      else w.value
    if rg.1 ≤ v ∧ v ≤ rg.2 then s.setTrim k w.kind w.elem w.idx (BitVec.ofInt 16 v)
    else if w.kind < 2 ∧ 2 ≤ s.calFree k (calPhase k w.elem) then
      ((s.retire k w.kind w.elem).count .cal 0 3).raise .cal 0 0x16 (pk [(calCode k, 0), (w.kind, 8), (w.elem, 16)])
    else
      let t := s.setTrim k w.kind w.elem w.idx (BitVec.ofInt 16 (if v < rg.1 then rg.1 else rg.2))
      if s.cal.lanes[k].limits.contains (w.kind, w.elem) then t
      else (t.setCal k fun c => { c with limits := c.limits ++ [(w.kind, w.elem)] }).raise .cal 0 0x17
        (pk [(calCode k, 0), (w.idx, 8), (w.elem, 16)])

/-- R263, R282: the element exists on the lane. -/
def elemExists (k kind elem : Nat) : Bool :=
  match kind with
  | 0 => calRx k && decide (elem < calElems k)
  | 1 => !calRx k && decide (elem < 260 * calPhases k)
  | 2 => calRx k && decide (elem < 256)
  | _ => !calRx k && decide (elem < 64)

/-! ## Commits -/

/-- R268: the turns that the present step takes in a phase; a retired element keeps its turn. -/
def State.turnsTaken (s : State) (k : Fin 48) (ph : Nat) : Nat :=
  ((s.calTurn k ph).takeWhile fun e => s.cal.lanes[k].out.contains e || s.hasLeft k e).length

/-- R282: no other powered lane's latest sweep began later. -/
def State.lastOfAll (s : State) (k : Fin 48) : Bool :=
  (fins 48).all fun j => j == k || !(calIslands j).all s.islandOn ||
    decide (s.cal.lanes[j].sweepStart ≤ s.cal.lanes[k].begun)

/-- R267, R276: the step of a lane commits: its trims are stored, and its swap follows, after a fade that runs (R277). -/
def State.commitLane (s : State) (trims : List TrimWrite) (k : Fin 48) : State :=
  let mine := trims.filter fun w => w.lane == k && elemExists k w.kind w.elem && s.elemOut k w.kind w.elem &&
    decide (w.idx < trimCount w.kind)
  let a := mine.foldl (fun t w => t.computed true w) s
  let took := Vector.ofFn fun (ph : Fin 4) => s.turnsTaken k ph.val
  let covered := Vector.ofFn fun (ph : Fin 4) => s.cal.lanes[k].covered[ph] + took[ph]
  let ends := (List.range (calPhases k)).all fun ph => decide (calElems k ≤ covered.toList.getD ph 0)
  let ref := s.cal.refInUse
  let b : State := { a with cal := { a.cal with lastAll := if ends && s.lastOfAll k then s.now else a.cal.lastAll } }
  let d := b.setCal k fun c => { c with
    rounds := sat32 (c.rounds + 1), lastRound := s.now
    steps := if ends then 0 else c.steps + 1, covered := if ends then .replicate 4 0 else covered
    next := Vector.ofFn fun (ph : Fin 4) => (c.next[ph] + took[ph]) % calElems k
    sweeps := if ends then sat32 (c.sweeps + 1) else c.sweeps
    lastSweep := if ends then s.now else c.lastSweep, sweepStart := if ends then c.begun else c.sweepStart
    begun := if ends then s.now else c.begun, swept := c.swept || (ends && ref)
    untraced := if !ref then true else if ends then false else c.untraced
    part := false, swapDue := s.fadeOn k }
  if s.fadeOn k then d else d.swap k

/-- R267, R277, R377, CAL_ROUND_COMMIT: 4 ms after its start the round in progress commits; the next follows, after the
pause of the throttle stage. -/
def State.roundCommits (s : State) (trims : List TrimWrite) : State :=
  let o := s.roundOpens
  match o.cal.round with
  | none => o.roundsResume
  | some t =>
    if !o.calRuns || !o.cal.live || o.now < t + 4000000 then o
    else
      let a := (fins 48).foldl (fun u k => if u.cal.lanes[k].part && u.calJoins k then u.commitLane trims k else u) o
      let b : State := { a with cal := { a.cal with
        rounds := sat32 (a.cal.rounds + 1), finishing := false, live := false
        round := if o.cal.finishing then none else some (o.now + o.pauseNs 4 12) } }
      ((b.count .cal 0 0).signal .cal 0 1 1).roundOpens.traceCheck

/-! ## Foreground calibration (R270 to R272) -/

/-- R270: the whole device calibrates: the test source is connected to every receiver. -/
def State.startForeground (s : State) : State :=
  { s with cal := { s.cal with
    fgStart := some s.now
    lanes := vmapIx (fun k c => { c with internal := calRx k, foreground := none }) s.cal.lanes } }

/-- R270, R272: the trims of a foreground run. -/
def State.foregroundTrims (s : State) (trims : List TrimWrite) (p : Fin 48 → Bool) : State :=
  (trims.filter fun w => p w.lane && elemExists w.lane w.kind w.elem && decide (w.idx < trimCount w.kind)).foldl
    (fun t w => t.computed false w) s

/-- R271, R272: the acquisition of a lane that has waited begins. -/
def State.acquisitionStarts (s : State) (k : Fin 48) : State :=
  let u := calUnit k
  if !calRx k || !s.isUp u.1 u.2 then s
  else if k.val < 8 then s.setLrx (lineLane u.2) fun r => { r with acqStart := s.now }
  else s.setHrx (hostLane u.2) fun h => { h with acqStart := s.now }

/-- R270, R271: acquisitions that have waited begin. -/
def State.acquisitionsStart (s : State) : State := (fins 48).foldl State.acquisitionStarts s

/-- R270, R272, CAL_FOREGROUND_DONE. -/
def State.foregroundDone (s : State) (lane : Option (Fin 48)) (trims : List TrimWrite) : State :=
  if s.supplyHeld then s
  else match lane with
  | none =>
    match s.cal.fgStart with
    | none => s
    | some t0 =>
      let a := s.foregroundTrims trims fun _ => true
      let b : State := { a with cal := { a.cal with
        fgStart := none, fgDone := true
        lanes := vmapIx (fun k c => { c with
          internal := calRx k && !s.calSd k, untraced := !s.cal.refInUse, swept := false, steps := 0
          covered := .replicate 4 0, begun := s.now }) a.cal.lanes } }
      (((fins 48).foldl State.applyForced b).acquisitionsStart.raise .cal 0 0x10
        (pk [(0xFF, 0), ((s.now - t0) / 1000000, 8)])).traceCheck.roundsResume
  | some k =>
    match s.cal.lanes[k].foreground with
    | none => s
    | some t0 =>
      let a := (s.roundOpens.foregroundTrims trims fun j => j == k).setCal k fun c => { c with
        foreground := none, internal := calRx k && !s.calSd k, untraced := !s.cal.refInUse }
      ((a.applyForced k).acquisitionStarts k).raise .cal 0 0x10 (pk [(calCode k, 0), ((s.now - t0) / 1000000, 8)])

/-! ## Windows, test source, CALREF -/

/-- R273, CAL_OCCUPANCY_WINDOW: the level shares of a lane, 0.5 % per step. -/
def State.occupancy (s : State) (k : Fin 48) (shares : Vector Byte 4) : State :=
  if !(calIslands k).all s.islandOn || (calIslands k).any s.underTest then s
  else
    let l := shares.toList.map (·.toNat)
    let low := (List.range 4).find? fun i => decide (l.getD i 0 < 20)
    let m := l.foldl (fun a b => if b < a then b else a) 255
    match low with
    | some i =>
      let t := s.roundOpens.setCal k fun c => { c with starved := true, fed := 0, occMin := m, part := false }
      (t.count .cal 0 4).raiseIf (!s.cal.lanes[k].starved) .cal 0 0x11 (pk [(calCode k, 0), (i, 8), (l.getD i 0, 16)])
    | none => s.setCal k fun c => { c with fed := c.fed + 1, occMin := m }

/-- R273, CAL_FED. -/
def State.laneFed (s : State) (k : Fin 48) : State :=
  if !s.cal.lanes[k].starved || decide (s.cal.lanes[k].fed < 10) then s
  else (s.roundOpens.setCal k fun c => { c with starved := false }).raise .cal 0 0x12 (w32 (calCode k))

/-- R274, TEST_SOURCE_CONNECT. -/
def State.connectSource (s : State) (k : Fin 48) : State :=
  if (calIslands k).all s.islandOn && !s.fgRuns && s.wantsSource k then s.setCal k fun c => { c with internal := true } else s

/-- R275, CALREF_RESTORED. -/
def State.calrefBack (s : State) : State :=
  if s.cal.refInUse || decide (s.cal.refGood < 16) then s
  else
    ({ s with cal := { s.cal with
      refInUse := true
      lanes := s.cal.lanes.map fun c =>
        { c with swept := false, steps := 0, covered := .replicate 4 0, begun := s.now } } } : State).traceCheck

/-- R64, R277, R281: ADMIN of CAL changes: rounds stop after the commit of the round in progress, or begin. -/
def State.adminCal (s : State) (a : Admin) : State :=
  let o := s.roundOpens
  let stops := o.admin .cal 0 == .up && a != .up && o.calRuns && o.cal.live
  let t := o.setAdmin .cal 0 a
  if a = .up then ({ t with cal := { t.cal with finishing := false } } : State).roundsResume
  else if t.cal.finishing || stops then { t with cal := { t.cal with finishing := true } }
  else t.roundsStop

/-! ## Commands (R281, R282) -/

/-- The lane that parameter 0 names. -/
def laneOf (r : Req) : Fin 48 := (calLane (fld (r.p 0) 0 8)).getD 0

/-- R282: the LANE word. -/
def laneWordOk (_ : State) (r : Req) : Option Nat := firstBad [((calLane (fld (r.p 0) 0 8)).isSome && clear (r.p 0) 8, 0)]

/-- R280: DRIFT of an RX lane. -/
def State.drift (s : State) (k : Fin 48) : Nat :=
  if !calRx k then 0
  else
    let d := (List.range (calElems k)).map fun e =>
      (trimValue 0 0 (s.trim k 0 e 0) * 250 + trimValue 0 1 (s.trim k 0 e 1) * 4 - (s.seed k e % 16 : Nat) * 250).natAbs
    min 0xFFFF (d.foldl (fun a b => if a < b then b else a) 0)

/-- R282: the lane block. -/
def State.calBlock (s : State) (k : Fin 48) : List Word :=
  let c := s.cal.lanes[k]
  [pk [(calCode k, 0), (b2n c.frozen, 8), (b2n c.starved, 9), (b2n c.internal, 10), (b2n (!c.untraced), 11),
       (b2n (c.waits && s.fadeOn k || c.swapDue), 12), (s.fewestFree k, 16), (min c.retired.length 15, 20)],
   w32 c.rounds, w32 c.voided, w32 c.sweeps] ++ lohi c.lastRound ++ lohi c.lastSweep ++
  [pk [(if calRx k then c.occMin else 0, 0), (c.out.headD 0x7FF, 8)], w32 (s.drift k)]

/-- R282, CAL_LANE_GET. -/
def specCalLaneGet : CmdSpec :=
  { op := 0x10, avail := availRun, count := exactly 1, bad := laneWordOk, act := answer fun s r => s.calBlock (laneOf r) }

/-- R272: the foreground run of one lane starts: its unit carries no traffic, and loses its lock. -/
def State.startLane (s : State) (k : Fin 48) : State :=
  let u := calUnit k
  let a := s.roundOpens.setCal k fun c => { c with foreground := some s.now, internal := calRx k, part := false }
  if !calRx k || !s.isUp u.1 u.2 then a
  else if k.val < 8 then a.relock (lineLane u.2) false 1
  else a.acquireHrx (hostLane u.2)

/-- R272, R281, CAL_LANE_FOREGROUND. -/
def specCalLaneForeground : CmdSpec :=
  { op := 0x11, avail := availRun, count := exactly 1, bad := laneWordOk,
    isl := fun _ r => 73 :: calIslands (laneOf r),
    busy := fun s _ =>
      require (!s.fgRuns && (fins 48).all fun k => s.cal.lanes[k].foreground.isNone) { status := .busy, pay := [s.freeWord] },
    cond := fun s r =>
      let u := calUnit (laneOf r)
      if s.throttled then some s.holdThermal
      else if s.supplyHeld then some s.holdSupply
      else require (s.admin u.1 u.2 != .up) (s.conflict u.1 u.2),
    act := change fun s r => s.startLane (laneOf r) }

/-- R282: the fields of element word 0. -/
def elemKind (w : Word) : Nat := fld w 8 2
def elemNo (w : Word) : Nat := fld w 16 11

/-- R282: element word 0 is in range. -/
def elemOk (w : Word) : Bool :=
  match calLane (fld w 0 8) with
  | some k => elemExists k (elemKind w) (elemNo w) && fld w 10 6 == 0 && clear w 27
  | none => false

/-- R281, R282: IN_SERVICE: no element of a lane in a foreground run or out for its step; a converter element that holds a
position, or stands in for one that does. -/
def State.inService (s : State) (k : Fin 48) (kind elem : Nat) : Bool :=
  !s.laneFg k.val && !s.elemOut k kind elem &&
    (decide (2 ≤ kind) || s.calHolds k elem || (s.standIns k (calPhase k elem)).contains elem)

/-- R282, CAL_TRIM_READ. -/
def specCalTrimRead : CmdSpec :=
  { op := 0x80, avail := availRun, count := exactly 1, bad := fun _ r => firstBad [(elemOk (r.p 0), 0)],
    act := answer fun s r =>
      let k := laneOf r
      let kd := elemKind (r.p 0)
      let e := elemNo (r.p 0)
      let n := trimCount kd
      pk [(b2n (s.inService k kd e), 0), (b2n ((List.range n).any fun i => s.cal.forced.contains (trimKey k kd e i)), 1),
          (b2n (s.isRetired k kd e), 2), (b2n (kd == 0), 3), (n, 8)] ::
        pairWords ((List.range n).map fun i => (s.trim k kd e i).toNat) }

/-- The islands of the lane and CC, of which only a test refuses the command (R281). -/
def calTested (_ : State) (r : Req) : List Nat := 73 :: calIslands (laneOf r)

/-- R281, CAL_TRIM_FORCE. -/
def specCalTrimForce : CmdSpec :=
  { op := 0x81, avail := availRun, count := exactly 3, isl := calTested, off := false, failed := false,
    bad := fun _ r =>
      let kd := elemKind (r.p 0)
      let i := fld (r.p 1) 0 5
      let v := trimValue kd i (BitVec.ofNat 16 (fld (r.p 2) 0 16))
      let rg := trimRange kd i
      firstBad [(elemOk (r.p 0), 0), (decide (i < trimCount kd) && fld (r.p 1) 5 3 == 0 && clear (r.p 1) 9, 1),
        (clear (r.p 2) 16 && (bit (r.p 1) 8 || (decide (rg.1 ≤ v) && decide (v ≤ rg.2))), 2)],
    act := change fun s r =>
      let k := laneOf r
      let key := trimKey k (elemKind (r.p 0)) (elemNo (r.p 0)) (fld (r.p 1) 0 5)
      let keep := s.cal.forced.filter (· != key)
      if bit (r.p 1) 8 then
        { s with cal := { s.cal with forced := keep, toForce := s.cal.toForce.filter fun p => p.1 != key } }
      else
        { s with cal := { s.cal with
          forced := keep ++ [key], toForce := insertKey key (BitVec.ofNat 16 (fld (r.p 2) 0 16)) s.cal.toForce } } }

/-- R279, R281, CAL_ELEMENT_RETIRE. An element already retired stays so. -/
def specCalElementRetire : CmdSpec :=
  { op := 0x82, avail := availRun, count := exactly 1, isl := calTested, off := false, failed := false,
    bad := fun _ r => firstBad [(elemOk (r.p 0) && decide (elemKind (r.p 0) < 2), 0)],
    cond := fun s r =>
      let k := laneOf r
      let e := elemNo (r.p 0)
      require (s.isRetired k (elemKind (r.p 0)) e || decide (2 ≤ s.calFree k (calPhase k e)))
        (s.conflict .cal 0),
    act := change fun s r =>
      let k := laneOf r
      if s.isRetired k (elemKind (r.p 0)) (elemNo (r.p 0)) then s else s.retire k (elemKind (r.p 0)) (elemNo (r.p 0)) }

/-- R277: one lane is frozen or released. -/
def State.freezeLane (s : State) (on : Bool) (k : Fin 48) : State :=
  (if on && !s.cal.lanes[k].frozen then s.voidLane k 4 else s.roundOpens).setCal k fun c => { c with frozen := on }

/-- R277, R281, CAL_FREEZE. -/
def specCalFreeze : CmdSpec :=
  { op := 0x83, avail := availRun, count := exactly 1,
    bad := fun _ r =>
      firstBad [((fld (r.p 0) 0 8 == 0xFF || (calLane (fld (r.p 0) 0 8)).isSome) && clear (r.p 0) 9, 0)],
    act := change fun s r =>
      let on := bit (r.p 0) 8
      if fld (r.p 0) 0 8 = 0xFF then (fins 48).foldl (fun t k => t.freezeLane on k) s else s.freezeLane on (laneOf r) }

/-- R282: the class words of STATUS_GET. -/
def State.statusCal (s : State) : List Word :=
  let st := fun (lo n : Nat) => (List.range n).map fun i => (b2n s.cal.lanes[Fin.ofNat 48 (lo + i)].starved, i)
  let f := pk (st 0 8)
  let h := pk (st 8 16)
  [pk [(b2n s.cal.traced, 0), (b2n s.cal.refInUse, 1), (b2n s.cal.fgDone, 2), (b2n s.supplyHeld, 3), (b2n s.throttled, 4),
       (f.toNat, 8), (h.toNat, 16)],
   w32 s.cal.rounds, w32 s.cal.voided, w32 (min s.cal.calref 0xFFFF)] ++ lohi s.cal.lastAll

/-! ## Rows -/

/-- R282, CAL_LANE_GET. -/
def execCalLaneGet (dt : Nat) (c : Cmd) (s : State) := done (hostRow dt specCalLaneGet .cal c s)
/-- R272, CAL_LANE_FOREGROUND. -/
def execCalLaneForeground (dt : Nat) (c : Cmd) (s : State) := done (hostRow dt specCalLaneForeground .cal c s)
/-- R282, CAL_TRIM_READ. -/
def execCalTrimRead (dt : Nat) (c : Cmd) (s : State) := done (hostRow dt specCalTrimRead .cal c s)
/-- R281, CAL_TRIM_FORCE. -/
def execCalTrimForce (dt : Nat) (c : Cmd) (s : State) := done (hostRow dt specCalTrimForce .cal c s)
/-- R279, CAL_ELEMENT_RETIRE. -/
def execCalElementRetire (dt : Nat) (c : Cmd) (s : State) := done (hostRow dt specCalElementRetire .cal c s)
/-- R277, CAL_FREEZE. -/
def execCalFreeze (dt : Nat) (c : Cmd) (s : State) := done (hostRow dt specCalFreeze .cal c s)

/-- R267, CAL_ROUND_COMMIT. -/
def execCalRoundCommit (dt : Nat) (trims : List TrimWrite) (s : State) := done (eventRow dt (·.roundCommits trims) s)
/-- R270, CAL_FOREGROUND_DONE. -/
def execCalForegroundDone (dt : Nat) (lane : Option (Fin 48)) (trims : List TrimWrite) (s : State) :=
  done (eventRow dt (·.foregroundDone lane trims) s)
/-- R273, CAL_OCCUPANCY_WINDOW. -/
def execCalOccupancyWindow (dt : Nat) (lane : Fin 24) (shares : Vector Byte 4) (s : State) :=
  done (eventRow dt (·.occupancy (Fin.ofNat 48 lane.val) shares) s)
/-- R273, CAL_FED. -/
def execCalFed (dt : Nat) (lane : Fin 24) (s : State) := done (eventRow dt (·.laneFed (Fin.ofNat 48 lane.val)) s)
/-- R274, TEST_SOURCE_CONNECT. -/
def execTestSourceConnect (dt : Nat) (lane : Fin 24) (s : State) :=
  done (eventRow dt (·.connectSource (Fin.ofNat 48 lane.val)) s)
/-- R275, CALREF_RESTORED. -/
def execCalrefRestored (dt : Nat) (s : State) := done (eventRow dt (·.calrefBack) s)

end Sys2Proof.Machine
end

