-- ==== Sys2Proof/Machine/Mon.lean ====
section
/-! DEFINITION. Class MON (R285 to R304): captures, rings, the slow-signal monitor, the housekeeping ADC. -/

namespace Sys2Proof.Machine

def monLane (i : Nat) : Fin 24 := Fin.ofNat 24 i

def State.setCap (s : State) (i : Fin 24) (f : Capture → Capture) : State :=
  { s with mon := { s.mon with caps := upd s.mon.caps i f } }

def State.setTap (s : State) (i : Fin 24) (f : Tap → Tap) : State :=
  { s with mon := { s.mon with taps := upd s.mon.taps i f } }

/-- R285: the lane of a tap has timing lock. -/
def State.tapLock (s : State) (i : Fin 24) : Bool :=
  if i.val < 16 then s.hrx[Fin.ofNat 16 i.val].timing else s.lrx[Fin.ofNat 8 (i.val - 16)].timing

/-- R114, R181: when the lane's acquisition last began: it begins again whenever timing lock ends. -/
def State.tapAcq (s : State) (i : Fin 24) : Nat :=
  if i.val < 16 then s.hrx[Fin.ofNat 16 i.val].acqStart else s.lrx[Fin.ofNat 8 (i.val - 16)].acqStart

/-- R25, R29, R302: a lane instance runs its tap and captures: ADMIN UP, its islands on, none of them under test or FAILED,
and CC, which owns monitor and capture control, running. -/
def State.monRuns (s : State) (i : Fin 24) : Bool :=
  s.admin .mon i == .up && s.ccRuns &&
    (unitIslands .mon i).all fun k => s.islandOn k && !s.underTest k && !s.islandFailed k

/-! ## Rings (R292, R294) -/

/-- R292: the rings in force, but for the captures or the streams (`caps`) of some instances. -/
def State.rings (s : State) (caps : Bool) (but : List Nat) : List (Nat × Nat) :=
  (fins 24).flatMap fun i =>
    let t := s.mon.taps[i]
    let c := s.mon.caps[i]
    (if t.base != 0 && !(!caps && but.contains i.val) then [(t.base, t.size)] else []) ++
    (if bit c.cfg[0] 16 && !(caps && but.contains i.val) then [(c.cfg[6].toNat, c.cfg[7].toNat)] else [])

/-- R292: a base: a multiple of 4 KiB where a ring can lie, of a ring that overlaps none with another base. -/
def ringBase (l : List (Nat × Nat)) (base size : Nat) : Bool :=
  base % 4096 == 0 && decide (0x4_0000 ≤ base) && decide (base + 4096 ≤ 0x60_0000) &&
    l.all fun r => r.1 == base || decide (base + size ≤ r.1) || decide (r.1 + r.2 ≤ base)

/-- R292: a size: 4 KiB to 4 MiB, a multiple of 4 KiB, ending in place, the size of every ring with its base. -/
def ringSize (l : List (Nat × Nat)) (base size : Nat) : Bool :=
  size % 4096 == 0 && decide (4096 ≤ size) && decide (size ≤ 4 * 2 ^ 20) && decide (base + size ≤ 0x60_0000) &&
    l.all fun r => r.1 != base || r.2 == size

/-- R292: INIT zeroes the control block. -/
def State.ringInit (s : State) (on : Bool) (base : Nat) : State :=
  if on then s.mapMem fun m => { m with cells := writeBytes m.cells base (List.replicate 64 0) } else s

/-- A little-endian word of the scratchpad. -/
def State.memWord (s : State) (a : Nat) : Nat :=
  ((bytesWords (readBytes s.mem.cells a 4)).headD 0).toNat

def writeWord (m : List Host.Cell) (a n : Nat) : List Host.Cell := writeBytes m a (wordBytes (w32 n))

/-- R292: the bytes of a record laid into a data area of `size` bytes from offset `o` on, continuing at its start. -/
def ringBytes (m : List Host.Cell) (base size : Nat) : Nat → List Byte → List Host.Cell
  | _, [] => m
  | o, b :: r => ringBytes (putByte m (base + 64 + o % size) b) base size (o + 1) r

/-- R350: a slice is borrowed now. -/
def State.borrowed (s : State) : Option Nat := s.mem.borrow.bind fun b => if s.now < b.2 then some b.1 else none

/-- R350: bytes `a` to `a + n - 1` touch a slice. -/
def touches (a n slice : Nat) : Bool := decide (a < 4096 * (slice + 1)) && decide (4096 * slice < a + n)

/-- R350: a record of `n` bytes would write to the borrowed slice: the write waits for the write-back. -/
def State.ringStalls (s : State) (base size n : Nat) : Bool :=
  let area := size - 64
  let p := s.memWord base / 4 * 4 % area
  s.borrowed.any fun k =>
    touches base 64 k || touches (base + 64 + p) (min n (area - p)) k || touches (base + 64) (n - (area - p)) k

/-- R292, R294: a record is written to a ring, and DROPPED rises by the records that were not (entry 86); RING_WRAPPED is
raised when WRITE_PTR wraps. -/
def State.ringWrite (s : State) (i base size dropped : Nat) (rec_ : List Word) : State :=
  let area := size - 64
  let p := s.memWord base / 4 * 4 % area
  let n := 4 * rec_.length
  let laps := (p + n) / area
  let lap := (s.memWord (base + 4) + laps) % 2 ^ 32
  let a := ringBytes s.mem.cells base area p (rec_.flatMap wordBytes)
  let b := if laps = 0 then a else writeWord a (base + 4) lap
  let d := writeWord (writeWord b base ((p + n) % area)) (base + 8) (sat32 (s.memWord (base + 8) + 1))
  let e := if dropped = 0 then d else writeWord d (base + 12) (sat32 (s.memWord (base + 12) + dropped))
  let t : State := { s.mapMem fun m => { m with cells := e } with mon := { s.mon with dmaAt := s.now } }
  t.raiseIf (laps != 0) .mon i 0x16 (w32 lap)

/-! ## Captures (R285 to R294) -/

def capSource (c : Capture) : Nat := fld c.cfg[0] 0 2
def capAvg (c : Capture) : Nat := fld c.cfg[0] 6 4
def capDma (c : Capture) : Bool := bit c.cfg[0] 16
def capLength (c : Capture) : Nat := fld c.cfg[1] 0 16
def capPre (c : Capture) : Nat := fld c.cfg[1] 16 16

/-- R286: the signed value of a capture word. -/
def sampleValue (source : Nat) (w : Word) : Int :=
  match source with
  | 0 => sfld w 0 8
  | 1 => sfld w 0 12
  | _ => sfld w 0 13

/-- R286: OVR and STANDIN of a capture word. -/
def sampleFlags (source : Nat) (w : Word) : Bool × Bool :=
  match source with
  | 0 => (bit w 8, bit w 9)
  | 1 => (bit w 12, bit w 13)
  | 3 => (bit w 12, false)
  | _ => (false, false)

/-- R286: a capture word of an instance with its RSVD bits 0; the soft values of a host lane hold its hard bits alone. -/
def sampleWord (i source : Nat) (w : Word) : Nat :=
  match source with
  | 0 => fld w 0 10
  | 1 => fld w 0 14
  | 2 => fld w 0 13
  | _ => if i < 16 then (pk [(fld w 4 1, 4), (fld w 9 4, 9)]).toNat else fld w 0 13

/-- R290: a sum, shifted right and saturated, with its flags. -/
def avgWord (shift : Nat) (v : Int) (f : Bool × Bool) : Word :=
  let x := v / 2 ^ shift
  let y := if x < -2 ^ 23 then -2 ^ 23 else if 2 ^ 23 ≤ x then 2 ^ 23 - 1 else x
  pk [(twos 24 y, 0), (b2n f.1, 24), (b2n f.2, 25)]

/-- The sums of two lists, the shorter one padded with the other. -/
def addLists : List Int → List Int → List Int
  | a :: r, b :: t => (a + b) :: addLists r t
  | [], t => t
  | r, [] => r

def orLists : List (Bool × Bool) → List (Bool × Bool) → List (Bool × Bool)
  | a :: r, b :: t => (a.1 || b.1, a.2 || b.2) :: orLists r t
  | [], t => t
  | r, [] => r

/-- R293: the header of a capture record. -/
def capHeader (i : Nat) (c : Capture) : List Word :=
  [pk [(1, 0), (i, 8), (c.sram.length, 16)], w32 c.seq] ++ lohi c.at_ ++
  [pk [(c.offset.toNat, 0), (capSource c, 8), (fld c.cfg[0] 2 4, 10), (capAvg c, 14)],
   w32 (capPre c),
   pk [(b2n c.noLock, 0), (b2n (c.flags.any (·.1)), 1), (b2n (c.flags.any (·.2)), 2), (b2n c.before, 4)], 0]

/-- R294: the lane is armed again; `again`: what it holds of the sums starts over. -/
def Capture.rearm (c : Capture) (now : Nat) : Capture :=
  { c with state := .armed, acq := 0, sums := [], flags := [], sram := [], noLock := false, armedAt := now }

/-- R287, R290, CAPTURE_FILL_COMPLETE: one acquisition has stored its LENGTH samples. -/
def State.captureFilled (s0 : State) (i : Fin 24) (samples : List Word) (offset : Byte) : State :=
  let s := s0.immediates
  let c := s.mon.caps[i]
  if c.state != .filling || samples.length != capLength c || !s.monRuns i then s
  else
    let src := capSource c
    let lost := !s.tapLock i || decide (c.at_ ≤ s.tapAcq i + preNs i c.cfg)
    let flags := orLists c.flags (samples.map (sampleFlags src))
    if capAvg c ≠ 0 ∧ c.acq + 1 < 2 ^ capAvg c then
      s.setCap i fun c => { c with
        state := .armed, acq := c.acq + 1, sums := addLists c.sums (samples.map (sampleValue src)), flags := flags
        offset := offset, noLock := c.noLock || lost }
    else
      let words :=
        if capAvg c = 0 then pairWords (samples.map (sampleWord i src))
        else ((addLists c.sums (samples.map (sampleValue src))).zip flags).map fun p => avgWord (fld c.cfg[0] 10 4) p.1 p.2
      let d : Capture := { c with acq := c.acq + 1, flags := flags, offset := offset, noLock := c.noLock || lost, sram := words,
                                  sums := [] }
      let e := { d with record := capHeader i d, before := false, filledAt := s.now, got := 0
                        state := if capDma c then .moving else .held }
      let t := s.setCap i fun _ => e
      if capDma c then t else (t.count .mon i 0).raise .mon i 0x10 (w32 c.seq)

/-- R294: an instance of its set that comes before it still has its record to be moved. -/
def State.dmaBehind (s : State) (i : Fin 24) : Bool :=
  (s.mon.sets.filter fun x => x.members.contains i.val).any fun x => x.members.any fun j =>
    let d := s.mon.caps[monLane j]
    decide (j < i.val) && (d.state == .moving || d.state == .filling && capDma d) && d.seq == s.mon.caps[i].seq

/-- R294, R298, R377: the pause before a record that was ready at time `t`, or whose turn came when the engine had written
the one before, is over. -/
def State.dmaMay (s : State) (t : Nat) : Bool := decide (max t s.mon.dmaAt + s.pauseNs 1 4 ≤ s.now)

/-- R294, CAPTURE_DONE: the DMA engine has written the record; CONTINUOUS re-arms the lane. -/
def State.captureWritten (s : State) (i : Fin 24) : State :=
  let c := s.mon.caps[i]
  if c.state != .moving || s.dmaBehind i || !s.monRuns i || !s.dmaMay c.filledAt ||
      s.ringStalls c.cfg[6].toNat c.cfg[7].toNat (32 + 4 * c.sram.length) then s
  else
    let t := s.ringWrite i c.cfg[6].toNat c.cfg[7].toNat c.dropped (c.record ++ c.sram)
    let u := ((t.count .mon i 0).raise .mon i 0x10 (w32 c.seq)).setCap i fun c => { c with dropped := 0 }
    u.setCap i fun c => if bit c.cfg[0] 17 then c.rearm s.now else { c with state := .idle, sram := [], sums := [], flags := [] }

/-- R291: the lane leaves every common set. -/
def State.leaveSets (s : State) (is : List Nat) : State :=
  { s with mon := { s.mon with
    sets := (s.mon.sets.map fun x => { x with members := x.members.filter fun j => !is.contains j }).filter fun x => x.members != [] } }

/-- R291: a capture is aborted and its data discarded. -/
def State.captureAbort (s : State) (i : Fin 24) (cause : Nat) : State :=
  match s.mon.caps[i].state with
  | .idle | .aborted => s
  | .armed | .filling | .moving | .held =>
    let t := (s.leaveSets [i.val]).setCap i fun c => { c with
      state := .aborted, acq := 0, sums := [], flags := [], sram := [], noLock := false }
    (t.count .mon i 2).raise .mon i 0x12 (w32 cause)

/-- R285, R291: the captures whose lane or CAP lies in one of the islands are aborted. -/
def State.capturesGone (s : State) (isl : List Nat) (cause : Nat) : State :=
  (fins 24).foldl (fun t (i : Fin 24) => if (unitIslands .mon i).any isl.contains then t.captureAbort i cause else t) s

/-- R64, R302: ADMIN of a MON instance. -/
def State.adminMon (s : State) (i : Nat) (a : Admin) : State :=
  let t := s.setAdmin .mon i a
  if a ≠ .up ∧ i < 24 then t.captureAbort (monLane i) 2 else t

/-! ## The slow-signal monitor (R295 to R298) -/

def tapInput (t : Tap) : Nat := fld t.word 0 3

/-- R296: the chain restarts and the detectors are reset. -/
def Tap.restart (t : Tap) (now : Nat) : Tap :=
  { t with last := 0, at_ := 0, max := 0, min := 0, rms := 0, env := 0, above := false, winMax := 0, winMin := 0, winSq := 0,
           winN := 0, since := now }

/-- R296: the group delay of a chain in ns: 42 · 2^k − 11 samples, each of 65,536 symbols. -/
def groupDelay (i preset : Nat) : Nat :=
  let n := (42 * 2 ^ (4 * (preset + 1)) - 11) * 65536
  if i < 16 then n * 1000 / 106250 else n / 227

/-- R297: e^(−1/2^DECAY), in 1/2^32. -/
def decayFactor (d : Nat) : Nat :=
  [1580030169, 2605029347, 3344923893, 3790295335, 4034748382, 4162825044, 4228380000, 4261543595, 4278222805, 4286586875,
   4290775039, 4292870656, 4293918848, 4294443040, 4294705160, 4294836226].getD d 0

/-- R297: the envelope, in 1/65,536, decayed for one output; how it is rounded is open (entry 9). -/
def decayed (env d : Nat) : Nat :=
  let x := env * decayFactor d / 2 ^ 32
  max x (min (x + 1) (Config.envelopeDecay env d))

/-- R297: an envelope, in 1/65,536, lies above, or below, a threshold. -/
def aboveEnv (t : Int) (env : Int) : Bool := decide (65536 * t < env)
def belowEnv (t : Int) (env : Int) : Bool := decide (env < 65536 * t)

/-- The integer part of a square root, bit by bit. -/
def isqrt : Nat → Nat → Nat → Nat
  | 0, _, acc => acc
  | b + 1, n, acc => if (acc + 2 ^ b) * (acc + 2 ^ b) ≤ n then isqrt b n (acc + 2 ^ b) else isqrt b n acc

/-- R297: the detectors after an output. -/
def Tap.detect (t : Tap) (v : Int) (now : Nat) : Tap :=
  let hi := if t.winN = 0 ∨ t.winMax < v then v else t.winMax
  let lo := if t.winN = 0 ∨ v < t.winMin then v else t.winMin
  let sq := t.winSq + v * v
  let n := t.winN + 1
  let whole := decide (2 ^ fld t.word 8 4 ≤ n)
  { t with
    last := v, at_ := now, env := Nat.max (decayed t.env.toNat (fld t.word 16 4)) (65536 * v.natAbs)
    max := if whole then hi else t.max, min := if whole then lo else t.min
    rms := if whole then isqrt 24 (sq.toNat / n) 0 else t.rms
    winMax := hi, winMin := lo, winSq := if whole then 0 else sq, winN := if whole then 0 else n }

/-- R298: outputs are lost. -/
def State.tapLoses (s : State) (i : Fin 24) : State :=
  ((s.setTap i fun t => { t with gaps := sat32 (t.gaps + 1) }).count .mon i 3).raise .mon i 0x15 1

/-- R297: the envelope crosses a threshold. -/
def State.tapCross (s : State) (i : Fin 24) : State :=
  let t := s.mon.taps[i]
  let arg := w32 (twos 24 (t.env / 65536))
  if !bit t.high 24 then s
  else if !t.above && aboveEnv (sfld t.high 0 24) t.env then
    (s.setTap i fun t => { t with above := true }).raise .mon i 0x13 arg
  else if t.above && belowEnv (sfld t.low 0 24) t.env then
    (s.setTap i fun t => { t with above := false }).raise .mon i 0x14 arg
  else s

/-- R298: an output waits for its record; past 1,024 the oldest is lost. -/
def State.tapQueue (s : State) (i : Fin 24) (v : Int) : State :=
  let t := s.mon.taps[i]
  if t.base = 0 then s.setTap i fun t => { t with index := t.index + 1 }
  else
    let over_ := decide (1024 ≤ t.queue.length)
    let q := (if over_ then t.queue.tail else t.queue) ++ [(t.index, s.now, v)]
    let u := s.setTap i fun t => { t with index := t.index + 1, queue := q, spilt := if over_ then t.spilt + 1 else t.spilt }
    if over_ then u.tapLoses i else u

/-- R295 to R298, MONITOR_OUTPUT: an output of the filter, one group delay or more after its start, or, without timing lock,
one that is lost. -/
def State.tapOutput (s : State) (i : Fin 24) (x : Int) : State :=
  let v := signed 24 (twos 24 x)
  let t := s.mon.taps[i]
  if !s.monRuns i || tapInput t == 0 || decide (s.now < t.since + groupDelay i t.preset) then s
  else if !s.tapLock i then (s.setTap i fun t => { t with index := t.index + 1 }).tapLoses i
  else ((s.setTap i fun t => t.detect v s.now).tapQueue i v).tapCross i

/-- R298: the waiting outputs from the first on, up to `n`, as long as none is missing between them. -/
def runOf : Nat → Nat → List (Nat × Nat × Int) → List (Nat × Nat × Int)
  | 0, _, _ => []
  | _, _, [] => []
  | n + 1, k, p :: r => if p.1 = k then p :: runOf n (k + 1) r else []

/-- R293, R298, MONITOR_RECORD_WRITE. -/
def State.tapRecord (s : State) (i : Fin 24) : State :=
  let t := s.mon.taps[i]
  match t.queue with
  | [] => s
  | p :: _ =>
    let ready := match t.queue[255]? with
      | some q => min q.2.1 (p.2.1 + 100000000)
      | none => p.2.1 + 100000000
    if t.base = 0 || !s.capRuns || !s.ccRuns || !s.dmaMay ready ||
        s.ringStalls t.base t.size (32 + 4 * (runOf 256 p.1 t.queue).length) then s
    else
      let run := runOf 256 p.1 t.queue
      let head := [pk [(2, 0), (i.val, 8), (run.length, 16)], w32 p.1] ++ lohi p.2.1 ++
        [pk [(tapInput t, 18), (t.preset, 21)], 0, pk [(b2n (p.1 != t.wrote), 3)], 0]
      (s.ringWrite i t.base t.size ((t.spilt + 255) / 256) (head ++ run.map fun q => w32 (twos 32 q.2.2))).setTap i fun t => { t with
        queue := t.queue.drop run.length, wrote := p.1 + run.length, spilt := 0 }

/-- R296: PRESET_APPLY to a lane instance. -/
def presetMonBad (r : Req) : Option Nat := firstBad [(decide ((r.p 0).toNat < 4), 0)]

def State.presetMon (s : State) (i : Nat) (w : Word) : State :=
  s.setTap (monLane i) fun t => { t.restart s.now with preset := fld w 0 2, gaps := 0 }

/-! ## Housekeeping (R299, R300) -/

/-- R300: a conversion slot in µs. -/
def slotUs (c : HkChan) : Nat := 16 + 4 * c.n

/-- R300: the channels from 24 on that a round reads: `left` µs remain, `n` channels at most. -/
def hkTail (hk : Vector HkChan 40) (removed : Nat → Bool) : Nat → Nat → Nat → List Nat
  | 0, _, _ => []
  | n + 1, ch, left =>
    let next := if ch = 39 then 24 else ch + 1
    if removed ch then hkTail hk removed n next left
    else
      let u := slotUs hk[Fin.ofNat 40 ch]
      if u ≤ left then ch :: hkTail hk removed n next (left - u) else []

/-- R300: channels 37 to 39 are removed from the rounds. -/
def State.hkRemoved (s : State) (ch : Nat) : Bool := decide (37 ≤ ch) && s.admin .mon 0xFE == .down

/-- R300: settings take effect at the start of a round, which is the end of the one before. -/
def State.hkBegin (s : State) : State :=
  { s with mon := { s.mon with hk := vmapIx (fun _ c => { c with n := c.nNext, shift := c.shNext }) s.mon.hk } }

/-- R300: the channels of a round, in its order. -/
def State.hkOrder (s : State) : List Nat :=
  let used := ((List.range 24).map fun c => slotUs s.mon.hk[Fin.ofNat 40 c]).foldl (· + ·) 0
  List.range 24 ++ hkTail s.mon.hk s.hkRemoved 16 s.mon.next (12000 - used)

/-- R300: the channels of a round with the time from the end of their slots to the end of the round, in µs. -/
def State.hkSlots (s : State) (l : List Nat) : List (Nat × Nat) :=
  l.zip ((List.range l.length).map fun k =>
    ((l.drop (k + 1)).map fun c => slotUs s.mon.hk[Fin.ofNat 40 c]).foldl (· + ·) 0)

/-- R300: one reading is taken into its channel. -/
def State.hkTake (s : State) (m : HkReading) (ch after : Nat) : State :=
  { s with mon := { s.mon with hk := upd s.mon.hk (Fin.ofNat 40 ch) fun c => { c with
      value := m.value, raw := m.sum / 2 ^ c.shift, valid := true, at_ := s.now - 1000 * after } } }

/-- R300, R326: the readings of a round, in MON. -/
def State.hkStore (s : State) (m : List HkReading) : State :=
  let l := s.hkOrder
  let b := (s.hkSlots l).foldl (fun t p =>
    match m[p.1]? with
    | some x => t.hkTake x p.1 p.2
    | none => t) s
  let last := l.getLastD 39
  let u : State := { b with mon := { b.mon with
    rounds := (b.mon.rounds + 1) % 2 ^ 32, next := if last < 24 then s.mon.next else if last = 39 then 24 else last + 1 } }
  u.hkBegin.count .mon 0xFE 0

/-! ## Commands (R302, R303) -/

def monIsLane (_ : Cls) (i : Nat) : Bool := decide (i < 24)
def monIsHk (_ : Cls) (i : Nat) : Bool := i == 0xFE

/-- R302: the command needs CAP. -/
def capIsl (_ : State) (_ : Req) : List Nat := [75]

/-- R303, MON_TAP_SET. -/
def specMonTapSet : CmdSpec :=
  { op := 0x10, accepts := monIsLane, avail := availRun, count := exactly 1, isl := capIsl,
    bad := fun _ r =>
      let w := r.p 0
      firstBad [(decide (fld w 0 3 < 6) && fld w 3 5 == 0 && decide (4 ≤ fld w 8 4) && fld w 12 4 == 0 && clear w 20, 0)],
    act := change fun s r => s.setTap (monLane r.inst) fun t =>
      let u := if fld (r.p 0) 0 3 = tapInput t then t else t.restart s.now
      { u with word := r.p 0 } }

/-- R303: the detector block. -/
def tapBlock (t : Tap) : List Word :=
  [w32 (twos 24 t.last), w32 (twos 24 t.max), w32 (twos 24 t.min), w32 (twos 24 t.rms), w32 (twos 24 (t.env / 65536)), w32 t.gaps] ++
    lohi t.at_

/-- R303, MON_READ. -/
def specMonRead : CmdSpec :=
  { op := 0x11, accepts := monIsLane, avail := availRun, count := exactly 0, isl := capIsl,
    act := answer fun s r => tapBlock s.mon.taps[monLane r.inst] }

/-- R297, MON_THRESHOLD_SET. -/
def specMonThresholdSet : CmdSpec :=
  { op := 0x12, accepts := monIsLane, avail := availRun, count := exactly 2, isl := capIsl,
    bad := fun _ r =>
      firstBad [(clear (r.p 0) 25 && decide (sfld (r.p 1) 0 24 ≤ sfld (r.p 0) 0 24), 0), (clear (r.p 1) 24, 1)],
    act := change fun s r => s.setTap (monLane r.inst) fun t =>
      { t with high := r.p 0, low := r.p 1, above := t.above && bit (r.p 0) 24 } }

/-- R292, R298, MON_STREAM_SET. -/
def specMonStreamSet : CmdSpec :=
  { op := 0x13, accepts := monIsLane, avail := availRun, count := exactly 3, isl := capIsl,
    bad := fun s r =>
      let b := (r.p 0).toNat
      let z := (r.p 1).toNat
      let l := s.rings false r.all
      firstBad [(b == 0 || ringBase l b z, 0), (b == 0 || ringSize l b z, 1), (clear (r.p 2) 1, 2)],
    act := change fun s r =>
      let b := (r.p 0).toNat
      (s.ringInit (b != 0 && bit (r.p 2) 0) b).setTap (monLane r.inst) fun t =>
        if b = 0 then { t with base := 0, size := 0, queue := [], spilt := 0 }
        else { t with base := b, size := (r.p 1).toNat, wrote := if t.base = 0 then t.index else t.wrote } }

/-- R300, MON_HK_CONFIG. -/
def specMonHkConfig : CmdSpec :=
  { op := 0x14, accepts := monIsHk, avail := availRun, count := exactly 1,
    bad := fun _ r =>
      let w := r.p 0
      let ch := fld w 0 6
      let n := fld w 8 9
      firstBad [(decide (ch < 40) && fld w 6 2 == 0 && fld w 17 3 == 0 && clear w 24 && decide (fld w 20 4 ≤ 8) &&
        (if ch < 24 then decide (4 ≤ n) && decide (n ≤ 64) else decide (2 ≤ n) && decide (n ≤ 256)), 0)],
    act := change fun s r =>
      { s with mon := { s.mon with hk := upd s.mon.hk (Fin.ofNat 40 (fld (r.p 0) 0 6)) fun c =>
          { c with nNext := fld (r.p 0) 8 9, shNext := fld (r.p 0) 20 4 } } } }

/-- R303: the reading words of a channel. -/
def State.hkWords (s : State) (ch : Nat) : List Word :=
  let c := s.mon.hk[Fin.ofNat 40 ch]
  [pk [(c.value.toNat, 0), (ch, 16), (b2n (c.valid && !s.hkRemoved ch), 24)], pk [(c.raw % 2 ^ 20, 0)],
   w32 (sat32 ((s.now - c.at_) / 1000))]

/-- R303, MON_HK_READ. -/
def specMonHkRead : CmdSpec :=
  { op := 0x15, accepts := monIsHk, avail := availRun, count := exactly 1,
    bad := fun _ r =>
      let w := r.p 0
      firstBad [(decide (fld w 0 6 < 40) && fld w 6 2 == 0 && decide (1 ≤ fld w 8 6) && decide (fld w 0 6 + fld w 8 6 ≤ 40) &&
        clear w 14, 0)],
    act := answer fun s r =>
      w32 s.mon.rounds :: (List.range (fld (r.p 0) 8 6)).flatMap fun k => s.hkWords (fld (r.p 0) 0 6 + k) }

/-- R287, R290, R303: the capture words. -/
def captureBad (s : State) (r : Req) : Option Nat :=
  let w0 := r.p 0
  let w1 := r.p 1
  let w2 := r.p 2
  let top := if r.inst < 16 then 16384 else 32768
  let len := fld w1 0 16
  let avg := fld w0 6 4
  let src := fld w2 0 4
  let dma := bit w0 16
  let b := (r.p 6).toNat
  let z := (r.p 7).toNat
  firstBad
    [(decide (fld w0 2 4 ≤ 8) && decide (avg ≤ 8) && decide (fld w0 10 4 ≤ 8) && fld w0 14 2 == 0 && clear w0 19 &&
        (!bit w0 17 || dma) && (avg == 0 || (fld w0 0 2 != 3 && src != 0 && src != 5 && decide (2 * len ≤ top))), 0),
     (len % 1024 == 0 && decide (len ≤ top) && decide (fld w1 16 16 < len), 1),
     (decide (src < 6) && fld w2 5 3 == 0 && clear w2 28 &&
        (match src with
         | 3 => decide (16 ≤ fld w2 8 8) && decide (fld w2 8 8 < 24)
         | 4 | 5 => decide (fld w2 8 8 < 24)
         | _ => true), 2),
     (clear (r.p 3) 12, 3), (clear (r.p 5) 9, 5),
     (!dma || ringBase (s.rings true r.all) b z, 6), (!dma || ringSize (s.rings true r.all) b z, 7)]

/-- R303, MON_CAPTURE_SET. -/
def specMonCaptureSet : CmdSpec :=
  { op := 0x80, accepts := monIsLane, avail := availRun, count := exactly 8, isl := ownIsl, bad := captureBad,
    cond := fun s r => require (match s.mon.caps[monLane r.inst].state with
      | .armed | .filling | .moving => false
      | .idle | .held | .aborted => true) (s.conflict .mon r.inst),
    act := change fun s r =>
      (s.ringInit (bit (r.p 0) 16 && bit (r.p 0) 18) (r.p 6).toNat).setCap (monLane r.inst) fun c =>
        { c with cfg := Vector.ofFn fun k => r.p k.val } }

/-- R289: the members that armed form a common set with the trigger settings of the lowest. -/
def State.formSet (s : State) (is : List Nat) : State :=
  match is with
  | [] => s
  | i :: _ => { s with mon := { s.mon with sets := s.mon.sets ++ [{ members := is, cfg := s.mon.caps[monLane i].cfg }] } }

/-- R289, MON_CAPTURE_ARM. -/
def specMonCaptureArm : CmdSpec :=
  { op := 0x81, accepts := monIsLane, avail := availRun, count := exactly 0, isl := ownIsl,
    busy := fun s r => require (match s.mon.caps[monLane r.inst].state with
      | .armed | .filling | .moving => false
      | .idle | .held | .aborted => true) { status := .busy, pay := [s.freeWord] },
    cond := adminIn [.up],
    act := change fun s r => (s.leaveSets [r.inst]).setCap (monLane r.inst) fun c => c.rearm s.now,
    after := State.formSet }

def CapState.code : CapState → Nat
  | .idle => 0 | .armed => 1 | .filling => 2 | .moving => 3 | .held => 4 | .aborted => 5

/-- R303: the status block; of the last record its header. -/
def capBlock (c : Capture) : List Word :=
  let h := fun k => c.record.getD k 0
  [pk [(c.state.code, 0), (min c.acq 255, 8)], h 1, h 2, h 3, pk [(fld (h 4) 0 8, 0), (fld (h 5) 0 16, 16)], w32 c.missed]

/-- R303, MON_CAPTURE_STATUS_GET. -/
def specMonCaptureStatusGet : CmdSpec :=
  { op := 0x82, accepts := monIsLane, avail := availRun, count := exactly 0, isl := ownIsl,
    act := answer fun s r => capBlock s.immediates.mon.caps[monLane r.inst] }

/-- R294: words of a HELD record are read; HELD ends once all of it has been, from its start on (entry 87). -/
def Capture.readTo (c : Capture) (offset count : Nat) : Capture :=
  let got := if offset ≤ c.got then max c.got (offset + count) else c.got
  if c.sram.length ≤ got then { c with state := .idle, got := 0, sram := [] } else { c with got := got }

/-- R294, R303, MON_CAPTURE_READ. The range is held against the record that the lane holds. -/
def specMonCaptureRead : CmdSpec :=
  { op := 0x83, accepts := fun c i => monIsLane c i, avail := availRun, count := exactly 1, isl := ownIsl,
    bad := fun s r =>
      let c := s.mon.caps[monLane r.inst]
      let n := fld (r.p 0) 16 10
      firstBad [(clear (r.p 0) 26 && decide (1 ≤ n) && decide (n ≤ 1016) &&
        (c.state != .held || decide (fld (r.p 0) 0 16 + n ≤ c.sram.length)), 0)],
    cond := fun s r => require (s.mon.caps[monLane r.inst].state == .held) (s.conflict .mon r.inst),
    act := fun s r =>
      let i := monLane r.inst
      { st := s.setCap i fun c => c.readTo (fld (r.p 0) 0 16) (fld (r.p 0) 16 10)
        pay := ((s.mon.caps[i].sram).drop (fld (r.p 0) 0 16)).take (fld (r.p 0) 16 10) } }

/-- R304, MON_CAPTURE_ABORT. -/
def specMonCaptureAbort : CmdSpec :=
  { op := 0x84, accepts := monIsLane, avail := availRun, count := exactly 0, isl := ownIsl,
    act := change fun s r => s.captureAbort (monLane r.inst) 4 }

/-- R303: the class words of STATUS_GET. -/
def State.statusMon (s : State) (i : Nat) : List Word :=
  if 24 ≤ i then []
  else
    let t := s.mon.taps[monLane i]
    [pk [(tapInput t, 0), (t.preset, 4), (s.mon.caps[monLane i].state.code, 8), (b2n (aboveEnv (sfld t.high 0 24) t.env), 12)]]

/-! ## Rows -/

/-- R303, MON_TAP_SET. -/
def execMonTapSet (dt : Nat) (c : Cmd) (s : State) := done (hostRow dt specMonTapSet .mon c s)
/-- R303, MON_READ. -/
def execMonRead (dt : Nat) (c : Cmd) (s : State) := done (hostRow dt specMonRead .mon c s)
/-- R297, MON_THRESHOLD_SET. -/
def execMonThresholdSet (dt : Nat) (c : Cmd) (s : State) := done (hostRow dt specMonThresholdSet .mon c s)
/-- R298, MON_STREAM_SET. -/
def execMonStreamSet (dt : Nat) (c : Cmd) (s : State) := done (hostRow dt specMonStreamSet .mon c s)
/-- R300, MON_HK_CONFIG. -/
def execMonHkConfig (dt : Nat) (c : Cmd) (s : State) := done (hostRow dt specMonHkConfig .mon c s)
/-- R303, MON_HK_READ. -/
def execMonHkRead (dt : Nat) (c : Cmd) (s : State) := done (hostRow dt specMonHkRead .mon c s)
/-- R303, MON_CAPTURE_SET. -/
def execMonCaptureSet (dt : Nat) (c : Cmd) (s : State) := done (hostRow dt specMonCaptureSet .mon c s)
/-- R289, MON_CAPTURE_ARM. -/
def execMonCaptureArm (dt : Nat) (c : Cmd) (s : State) := done (hostRow dt specMonCaptureArm .mon c s)
/-- R303, MON_CAPTURE_STATUS_GET. -/
def execMonCaptureStatusGet (dt : Nat) (c : Cmd) (s : State) := done (hostRow dt specMonCaptureStatusGet .mon c s)
/-- R303, MON_CAPTURE_READ. -/
def execMonCaptureRead (dt : Nat) (c : Cmd) (s : State) := done (hostRow dt specMonCaptureRead .mon c s)
/-- R304, MON_CAPTURE_ABORT. -/
def execMonCaptureAbort (dt : Nat) (c : Cmd) (s : State) := done (hostRow dt specMonCaptureAbort .mon c s)

/-- R287, CAPTURE_FILL_COMPLETE. -/
def execCaptureFillComplete (dt : Nat) (i : Fin 24) (samples : List Word) (offset : Byte) (s : State) :=
  done (eventRow dt (·.captureFilled i samples offset) s)
/-- R294, CAPTURE_DONE. -/
def execCaptureDone (dt : Nat) (i : Fin 24) (s : State) := done (eventRow dt (·.captureWritten i) s)
/-- R297, MONITOR_OUTPUT. -/
def execMonitorOutput (dt : Nat) (i : Fin 24) (v : Int) (s : State) := done (eventRow dt (·.tapOutput i v) s)
/-- R298, MONITOR_RECORD_WRITE. -/
def execMonitorRecordWrite (dt : Nat) (i : Fin 24) (s : State) := done (eventRow dt (·.tapRecord i) s)
/-- R288, TRIG_IN_EDGE. -/
def execTrigInEdge (dt : Nat) (rising : Bool) (s : State) :=
  done (eventRow dt (fun s => s.triggerSets fun cfg => fld cfg[2] 0 4 == 1 && bit cfg[2] 4 == rising) s)
/-- R288, OVER_RANGE_SAMPLE. -/
def execOverRangeSample (dt : Nat) (i : Fin 24) (s : State) := done (eventRow dt (·.triggerFrom 5 i) s)

end Sys2Proof.Machine
end

