-- ==== Sys2Proof/Machine/Tst.lean ====
section
/-! DEFINITION. Class TST (R305 to R321): pattern generators and checkers, error injection, loopbacks. -/

namespace Sys2Proof.Machine

def tstPair (i : Nat) : Fin 24 := Fin.ofNat 24 i

def State.setTst (s : State) (i : Fin 24) (f : Tst → Tst) : State := { s with tst := upd s.tst i f }

/-- R305: the RX and the TX unit of a pair. -/
def rxUnit (i : Nat) : Cls × Nat := if i < 16 then (.hrx, i) else (.lrx, i - 16)
def txUnit (i : Nat) : Cls × Nat := if i < 16 then (.htx, i) else (.ltx, i - 16)

/-- R313: LEVEL, SIZE, M, E of the inject words. -/
def Tst.level (t : Tst) : Nat := fld t.inject 0 3

/-- R314: the injector runs: it is not OFF and has injections left. -/
def Tst.injects (t : Tst) : Bool := t.level != 0 && (t.count == 0 || t.left != 0)

/-! ## Patterns and injections (R306, R309, R313) -/

/-- R306, R319: symbol `k` of a fixed pattern: SQUARE, USER, or one that IEEE 802.3 defines (entry 8). -/
def Tst.fixedSymbol (t : Tst) (code k : Nat) : Nat :=
  let h := fld t.cfg 16 6
  let i := k % (16 * t.user.length)
  if code = 12 then (if k % (2 * h) < h then 0 else 3)
  else if code = 13 then fld (t.user.getD (i / 16) 0) (2 * (i % 16)) 2
  else Config.ieeePattern code k

/-- R131, R306: the first `n` symbols of a pattern; a PRBS starts after all ones (entry 65). -/
def Tst.pattern (t : Tst) (code n : Nat) : List Nat :=
  if code < 6 then bitSymbols (prbsRun (prbsTaps code) (List.replicate 31 true) (2 * n)) else (List.range n).map (t.fixedSymbol code)

/-- R130, R307: what a line transmitter puts out, in mV/256, for `n` symbols of its SYMBOL-layer generator, which replace
the output of step 2; `at_` lists those that a SYMBOL injection hits (R313), and `prev` is the symbol sent before. -/
def Ltx.driveTest (x : Ltx) (t : Tst) (prev : Nat) (at_ : List Nat) (n : Nat) : List Int :=
  let syms := (t.pattern (fld t.cfg 4 4) n).zipIdx.map fun y => if at_.contains y.2 then injectSymbol y.1 else y.1
  (dacSums x (if x.precode then Sys2Proof.Machine.precode prev syms else syms)).map fun v => outMv256 x (clampDac v)

/-- R309: CHK_INVERT exchanges the levels s and 3 − s before the comparison. -/
def Tst.compared (t : Tst) (s : Nat) : Nat := if bit t.cfg 3 then 3 - s else s

/-- R131: the bits of a symbol, the first one most significant. -/
def symbolBits (s : Nat) : List Bool := [decide (2 ≤ s), s == 1 || s == 2]

/-- R309: the thresholds of lock. A PRBS register, seeded from the first bits received, or with ALIGN MANUAL as it stands,
gives 1,024 further bits without error; of a fixed pattern, at the place found or at the present one, fewer than 16 of 4,096
consecutive symbols are in error. -/
def Tst.locksOn (t : Tst) (m : CheckSeen) : Bool :=
  let code := fld t.cfg 8 4
  let syms := m.symbols.map fun s => t.compared s.toNat
  if code < 6 then
    let bits := syms.flatMap symbolBits
    let taps := prbsTaps code
    let n := if t.manual then 0 else taps.headD 0
    let past := if t.manual then (List.range 31).map m.place.testBit else (bits.take n).reverse
    ((bits.drop n).take 1024).length == 1024 && (bits.drop n).take 1024 == prbsRun taps past 1024
  else
    let seen := syms.take 4096
    seen.length == 4096 && decide ((seen.zipIdx.filter fun x => x.1 != t.fixedSymbol code (m.place + x.2)).length < 16)

/-! ## The lane units that a configuration needs (R305) -/

/-- R305: the lane units that must be ADMIN TEST, in the order of R411 (LTX before LRX); `inject`: injection is configured. -/
def State.tstUnits (s : State) (i : Nat) (t : Tst) (inject : Bool) : List (Cls × Nat) :=
  let tx := t.gen || inject || t.loopSel != 0
  if !(tx || t.chk) then []
  else if t.framed then
    match s.groupOf (i - 16) with
    | some g => ((s.glanes (Fin.ofNat 8 g)).map fun l => (Cls.ltx, l.val)) ++ (s.glanes (Fin.ofNat 8 g)).map fun l => (Cls.lrx, l.val)
    | none => [txUnit i, rxUnit i]
  else if !tx then [rxUnit i]
  else if i < 16 then [rxUnit i, txUnit i]
  else [txUnit i, rxUnit i]

/-- R305, R308: the group that a FRAMED-layer function needs is ADMIN UP in PASS or TERMINATE. -/
def State.framedGroup (s : State) (i : Nat) (t : Tst) (inject : Bool) : Option Fail :=
  if i < 16 ∨ !t.framed ∨ !(t.gen || inject || t.loopSel != 0 || t.chk) then none
  else match s.groupOf (i - 16) with
    | some g => require (s.isUp .grp g && (s.grp[Fin.ofNat 8 g].mode == 1 || s.grp[Fin.ofNat 8 g].mode == 2)) (s.conflict .grp g)
    | none => some (s.conflict .grp (i - 16))

/-- R305: why the functions of a unit may not run. -/
def State.tstBlocked (s : State) (i : Nat) (t : Tst) (inject : Bool) : Option Fail :=
  (((s.tstUnits i t inject).find? fun u => s.admin u.1 u.2 != .test).map fun u => s.conflict u.1 u.2).or
    (s.framedGroup i t inject)

/-- R317: the pair is on a line lane of a group in SEALED. -/
def State.tstSealed (s : State) (i : Nat) : Option Fail :=
  if i < 16 then none
  else match s.groupOf (i - 16) with
    | some g => require (s.grp[Fin.ofNat 8 g].mode != 3) (s.conflict .grp g)
    | none => none

/-- R305, R317: ADMIN_SET UP to a TST unit is refused. -/
def State.tstUpRefused (s : State) (i : Nat) : Option Fail :=
  (s.tstSealed i).or (s.tstBlocked i s.tst[tstPair i] (s.tst[tstPair i].level != 0))

/-! ## ADMIN -/

/-- R316: a loopback takes effect or ends: the RX lane acquires again, warm or from step 2. -/
def State.loopChanged (s : State) (i : Nat) : State :=
  if i < 16 then (if s.isUp .hrx i then s.acquireHrx (hostLane i) else s)
  else if s.isUp .lrx (i - 16) then s.relock (lineLane (i - 16)) true 1
  else s

/-- R305, R311: ADMIN of a TST unit. -/
def State.adminTst (s : State) (i : Nat) (a : Admin) : State :=
  let k := tstPair i
  let was := s.loopOn i
  let t := s.setAdmin .tst i a
  let u :=
    if a = .down then t.setTst k fun x => { x with locked := false, stopped := false, slip := 0 }
    else if s.admin .tst i = .down then t.setTst k fun x => { x with locked := false, stopped := false, since := s.now }
    else t
  let v := if u.loopOn i = was then u else u.loopChanged i
  v.ltxSettle

/-- R305: a unit that a running TST unit needs is no longer ADMIN TEST: its functions stop. -/
def State.tstStop (s : State) (i : Fin 24) : State :=
  let x := s.tst[i]
  if !s.tstRuns i then s
  else match (s.tstUnits i x (x.level != 0)).find? fun u => s.admin u.1 u.2 != .test with
    | none => s
    | some u =>
      let t := s.setTst i fun x => { x with stopped := true, locked := false }
      let v := if s.loopOn i = 0 then t else t.loopChanged i
      v.raise .tst i 0x13 (pk [(u.2, 0), (clsCode u.1, 4)])

/-- R305: every TST unit after ADMIN of a lane unit has changed. -/
def State.tstCheck (s : State) : State := (fins 24).foldl State.tstStop s

/-! ## Checker and injector -/

/-- R305, R309: the pair's islands work. -/
def State.tstLive (s : State) (i : Fin 24) : Bool :=
  s.tstRuns i && s.live .tst i && !(unitIslands .tst i).any s.islandFailed

/-- R309, R310: the checker of a lane with signal locks; in the SYMBOL layer its lane then has timing lock. -/
def State.chkLocks (s : State) (i : Fin 24) (m : CheckSeen) : State :=
  let x := s.tst[i]
  let sd := if i.val < 16 then s.hrx[Fin.ofNat 16 i.val].sd else s.lrx[Fin.ofNat 8 (i.val - 16)].sd
  if !s.tstLive i || !x.chk || x.locked || !sd || s.laneFg (if i.val < 16 then 8 + i.val else i.val - 16) || !x.locksOn m then s
  else
    let t := (s.setTst i fun x => { x with locked := true }).raise .tst i 0x10 (w32 (sat32 ((s.now - x.since) / 1000)))
    if x.framed then t
    else if i.val < 16 then t.setHrx (hostLane i) fun h => { h with timing := true }
    else s.voidRestored ((t.setLrx (lineLane (i - 16)) (·.lockTiming s.now)).keepPol (lineLane (i - 16)))

/-- R312, R319: what a locked checker has counted. -/
def State.chkCounts (s : State) (i : Fin 24) (m : CheckCounts) : State :=
  let x := s.tst[i]
  let a := (s.count .tst i 0 m.bits).count .tst i 1 m.bitErr
  if x.framed then a.count .tst i 3 m.postErr else a.count .tst i 2 m.symErr

/-- R309, CHK_LOCK_LOST: a window of 4,096 symbols has held more than 1,024 symbol errors. -/
def State.chkLoses (s : State) (i : Fin 24) (m : CheckCounts) : State :=
  let x := s.tst[i]
  if !s.tstLive i || !x.locked || decide (m.window ≤ 1024) then s
  else
    let n := min 0xFFFF (x.losses + 1)
    ((s.chkCounts i m).setTst i fun x => { x with locked := false, losses := n, since := s.now }).raise .tst i 0x11 (w32 n)

/-- R288, R312, PATTERN_START. -/
def State.patternStarts (s : State) (i : Fin 24) (m : CheckCounts) : State :=
  if !s.tstLive i || !s.tst[i].locked then s else (s.chkCounts i m).triggerFrom 4 i

/-- R313, R314, INJECTION: counted; on a line lane an RS injection is made in the next data slot. -/
def State.injected (s : State) (i : Fin 24) : State :=
  let x := s.tst[i]
  if !s.tstLive i || !x.injects then s
  else
    let hit := if x.level = 4 ∧ 16 ≤ i.val then injectPlaces 544 (fld x.inject 8 5) s.stats[uix .tst i].vals[4] else []
    let t := (s.setTst i fun x => { x with left := x.left - 1, pend := if hit = [] then x.pend else hit }).count .tst i 4
    t.raiseIf (x.count != 0 && x.left == 1) .tst i 0x12 (w32 x.count)

/-! ## Commands (R318, R319) -/

/-- R318: the unit is ADMIN DOWN. -/
def tstDown (s : State) (r : Req) : Option Fail := (s.tstSealed r.inst).or (adminIn [.down] s r)

/-- R306, R308: a pattern of the layer. -/
def patternOk (framed : Bool) (p : Nat) : Bool := decide (p < 14) && (!framed || decide (p < 6))

/-- R305, R306, R308, R319, TST_CONFIG_SET. SQ_HALF counts only with SQUARE. -/
def specTstConfigSet : CmdSpec :=
  { op := 0x10, avail := availRun, count := exactly 1,
    bad := fun s r =>
      let w := r.p 0
      let f := bit w 2
      firstBad [(patternOk f (fld w 4 4) && patternOk f (fld w 8 4) && fld w 13 3 == 0 && clear w 22 &&
        (!(fld w 4 4 == 12 || fld w 8 4 == 12) || (decide (1 ≤ fld w 16 6) && decide (fld w 16 6 ≤ 32))) &&
        !(f && decide (r.inst < 16)) &&
        !(bit w 0 && s.tst[tstPair r.inst].loopSel == 3), 0)],
    cond := fun s r =>
      (tstDown s r).or
        (if bit (r.p 0) 2 then
          (match s.groupOf (r.inst - 16) with
           | some g => require (g + 16 == r.inst) (s.conflict .grp g)
           | none => some (s.conflict .grp (r.inst - 16)))
         else none),
    act := change fun s r => s.setTst (tstPair r.inst) fun t =>
      { t with cfg := r.p 0, slip := if bit (r.p 0) 12 then t.slip else 0 } }

/-- R319: the check block. -/
def State.checkBlock (s : State) (i : Fin 24) : List Word :=
  let v := s.stats[uix .tst i].vals
  let full (k : Fin 9) := b2n (decide (2 ^ 64 - 1 ≤ v[k]))
  [pk [(b2n s.tst[i].locked, 0), (full 0, 1), (full 1, 2), (full 2, 3), (full 3, 4), (s.tst[i].losses, 16)]] ++
    lohi v[0] ++ lohi v[1] ++ lohi v[2] ++ lohi v[3] ++ lohi v[4] ++ lohi s.stats[uix .tst i].start

/-- R324: the fixed counters of a unit are cleared. -/
def State.clearStats (s : State) (c : Cls) (i : Nat) : State :=
  { s with stats := upd s.stats (uix c i) fun _ => { vals := .replicate 9 0, start := s.now } }

/-- R312, R319, R324: the checker's counts are cleared, LOCK_LOSSES among them. -/
def State.clearChecks (s : State) (i : Fin 24) : State := (s.clearStats .tst i).setTst i fun t => { t with losses := 0 }

/-- R312, TST_CHECK_GET. -/
def specTstCheckGet : CmdSpec :=
  { op := 0x11, avail := availRun, count := exactly 1, bad := oneBit, isl := ownIsl,
    act := fun s r =>
      { st := if bit (r.p 0) 0 then s.clearChecks (tstPair r.inst) else s, pay := s.checkBlock (tstPair r.inst) } }

/-- R319, TST_USER_PATTERN_SET. -/
def specTstUserPatternSet : CmdSpec :=
  { op := 0x12, avail := availRun, count := fun _ r => decide (2 ≤ r.params.length) && decide (r.params.length ≤ 65),
    bad := fun _ r =>
      let n := fld (r.p 0) 0 11
      firstBad [(clear (r.p 0) 11 && decide (16 ≤ n) && decide (n ≤ 1024) && n % 16 == 0 && r.params.length == 1 + n / 16, 0)],
    cond := adminIn [.down],
    act := change fun s r => s.setTst (tstPair r.inst) fun t => { t with user := r.params.drop 1 } }

/-- R315, TST_LOOP_SET. -/
def specTstLoopSet : CmdSpec :=
  { op := 0x80, avail := availRun, count := exactly 1,
    bad := fun s r => firstBad [(clear (r.p 0) 2 && !(fld (r.p 0) 0 2 == 3 && s.tst[tstPair r.inst].gen), 0)],
    cond := tstDown,
    act := change fun s r => s.setTst (tstPair r.inst) fun t => { t with loopSel := fld (r.p 0) 0 2 } }

/-- R313, R314: the inject words; with LEVEL OFF there is no SIZE, M or E to be out of range. -/
def injectBad (_ : State) (r : Req) : Option Nat :=
  let w := r.p 0
  let lv := fld w 0 3
  let z := fld w 8 5
  let m := fld w 16 8
  let e := fld w 24 6
  let top := if lv = 3 then 4 else if lv = 4 then 16 else 1
  firstBad
    [(fld w 3 5 == 0 && fld w 13 3 == 0 && clear w 30 && decide (lv ≤ 4) && !(lv == 3 && decide (r.inst < 16)) &&
        (lv == 0 || (decide (1 ≤ z) && decide (z ≤ top) && decide (1 ≤ m) && decide (e ≤ 40) && decide (16 ≤ m * 2 ^ e))), 0),
     (clear (r.p 1) 16, 1)]

/-- R313: RS injection on a line transmitter needs data slots. -/
def State.hasSlots (s : State) (i : Nat) : Bool :=
  let t := s.tst[tstPair i]
  decide (i < 16) ||
    (!s.testContent i &&
      (match s.groupOf (i - 16) with
       | some g => s.isUp .grp g && s.grp[Fin.ofNat 8 g].mode != 0 && (t.framed || s.isUp .ltx (i - 16))
       | none => false))

/-- R313, R314, TST_INJECT_SET. -/
def specTstInjectSet : CmdSpec :=
  { op := 0x81, avail := availRun, count := exactly 2, bad := injectBad, isl := ownIsl,
    cond := fun s r =>
      let lv := fld (r.p 0) 0 3
      (((s.tstSealed r.inst).or (adminIn [.up] s r)).or
        (if lv = 0 then none else s.tstBlocked r.inst s.tst[tstPair r.inst] true)).or
        (require (lv != 4 || s.hasSlots r.inst) (s.conflict .tst r.inst)),
    act := change fun s r => s.setTst (tstPair r.inst) fun t =>
      { t with inject := r.p 0, count := fld (r.p 1) 0 16, left := fld (r.p 1) 0 16 } }

/-- R311, R319, TST_SLIP. -/
def specTstSlip : CmdSpec :=
  { op := 0x82, avail := availRun, count := exactly 1, isl := ownIsl,
    bad := fun _ r => firstBad [(clear (r.p 0) 10 && r.p 0 != 0, 0)],
    cond := fun s r =>
      (if r.inst < 16 then require (s.admin .hrx r.inst == .test) (s.conflict .hrx r.inst) else none).or
        (require s.tst[tstPair r.inst].manual (s.conflict .tst r.inst)),
    act := fun s r =>
      if r.inst < 16 then
        let n := hostLane r.inst
        let o := (s.hrx[n].slip + fld (r.p 0) 0 10) % 65536
        { st := s.setHrx n fun h => { h with slip := o }, pay := [w32 o] }
      else
        let o := (s.tst[tstPair r.inst].slip + fld (r.p 0) 0 10) % 65536
        { st := s.setTst (tstPair r.inst) fun t => { t with slip := o }, pay := [w32 o] } }

/-- R319: the class word of STATUS_GET. -/
def State.statusTst (s : State) (i : Nat) : List Word :=
  let t := s.tst[tstPair i]
  [pk [(b2n t.locked, 0), (s.loopOn i, 1), (if s.tstRuns i && t.injects then t.level else 0, 3)]]

/-! ## Rows -/

/-- R319, TST_CONFIG_SET. -/
def execTstConfigSet (dt : Nat) (c : Cmd) (s : State) := done (hostRow dt specTstConfigSet .tst c s)
/-- R319, TST_CHECK_GET. -/
def execTstCheckGet (dt : Nat) (c : Cmd) (s : State) := done (hostRow dt specTstCheckGet .tst c s)
/-- R319, TST_USER_PATTERN_SET. -/
def execTstUserPatternSet (dt : Nat) (c : Cmd) (s : State) := done (hostRow dt specTstUserPatternSet .tst c s)
/-- R315, TST_LOOP_SET. -/
def execTstLoopSet (dt : Nat) (c : Cmd) (s : State) := done (hostRow dt specTstLoopSet .tst c s)
/-- R314, TST_INJECT_SET. -/
def execTstInjectSet (dt : Nat) (c : Cmd) (s : State) := done (hostRow dt specTstInjectSet .tst c s)
/-- R311, TST_SLIP. -/
def execTstSlip (dt : Nat) (c : Cmd) (s : State) := done (hostRow dt specTstSlip .tst c s)

/-- R309, CHK_LOCKED. -/
def execChkLocked (dt : Nat) (m : CheckLock) (s : State) := done (eventRow dt (·.chkLocks m.pair m.seen) s)
/-- R309, CHK_LOCK_LOST. -/
def execChkLockLost (dt : Nat) (i : Fin 24) (m : CheckCounts) (s : State) := done (eventRow dt (·.chkLoses i m) s)
/-- R312, PATTERN_START. -/
def execPatternStart (dt : Nat) (i : Fin 24) (m : CheckCounts) (s : State) := done (eventRow dt (·.patternStarts i m) s)
/-- R314, INJECTION. -/
def execInjection (dt : Nat) (i : Fin 24) (s : State) := done (eventRow dt (·.injected i) s)

end Sys2Proof.Machine
end

