-- ==== Sys2Proof/Machine/Perf.lean ====
section
/-! DEFINITION. Class PERF (R327 to R335): the programmable counters. -/

namespace Sys2Proof.Machine

def perfCtr (i : Nat) : Fin 64 := Fin.ofNat 64 i

def State.setPerf (s : State) (i : Fin 64) (f : PerfCtr → PerfCtr) : State :=
  { s with obs := { s.obs with perf := upd s.obs.perf i f } }

/-- R328, R334: the config words. -/
def perfBad (_ : State) (r : Req) : Option Nat :=
  let w := r.p 0
  let c := clsOf (fld w 12 4)
  firstBad [((instances c).contains (fld w 0 12) && decide (fld w 16 8 ≤ topSignal c) && clear w 26, 0),
    (clear (r.p 1) 8 && (fld w 16 8 == 0 || r.p 1 == 0), 1)]

/-- R333, PERF_SET. -/
def specPerfSet : CmdSpec :=
  { op := 0x10, avail := availRun, counter := true, count := exactly 2, bad := perfBad,
    act := change fun s r => s.setPerf (perfCtr r.inst) fun _ =>
      { cfg := r.p 0, code := r.p 1, val := 0, sat := false, wrap := false } }

/-- R328: the counter selects a signal that no row of the table drives, the codewords of an HTX lane (entry 22). -/
def PerfCtr.undriven (p : PerfCtr) : Bool := clsOf (fld p.cfg 12 4) == .htx && fld p.cfg 16 8 != 0

/-- R334: the read block. What a counter of an HTX lane's codewords holds is open (entry 22). -/
def State.perfBlock (s : State) (i : Fin 64) : List Word :=
  let p := s.obs.perf[i]
  (if p.undriven then [Config.freeAt s.free 0, Config.freeAt s.free 1 &&& 0x0003_FFFF]
   else [w32 p.val, pk [(p.val / 2 ^ 32 % 65536, 0), (b2n p.sat, 16), (b2n p.wrap, 17)]]) ++ lohi s.now

/-- R330, R331: the value and its flags are cleared. -/
def State.perfClear (s : State) (i : Fin 64) : State :=
  s.setPerf i fun p => { p with val := 0, sat := false, wrap := false }

/-- R331, PERF_READ. -/
def specPerfRead : CmdSpec :=
  { op := 0x11, avail := availRun, counter := true, count := exactly 1, bad := oneBit,
    act := fun s r =>
      { st := if bit (r.p 0) 0 then s.perfClear (perfCtr r.inst) else s, pay := s.perfBlock (perfCtr r.inst) } }

/-- R333, PERF_LOAD. -/
def specPerfLoad : CmdSpec :=
  { op := 0x80, avail := availRun, counter := true, count := exactly 2, bad := fun _ r => firstBad [(clear (r.p 1) 16, 1)],
    act := change fun s r => s.setPerf (perfCtr r.inst) fun p =>
      { p with val := (r.p 0).toNat + 2 ^ 32 * fld (r.p 1) 0 16, sat := false, wrap := false } }

/-- R333: the class words of STATUS_GET. -/
def State.statusPerf (s : State) (i : Nat) : List Word := [s.obs.perf[perfCtr i].cfg, s.obs.perf[perfCtr i].code]

/-- R330: `n` occurrences reach counter `i` alone, which passes its end in the mode `wrap`. -/
def State.perfPass (s : State) (i : Fin 64) (wrap : Bool) (n : Nat) : State :=
  let p := s.obs.perf[i]
  if bit p.cfg 24 != wrap || decide (p.val + n < 2 ^ 48) then s
  else { s with obs := s.perfMap fun k _ => if k = i.val then n else 0 }

/-! ## Rows -/

/-- R333, PERF_SET. -/
def execPerfSet (dt : Nat) (c : Cmd) (s : State) := done (hostRow dt specPerfSet .perf c s)
/-- R331, PERF_READ. -/
def execPerfRead (dt : Nat) (c : Cmd) (s : State) := done (hostRow dt specPerfRead .perf c s)
/-- R333, PERF_LOAD. -/
def execPerfLoad (dt : Nat) (c : Cmd) (s : State) := done (hostRow dt specPerfLoad .perf c s)
/-- R330, PERF_SAT. -/
def execPerfSat (dt : Nat) (i : Fin 64) (incr : Nat) (s : State) := done (eventRow dt (·.perfPass i false incr) s)
/-- R330, PERF_WRAPPED. -/
def execPerfWrapped (dt : Nat) (i : Fin 64) (incr : Nat) (s : State) := done (eventRow dt (·.perfPass i true incr) s)

end Sys2Proof.Machine
end

