-- ==== Sys2Proof/Machine/Mbx.lean ====
section
/-! DEFINITION. Class MBX (R336 to R345): channels, doorbells, services, the legacy shared mailbox. -/

namespace Sys2Proof.Machine

def State.setCh (s : State) (ch : Nat) (f : List Msg → List Msg) : State :=
  { s with mbx := { s.mbx with ch := upd s.mbx.ch (chIx ch) f } }

def State.setLegacy (s : State) (f : Legacy → Legacy) : State :=
  { s with mbx := { s.mbx with legacy := f s.mbx.legacy } }

/-! ## Posting and delivery (R338, R339) -/

/-- R338: the channel is full. -/
def State.chFull (s : State) (ch : Nat) : Bool := decide (8 ≤ s.mbx.ch[chIx ch].length)

/-- R338, R339, R345: a message is stamped and posted; a channel that was empty rings its receiver's doorbell. -/
def State.post (s : State) (ch : Nat) (service : Byte) (id : BitVec 16) (data : List Word) : State :=
  let m : Msg := { service := service, id := id, data := data, sender := senderOf ch,
                   epoch := s.mbx.epoch[Fin.ofNat 5 (senderOf ch)], posted := s.now }
  let t := (s.setCh ch fun q => q ++ [m]).count .mbx ch 0
  t.raiseIf (s.mbx.ch[chIx ch].isEmpty && decide (receiverOf ch < 2)) .mbx ch 0x10 (w32 ch)

/-- R344: the oldest message of a channel, with how many remain. -/
def msgBlock (q : List Msg) (remaining : Nat) : List Word :=
  match q with
  | [] => [0, 0, 0, 0]
  | m :: _ =>
    [pk [(m.service.toNat, 0), (m.data.length, 8), (m.id.toNat, 16)],
     pk [(m.sender, 0), (1, 4), (remaining, 8), (m.epoch % 65536, 16)]] ++ lohi m.posted ++ m.data

/-- R338: the oldest message is delivered. -/
def State.deliverMsg (s : State) (ch : Nat) : State :=
  if s.mbx.ch[chIx ch].isEmpty then s else (s.setCh ch List.tail).count .mbx ch 1

/-- R339: the answer of a core to a host service request: SERVICE and data. -/
def serviceAnswer (core : Nat) (m : Msg) (log : List Word) : Byte × List Word :=
  if m.service = 1 then (1, m.data)
  else if m.service = 2 ∧ core < 4 then (2, log.take 64)
  else (0xFF, [w32 m.service.toNat])

/-- R339, MAILBOX_SERVICE_ANSWER: the request leaves its channel, and the answer is posted on the reverse one, which must have
room and be ADMIN UP. -/
def State.answerService (s : State) (ch : Nat) (log : List Word) : State :=
  let core := receiverOf ch
  let back := core * 16 + senderOf ch
  match s.mbx.ch[chIx ch] with
  | [] => s
  | m :: _ =>
    if !channels.contains ch || decide (2 ≤ senderOf ch) || decide (core < 2) || !s.partyOn core || !s.anyRun ||
        ((partyIsland core).any fun k => s.underTest k || s.islandFailed k) || s.chFull back || !s.isUp .mbx back then s
    else
      let a := serviceAnswer core m log
      (s.deliverMsg ch).post back a.1 m.id a.2

/-! ## The legacy shared mailbox (R342) -/

/-- R342: two writes within 1 µs of each other. -/
def State.nearWrite (s : State) (t : Option Nat) : Bool := t.any fun t => decide (s.now ≤ t + 1000)

/-- R342: the buffer holds a message that the side it is for has not read. -/
def Legacy.unreadNow (g : Legacy) : Bool := if g.writer = 1 then g.request.isSome else g.writer == 2 && g.unread

/-- R342: the host writes the buffer; against an MC write within 1 µs its data is kept and MC writes again later. -/
def State.hostWrites (s : State) (data : List Word) : State :=
  let clash := s.mbx.legacy.writer == 2 && s.nearWrite s.mbx.legacy.mcAt
  let t := s.setLegacy fun g => { g with
    data := data, writer := 1, unread := false, request := some (data.headD 0), hostAt := some s.now
    overwrite := g.overwrite || (!clash && g.unreadNow), collision := g.collision || clash
    again := if clash then g.data else g.again }
  t.raiseIf clash .mbx 0xF0 0x13 0

/-- R342: the hottest valid reading; open with no valid one (entry 9). -/
def State.hottest (s : State) : Word :=
  let l := (s.thm.sensors.toList.filter fun t => t.cause == 0 && t.reading != 0x8000).map fun t => s16 t.reading
  match l with
  | [] => s.freeWord
  | a :: r => w32 (twos 32 (r.foldl (fun m b => if m < b then b else m) a))

/-- R342: MC's answer to a legacy request. -/
def State.legacyAnswer (s : State) (w : Word) : List Word :=
  match fld w 0 8 with
  | 1 => [1, 0x0000_3208, s.setup.persInForce]
  | 2 => [2, s.hottest]
  | 3 => [3, pk ((List.range 8).map fun n => (b2n ((s.recOf .lrx n).oper == .up), n))]
  | _ => [0x0000_00FF]

/-- R342: MC writes the buffer; against a host write within 1 µs the host's data is kept. -/
def State.mcWrites (s : State) (data : List Word) : State :=
  if s.mbx.legacy.writer == 1 && s.nearWrite s.mbx.legacy.hostAt then
    (s.setLegacy fun g => { g with collision := true, again := data, mcAt := some s.now }).raise .mbx 0xF0 0x13 0
  else
    (s.setLegacy fun g => { g with
      data := data, writer := 2, unread := true, mcAt := some s.now, overwrite := g.overwrite || g.unreadNow }).raise
        .mbx 0xF0 0x12 (w32 data.length)

/-- R342, LEGACY_MSG: after a collision MC writes its message again once the host has read the buffer; otherwise it answers the
host's request. -/
def State.legacyRow (s : State) : State :=
  let g := s.mbx.legacy
  if !s.anyRun || s.power.mcSilent then s
  else if g.again ≠ [] then
    if g.collision then s else (s.setLegacy fun g => { g with again := [] }).mcWrites g.again
  else match g.request with
    | some w => (s.setLegacy fun g => { g with request := none }).mcWrites (s.legacyAnswer w)
    | none => s

/-! ## Commands (R343, R344) -/

/-- R337: the command acts for HOST-S. -/
def hostSide (ch : Nat) : Bool := senderOf ch == 1 || receiverOf ch == 1

/-- R337: a HOST-S channel without a verified trailer is DENIED, outside OWNED LOCKED. -/
def secretDenied (s : State) (r : Req) : Bool := hostSide r.inst && s.owned && !r.authed
def secretLocked (s : State) (r : Req) : Bool := hostSide r.inst && !s.owned

/-- R337: the same of a common opcode to a channel; and the opcodes but STATUS_GET, COUNTERS_GET and MBX_PEEK do not accept a
core-to-core channel. -/
def commonDenied (s : State) (r : Req) : Bool := r.cls == .mbx && secretDenied s r
def commonLocked (s : State) (r : Req) : Bool := r.cls == .mbx && secretLocked s r
def hostOpen (c : Cls) (i : Nat) : Bool :=
  c != .mbx || !channels.contains i || decide (senderOf i < 2) || decide (receiverOf i < 2)

def isChannel (p : Nat → Bool) (_ : Cls) (i : Nat) : Bool := channels.contains i && p i

/-- R338, MBX_SEND. A full channel counts the refusal. -/
def specMbxSend : CmdSpec :=
  { op := 0x10, accepts := isChannel fun i => decide (senderOf i < 2), avail := availRun, denied := secretDenied,
    locked := secretLocked, count := fun _ r => decide (1 ≤ r.params.length) && decide (r.params.length ≤ 65),
    bad := fun _ r =>
      firstBad [(bit (r.p 0) 15 == false && decide (fld (r.p 0) 8 7 ≤ 64) && r.params.length == 1 + fld (r.p 0) 8 7, 0)],
    cond := fun s r => if s.chFull r.inst then none else require (s.isUp .mbx r.inst) (s.conflict .mbx r.inst),
    act := fun s r =>
      if s.chFull r.inst then { st := s.count .mbx r.inst 3, status := .busy, pay := [0xFFFF_FFFF] }
      else
        { st := s.post r.inst (BitVec.ofNat 8 (fld (r.p 0) 0 8)) (BitVec.ofNat 16 (fld (r.p 0) 16 16)) (r.params.drop 1) } }

/-- R344, MBX_RECEIVE. -/
def specMbxReceive : CmdSpec :=
  { op := 0x11, accepts := isChannel fun i => decide (receiverOf i < 2), avail := availRun, denied := secretDenied,
    locked := secretLocked, count := exactly 0,
    act := fun s r =>
      let q := s.mbx.ch[chIx r.inst]
      { st := s.deliverMsg r.inst, pay := msgBlock q (q.length - 1) } }

def isControl (_ : Cls) (i : Nat) : Bool := i == 0xFF

/-- R337, R343: WHO 1 needs a verified trailer. -/
def whoDenied (s : State) (r : Req) : Bool := bit (r.p 0) 0 && s.owned && !r.authed
def whoLocked (s : State) (r : Req) : Bool := bit (r.p 0) 0 && !s.owned

/-- R344: the doorbell block of HOST-NS or HOST-S. -/
def State.doorbell (s : State) (who : Nat) : List Word :=
  let waits := fun (core : Nat) => b2n (!(s.mbx.ch[chIx (core * 16 + who)].isEmpty) && channels.contains (core * 16 + who))
  let e := fun (p : Nat) => s.mbx.epoch[Fin.ofNat 5 p] % 65536
  [pk [(waits 2, 0), (waits 3, 1), (waits 4, 2), (s.mbx.bell[Fin.ofNat 2 who].toNat, 8)], pk [(e 2, 0), (e 3, 16)],
   pk [(e 4, 0), (e who, 16)]]

/-- R344, MBX_DOORBELL_GET. -/
def specMbxDoorbellGet : CmdSpec :=
  { op := 0x12, accepts := isControl, avail := availRun, denied := whoDenied, locked := whoLocked, count := exactly 1,
    bad := oneBit,
    act := fun s r =>
      let who := fld (r.p 0) 0 1
      { st := { s with mbx := { s.mbx with bell := upd s.mbx.bell (Fin.ofNat 2 who) fun _ => 0 } }, pay := s.doorbell who } }

/-- R341, MBX_HOST_RESET. -/
def specMbxHostReset : CmdSpec :=
  { op := 0x13, accepts := isControl, avail := availRun, denied := whoDenied, locked := whoLocked, count := exactly 1,
    bad := oneBit, act := change fun s r => s.partyReset (fld (r.p 0) 0 1) }

def isLegacy (_ : Cls) (i : Nat) : Bool := i == 0xF0

/-- R342, MBX_LEGACY_WRITE. -/
def specMbxLegacyWrite : CmdSpec :=
  { op := 0x14, accepts := isLegacy, avail := availRun,
    count := fun _ r => decide (2 ≤ r.params.length) && decide (r.params.length ≤ 17),
    bad := fun _ r =>
      let n := fld (r.p 0) 0 5
      firstBad [(clear (r.p 0) 5 && decide (1 ≤ n) && decide (n ≤ 16) && r.params.length == 1 + n, 0)],
    act := change fun s r => s.hostWrites (r.params.drop 1) }

/-- R344: the legacy block. -/
def legacyBlock (g : Legacy) : List Word :=
  pk [(g.writer, 0), (b2n (g.writer == 2 && g.unread), 2), (b2n g.overwrite, 3), (b2n g.collision, 4), (g.data.length, 8)] ::
    (List.range 16).map fun k => g.data.getD k 0

/-- R342, R344, MBX_LEGACY_READ. -/
def specMbxLegacyRead : CmdSpec :=
  { op := 0x15, accepts := isLegacy, avail := availRun, count := exactly 0,
    act := fun s _ =>
      { st := s.setLegacy fun g => { g with unread := false, overwrite := false, collision := false }
        pay := legacyBlock s.mbx.legacy } }

/-- R343, MBX_PEEK. -/
def specMbxPeek : CmdSpec :=
  { op := 0x80, accepts := isChannel fun i => decide (2 ≤ senderOf i) && decide (2 ≤ receiverOf i), avail := availRun,
    denied := fun _ r => senderOf r.inst == 4 || receiverOf r.inst == 4, count := exactly 0,
    act := answer fun s r =>
      let q := s.mbx.ch[chIx r.inst]
      msgBlock q q.length }

/-! ## Rows -/

/-- R338, MBX_SEND. -/
def execMbxSend (dt : Nat) (c : Cmd) (s : State) := done (hostRow dt specMbxSend .mbx c s)
/-- R344, MBX_RECEIVE. -/
def execMbxReceive (dt : Nat) (c : Cmd) (s : State) := done (hostRow dt specMbxReceive .mbx c s)
/-- R344, MBX_DOORBELL_GET. -/
def execMbxDoorbellGet (dt : Nat) (c : Cmd) (s : State) := done (hostRow dt specMbxDoorbellGet .mbx c s)
/-- R341, MBX_HOST_RESET. -/
def execMbxHostReset (dt : Nat) (c : Cmd) (s : State) := done (hostRow dt specMbxHostReset .mbx c s)
/-- R342, MBX_LEGACY_WRITE. -/
def execMbxLegacyWrite (dt : Nat) (c : Cmd) (s : State) := done (hostRow dt specMbxLegacyWrite .mbx c s)
/-- R344, MBX_LEGACY_READ. -/
def execMbxLegacyRead (dt : Nat) (c : Cmd) (s : State) := done (hostRow dt specMbxLegacyRead .mbx c s)
/-- R343, MBX_PEEK. -/
def execMbxPeek (dt : Nat) (c : Cmd) (s : State) := done (hostRow dt specMbxPeek .mbx c s)
/-- R342, LEGACY_MSG. -/
def execLegacyMsg (dt : Nat) (s : State) := done (eventRow dt (·.legacyRow) s)
/-- R339, MAILBOX_SERVICE_ANSWER. -/
def execMailboxServiceAnswer (dt : Nat) (channel : BitVec 12) (log : List Word) (s : State) :=
  done (eventRow dt (·.answerService channel.toNat log) s)

end Sys2Proof.Machine
end

