-- ==== Sys2Proof/Machine/Mem.lean ====
section
/-! DEFINITION. Class MEM (R346 to R352, R365, R366): the memory window and the transparent test of the scratchpad. -/

namespace Sys2Proof.Machine

/-- R346: the pinned region. -/
def pinned (a : Nat) : Bool := decide (a < 0x4_0000)

/-- A byte that the window reads: firmware's own data and the data of a failed slice are open (R346, R352, entry 9). -/
def State.windowByte (s : State) (a : Nat) : Byte :=
  if pinned a || s.mem.failed.contains (a / 4096) then Config.openByte s.free a else readByte s.mem.cells a

/-! ## Collisions (R349) -/

/-- R348: the port words of a range, in ascending order. -/
def portWords (a n : Nat) : List Nat := (List.range ((a + n - 1) / 32 - a / 32 + 1)).map fun k => a / 32 + k

/-- R349: the INTERNAL access that meets the window in a port word. -/
def meetAt (meets : List Meet) (p : Nat) : Option Meet := meets.find? fun m => m.portWord == p

/-- R349: INTERNAL's bytes of a port word. -/
def internalBytes (m : Meet) (cells : List Host.Cell) : List Host.Cell :=
  (List.range 32).foldl (fun c i =>
    if m.bytes.getLsbD i then putByte c (32 * m.portWord + i) (m.data.extractLsb' (8 * i) 8) else c) cells

/-- R349: a collision is raised and counted; in the read-against-write cases WIN_BUSY and MGMT_BUSY rise. -/
def State.collides (s : State) (p kind : Nat) : State :=
  let t := (s.count .mem 0 2).raise .mem 0 0x10 (pk [(32 * p, 0), (kind, 23)])
  if kind = 0 then t else t.mapMem fun m => { m with collision := true }

/-- R348, R349: a window read meets INTERNAL writes: they take effect. The port words whose data is undefined. -/
def State.readMeets (s : State) (meets : List Meet) (a n : Nat) : State × List Nat :=
  (portWords a n).foldl (fun x p =>
    match meetAt meets p with
    | some m => if m.write then ((x.1.mapMem fun y => { y with cells := internalBytes m y.cells }).collides p 2, x.2 ++ [p]) else x
    | none => x) (s, [])

/-- R349: a window write meets INTERNAL accesses, which are ordered first. -/
def State.writeMeets (s : State) (meets : List Meet) (a n : Nat) : State :=
  (portWords a n).foldl (fun t p =>
    match meetAt meets p with
    | some m => if m.write then (t.mapMem fun y => { y with cells := internalBytes m y.cells }).collides p 0 else t.collides p 1
    | none => t) s

/-! ## Window commands -/

/-- R350: a window command that touches the borrowed slice is refused whole. -/
def State.windowRetry (s : State) (a n : Nat) : Bool := s.borrowed.any fun k => touches a n k

/-- R350: RETRY is counted, and WIN_BUSY stays high until the slice is returned. -/
def State.retries (s : State) : State := (s.count .mem 0 3).mapMem fun m => { m with retryHold := true }

/-- R348, R366: ADDRESS and LENGTH. -/
def windowChecks (r : Req) : List (Bool × Nat) :=
  [(decide ((r.p 0).toNat + fld (r.p 1) 0 13 ≤ 0x60_0000), 0),
   (clear (r.p 1) 13 && decide (1 ≤ fld (r.p 1) 0 13) && decide (fld (r.p 1) 0 13 ≤ 4064), 1)]

/-- R348, MEM_WIN_READ, against the INTERNAL accesses it meets. -/
def specMemWinRead (meets : List Meet) : CmdSpec :=
  { op := 0x10, avail := availRun, count := exactly 2, isl := ownIsl,
    denied := fun s r => r.params.length == 2 && pinned (r.p 0).toNat && s.owned && !r.authed && !s.permit 1,
    bad := fun _ r => firstBad (windowChecks r),
    cond := fun s r => require (s.isUp .mem 0) (s.conflict .mem r.inst),
    act := fun s r =>
      let a := (r.p 0).toNat
      let n := fld (r.p 1) 0 13
      if s.windowRetry a n then { st := s.retries, status := .retry }
      else
        let x := (s.count .mem 0 0).readMeets meets a n
        let bytes := (List.range n).map fun i =>
          if x.2.contains ((a + i) / 32) then Config.openByte s.free (a + i) else s.windowByte (a + i)
        let first := match x.2 with
          | [] => 0
          | p :: _ => p - a / 32
        { st := x.1, status := if x.2 = [] then .ok else .collided
          pay := pk [(n, 0), (first, 16), (x.2.length, 24)] :: bytesWords bytes } }

/-- R348, MEM_WIN_WRITE, against the INTERNAL accesses it meets. -/
def specMemWinWrite (meets : List Meet) : CmdSpec :=
  { op := 0x80, avail := availRun, isl := ownIsl,
    count := fun _ r => decide (3 ≤ r.params.length) && decide (r.params.length ≤ 1018),
    denied := fun _ r => decide (3 ≤ r.params.length) && pinned (r.p 0).toNat,
    bad := fun _ r =>
      firstBad (windowChecks r ++ [(r.params.length == 2 + (fld (r.p 1) 0 13 + 3) / 4, 1)]),
    cond := fun s r => require (s.isUp .mem 0) (s.conflict .mem r.inst),
    act := fun s r =>
      let a := (r.p 0).toNat
      let n := fld (r.p 1) 0 13
      if s.windowRetry a n then { st := s.retries, status := .retry }
      else
        let t := (s.count .mem 0 1).writeMeets meets a n
        { st := t.mapMem fun m => { m with cells := writeBytes m.cells a (((r.params.drop 2).flatMap wordBytes).take n) } } }

/-! ## The transparent test (R350 to R352) -/

/-- R366: the test block. -/
def State.testBlock (s : State) : List Word :=
  [pk [(s.mem.next, 0), (s.mem.spares, 16)], w32 s.mem.passes, w32 s.mem.repaired, w32 s.mem.failed.length]

/-- R366, MEM_TEST_STATUS_GET. -/
def specMemTestStatusGet : CmdSpec :=
  { op := 0x11, avail := availRun, count := exactly 0, act := answer fun s _ => s.testBlock }

/-- R366, MEM_TEST_SET. -/
def specMemTestSet : CmdSpec :=
  { op := 0x81, avail := availRun, count := exactly 1,
    bad := fun _ r =>
      let v := (r.p 0).toNat
      firstBad [(v == 0 || (decide (10 ≤ v) && decide (v ≤ 10000)), 0)],
    act := change fun s r => s.mapMem fun m => { m with interval := (r.p 0).toNat } }

/-- R351, R365, MEM_TEST_RUN: BST runs the test. -/
def specMemTestRun : CmdSpec :=
  { op := 0x82, avail := availRun, count := exactly 1, isl := fun _ _ => [76],
    denied := fun s r => r.params.length == 1 && decide (fld (r.p 0) 0 11 < 64) && s.power.dev != .maint,
    bad := fun _ r =>
      let w := r.p 0
      firstBad [(decide (fld w 0 11 < 1536) && fld w 11 5 == 0 && decide (1 ≤ fld w 16 11) &&
        decide (fld w 0 11 + fld w 16 11 ≤ 1536) && clear w 27, 0)],
    busy := fun s _ => require s.mem.run.isNone { status := .busy, pay := [s.freeWord] },
    act := change fun s r => s.mapMem fun m => { m with
      run := some { first := fld (r.p 0) 0 11, count := fld (r.p 0) 16 11, done := 0, repaired := 0, failed := 0 } } }

/-- R361: the fuse word of a repair of SPM. -/
def spmRepair (spare row : Nat) : Word := pk [(row, 0), (spare % 4, 22), (spare / 4, 24), (9, 28)]

/-- R352: the failing rows of a slice are mapped to spare rows while any is left. -/
def State.mapRows (s : State) (rows : List Nat) : State :=
  rows.foldl (fun t row =>
    if t.mem.spares = 0 then t
    else
      let u := t.mapMem fun m => { m with spares := m.spares - 1, repaired := sat32 (m.repaired + 1) }
      { u.withRepairs [spmRepair (64 - t.mem.spares) row] with repairs := u.repairs ++ [spmRepair (64 - t.mem.spares) row] }) s

/-- R350 to R352: one slice is tested: borrowed for `busy` ns, its failing rows repaired, or the slice failed. -/
def State.testSlice (s : State) (slice : Nat) (bad : List Nat) (busy : Nat) : State :=
  let rows := (bad.filter fun r => decide (r < 128)).eraseDups.map fun r => 128 * slice + r
  let a := (s.mapRows rows).mapMem fun m => { m with borrow := some (slice, s.now + min busy 12000), retryHold := false }
  let fixed := s.mem.spares - a.mem.spares
  let b := a.raiseIf (fixed != 0) .mem 0 0x11 (pk [(slice, 0), (a.mem.spares, 16)])
  if fixed < rows.length then
    (b.mapMem fun m => { m with failed := if m.failed.contains slice then m.failed else m.failed ++ [slice] }).raise .mem 0 0x12
      (w32 slice)
  else b

/-- R25, R350, R351, R377: BST can take a slice: it and SPM work, and the pause after the slice before has passed. -/
def State.bstFree (s : State) : Bool :=
  s.anyRun && !s.power.mcSilent && s.islandOn 76 && !s.islandFailed 76 && !s.islandFailed 74 && s.borrowed.isNone &&
    s.mem.borrow.all fun b => decide (b.2 + s.pauseNs 100 400 ≤ s.now)

/-- R351: a pinned slice: MC suspends commands and event handling until the write-back has ended, so the row lasts until then
(entry 90). -/
def State.testPinned (s : State) (slice : Nat) (bad : List Nat) (busy : Nat) : State :=
  if slice < 64 then (s.advance (min busy 12000)).testSlice slice bad 0 else s.testSlice slice bad busy

/-- R350, R351, MEM_SLICE_TEST: the next slice of an on-demand run, or else, one every INTERVAL, of the background pass. -/
def State.sliceTest (s : State) (bad : List Nat) (busy : Nat) : State :=
  if !s.bstFree then s
  else match s.mem.run with
  | some x =>
    let slice := x.first + x.done
    if x.count ≤ x.done ∨ (slice < 64 ∧ s.power.dev ≠ .maint) then s
    else
      let t := s.testPinned slice bad busy
      let hurt := t.mem.failed.length - s.mem.failed.length
      t.mapMem fun m => { m with run := some { x with
        done := x.done + 1, repaired := x.repaired + b2n (t.mem.spares != s.mem.spares && hurt == 0), failed := x.failed + hurt } }
  | none =>
    if s.mem.interval = 0 ∨ !s.isUp .mem 0 ∨ s.mem.sliceAt.any fun t => decide (s.now < t + 1000000 * s.mem.interval) then s
    else
      let t := s.testSlice s.mem.next bad busy
      t.mapMem fun m =>
        if s.mem.next = 1535 then { m with next := 64, passes := sat32 (m.passes + 1), sliceAt := some s.now }
        else { m with next := s.mem.next + 1, sliceAt := some s.now }

/-- R365, MEM_TEST_DONE. -/
def State.testRunEnds (s : State) : State :=
  match s.mem.run with
  | some x =>
    if x.done < x.count || s.borrowed.isSome then s
    else (s.mapMem fun m => { m with run := none }).raise .mem 0 0x13 (pk [(x.repaired, 0), (x.failed, 16)])
  | none => s

/-- R366: the class words of STATUS_GET. -/
def State.statusMem (s : State) : List Word := [s.testBlock.getD 0 0, s.testBlock.getD 3 0]

/-! ## Rows -/

/-- R348, MEM_WIN_READ. -/
def execMemWinRead (dt : Nat) (c : Cmd) (meets : List Meet) (s : State) := done (hostRow dt (specMemWinRead meets) .mem c s)
/-- R348, MEM_WIN_WRITE. -/
def execMemWinWrite (dt : Nat) (c : Cmd) (meets : List Meet) (s : State) := done (hostRow dt (specMemWinWrite meets) .mem c s)
/-- R366, MEM_TEST_STATUS_GET. -/
def execMemTestStatusGet (dt : Nat) (c : Cmd) (s : State) := done (hostRow dt specMemTestStatusGet .mem c s)
/-- R366, MEM_TEST_SET. -/
def execMemTestSet (dt : Nat) (c : Cmd) (s : State) := done (hostRow dt specMemTestSet .mem c s)
/-- R365, MEM_TEST_RUN. -/
def execMemTestRun (dt : Nat) (c : Cmd) (s : State) := done (hostRow dt specMemTestRun .mem c s)
/-- R365, MEM_TEST_DONE. -/
def execMemTestDone (dt : Nat) (s : State) := done (eventRow dt (·.testRunEnds) s)
/-- R350, MEM_SLICE_TEST. -/
def execMemSliceTest (dt : Nat) (badRows : List Nat) (busyNs : Nat) (s : State) := done (eventRow dt (·.sliceTest badRows busyNs) s)
/-- R349, COLLISION_INDICATION_END. -/
def execCollisionIndicationEnd (dt : Nat) (s : State) := done (eventRow dt (·.mapMem fun m => { m with collision := false }) s)

end Sys2Proof.Machine
end

