-- ==== Sys2Proof/Machine/Thm.lean ====
section
/-! DEFINITION. Class THM (R372 to R393): power domains, temperature sensors and throttling, shutdown, supplies, AVSBus. -/

namespace Sys2Proof.Machine

def State.mapThm (s : State) (f : Thermal → Thermal) : State := { s with thm := f s.thm }

/-! ## Domains (R372, R373) -/

/-- R393: DOMAIN_CHANGED. -/
def State.domainEvent (s : State) (d : Nat) (on : Bool) (cause : Nat) : State :=
  s.raise .thm 0x60 0x1B (pk [(d, 0), (b2n on, 7), (cause, 8)])

/-- What a line receiver that loses its power leaves of its lane's framing. -/
def State.lfdOff (s : State) (l : Fin 8) : State :=
  let t := s.setLfd l fun _ => lfdReset
  match s.groupOf l with
  | some g => if s.grp[lineLane g].deskewed then t.groupUnlock (lineLane g) else t
  | none => t

/-- The data path of a group without power: no clock, no deskew, no transmit side. -/
def Grp.dark (p : Grp) : Grp :=
  { p with running := false, slot := 0, txIdle := true, sent := [], remote := 0xE, deskewed := false, locked := false,
           hasFreq := false, holdover := false, outRange := false, idleRx := false, ingress := [] }

/-- R373: what a domain that is switched off takes with it. -/
def State.lost (s : State) (d : Nat) : State :=
  if d < 16 then (s.coldLane (lineLane d)).lfdOff (lineLane d)
  else if d < 32 then s.ltxSettle
  else if d < 48 then s.setHrx (hostLane (d - 32)) fun h => { h.unlock with sd := false }
  else if d < 64 then s.setHtx (hostLane (d - 48)) fun h => { h with recovered := false }
  else if d < 68 then
    State.hostPll { s with
      grp := s.grp.map Grp.dark, lfd := .replicate 8 lfdReset, txOut := .replicate 8 [], hostOut := .replicate 8 []
      egress := .replicate 8 [] }
  else if d < 70 then { s with srx := .replicate 8 [] }
  else if d = 70 then { s with lay := .replicate 8 [] }
  else s

/-- R274, R373, R393: a domain is switched off; its lanes take no further part in the round in progress. -/
def State.switchOff (s : State) (d cause : Nat) : State :=
  if !s.dom.powered.getLsbD d then s
  else
    let o := s.roundOpens
    let t : State := { o with
      dom := { s.dom with powered := s.dom.powered &&& ~~~(1#80 <<< d) }
      cal := { o.cal with lanes := vmapIx (fun k c => if (calIslands k).contains d then { c with part := false } else c) o.cal.lanes } }
    let u := if d = 73 then t.roundsStop else t
    (((u.capturesGone [d] 3).lost d).traceCheck).domainEvent d false cause

/-- R76: the registers of an island that has been powered or re-initialised: SCRATCH and BLOCKS start again. -/
def State.islandStarts (s : State) (d : Nat) : State :=
  { s with
    port := { s.port with scratch := if h : d < 78 then s.port.scratch.set d 0 h else s.port.scratch }
    dom := { s.dom with since := if h : d < 78 then s.dom.since.set d s.now h else s.dom.since }
    lrx := if 8 ≤ d ∧ d < 16 then upd s.lrx (Fin.ofNat 8 d) fun r => { r with blocks := 0 } else s.lrx }

/-- R143, R120: what begins to send again once its domain is powered. -/
def State.sendersStart (s : State) (d : Nat) : State :=
  let n := hostLane (d - 48)
  if 48 ≤ d ∧ d < 64 ∧ s.isUp .htx n then s.setHtx n fun h => { h with recovered := s.groupFreq n } else s.ltxSettle

/-- R274, R281, R373: a domain is powered and usable: forced trims and recorded settings are in force again. -/
def State.switchOn (s : State) (d cause : Nat) : State :=
  if s.dom.powered.getLsbD d then s
  else
    let t : State := { s.roundOpens with dom := { s.dom with powered := s.dom.powered ||| (1#80 <<< d) } }.islandStarts d
    let lanes : List (Fin 48) := (fins 48).filter fun k => (calIslands k).contains d && (calIslands k).all t.islandOn
    let u := ((lanes.foldl State.applyForced t).traceCheck).sendersStart d
    (if d = 73 then u.roundsResume else u).domainEvent d true cause

/-- R250: a group in SEALED-HOLD carries its port. -/
def State.layNeeded (s : State) : Bool :=
  s.power.dev != .sleep && (fins 8).any fun g => s.grp[g].mode == 3 && s.isUp .grp g && !s.seals[g].stream

/-- R372: the device needs the domain; LAY by R250. -/
def State.needs (s : State) (d : Nat) : Bool := if d = 70 then s.layNeeded else s.needed d

/-- R373, DOMAIN_POWERED. -/
def State.domainPowers (s : State) (d : Nat) : State :=
  if s.anyRun && s.needs d && (s.dom.hostOff.getLsbD d || d == 70) then s.switchOn d 1 else s

/-- R373, DOMAIN_NEED_END_OFF. -/
def State.domainRests (s : State) (d : Nat) : State :=
  if s.anyRun && !s.needs d && (s.dom.hostOff.getLsbD d || d == 70) && !(decide (d < 77) && s.underTest d) then s.switchOff d 1
  else s

/-! ## Shutdown (R382 to R384) -/

/-- R80, R89: every volatile thing as after a reset. Power, the fuses, what AON holds, VDD_FUSE and JTAG stay. -/
def State.cleared (s : State) : State :=
  { State.reset with
    pending := s.pending, now := s.now, free := s.free, power := s.power
    fuse := { s.fuse with rollbackStop := false, rollbackWait := false }, jtag := s.jtag
    thm := { thmReset with fuseMv := s.thm.fuseMv, stage := if s.power.blind then 2 else 0 } }

/-- R64, R81, R384: the shutdown latch is set, in any state but OFF: every domain goes off, every key with it; ADMIN and what
STATUS_GET to DEV answers are kept, and the packets and replies in the queue slots. -/
def State.shutsDown (s : State) : State :=
  if !s.power.powered || s.power.latch || s.power.dev == .off then s
  else
    { s.cleared with
      units := s.units
      power := { s.power with latch := true, dev := .shutdown, inReset := false, pinLow := false, railsLow := 0, mcSilent := false }
      boot := s.boot, fw := { s.fw with declared := 0, stage := [] }, setup := s.setup
      dom := { powered := 0, hostOff := 0, failed := 0, since := .replicate 78 s.now }
      port := { portReset with replies := s.port.replies, waiting := s.port.waiting, miso := s.port.miso }
      obs := { obsReset with recs := obsReset.recs.set 0 { recReset .failed 0 with changed := s.now } } }

/-! ## Sensors (R374 to R382) -/

/-- R374: the neighbours of a sensor. -/
def sensorNear : Nat → List Nat
  | 0 => [1, 16] | 1 => [0, 2, 16] | 2 => [1, 3, 17] | 3 => [2, 4, 17] | 4 => [3, 5, 18] | 5 => [4, 6, 18]
  | 6 => [5, 7, 19] | 7 => [6, 19] | 8 => [9, 20] | 9 => [8, 10, 20] | 10 => [9, 11, 22] | 11 => [10, 22]
  | 12 => [13, 23] | 13 => [12, 14, 23] | 14 => [13, 15, 21] | 15 => [14, 21] | 16 => [0, 1, 17, 20]
  | 17 => [2, 3, 16, 18] | 18 => [4, 5, 17, 19] | 19 => [6, 7, 18, 21] | 20 => [8, 9, 16, 21] | 21 => [14, 15, 19, 20]
  | 22 => [10, 11, 23] | 23 => [12, 13, 22] | _ => []

/-- The readings of the valid sensors among some, `valid` by FAIL_CAUSE. -/
def readingsOf (v : Vector Sensor 24) (is : List Nat) : List Int :=
  (is.filter fun i => v[Fin.ofNat 24 i].cause == 0).map fun i => s16 v[Fin.ofNat 24 i].reading

def maxOf : List Int → Option Int
  | [] => none
  | a :: r => some (r.foldl (fun m b => if m < b then b else m) a)

/-- R379: the failure condition of a sensor, 0 if none holds; `v` has the new readings and the validity before the round. -/
def failCause (v : Vector Sensor 24) (i : Fin 24) : Nat :=
  let q := s16 v[i].reading
  let near := readingsOf v (sensorNear i)
  if q < -640 ∨ 2400 < q then 1
  else if 16 ≤ v[i].same then 2
  else if near ≠ [] ∧ near.all (fun x => decide (192 < (q - x).natAbs)) then 3
  else 0

/-- R375: the new readings. -/
def takeReadings (s : State) (m : List HkReading) : Vector Sensor 24 :=
  vmapIx (fun i t => match m[i]? with
    | some x => { t with reading := x.value, same := if x.same then t.same + 1 else 0, readAt := s.mon.hk[Fin.ofNat 40 i].at_ }
    | none => t) s.thm.sensors

/-- R379: failures are declared, and good rounds counted. -/
def declare (v : Vector Sensor 24) : Vector Sensor 24 :=
  vmapIx (fun i t =>
    let c := failCause v (Fin.ofNat 24 i)
    if t.cause = 0 then (if c = 0 then t else { t with cause := c, good := 0 })
    else { t with good := if c = 0 then t.good + 1 else 0 }) v

/-- R380, R381: the substitutes. -/
def substitute (v : Vector Sensor 24) : Vector Sensor 24 :=
  vmapIx (fun i t =>
    if t.cause = 0 then { t with alone := false }
    else match maxOf (readingsOf v (sensorNear i)), maxOf (readingsOf v (List.range 24)) with
      | some q, _ => { t with subst := some (BitVec.ofInt 16 (q + 128)), alone := false }
      | none, some q => { t with subst := some (BitVec.ofInt 16 (q + 128)), alone := true }
      | none, none => { t with subst := some (t.subst.getD 0x760), alone := true }) v

/-- R375, R382, R391: arming, rounds at 125 °C, the warning, MAX. -/
def Sensor.levels (t : Sensor) : Sensor :=
  let q := s16 t.reading
  let e := s16 t.effective
  let armed := t.armed || (t.cause == 0 && decide (q < 1840))
  { t with
    armed := armed, hot := if t.cause = 0 ∧ armed ∧ 2000 ≤ q then t.hot + 1 else 0
    warn := if 1680 ≤ e then true else if e < 1632 then false else t.warn
    max := if s16 t.max < e then t.effective else t.max }

/-- R393: the events of a sensor in a round. -/
def State.sensorEvents (s : State) (old : Vector Sensor 24) (i : Fin 24) : State :=
  let o := old[i]
  let t := s.thm.sensors[i]
  let a := s.count .thm i 0
  let b := if o.cause = 0 ∧ t.cause ≠ 0 then
      (a.count .thm i 1).raise .thm i 0x13 (pk [(t.cause, 0), (t.effective.toNat, 16)])
    else a
  let d := b.raiseIf (t.alone && !o.alone) .thm 0x60 0x15 (w32 i)
  (d.raiseIf (t.warn && !o.warn) .thm i 0x10 (w32 t.effective.toNat)).raiseIf (!t.warn && o.warn) .thm i 0x11
    (w32 t.effective.toNat)

/-- R391: the sensor with the highest effective value, the lowest of several. -/
def State.hotSensor (s : State) : Fin 24 :=
  (fins 24).foldl (fun (m : Fin 24) i =>
    if s16 s.thm.sensors[m].effective < s16 s.thm.sensors[i].effective then i else m) 0

def State.hotValue (s : State) : BitVec 16 := s.thm.sensors[s.hotSensor].effective

/-- R180, R190, R376: a change of stage. A lane whose adaptation is frozen when stage 2 begins is not moved to lean. -/
def State.setStage (s : State) (n : Nat) : State :=
  if s.thm.stage = n then s
  else
    let a := (s.mapThm fun t => { t with stage := n, exit := 0, changed := s.now }).raise .thm 0x60 0x12
      (pk [(n, 0), (s.thm.stage, 2), (s.hotSensor, 8), (s.hotValue.toNat, 16)])
    (fins 8).foldl (fun (t : State) (l : Fin 8) =>
      let r := t.lrx[l]
      if n = 2 ∧ r.frozen ∧ t.isUp .lrx l then
        (t.setLrx l fun r => { r with skipped := true }).raise .lrx l 0x1F (w32 r.lmi.value.toNat)
      else t.setLrx l fun r => { r with skipped := r.skipped && n == 2 }) a

/-- R376: the stage at the end of a round; `declared`: a failure was declared in it. Under THERMAL_BLIND no round counts
(R381). -/
def State.stageRound (s : State) (declared : Bool) : State :=
  let top := s16 s.hotValue
  let want := if s.power.blind ∨ 1888 ≤ top then 2 else if 1792 ≤ top then 1 else 0
  if s.thm.stage < want then s.setStage want
  else s.mapThm fun t => { t with
    exit := if declared || t.stage == 0 || s.power.blind then 0
      else if top < (if t.stage = 2 then 1824 else 1728) then t.exit + 1 else 0 }

/-- R386: a reading of a sense point in a round. -/
def Rail.take (r : Rail) (v at_ : Nat) (low : Bool) : Rail :=
  { r with reading := v, readAt := at_, min := if low ∧ v < r.min then v else r.min }

/-- R385, R391: the rails in a round that read some channels. -/
def State.railReadings (s : State) (read : List Nat) (m : List HkReading) : State :=
  let f := fun (i : Nat) (r : Rail) => match m[24 + i]? with
    | some x =>
      if read.contains (24 + i) then r.take x.value.toNat s.mon.hk[Fin.ofNat 40 (24 + i)].at_ s.supplyLow else r
    | none => r
  s.mapThm fun t => { t with rails := vmapIx f t.rails }

/-- R300, R375 to R382, HK_ROUND. -/
def State.round (s : State) (m : List HkReading) : State :=
  if !s.power.powered || s.power.inReset || s.power.latch then s
  else
    let read := s.hkOrder
    let a := s.hkStore m
    let v := (substitute (declare (takeReadings a m))).map Sensor.levels
    let b := a.mapThm fun t => { t with sensors := v }
    let d := (fins 24).foldl (fun t i => t.sensorEvents s.thm.sensors i) b
    let e : State := { d with power := { d.power with blind := d.power.blind || v.toList.any (·.alone) } }
    let f := e.stageRound ((fins 24).any fun i => s.thm.sensors[i].cause == 0 && v[i].cause != 0)
    let g := f.railReadings read m
    match m[36]? with
    | some x => if read.contains 36 then g.calrefRead x.value.toNat else g
    | none => g

/-- R376, THROTTLE_STEP_DOWN. -/
def State.stageFalls (s : State) : State :=
  if s.thm.exit < 16 ∨ s.power.blind then s else s.setStage (s.thm.stage - 1)

/-- R379, SENSOR_RESTORED. -/
def State.sensorReturns (s : State) (i : Fin 24) : State :=
  let t := s.thm.sensors[i]
  if t.cause = 0 ∨ t.good < 256 then s
  else (s.mapThm fun x => { x with sensors := upd x.sensors i fun t => { t with cause := 0, good := 0, alone := false } }).raise
    .thm i 0x14 (w32 t.reading.toNat)

/-- R382, DIGITAL_SHUTDOWN. -/
def State.digitalHot (s : State) (i : Fin 24) : State := if s.thm.sensors[i].hot < 2 then s else s.shutsDown

/-! ## Supplies (R385 to R387) -/

/-- R388: the setpoint behind the levels of R385, in mV: the lower of the old and the new target while a change runs. -/
def State.levelMv (s : State) : Nat :=
  if s.thm.avs.changing ∧ s.thm.avs.old < s.avsMv then s.thm.avs.old else s.avsMv

/-- R385: a reading (0.1 mV) is below the warning level of its rail. -/
def State.belowWarn (s : State) (rail reading : Nat) : Bool :=
  if rail < 4 then decide (10 * reading < 94 * s.levelMv)
  else if rail < 8 then decide (reading < 8460)
  else if rail < 10 then decide (reading < 11280)
  else rail == 10 && decide (reading < 16200)

/-- R387: what a warning voids. -/
def State.supplyVoids (s : State) : State :=
  let t := (fins 8).foldl State.voidRound (s.voidAll 1)
  { t with bist := t.bist.map fun b => if b.phase = .running ∧ !b.abort then { b with supply := true } else b }

/-- R386, SUPPLY_WARNING_START: a sense point falls below its warning level. -/
def State.supplyFalls (s : State) (rail : Fin 12) (reading : Nat) : State :=
  if !s.power.powered || s.power.inReset || s.power.latch || !s.belowWarn rail reading then s
  else
    let fresh := !s.supplyHeld
    let down := !s.thm.rails[rail].low
    let a := if s.supplyLow then s else s.supplyVoids
    let b := if down then a.count .thm (0x40 + rail.val) 0 else a
    b.mapThm fun t => { t with
      supply := match t.supply with
        | .none => .episode s.now false rail
        | .episode st w f => .episode st w f
        | .recovering st _ w f => .episode st w f
      rails := vmapIx (fun i r =>
        let m := if fresh then r.reading else r.min
        if i = rail.val then
          { r with low := true, dip := if down then s.now else r.dip, min := if down ∧ fresh ∨ reading < m then reading else m }
        else { r with min := m }) t.rails }

/-- R386, R393: SUPPLY_WARN. -/
def State.supplyWarned (s : State) (first : Nat) (ongoing : Bool) : State :=
  s.raise .thm 0x60 0x16 (pk [(first, 0), (b2n ongoing, 4), (s.thm.rails[Fin.ofNat 12 first].min % 65536, 16)])

/-- R386, SUPPLY_WARN: 1 ms into the episode. -/
def State.supplyOngoing (s : State) : State :=
  match s.thm.supply with
  | .episode st false f =>
    if s.now < st + 1000000 then s else (s.supplyWarned f true).mapThm fun t => { t with supply := .episode st true f }
  | _ => s

/-- R386, R391, SUPPLY_EPISODE_END. -/
def State.supplyEnds (s : State) : State :=
  match s.thm.supply with
  | .episode st w f =>
    let lows : List (Fin 12) := (fins 12).filter fun r => s.thm.rails[r].low
    let a := lows.foldl (fun t r => t.count .thm (0x40 + r.val) 1 ((s.now - s.thm.rails[r].dip) / 1000)) s
    let b := if w then a else a.supplyWarned f false
    b.mapThm fun t => { t with
      supply := .recovering st s.now true f
      rails := t.rails.map fun r => { r with low := false, lastMin := r.min, lastUs := (s.now - st) / 1000 } }
  | .none | .recovering .. => s

/-- R277, R386, SUPPLY_RECOVERED: the supplies have recovered, and calibration rounds resume. -/
def State.supplyReturns (s : State) : State :=
  match s.thm.supply with
  | .recovering st e _ _ =>
    if s.now < e + 1000000 then s
    else ((s.mapThm fun t => { t with supply := .none }).raise .thm 0x60 0x17 (w32 (sat32 ((e - st) / 1000)))).roundsResume
  | .none | .episode .. => s

/-- R393, FUSE_SUPPLY. -/
def State.fuseRail (s : State) (mv : Nat) : State :=
  let t := s.mapThm fun t => { t with fuseMv := mv }
  t.raiseIf (t.fuseOk != s.fuseOk) .thm 0x4B 0x18 (w32 (b2n t.fuseOk))

/-! ## AVSBus (R388) -/

/-- R388: 100 ms have passed since the last evaluation. -/
def State.avsDue (s : State) : Bool :=
  match s.thm.avs.evalAt with
  | some t => decide (t + 100000000 ≤ s.now)
  | none => true

/-- R388: one evaluation: the target moves by at most 5 mV towards the computed or forced voltage; a transaction that fails
holds it. -/
def State.avsStep (s : State) (fails : Bool) (status : Byte) : State :=
  if !s.anyRun || !s.avsDue then s
  else if fails && !s.thm.avs.host then
    (s.mapThm fun t => { t with avs := { t.avs with fault := true, evalAt := some s.now } }).raise .thm 0x60 0x1A
      (w32 status.toNat)
  else
    let a := s.thm.avs
    let aim := if a.forced = 0 then Config.avsTarget s.hotValue else a.forced
    let goal := if aim < 620 then 620 else if 780 < aim then 780 else aim
    let new := if a.target + 5 < goal then a.target + 5 else if goal + 5 < a.target then a.target - 5 else goal
    let t := s.mapThm fun t => { t with avs := { t.avs with
      evalAt := some s.now, fault := t.avs.fault && t.avs.host, target := new, old := if new = a.target then a.old else a.target
      changing := a.changing || new != a.target, since := if new = a.target then a.since else s.now } }
    t.raiseIf (a.host && new != a.target) .thm 0x60 0x19 (w32 new)

/-- R388, AVS_HOST_CHANGE_COMPLETE. -/
def State.avsHostDone (s : State) : State :=
  let a := s.thm.avs
  if a.host && a.changing && decide (a.since + 100000000 ≤ s.now) then
    s.mapThm fun t => { t with avs := { t.avs with changing := false } }
  else s

/-- R388, AVS_READBACK. -/
def State.avsRead (s : State) (mv : Nat) : State :=
  let a := s.thm.avs
  if a.host || !s.anyRun then s
  else s.mapThm fun t => { t with avs := { t.avs with
    fault := false, readback := mv, changing := a.changing && !(decide (mv ≤ a.target + 5) && decide (a.target ≤ mv + 5)) } }

/-! ## Commands (R390, R391) -/

def isController (_ : Cls) (i : Nat) : Bool := i == 0x60

/-- R391: µs since a reading ended; open before the first one (entry 9). -/
def State.ageWord (s : State) (i : Nat) (read : Bool) (at_ : Nat) : Word :=
  if read then w32 (sat32 ((s.now - at_) / 1000)) else Config.freeAt s.free i

/-- R391: SETPOINT, in 0.1 mV. -/
def State.setpoint (s : State) (rail : Nat) : Nat :=
  if rail < 4 then 10 * s.avsMv else if rail < 8 then 9000 else if rail < 10 then 12000 else 0

/-- R386, R391: in recovery. -/
def State.recovers (s : State) : Bool := s.supplyHeld && !s.supplyLow

/-- R391: the reading block of a sensor or a rail. -/
def State.readingBlock (s : State) (i : Nat) : List Word :=
  if 0x40 ≤ i then
    let k := i - 0x40
    let r := s.thm.rails[Fin.ofNat 12 k]
    [pk [(r.reading % 65536, 0), (s.setpoint k, 16)],
     pk [(b2n r.low, 0), (b2n s.recovers, 1), (b2n (k == 11 && s.fuseOk), 2), (r.lastMin % 65536, 16)], w32 r.lastUs,
     s.ageWord i s.mon.hk[Fin.ofNat 40 (24 + k)].valid r.readAt]
  else
    let t := s.thm.sensors[Fin.ofNat 24 i]
    [pk [(t.reading.toNat, 0), (t.effective.toNat, 16)],
     pk [(b2n (t.cause == 0), 0), (t.cause, 1), (b2n t.armed, 3), (b2n t.warn, 4)], w32 t.max.toNat,
     s.ageWord i s.mon.hk[Fin.ofNat 40 i].valid t.readAt]

/-- R391, THM_READ. -/
def specThmRead : CmdSpec :=
  { op := 0x10, accepts := fun _ i => i != 0x60, avail := availRun, count := exactly 0,
    act := answer fun s r => s.readingBlock r.inst }

/-- R391: the stage block. -/
def State.stageBlock (s : State) : List Word :=
  [pk [(s.thm.stage, 0), (b2n s.power.blind, 2), (b2n s.alertLow, 3), (s.hotSensor, 8), (s.hotValue.toNat, 16)],
   pk ((List.range 24).map fun i => (b2n (s.thm.sensors[Fin.ofNat 24 i].cause != 0), i)), w32 (s.thm.exit % 32)] ++
    lohi s.thm.changed

/-- R391, THM_STAGE_GET. -/
def specThmStageGet : CmdSpec :=
  { op := 0x11, accepts := isController, avail := availRun, count := exactly 0, act := answer fun s _ => s.stageBlock }

/-- R372: the unit that keeps a domain from being set OFF. -/
def State.offBlocker (s : State) (d : Nat) : Option (Cls × Nat) :=
  let up := fun (l : List (Cls × Nat)) => l.find? fun u => s.isUp u.1 u.2
  let mons := (List.range 24).map fun i => (Cls.mon, i)
  if d < 16 then up [(.lrx, d % 8), (.tst, 16 + d % 8)]
  else if d < 32 then up [(.ltx, d % 8)]
  else if d < 48 then up [(.hrx, d - 32), (.tst, d - 32)]
  else if d < 64 then up [(.htx, d - 48), (.tst, d - 48)]
  else if d < 68 then up ((List.range 8).map fun g => (.grp, g))
  else if d < 70 then ((fins 8).find? fun (g : Fin 8) => s.grp[g].mode == 3 && s.isUp .grp g).map fun g => (.grp, g.val)
  else if d = 71 then
    if s.inSession then some (.dev, 0) else ((fins 8).find? fun (g : Fin 8) => s.grp[g].mode == 3).map fun g => (.grp, g.val)
  else if d = 73 then up (((List.range 8).map fun l => (Cls.lrx, l)) ++ (.cal, 0) :: mons)
  else if d = 75 then up mons
  else if d = 76 then
    if s.mem.interval ≠ 0 then some (.mem, 0)
    else ((fins 78).find? fun i => s.bist[i].phase == .queued || s.bist[i].phase == .running).map fun i => (.bist, i.val)
  else none

/-- R372: the domains that a mask names. -/
def maskDomains (r : Req) : List Nat := (List.range 80).filter fun d => bit (r.p (d / 32)) (d % 32)

/-- R372: domains that the host never sets. -/
def neverSet (d : Nat) : Bool := d == 70 || d == 72 || d == 74 || decide (77 ≤ d)

/-- R411: of several units that cause a refusal, the lowest class and instance. -/
def lowestUnit (l : List (Cls × Nat)) : Option (Cls × Nat) :=
  match l with
  | [] => none
  | a :: r => some (r.foldl (fun m u =>
      if clsCode u.1 < clsCode m.1 ∨ (clsCode u.1 = clsCode m.1 ∧ u.2 < m.2) then u else m) a)

/-- R93: the domains that SLEEP keeps off. -/
def State.sleepHolds (s : State) (d : Nat) : Bool := s.power.dev == .sleep && decide (d < 71)

/-- R372, R373: domains are set OFF or returned to device control. -/
def State.setDomains (s : State) (ds : List Nat) (on : Bool) : State :=
  let mask := ds.foldl (fun m d => m ||| (1#80 <<< d)) 0
  if on then
    let t : State := { s with dom := { s.dom with hostOff := s.dom.hostOff &&& ~~~mask } }
    ds.foldl (fun t d => if t.sleepHolds d then t else t.switchOn d 0) t
  else
    let t : State := { s with dom := { s.dom with hostOff := s.dom.hostOff ||| mask } }
    ds.foldl (fun t d => if t.needs d then t else t.switchOff d 0) t

/-- R372, THM_DOMAIN_SET. -/
def specThmDomainSet : CmdSpec :=
  { op := 0x12, accepts := isController, avail := availRun, count := exactly 4,
    bad := fun _ r => firstBad [(clear (r.p 2) 16 && !(maskDomains r).any neverSet, 2), (clear (r.p 3) 1, 3)],
    busy := fun s r =>
      require (!(maskDomains r).any fun d => decide (d < 77) && s.underTest d) { status := .busySelftest, pay := [s.freeWord] },
    cond := fun s r =>
      if bit (r.p 3) 0 then none
      else (lowestUnit ((maskDomains r).filterMap s.offBlocker)).map fun u => s.conflict u.1 u.2,
    act := change fun s r => s.setDomains (maskDomains r) (bit (r.p 3) 0) }

/-- R391: an 80-bit mask in three words. -/
def mask3 (b : BitVec 80) : List Word := [w32 b.toNat, w32 (b.toNat / 2 ^ 32), w32 (b.toNat / 2 ^ 64)]

/-- R372: NEEDED. -/
def State.neededMask (s : State) : BitVec 80 :=
  (List.range 80).foldl (fun m d => if s.needs d then m ||| (1#80 <<< d) else m) 0

/-- R391, THM_DOMAIN_GET. -/
def specThmDomainGet : CmdSpec :=
  { op := 0x13, accepts := isController, avail := availRun, count := exactly 0,
    act := answer fun s _ => mask3 s.dom.powered ++ mask3 s.dom.hostOff ++ mask3 s.neededMask }

/-- R388, THM_AVS_SET. -/
def specThmAvsSet : CmdSpec :=
  { op := 0x14, accepts := isController, avail := availRun, count := exactly 1, bad := oneBit,
    act := change fun s r => s.mapThm fun t => { t with avs := { t.avs with host := bit (r.p 0) 0 } } }

/-- R391, THM_AVS_GET. -/
def specThmAvsGet : CmdSpec :=
  { op := 0x15, accepts := isController, avail := availRun, count := exactly 0,
    act := answer fun s _ =>
      let a := s.thm.avs
      [pk [(b2n a.host, 0), (b2n a.fault, 1), (b2n a.changing, 2), (s.avsMv, 16)],
       pk [(if a.host then 0 else a.readback % 65536, 0), (a.forced, 16)]] }

/-- R390, THM_AVS_FORCE. -/
def specThmAvsForce : CmdSpec :=
  { op := 0x80, accepts := isController, avail := availRun, count := exactly 1,
    bad := fun _ r =>
      let v := fld (r.p 0) 0 16
      firstBad [(clear (r.p 0) 16 && (v == 0 || (decide (620 ≤ v) && decide (v ≤ 780))), 0)],
    act := change fun s r => s.mapThm fun t => { t with avs := { t.avs with forced := fld (r.p 0) 0 16 } } }

/-- R391: the class words of STATUS_GET. -/
def State.statusThm (s : State) (i : Nat) : List Word :=
  if i = 0x60 then s.stageBlock.take 2 else (s.readingBlock i).take 2

/-! ## Rows -/

/-- R391, THM_READ. -/
def execThmRead (dt : Nat) (c : Cmd) (s : State) := done (hostRow dt specThmRead .thm c s)
/-- R391, THM_STAGE_GET. -/
def execThmStageGet (dt : Nat) (c : Cmd) (s : State) := done (hostRow dt specThmStageGet .thm c s)
/-- R372, THM_DOMAIN_SET. -/
def execThmDomainSet (dt : Nat) (c : Cmd) (s : State) := done (hostRow dt specThmDomainSet .thm c s)
/-- R391, THM_DOMAIN_GET. -/
def execThmDomainGet (dt : Nat) (c : Cmd) (s : State) := done (hostRow dt specThmDomainGet .thm c s)
/-- R388, THM_AVS_SET. -/
def execThmAvsSet (dt : Nat) (c : Cmd) (s : State) := done (hostRow dt specThmAvsSet .thm c s)
/-- R391, THM_AVS_GET. -/
def execThmAvsGet (dt : Nat) (c : Cmd) (s : State) := done (hostRow dt specThmAvsGet .thm c s)
/-- R390, THM_AVS_FORCE. -/
def execThmAvsForce (dt : Nat) (c : Cmd) (s : State) := done (hostRow dt specThmAvsForce .thm c s)

/-- R300, HK_ROUND. -/
def execHkRound (dt : Nat) (readings : List HkReading) (s : State) := done (eventRow dt (·.round readings) s)
/-- R376, THROTTLE_STEP_DOWN. -/
def execThrottleStepDown (dt : Nat) (s : State) := done (eventRow dt (·.stageFalls) s)
/-- R379, SENSOR_RESTORED. -/
def execSensorRestored (dt : Nat) (i : Fin 24) (s : State) := done (eventRow dt (·.sensorReturns i) s)
/-- R382, DIGITAL_SHUTDOWN. -/
def execDigitalShutdown (dt : Nat) (i : Fin 24) (s : State) := done (eventRow dt (·.digitalHot i) s)
/-- R383, ANALOG_SHUTDOWN. -/
def execAnalogShutdown (dt : Nat) (s : State) := done (eventRow dt (·.shutsDown) s)
/-- R386, SUPPLY_WARNING_START. -/
def execSupplyWarningStart (dt : Nat) (rail : Fin 12) (reading : Nat) (s : State) :=
  done (eventRow dt (·.supplyFalls rail reading) s)
/-- R386, SUPPLY_WARN. -/
def execSupplyWarn (dt : Nat) (s : State) := done (eventRow dt (·.supplyOngoing) s)
/-- R386, SUPPLY_EPISODE_END. -/
def execSupplyEpisodeEnd (dt : Nat) (s : State) := done (eventRow dt (·.supplyEnds) s)
/-- R386, SUPPLY_RECOVERED. -/
def execSupplyRecovered (dt : Nat) (s : State) := done (eventRow dt (·.supplyReturns) s)
/-- R393, FUSE_SUPPLY. -/
def execFuseSupply (dt : Nat) (mv : Nat) (s : State) := done (eventRow dt (·.fuseRail mv) s)
/-- R388, AVS_EVALUATE. -/
def execAvsEvaluate (dt : Nat) (fails : Bool) (status : Byte) (s : State) := done (eventRow dt (·.avsStep fails status) s)
/-- R388, AVS_HOST_CHANGE_COMPLETE. -/
def execAvsHostChangeComplete (dt : Nat) (s : State) := done (eventRow dt (·.avsHostDone) s)
/-- R388, AVS_READBACK. -/
def execAvsReadback (dt : Nat) (mv : Nat) (s : State) := done (eventRow dt (·.avsRead mv) s)
/-- R373, DOMAIN_POWERED. -/
def execDomainPowered (dt : Nat) (d : Fin 80) (s : State) := done (eventRow dt (·.domainPowers d) s)
/-- R373, DOMAIN_NEED_END_OFF. -/
def execDomainNeedEndOff (dt : Nat) (d : Fin 80) (s : State) := done (eventRow dt (·.domainRests d) s)

end Sys2Proof.Machine
end

