-- ==== Sys2Proof/Machine/Islands.lean ====
section
/-! DEFINITION. Silent islands and mismatches: the heartbeats of R25, and STATE_MISMATCH (R66). -/

namespace Sys2Proof.Machine

/-- R25: a heartbeat that is answered changes nothing. -/
def State.heartbeat (s : State) : State := s

/-- R25: an island is declared FAILED: its output stops, tests that need it end, and ISLAND_SILENT is raised. -/
def State.islandFails (s : State) (i : Nat) : State :=
  let t : State := { s with dom := { s.dom with failed := s.dom.failed ||| (1#78 <<< i) } }
  t.ltxSettle.raise .dev 0 0x13 (w32 i)

/-- R25, ISLAND_SILENT: MC polls every powered island that is not under self-test; itself it cannot poll. -/
def State.islandSilent (s : State) (i : Fin 78) : State :=
  if !s.mcRuns || i.val == 72 || !s.islandOn i || s.underTest i || s.islandFailed i then s else s.islandFails i

/-- R25, MC_SILENT: AON finds MC silent. -/
def State.mcFallsSilent (s : State) : State :=
  if s.mcRuns then { s with power := { s.power with mcSilent := true } } else s

/-- R66: STATE_MISMATCH, once an episode has lasted more than 100 ms. -/
def State.mismatchRaised (s : State) (c : Cls) (i : Nat) : State :=
  let r := s.recOf c i
  let p := s.operOf c i
  match r.misSince with
  | some t0 =>
    if !s.mcRuns || r.misRaised || decide (s.now ≤ t0 + 100000000) || !(instances c).contains i || !s.mismatch c i p.1 then s
    else
      let t := s.raise c i 0x02 (pk [((s.admin c i).code, 0), (p.1.code, 4), (s.remoteOf c i, 8)])
      { t with obs := { t.obs with recs := upd t.obs.recs (uix c i) fun r => { r with misRaised := true } } }
  | none => s

/-- R25, ISLAND_HEARTBEAT. -/
def execIslandHeartbeat (dt : Nat) (s : State) := done (eventRow dt (·.heartbeat) s)
/-- R25, ISLAND_SILENT. -/
def execIslandSilent (dt : Nat) (i : Fin 78) (s : State) := done (eventRow dt (·.islandSilent i) s)
/-- R25, MC_SILENT. -/
def execMcSilent (dt : Nat) (s : State) := done (eventRow dt (·.mcFallsSilent) s)
/-- R66, STATE_MISMATCH. -/
def execStateMismatch (dt : Nat) (cls : Cls) (inst : BitVec 12) (s : State) :=
  done (eventRow dt (·.mismatchRaised cls inst.toNat) s)

end Sys2Proof.Machine
end

