-- ==== Sys2Proof/Machine/Secure.lean ====
section
/-! DEFINITION. The sealed-link commands of class DEV (R221 to R232, R254 to R258): staging, certificate, owner policy, host
secure session, zeroisation and tamper, attestation. -/

namespace Sys2Proof.Machine

/-- R372: a DEV command of 0x20 to 0x3F needs SC. -/
def scIsl (_ : State) (_ : Req) : List Nat := [71]

/-- R232: a secure-class command. -/
def isSecure (_ : State) (_ : Req) : Bool := true

def State.mapSec (s : State) (f : Secure → Secure) : State := { s with sec := f s.sec }

/-- R101: FW_VERSION, IMG_ROLLBACK and the rest of the header of the running image; zeros without one. -/
def State.header (s : State) : ImageHeader :=
  match s.fw.image with
  | some x => x.1
  | none => { version := 0, rollback := 0, advance := false, personalities := [] }

/-! ## Staging (R257) -/

/-- R257: SEC_STAGE. -/
def specSecStage : CmdSpec :=
  { op := 0x20, avail := availRun, isl := scIsl
    count := fun _ r => decide (2 ≤ r.params.length) && decide (r.params.length ≤ 1020)
    bad := fun s r =>
      let o := (r.p 0).toNat
      firstBad [(o == 0 || o == s.sec.staging.length, 0), (decide (o + (r.params.length - 1) ≤ 4096), 0)]
    act := fun s r =>
      let new := (if r.p 0 = 0 then [] else s.sec.staging) ++ r.params.drop 1
      { st := s.mapSec fun x => { x with staging := new }, pay := [w32 new.length] } }

/-! ## Certificate (R222, R223) -/

/-- R223: RESULT of CERT_LOAD. -/
def State.certResult (s : State) (c : List Word) : Nat :=
  if !chainFormed c || !chainClear c then 1
  else if !chainSigned c then 2
  else if certKey c ≠ Config.identityKey then 3
  else if !s.sec.identity then 4
  else 0

/-- R258: the identity hash, zeros if absent. -/
def State.identityWords (s : State) : List Word := if s.sec.identity then identityHash.toList else List.replicate 12 0

/-- R223, CERT_LOAD. -/
def specCertLoad : CmdSpec :=
  { op := 0x21, avail := availRun, count := exactly 0, isl := scIsl, cond := fun s _ => s.stepRefused 1
    act := fun s _ =>
      let c := s.sec.staging
      let n := s.certResult c
      { st := (s.beginStep 1).mapSec fun x => { x with staging := [], cert := if n = 0 then c else x.cert }
        pay := w32 n :: s.identityWords } }

/-! ## Owner policy (R227, R228) -/

/-- R95: a capital letter and a digit. -/
def nameOk (w : Word) : Bool :=
  decide (0x41 ≤ fld w 0 8) && decide (fld w 0 8 ≤ 0x5A) && decide (0x30 ≤ fld w 8 8) && decide (fld w 8 8 ≤ 0x39) && clear w 16

/-- R227, R228 (1): length, fields and RSVD fields. -/
def policyFormed (p : List Word) : Bool :=
  let w := fun k => p.getD k 0
  let n := fld (w 6) 0 6
  p.length == 1764 && w 0 == 0x4F50_4C59 && fld (w 1) 0 8 == 1 && clear (w 1) 10 && clear (w 3) 3 && fld (w 4) 3 5 == 0 &&
    fld (w 4) 8 8 != 0 && fld (w 4) 16 8 != 0 && decide (16 ≤ fld (w 4) 24 6) && decide (fld (w 4) 24 6 ≤ 32) && clear (w 4) 30 &&
    (w 5 == 0 || nameOk (w 5)) && decide (n ≤ 32) && clear (w 6) 6 && ((p.drop 7).take 9).all (· == 0) &&
    ((p.take 400).drop (16 + 12 * n)).all (· == 0)

/-- R227: OWNER_KEY. -/
def policyKey (p : List Word) : List Word := (p.drop 400).take 512

/-- R228: RESULT of POLICY_LOAD. -/
def State.policyResult (s : State) (p : List Word) : Nat :=
  let slot := fld (p.getD 1 0) 8 2
  if !policyFormed p then 1
  else if s.fuse.ownerSlot slot ≠ 1 ∨ hashOf (s.fuse.ownerHash slot) ≠ Config.sha384 (policyKey p) then 2
  else if !Config.hybridValid (policyKey p) (p.take 912) (p.drop 912) then 3
  else if p.getD 2 0 < s.sec.policy.getD 2 0 then 4
  else 0

/-- R228: an accepted policy. -/
def State.policyAccepted (s : State) (p : List Word) : State :=
  ((s.mapSec fun x => { x with policy := p }).policyApplies).raise .dev 0 0x24 (p.getD 2 0)

/-- R228, POLICY_LOAD. -/
def specPolicyLoad : CmdSpec :=
  { op := 0x22, avail := availRun, count := exactly 0, isl := scIsl, locked := fun s _ => !s.owned
    cond := fun s _ => s.stepRefused 2
    act := fun s _ =>
      let p := s.sec.staging
      let n := s.policyResult p
      let t := (s.beginStep 2).mapSec fun x => { x with staging := [] }
      let u := if n = 0 then t.policyAccepted p else t
      { st := u, pay := [w32 n, u.sec.policy.getD 2 0] } }

/-! ## Host secure session (R229 to R231) -/

/-- R229: the challenge stays valid for 10 s. -/
def State.challengeOver (s : State) (c : Challenge) : Bool := decide (c.since + 10000000000 ≤ s.now)

/-- R229, SESSION_BEGIN: nonce and ephemeral keys are random (entry 9). -/
def specSessionBegin : CmdSpec :=
  { op := 0x23, avail := availRun, count := exactly 0, isl := scIsl, locked := fun s _ => !s.owned
    cond := fun s r => require (s.sec.identity && !s.sec.zeroised) (s.conflict .dev r.inst)
    act := fun s _ =>
      let nonce := (List.range 12).map (Config.freeAt s.free)
      let secret := Config.freeAt s.free 12
      let pay := nonce ++ fit 392 (Config.kemPublic secret) ++ fit 24 (Config.ecdhShare secret)
      { st := { s with sec := { s.sec with challenge := some { payload := pay, secret := secret, since := s.now } } }
        pay := pay } }

/-- R229: RESULT of SESSION_OPEN. -/
def State.sessionResult (s : State) (q : List Word) : Nat :=
  match s.sec.challenge with
  | none => 3
  | some c =>
    if s.challengeOver c then 3
    else if q.length ≠ 1268 then 1
    else if s.sec.policy ≠ [] ∧ Config.hybridValid (policyKey s.sec.policy) (c.payload ++ q.take 416) (q.drop 416) then 0
    else 2

/-- R230: the session that a challenge and a request open. -/
def sessionOf (c : Challenge) (q : List Word) : Session :=
  let prk := Config.hkdfExtract (c.payload.take 12)
    (fit 8 (Config.kemDecap c.secret (q.take 392)) ++ fit 12 (Config.ecdhSecret c.secret ((q.drop 392).take 24)))
  { cmdKey := keyOf (Config.hkdfExpand prk "GZN-3208 cmd" [] 32), rplKey := keyOf (Config.hkdfExpand prk "GZN-3208 rpl" [] 32), last := 0 }

/-- R229, SESSION_OPEN: any session before it closes. -/
def specSessionOpen : CmdSpec :=
  { op := 0x24, avail := availRun, count := exactly 0, isl := scIsl, locked := fun s _ => !s.owned
    act := fun s _ =>
      let q := s.sec.staging
      let n := s.sessionResult q
      let t := s.mapSec fun x => { x with staging := [], challenge := none }
      let u := match s.sec.challenge with
        | some c =>
          if n = 0 then ((t.closeSession 5).mapSec fun x => { x with session := some (sessionOf c q) }).raise .dev 0 0x22 0 else t
        | none => t
      { st := u, pay := [w32 n] } }

/-- R229, CHALLENGE_EXPIRY. -/
def State.challengeExpires (s : State) : State :=
  match s.sec.challenge with
  | some c => if s.challengeOver c then s.mapSec fun x => { x with challenge := none } else s
  | none => s

/-- R231, SESSION_CLOSE: the session closes after the reply. -/
def specSessionClose : CmdSpec :=
  { op := 0x25, avail := availRun, count := exactly 0, isl := scIsl, secure := isSecure
    act := fun s _ => { st := s }, late := fun s _ => s.closeSession 1 }

/-! ## Zeroisation and tamper (R254, R255) -/

/-- R254: keys, identity, DRBG state and lay-by buffer are erased, every SEALED group fails closed. -/
def State.zeroise (s : State) : State :=
  let t := s.mapSec fun x => { x with identity := false, zeroised := true, challenge := none }
  { t.failCloseAll .zeroised with lay := .replicate 8 [], srx := .replicate 8 [] }

/-- R254, R262: the time TAMPER_N had been low when the actions completed, which is within 2 µs of the start of the low
level: that long a level is still low then (entry 67). -/
def tamperTime (width : Nat) : Nat := min width 2000

/-- R254, TAMPER_N_LOW: 200 ns or more always acts, less than 50 ns never; between them it is open (entry 9). -/
def State.tampered (s : State) (width : Nat) : State :=
  let acts := decide (200 ≤ width) || (decide (50 ≤ width) && Config.tamperActs s.free width)
  if !s.power.powered || s.power.dev == .off || !acts then s.useFree
  else (s.useFree.zeroise.closeSession 3).raise .dev 0 0x20 (w32 (tamperTime width))

/-- R255, ZEROISE: the session closes after the reply. -/
def specZeroise : CmdSpec :=
  { op := 0x29, avail := availRun, count := exactly 0, isl := scIsl, secure := isSecure
    act := change fun s _ => s.zeroise.raise .dev 0 0x21 0, late := fun s _ => s.closeSession 3 }

/-! ## Attestation (R256) -/

/-- R256: ISLANDS_HELD. -/
def State.heldIslands (s : State) : Nat := (s.bist.toList.filter fun b => b.held || b.overrode).length

/-- R256: words 0 to 59 of the report. -/
def State.reportBody (s : State) (nonce : List Word) (authed : Bool) : List Word :=
  [pk [(1, 0), (s.lifecycle, 8), (s.fuse.slots, 10), (b2n s.cal.traced, 18), (b2n authed, 19)]] ++ fit 12 nonce ++ identityHash.toList ++
    (match s.fw.image with
     | some x => x.2.toList
     | none => List.replicate 12 0) ++
    [pk [(Config.romVersion.toNat, 0)], s.header.version, s.setup.persInForce,
     pk [(s.fuse.counter, 0), (s.header.rollback, 16)],
     pk [(s.boot.repaired.toNat, 0), (s.boot.failed.toNat, 8), (s.heldIslands, 16)]] ++ lohi s.now ++
    fit 12 s.fuse.lowestOwner ++ List.replicate 4 0

/-- R377: non-urgent work of SC comes after the pause of the throttle stage. -/
def State.afterPause (s : State) : State := if s.throttled then s.advance (s.pauseNs 2 10) else s

/-- R256, R377, ATTEST_GET. -/
def specAttestGet : CmdSpec :=
  { op := 0x26, avail := availRun, count := exactly 12, isl := scIsl, locked := fun s _ => s.lifecycle == 3
    cond := fun s r => require s.sec.identity (s.conflict .dev r.inst)
    act := fun s r =>
      let u := s.afterPause
      let body := u.reportBody r.params r.authed
      { st := u, pay := body ++ fit 852 (Config.identitySign body) } }

/-! ## Rows -/

/-- R257, SEC_STAGE. -/
def execSecStage (dt : Nat) (c : Cmd) (s : State) := done (hostRow dt specSecStage .dev c s)
/-- R223, CERT_LOAD. -/
def execCertLoad (dt : Nat) (c : Cmd) (s : State) := done (hostRow dt specCertLoad .dev c s)
/-- R228, POLICY_LOAD. -/
def execPolicyLoad (dt : Nat) (c : Cmd) (s : State) := done (hostRow dt specPolicyLoad .dev c s)
/-- R229, SESSION_BEGIN. -/
def execSessionBegin (dt : Nat) (c : Cmd) (s : State) := done (hostRow dt specSessionBegin .dev c s)
/-- R229, CHALLENGE_EXPIRY. -/
def execChallengeExpiry (dt : Nat) (s : State) := done (eventRow dt (·.challengeExpires) s)
/-- R229, SESSION_OPEN. -/
def execSessionOpen (dt : Nat) (c : Cmd) (s : State) := done (hostRow dt specSessionOpen .dev c s)
/-- R231, SESSION_CLOSE. -/
def execSessionClose (dt : Nat) (c : Cmd) (s : State) := done (hostRow dt specSessionClose .dev c s)
/-- R256, ATTEST_GET. -/
def execAttestGet (dt : Nat) (c : Cmd) (s : State) := done (hostRow dt specAttestGet .dev c s)
/-- R255, ZEROISE. -/
def execZeroise (dt : Nat) (c : Cmd) (s : State) := done (hostRow dt specZeroise .dev c s)
/-- R254, TAMPER_N_LOW. -/
def execTamperNLow (dt : Nat) (widthNs : Nat) (s : State) := done (eventRow dt (·.tampered widthNs) s)

end Sys2Proof.Machine
end

