-- ==== Sys2Proof/Machine/Fuse.lean ====
section
/-! DEFINITION. The fuse array (R360 to R364, R369, R370): programming, the fuse commands, owner slots (R224 to R226), lifecycle
transitions and anti-rollback steps (R88). -/

namespace Sys2Proof.Machine

/-! ## Regions (R360) -/

/-- R360: where a region begins, and where it ends. -/
def regionLo (r : Nat) : Nat := ([0x000, 0x010, 0x020, 0x0C0, 0x100, 0x220, 0x510, 0x7F0, 0x800] : List Nat).getD r 0x800
def regionHi (r : Nat) : Nat := regionLo (r + 1)

/-- The words of a region. -/
def regionWords (r : Nat) : List Nat := (List.range (regionHi r - regionLo r)).map (regionLo r + ·)

/-- R362: the unused slots of a region. -/
def Fuse.unused (f : Fuse) (r : Nat) : List Nat := (regionWords r).filter fun a => (f.at a).blank

/-- R361: a tagged word. -/
def tagWord (kind index data : Nat) : Word := pk [(data, 0), (index, 24), (kind, 28)]

/-! ## Conditions (R362) -/

/-- R362: what keeps a fuse command from starting. -/
def State.fuseHold (s : State) : Option Fail :=
  if !s.tjOk then some s.holdThermal
  else if s.supplyHeld then some s.holdSupply
  else if !s.fuseOk then some { status := .holdSupply, pay := [w32 0x4B] }
  else none

/-- R362: the refusal of a command that a condition stops part way. -/
def State.stopFail (s : State) (x : FuseStop) : Fail :=
  match x.rail with
  | some k => { status := .holdSupply, pay := [w32 (0x40 + k.val)] }
  | none => s.holdThermal

/-! ## Programming (R362) -/

/-- R362: a slot is left uncommitted; what it then holds is open (entry 9). -/
def State.leaveSlot (s : State) (a : Nat) (byStop : Bool) : State :=
  let x := Config.freeAt s.free 1
  let t : State := { s with
    free := s.free + 1
    fuse := s.fuse.put a { data := s.freeWord, committed := false, corrected := bit x 0, uncorrectable := bit x 1, blank := false } }
  t.raise .dev 0 0x30 (pk [(a, 0), (b2n byStop, 16)])

/-- R362: a slot is committed. -/
def State.commitSlot (s : State) (a : Nat) (w : Word) : State :=
  { s with fuse := s.fuse.put a { data := w, committed := true, corrected := false, uncorrectable := false, blank := false } }

/-- R362: one word of a tagged region: `n` words of the row have been committed before it. -/
def burnWord (env : FuseEnv) (r : Nat) (w : Word) (n : Nat) : Nat → State → State × Option Fail
  | 0, s => (s, some { status := .locked })
  | fuel + 1, s =>
    let free := s.fuse.unused r
    match free with
    | [] => (s, some { status := .locked })
    | a :: _ =>
      let t := s.raiseIf (free.length == 5) .dev 0 0x31 (w32 r)
      match env.stop with
      | some x =>
        if x.words ≤ n then (t.leaveSlot a true, some (t.stopFail x))
        else if env.weak.contains a then burnWord env r w n fuel (t.leaveSlot a false)
        else (t.commitSlot a w, none)
      | none =>
        if env.weak.contains a then burnWord env r w n fuel (t.leaveSlot a false) else (t.commitSlot a w, none)

/-- R362, R363: the words of a row, each in its region, in order: the state, the words committed, and the refusal if the row
stops. -/
def burnAll (env : FuseEnv) : List (Nat × Word) → Nat → State → State × Nat × Option Fail
  | [], n, s => (s, n, none)
  | (r, w) :: rest, n, s =>
    match burnWord env r w n ((s.fuse.unused r).length + 1) s with
    | (t, none) => burnAll env rest (n + 1) t
    | (t, some f) => (t, n, some f)

/-- R362: every tagged region has room for the words of a row. -/
def State.roomFor (s : State) (ws : List (Nat × Word)) : Bool :=
  (List.range 8).all fun r => decide ((ws.filter fun w => w.1 == r).length ≤ (s.fuse.unused r).length)

/-- R362: the checks at the start of a fuse command that writes tagged words. -/
def State.fuseStart (s : State) (ws : List (Nat × Word)) : Option Fail :=
  match s.fuseHold with
  | some f => some f
  | none => require (s.roomFor ws) { status := .locked }

/-- A fuse command: it writes its words; where it ends, `f` is what follows. -/
def burnThen (env : FuseEnv) (ws : List (Nat × Word)) (s : State) (f : State → Nat → Effect) : Effect :=
  match burnAll env ws 0 s with
  | (t, n, none) => f t n
  | (t, _, some e) => { st := t, pay := e.pay, status := e.status }

/-! ## Reading (R369, R370) -/

/-- R370: VALUE and the status word of a fuse word. An uncorrectable word has an open value (entry 9). -/
def State.fuseWords (s : State) (a : Nat) : List Word :=
  let w := s.fuse.at a
  [if w.uncorrectable then Config.freeAt s.free a else w.data,
   pk [(b2n w.committed, 0), (b2n w.corrected, 1), (b2n w.uncorrectable, 2), (b2n w.blank, 3)]]

/-- R370, FUSE_READ. -/
def specFuseRead : CmdSpec :=
  { op := 0x30, avail := availReady, count := exactly 1, isl := scIsl, secure := isSecure
    denied := fun _ r =>
      let a := fld (r.p 0) 0 11
      decide (a < 0x020) && decide (0x010 < a + fld (r.p 0) 16 9)
    bad := fun _ r =>
      let w := r.p 0
      firstBad [(fld w 11 5 == 0 && clear w 25 && decide (1 ≤ fld w 16 9) && decide (fld w 16 9 ≤ 500) &&
        decide (fld w 0 11 + fld w 16 9 ≤ 2048), 0)]
    act := answer fun s r => (List.range (fld (r.p 0) 16 9)).flatMap fun k => s.fuseWords (fld (r.p 0) 0 11 + k) }

/-- R359: the soft repairs that are not yet fused. -/
def State.repairsPending (s : State) : List Word :=
  let done := s.fuse.tagged 0x510 0x7F0
  s.repairs.filter fun w => !done.contains w

/-- R370: status block word `r`. -/
def State.regionStatus (s : State) (r : Nat) : Word :=
  let ws := (regionWords r).map s.fuse.at
  pk [((ws.filter fun w => w.committed && !w.uncorrectable).length, 0), ((ws.filter (·.blank)).length, 12),
      (min 255 (ws.filter fun w => !w.blank && (!w.committed || w.uncorrectable)).length, 24)]

/-- R370, FUSE_STATUS_GET. -/
def specFuseStatusGet : CmdSpec :=
  { op := 0x31, avail := availReady, count := exactly 0, isl := scIsl, secure := isSecure
    act := answer fun s _ => (List.range 8).map s.regionStatus ++
      [pk [(b2n s.tjOk, 0), (b2n s.fuseOk, 1), (min 255 s.repairsPending.length, 8)]] }

/-! ## FUSE_PROGRAM, FUSE_REPAIR_COMMIT (R359, R362, R363) -/

/-- R362, R363: a module-maker word. Left uncommitted after a failed verification it has no further slot (entry 19). -/
def State.programWord (s : State) (env : FuseEnv) (a : Nat) (v : Word) : Effect :=
  let stops := match env.stop with
    | some x => if x.words = 0 then some x else none
    | none => none
  match stops with
  | some x => { st := s.leaveSlot a true, status := (s.stopFail x).status, pay := (s.stopFail x).pay }
  | none => if env.weak.contains a then { st := s.leaveSlot a false, status := .locked } else { st := s.commitSlot a v }

/-- R362, FUSE_PROGRAM. -/
def specFuseProgram (env : FuseEnv) : CmdSpec :=
  { op := 0x32, avail := availRun, count := exactly 2, isl := scIsl, secure := isSecure
    bad := fun s r =>
      let a := fld (r.p 0) 0 11
      firstBad [(clear (r.p 0) 11 && decide (0x7F0 ≤ a) && (s.fuse.at a).blank, 0)]
    cond := fun s _ => s.fuseHold
    act := fun s r => s.programWord env (fld (r.p 0) 0 11) (r.p 1) }

/-- R359, FUSE_REPAIR_COMMIT. -/
def specFuseRepairCommit (env : FuseEnv) : CmdSpec :=
  { op := 0x33, avail := availRun, count := exactly 0, isl := scIsl, secure := isSecure
    cond := fun s _ => s.fuseStart (s.repairsPending.map fun w => (6, w))
    act := fun s _ => burnThen env (s.repairsPending.map fun w => (6, w)) s fun t n =>
      { st := t.raise .dev 0 0x33 (w32 n), pay := [w32 n] } }

/-! ## Lifecycle (R97, R98, R364) -/

/-- R361: the word of a transition. -/
def lifeWord (target : Nat) : Nat × Word := (0, tagWord 1 target 0x3208)

/-- R364, R371: the transition is in force. -/
def State.lifeEvent (s : State) (old : Nat) : State :=
  s.raiseIf (s.lifecycle != old) .dev 0 0x32 (pk [(s.lifecycle, 0), (old, 2)])

/-- R97: RETIRED needs no session once all four owner slots are revoked. -/
def State.allRevoked (s : State) : Bool := (List.range 4).all fun k => s.fuse.ownerSlot k == 2

/-- R364: RETIRED erases the identity. -/
def State.retired (s : State) (old : Nat) : State :=
  let t := s.lifeEvent old
  if t.lifecycle = 3 then t.zeroise.raise .dev 0 0x21 0 else t

/-- R364, LIFECYCLE_SET. -/
def specLifecycleSet (env : FuseEnv) : CmdSpec :=
  { op := 0x34, avail := availRun, count := exactly 1, isl := scIsl
    secure := fun s r => !(s.owned && s.allRevoked && fld (r.p 0) 0 2 == 3)
    locked := fun s r => fld (r.p 0) 0 2 == 1 && s.lifecycle != 0
    bad := fun _ r => firstBad [(clear (r.p 0) 2 && (fld (r.p 0) 0 2 == 1 || fld (r.p 0) 0 2 == 3), 0)]
    cond := fun s r => s.fuseStart [lifeWord (fld (r.p 0) 0 2)]
    act := fun s r => burnThen env [lifeWord (fld (r.p 0) 0 2)] s fun t _ => { st := t.retired s.lifecycle }
    late := fun s _ => if s.lifecycle = 3 then s.closeSession 3 else s }

/-! ## Owner slots (R224 to R226) -/

/-- R225: the part of a slot that is fused, if it is. -/
def Fuse.partOf (f : Fuse) (slot j : Nat) : Option Nat := ((f.parts slot).find? fun p => p.1 == j).map (·.2)

/-- R225: the first byte of a fused part that differs from the named hash. -/
def State.partDiffers (s : State) (slot : Nat) (h : List Word) : Option Nat :=
  (List.range 48).find? fun b =>
    match s.fuse.partOf slot (b / 3) with
    | some d => d / 2 ^ (8 * (b % 3)) % 256 != ((h.flatMap wordBytes).getD b 0).toNat
    | none => false

/-- R225, R363: the words that a binding has yet to write. -/
def State.bindWords (s : State) (slot : Nat) (h : List Word) : List (Nat × Word) :=
  ((List.range 16).filter fun j => (s.fuse.partOf slot j).isNone).map (fun j => (2, tagWord (4 + slot) j ((hashParts h).getD j 0))) ++
    (if s.lifecycle = 1 then [lifeWord 2] else [])

/-- R225, OWNER_BIND: OWNER_BOUND when its slot becomes bound. -/
def State.bound (s : State) (slot : Nat) (old : State) : State :=
  s.raiseIf (s.fuse.ownerSlot slot == 1 && old.fuse.ownerSlot slot != 1) .dev 0 0x25 (w32 slot)

/-- R225, OWNER_BIND. -/
def specOwnerBind (env : FuseEnv) : CmdSpec :=
  { op := 0x27, avail := availRun, count := exactly 13, isl := scIsl, secure := isSecure
    locked := fun s _ => s.lifecycle == 0
    bad := fun s r =>
      let slot := fld (r.p 0) 0 2
      if !clear (r.p 0) 2 || s.fuse.ownerSlot slot == 2 then some 0
      else (s.partDiffers slot (r.params.drop 1)).map fun b => 1 + b / 4
    cond := fun s r => s.fuseStart (s.bindWords (fld (r.p 0) 0 2) (r.params.drop 1))
    act := fun s r =>
      let slot := fld (r.p 0) 0 2
      match burnAll env (s.bindWords slot (r.params.drop 1)) 0 s with
      | (t, _, none) => { st := (t.bound slot s).lifeEvent s.lifecycle }
      | (t, _, some e) => { st := t.bound slot s, pay := e.pay, status := e.status } }

/-- R226, OWNER_REVOKE. -/
def specOwnerRevoke (env : FuseEnv) : CmdSpec :=
  { op := 0x28, avail := availRun, count := exactly 1, isl := scIsl, secure := isSecure
    bad := fun s r => firstBad [(clear (r.p 0) 2 && s.fuse.ownerSlot (fld (r.p 0) 0 2) == 1, 0)]
    cond := fun s r => s.fuseStart [(2, tagWord 8 (fld (r.p 0) 0 2) 0x3208)]
    act := fun s r => burnThen env [(2, tagWord 8 (fld (r.p 0) 0 2) 0x3208)] s fun t _ =>
      { st := t.raise .dev 0 0x26 (w32 (fld (r.p 0) 0 2)) } }

/-! ## Anti-rollback (R88, R362) -/

/-- R88, R102: a step is put off to the next entry to ACTIVE. -/
def State.rollbackDeferred (s : State) (why : Nat) : State :=
  let t : State := { s with fuse := { s.fuse with rollbackWait := true, rollbackStop := s.fuse.rollbackStop || why == 4 } }
  t.raise .dev 0 0x1A (w32 why)

/-- R88, R102: the conditions that do not hold, as ROLLBACK_DEFERRED gives them; 0 where only a supply warning defers the step
(entry 71). -/
def State.rollbackBits (s : State) : Nat := b2n (!s.tjOk) + 2 * b2n (!s.fuseOk)

/-- R88, ROLLBACK_STEP: one step towards IMG_ROLLBACK. -/
def State.rollbackStep (s : State) (env : FuseEnv) : State :=
  let c := s.fuse.counter
  if !s.anyRun || s.power.mcSilent || !s.islandOn 71 || s.underTest 71 || !s.header.advance || decide (s.header.rollback ≤ c) ||
      s.fuse.rollbackStop || s.fuse.rollbackWait then s
  else if s.fuseHold.isSome then s.rollbackDeferred s.rollbackBits
  else if s.fuse.unused 4 = [] then s.rollbackDeferred 4
  else
    match burnWord env 4 (tagWord 2 0 (c + 1)) 0 ((s.fuse.unused 4).length + 1) s with
    | (t, none) => t.raise .dev 0 0x19 (w32 t.fuse.counter)
    | (t, some f) =>
      match env.stop with
      | some x => t.rollbackDeferred (if f.status = .locked then 4 else match x.rail with
          | none => 1
          | some k => if k.val = 11 then 2 else 0)
      | none => t.rollbackDeferred 4

/-! ## Rows -/

/-- R370, FUSE_READ. -/
def execFuseRead (dt : Nat) (c : Cmd) (s : State) := done (hostRow dt specFuseRead .dev c s)
/-- R370, FUSE_STATUS_GET. -/
def execFuseStatusGet (dt : Nat) (c : Cmd) (s : State) := done (hostRow dt specFuseStatusGet .dev c s)
/-- R362, FUSE_PROGRAM. -/
def execFuseProgram (dt : Nat) (c : Cmd) (env : FuseEnv) (s : State) := done (hostRow dt (specFuseProgram env) .dev c s)
/-- R359, FUSE_REPAIR_COMMIT. -/
def execFuseRepairCommit (dt : Nat) (c : Cmd) (env : FuseEnv) (s : State) := done (hostRow dt (specFuseRepairCommit env) .dev c s)
/-- R364, LIFECYCLE_SET. -/
def execLifecycleSet (dt : Nat) (c : Cmd) (env : FuseEnv) (s : State) := done (hostRow dt (specLifecycleSet env) .dev c s)
/-- R225, OWNER_BIND. -/
def execOwnerBind (dt : Nat) (c : Cmd) (env : FuseEnv) (s : State) := done (hostRow dt (specOwnerBind env) .dev c s)
/-- R226, OWNER_REVOKE. -/
def execOwnerRevoke (dt : Nat) (c : Cmd) (env : FuseEnv) (s : State) := done (hostRow dt (specOwnerRevoke env) .dev c s)
/-- R88, ROLLBACK_STEP. -/
def execRollbackStep (dt : Nat) (env : FuseEnv) (s : State) := done (eventRow dt (·.rollbackStep env) s)

end Sys2Proof.Machine
end

