-- ==== Sys2Proof/Machine/Dev.lean ====
section
/-! DEFINITION. Class DEV: power and reset (R78 to R80, R99, R386), boot ROM and firmware load (R84 to R87), configuration and
device states (R90 to R95, R100), events (R70 to R72), raw registers (R74 to R76), and the SPI transactions (R34 to R40). -/

namespace Sys2Proof.Machine

/-! ## Power and reset -/

/-- R80: the device is reset completely, and held in reset while `hold`. In OFF it stays in OFF until reset ends (R81). -/
def State.resetNow (s : State) (hold : Bool) : State :=
  { s.cleared with
    now := if hold then s.now else 0
    power := { s.power with dev := if s.power.dev = .off && hold then .off else .boot, inReset := hold, mcSilent := false } }

/-- R79, R80, R386: reset ends once RESET_N is high and no rail is below its reset level. -/
def State.resetEnds (s : State) : State := if s.power.pinLow || s.power.railsLow != 0 then s else s.resetNow false

/-- R33, R78, R80: nothing but the fuses survives a loss of power. -/
def State.powerLost (s : State) (on : Bool) : State :=
  { s.cleared with
    thm := thmReset, jtag := { ir := .idcode, boundary := 0 }
    power := { powered := on, inReset := true, pinLow := true, railsLow := 0, dev := .off, latch := false, blind := false,
               mcSilent := false } }

/-- R80, DEVICE_RESET: a falling edge of RESET_N. In SHUTDOWN nothing changes. -/
def State.resetFalls (s : State) : State :=
  if !s.power.powered || s.power.latch then s
  else
    let t := s.resetNow true
    { t with power := { t.power with pinLow := true } }

/-- R80, RESET_RELEASE. -/
def State.resetRises (s : State) : State :=
  if !s.power.powered || !s.power.pinLow || s.power.latch then s
  else { s with power := { s.power with pinLow := false } }.resetEnds

/-- R386, SUPPLY_RESET. -/
def State.supplyResets (s : State) (rails : BitVec 12) : State :=
  if !s.power.powered || s.power.latch || rails == 0 then s
  else
    let t := s.resetNow true
    { t with power := { t.power with railsLow := t.power.railsLow ||| rails } }

/-- R386, SUPPLY_RESET_RELEASE. -/
def State.supplyResetEnds (s : State) : State :=
  if !s.power.powered || s.power.latch || s.power.railsLow == 0 then s
  else { s with power := { s.power with railsLow := 0 } }.resetEnds

/-! ## Boot ROM (R84, R85, R254) -/

/-- R361: the spare rows of SPM that a list of repair words takes. -/
def spmRows (ws : List Word) : Nat := ((ws.filter fun w => tagKind w == 9).map fun w => fld w 22 6).eraseDups.length

/-- R84, BOOT_ROM_COMPLETE: fused repairs applied, soft repairs made, the identity derived, READY entered. -/
def State.boots (s : State) (m : BootResult) : State :=
  if !s.power.powered || s.power.inReset || s.power.dev != .boot then s
  else
    { s with
      power := { s.power with dev := .ready }
      boot := { repaired := m.repaired, failed := m.failed, ms := m.ms
                islands := m.islands.foldl (fun b i => b ||| (1#78 <<< i.val)) 0 }
      repairs := m.repairs
      cal := { s.cal with repairs :=
        ((s.fuse.tagged 0x510 0x7F0 ++ m.repairs).filter fun w => tagKind w == 3 || tagKind w == 9).eraseDups }
      mem := { s.mem with spares := 64 - spmRows (s.fuse.tagged 0x510 0x7F0 ++ m.repairs) }
      sec := { s.sec with identity := !m.tamperLow && s.lifecycle != 3, zeroised := s.sec.zeroised && m.tamperLow } }

/-! ## Firmware load (R86, R87) -/

/-- R82: READY only. -/
def availReadyOnly (s : State) (_ : Req) : Option Nat := if s.power.dev = .ready then none else some (s.recOf .dev 0).reason

/-- R85: a memory beyond repair in PD71 to PD74. -/
def State.coreBroken (s : State) : Bool := [71, 72, 73, 74].any fun i => s.boot.islands.getLsbD i

/-- R86, FW_LOAD_BEGIN. -/
def specFwLoadBegin : CmdSpec :=
  { op := 0x11, avail := availReadyOnly, count := exactly 1
    bad := fun _ r =>
      let n := (r.p 0).toNat
      firstBad [(decide (65536 ≤ n) && decide (n ≤ 2097152) && n % 4 == 0, 0)]
    busy := fun s _ => require (!s.coreBroken) { status := .unitFailed }
    act := change fun s r => { s with fw := { s.fw with declared := (r.p 0).toNat / 4, stage := [] } } }

/-- R86, FW_LOAD_DATA. -/
def specFwLoadData : CmdSpec :=
  { op := 0x12, avail := availReadyOnly
    count := fun _ r => decide (2 ≤ r.params.length) && decide (r.params.length ≤ 1020)
    bad := fun s r => firstBad [((r.p 0).toNat == s.fw.stage.length &&
      decide (s.fw.stage.length + (r.params.length - 1) ≤ s.fw.declared), 0)]
    act := change fun s r => { s with fw := { s.fw with stage := s.fw.stage ++ r.params.drop 1 } } }

/-- R95, R96: the personalities of this silicon revision. -/
def siliconNames : List Word := [0x3141]

/-- R95: the personalities that silicon and an image both offer. -/
def offeredBy (h : ImageHeader) : List Word := siliconNames.filter h.personalities.contains

/-- R87: RESULT, and the header where it can be read. A load that has not begun is INCOMPLETE. -/
def State.imageResult (s : State) : Nat × Option ImageHeader :=
  let h := Config.imageHeader s.fw.stage
  if s.fw.declared = 0 ∨ s.fw.stage.length < s.fw.declared then (1, none)
  else match h with
    | none => (2, none)
    | some x =>
      if 256 < x.rollback then (2, none)
      else if !Config.imageSigned s.fw.stage then (3, some x)
      else if x.rollback < s.fuse.counter then (4, some x)
      else if offeredBy x = [] then (5, some x)
      else (0, some x)

/-- R81, R102: the device state changes; the firmware raises DEV_STATE_CHANGED, and ACTIVE_ENTERED on entry to ACTIVE. -/
def State.enter (s : State) (d : DevState) : State :=
  (({ s with power := { s.power with dev := d } } : State).raise .dev 0 0x1C (pk [(d.code, 0), (s.power.dev.code, 3)])).raiseIf
    (d == .active) .dev 0 0x18 (w32 (sat32 (s.now / 1000000)))

/-- R87, R102, R279: the firmware starts, and the device enters CONFIG. -/
def State.firmwareStarts (s : State) (h : ImageHeader) (m : Hash) : State :=
  let t : State := { s with
    fw := { declared := 0, stage := [], image := some (h, m) }
    setup := { step := 0, entered := s.now, persSet := none, persInForce := 0 } }
  let u := (t.enter .config).sparesLow { s with cal := { s.cal with repairs := [] } }
  u.raiseIf (s.boot.repaired != 0 || s.boot.failed != 0) .dev 0 0x1B (pk [(s.boot.repaired.toNat, 0), (s.boot.failed.toNat, 8)])

/-- R87, R101, FW_LOAD_END; what an unreadable header says is open (entry 9). -/
def specFwLoadEnd : CmdSpec :=
  { op := 0x13, avail := availReadyOnly, count := exactly 0
    act := fun s _ =>
      let x := s.imageResult
      let m := Config.sha384 s.fw.stage
      let ver := match x.2 with
        | some h => h.version
        | none => Config.freeAt s.free 0
      let img := match x.2 with
        | some h => h.rollback
        | none => (Config.freeAt s.free 1).toNat % 257
      let pay := [w32 x.1, ver, pk [(img, 0), (s.fuse.counter, 16)]] ++ (if x.1 = 0 then m.toList else List.replicate 12 0)
      match x with
      | (0, some h) => { st := s.firmwareStarts h m, pay := pay }
      | _ => { st := { s with fw := { s.fw with declared := 0, stage := [] } }, pay := pay } }

/-! ## Configuration and device states (R90 to R95, R100) -/

/-- R227: PERSONALITY_LOCK of the policy in force, 0 for none. -/
def State.persLock (s : State) : Word := s.sec.policy.getD 5 0

/-- R95, PERSONALITY_SET: a step of CONFIG. -/
def specPersonalitySet : CmdSpec :=
  { op := 0x14, avail := availRun, count := exactly 1
    locked := fun s r => s.persLock != 0 && r.p 0 != s.persLock
    bad := fun s r => firstBad [((offeredBy s.header).contains (r.p 0), 0)]
    cond := fun s _ => if s.power.dev = .config then s.stepRefused 3 else some (s.devConflict 0x14)
    act := change fun s r => { s.beginStep 3 with setup := { (s.beginStep 3).setup with persSet := some (r.p 0) } } }

/-- R95, PERSONALITY_LIST. -/
def specPersonalityList : CmdSpec :=
  { op := 0x15, avail := availRun, count := exactly 0
    act := answer fun s _ => w32 (offeredBy s.header).length :: offeredBy s.header }

/-- R88: at an entry to ACTIVE a deferred anti-rollback step is tried again. -/
def State.rollbackRetries (s : State) : State := { s with fuse := { s.fuse with rollbackWait := false } }

/-- R92, R95, R270: CONFIG_DONE with every step done. -/
def State.configured (s : State) : State :=
  let name := if s.persLock ≠ 0 then s.persLock else s.setup.persSet.getD 0x3141
  let t : State := { s with setup := { s.setup with persInForce := name } }
  ((t.enter .active).rollbackRetries).startForeground

/-- R82, R92, CONFIG_DONE: outside CONFIG the REASON of its refusal is NOT_CONFIG, in READY, SLEEP and MAINT too (entry 72). -/
def specConfigDone : CmdSpec :=
  { op := 0x16, avail := fun s _ => if s.power.dev = .config then none else some 0x14, count := exactly 0
    cond := fun s _ => (s.missingStep 8).map fun k => s.devConflict (stepReason k)
    act := fun s _ => { st := s.configured, pay := [w32 (sat32 ((s.now - s.setup.entered) / 1000000))] } }

/-- R93: entry to SLEEP. -/
def State.sleeps (s : State) : State :=
  let t := (List.range 71).foldl (fun t d => t.switchOff d 2) s
  ((t.failCloseAll .sleep).closeSession 4).enter .sleep

/-- R93: the wake: the domains that the host has not set OFF are powered. -/
def State.wakes (s : State) : State :=
  let t := s.enter .active
  ((List.range 71).foldl (fun t d => if t.dom.hostOff.getLsbD d || (d == 70 && !t.needs d) then t else t.switchOn d 2) t).rollbackRetries

/-- R93, R94: an island among the first `n` in one of the phases of a self-test. -/
def State.testsAmong (s : State) (n : Nat) (p : Phase → Bool) : Bool :=
  (List.range n).any fun i => p s.bist[Fin.ofNat 78 i].phase

/-- R93, R94, R101, DEV_STATE_SET. -/
def specDevStateSet : CmdSpec :=
  { op := 0x17, count := exactly 1
    avail := fun s _ => if s.anyRun && s.power.dev != .config then none else some (s.recOf .dev 0).reason
    bad := fun _ r => firstBad [(clear (r.p 0) 3 && decide (3 ≤ fld (r.p 0) 0 3) && decide (fld (r.p 0) 0 3 ≤ 5), 0)]
    busy := fun s r =>
      let tested := match fld (r.p 0) 0 3 with
        | 4 => s.power.dev == .active && s.testsAmong 71 fun p => p == .queued || p == .running
        | 3 => s.power.dev == .maint && s.testsAmong 78 fun p => p != .idle
        | _ => false
      require (!tested) { status := .busySelftest, pay := [s.freeWord] }
    cond := fun s r =>
      let want := fld (r.p 0) 0 3
      if want = s.power.dev.code ∨ want = 3 then none
      else if s.power.dev ≠ .active then some (s.devConflict (s.recOf .dev 0).reason)
      else if want = 5 ∧ s.throttled then some s.holdThermal
      else if want = 5 then
        match (List.range 8).find? (fun g => s.isUp .grp g) with
        | some g => some (s.conflict .grp g)
        | none => none
      else none
    act := change fun s r =>
      let want := fld (r.p 0) 0 3
      if want = s.power.dev.code then s
      else if want = 4 then s.sleeps
      else if want = 5 then s.enter .maint
      else if s.power.dev = .sleep then s.wakes
      else (s.enter .active).rollbackRetries }

/-- R80, R100, DEV_RESET: no reply, and what is queued behind it is gone. -/
def specDevReset : CmdSpec :=
  { op := 0x10, avail := availReady, count := exactly 0, act := fun s _ => { st := s.resetNow false, silent := true } }

/-! ## Events (R70 to R72) -/

/-- R71: an event entry as words. -/
def Entry.words (e : Entry) : List Word := pk [(e.code, 0), (clsCode e.cls, 8), (e.inst, 12)] :: e.arg :: lohi e.time

/-- R72, EVENT_READ. -/
def specEventRead : CmdSpec :=
  { op := 0x40, avail := availRun, count := exactly 1
    bad := fun _ r => firstBad [(decide (1 ≤ (r.p 0).toNat) && decide ((r.p 0).toNat ≤ 16), 0)]
    act := fun s r =>
      let taken := s.obs.queue.take (r.p 0).toNat
      let left := s.obs.queue.drop (r.p 0).toNat
      { st := { s with obs := { s.obs with queue := left } }
        pay := pk [(taken.length, 0), (left.length, 8)] :: w32 s.obs.lost :: taken.flatMap Entry.words } }

/-- R72, EVENT_CONFIG. -/
def specEventConfig : CmdSpec :=
  { op := 0x41, avail := availRun, count := exactly 1, bad := fun _ r => firstBad [(clear (r.p 0) 4, 0)]
    act := change fun s r =>
      let w := r.p 0
      { s with
        port := { s.port with irqOnEvent := bit w 0, irqOnReply := bit w 1 }
        obs := { s.obs with lost := if bit w 2 then 0 else s.obs.lost, queue := if bit w 3 then [] else s.obs.queue } } }

/-! ## Raw registers (R74 to R76) -/

/-- R76: KIND of an island. -/
def islandKind (i : Nat) : Nat :=
  if i < 64 then ([0, 1, 2, 3, 4, 4, 5, 5] : List Nat).getD (i / 8) 0
  else if i < 68 then 6 else if i < 70 then 7 else if i = 70 then 8 else if i < 74 then 9
  else if i = 74 then 10 else if i = 75 then 11 else if i = 76 then 12 else 13

/-- R76: ISLAND_STATE. -/
def State.islandWord (s : State) (i : Nat) : Word :=
  pk [(b2n (s.islandOn i), 0), (b2n (s.underTest i), 1), (b2n (s.islandHeld i), 2), (b2n (s.islandFailed i), 3)]

/-- R76: the published register at an offset of an island: its value, and whether it is the low half of a pair. What an
island's clock and the Causeway have counted since it started is open (entry 9). -/
def State.register (s : State) (i off : Nat) : Option (Nat × Bool) :=
  let start := s.dom.since[Fin.ofNat 78 i]
  let g := Fin.ofNat 8 ((off - 0x100) / 8)
  let base := s.gsize g != 0
  let at8 := decide (0x100 ≤ off) && decide (off < 0x140) && off % 8 == 0
  match off with
  | 0x00 => some (i + 256 * islandKind i, false)
  | 0x04 => some ((s.islandWord i).toNat, false)
  | 0x08 => some (Config.localCycles i start s.now % 2 ^ 64, true)
  | 0x10 => if i = 77 then none else some (Config.causewayRx i start s.now % 2 ^ 64, true)
  | 0x18 => some ((s.port.scratch[Fin.ofNat 78 i]).toNat, false)
  | _ =>
    if i = 77 then (if off = 0x100 then some (s.now, true) else none)
    else if 8 ≤ i ∧ i < 16 then
      let r := s.lrx[Fin.ofNat 8 i]
      if off = 0x100 then some (r.blocks, true)
      else if off = 0x108 then some (r.trFreq.toNat, false)
      else if off = 0x10C then some (r.trPhase.toNat, false)
      else none
    else if i = 65 ∧ at8 then some (if base then s.grp[g].seq else 0, true)
    else if i = 66 ∧ at8 then some (if base then s.grp[g].rxSeq else 0, true)
    else none

/-- R74, R76: the island and the offset of an address. -/
def regIsland (a : Nat) : Nat := (a - 0x4000_0000) / 0x1_0000
def regOffset (a : Nat) : Nat := (a - 0x4000_0000) % 0x1_0000

/-- R75, R76: the word at an address: its live value, and where it is half of a pair, the address of the pair and which half. -/
def State.rawWord (s : State) (a : Nat) : Option (Nat × Option (Nat × Bool)) :=
  if a % 4 ≠ 0 ∨ a < 0x4000_0000 ∨ 78 ≤ regIsland a then none
  else match s.register (regIsland a) (regOffset a) with
    | some (v, pair) => some (v, if pair then some (a, false) else none)
    | none =>
      if a % 8 = 4 then
        match s.register (regIsland a) (regOffset a - 4) with
        | some (v, true) => some (v / 2 ^ 32, some (a - 4, true))
        | _ => none
      else none

/-- R75: one word read: the value with its STALE flag, and the holding register of the requester. -/
def State.readRaw (s : State) (hold : Option (Nat × Word)) (a : Nat) : (Word × Bool) × Option (Nat × Word) :=
  match s.rawWord a with
  | none => ((0, false), hold)
  | some (v, none) => ((w32 v, false), hold)
  | some (v, some (p, false)) => ((w32 v, false), some (p, w32 (v / 2 ^ 32)))
  | some (v, some (p, true)) =>
    match hold with
    | some (q, h) => if q = p then ((h, false), none) else ((w32 v, true), hold)
    | none => ((w32 v, true), none)

/-- R75: consecutive words. -/
def State.readRaws (s : State) (hold : Option (Nat × Word)) (a : Nat) : Nat → List (Word × Bool) × Option (Nat × Word)
  | 0 => ([], hold)
  | n + 1 =>
    let x := s.readRaw hold a
    let y := s.readRaws x.2 (a + 4) n
    (x.1 :: y.1, y.2)

/-- R30, R76: the key-engine state of SC, STX and SRX. -/
def keyRange (a : Nat) : Bool :=
  decide (0x4000_0000 ≤ a) && [68, 69, 71].contains (regIsland a) && decide (0x8000 ≤ regOffset a)

/-- R76: ISLAND_ID and ISLAND_STATE are answered from MC's records. -/
def rawIsl (a n : Nat) : List Nat :=
  if (List.range n).all fun k => decide (regOffset (a + 4 * k) < 8) then [] else [regIsland a]

/-- The addresses that a raw access names, the first whatever its count. -/
def rawAddrs (r : Req) : List Nat := (List.range (max 1 (fld (r.p 1) 0 5))).map fun k => (r.p 0).toNat + 4 * k

/-- R74, REG_READ32: a held or FAILED island does not refuse it (R72). -/
def specRegRead32 : CmdSpec :=
  { op := 0x80, avail := availRun, count := exactly 2, failed := false
    denied := fun _ r => (rawAddrs r).any keyRange
    bad := fun s r => firstBad [((rawAddrs r).all fun a => (s.rawWord a).isSome, 0),
      (clear (r.p 1) 5 && decide (1 ≤ fld (r.p 1) 0 5) && decide (fld (r.p 1) 0 5 ≤ 16), 1)]
    isl := fun _ r => rawIsl (r.p 0).toNat (fld (r.p 1) 0 5)
    act := fun s r =>
      let x := s.readRaws (if r.authed then s.port.holdAuth else s.port.hold) (r.p 0).toNat (fld (r.p 1) 0 5)
      let port := if r.authed then { s.port with holdAuth := x.2 } else { s.port with hold := x.2 }
      let stale := pk (mapIxGo (fun k (p : Nat × Nat) => (p.1, k)) 0 (x.1.map fun v => (b2n v.2, 0)))
      { st := { s with port := port }, pay := stale :: x.1.map (·.1) } }

/-- R74: bytes written under byte enables. -/
def mergeBytes (old new : Word) (en : Nat) : Word :=
  let pick := fun k => if en / 2 ^ k % 2 = 1 then fld new (8 * k) 8 else fld old (8 * k) 8
  pk [(pick 0, 0), (pick 1, 8), (pick 2, 16), (pick 3, 24)]

/-- R74, R76, REG_WRITE32: only SCRATCH is writable. -/
def specRegWrite32 : CmdSpec :=
  { op := 0x81, avail := availRun, count := exactly 3, failed := false, denied := fun _ r => keyRange (r.p 0).toNat
    bad := fun _ r =>
      let a := (r.p 0).toNat
      firstBad [(decide (0x4000_0000 ≤ a) && decide (regIsland a < 78) && regOffset a == 0x18, 0),
        (clear (r.p 2) 4 && fld (r.p 2) 0 4 != 0, 2)]
    isl := fun _ r => [regIsland (r.p 0).toNat]
    act := change fun s r =>
      let i := Fin.ofNat 78 (regIsland (r.p 0).toNat)
      { s with port := { s.port with scratch := upd s.port.scratch i fun w => mergeBytes w (r.p 1) (fld (r.p 2) 0 4) } } }

/-! ## SPI transactions (R34 to R38) -/

/-- R35, R404: what the device drives on MISO in a transaction of `n` bytes: 0x00, FAST_STATUS, and what follows. -/
def State.drives (s : State) (n : Nat) (tail : List Byte) : State :=
  let fs := s.fastStatus
  let out := if s.power.powered && !s.power.inReset && !s.scanHolds then
      (([0, BitVec.ofNat 8 fs, BitVec.ofNat 8 (fs / 256)] : List Byte) ++ tail ++ List.replicate n 0).take n
    else []
  { s with port := { s.port with miso := out } }

/-- R36, PACKET_WRITE. -/
def State.packetArrives (s : State) (bytes : List Byte) : State :=
  ((s.drives (1 + bytes.length) []).takeIn (parsePacket bytes)).settle

/-- R37, REPLY_READ: a reply leaves once its last byte has been clocked out. -/
def State.replyTaken (s : State) (n : Nat) : State :=
  let bytes := ((s.port.replies.headD []).flatMap wordBytes)
  let t := s.drives n bytes
  if s.power.powered && !s.power.inReset && !s.scanHolds && s.port.replies != [] && decide (3 + bytes.length ≤ n) then
    { t with port := { t.port with replies := t.port.replies.tail } }
  else t

/-- R35, UNKNOWN_TRANSACTION. -/
def State.unknownCode (s : State) (code : Byte) (n : Nat) : State := if code = 1 ∨ code = 2 ∨ code = 3 then s else s.drives n []

/-! ## Rows -/

/-- R79, POWER_ON. -/
def execPowerOn (dt : Nat) (s : State) := done (eventRow dt (·.powerLost true) s)
/-- R99, POWER_REMOVED. -/
def execPowerRemoved (dt : Nat) (s : State) := done (eventRow dt (·.powerLost false) s)
/-- R80, DEVICE_RESET. -/
def execDeviceReset (dt : Nat) (s : State) := done (eventRow dt (·.resetFalls) s)
/-- R80, RESET_RELEASE. -/
def execResetRelease (dt : Nat) (s : State) := done (eventRow dt (·.resetRises) s)
/-- R386, SUPPLY_RESET. -/
def execSupplyReset (dt : Nat) (rails : BitVec 12) (s : State) := done (eventRow dt (·.supplyResets rails) s)
/-- R386, SUPPLY_RESET_RELEASE. -/
def execSupplyResetRelease (dt : Nat) (s : State) := done (eventRow dt (·.supplyResetEnds) s)
/-- R84, BOOT_ROM_COMPLETE. -/
def execBootRomComplete (dt : Nat) (result : BootResult) (s : State) := done (eventRow dt (·.boots result) s)
/-- R86, FW_LOAD_BEGIN. -/
def execFwLoadBegin (dt : Nat) (c : Cmd) (s : State) := done (hostRow dt specFwLoadBegin .dev c s)
/-- R86, FW_LOAD_DATA. -/
def execFwLoadData (dt : Nat) (c : Cmd) (s : State) := done (hostRow dt specFwLoadData .dev c s)
/-- R87, FW_LOAD_END. -/
def execFwLoadEnd (dt : Nat) (c : Cmd) (s : State) := done (hostRow dt specFwLoadEnd .dev c s)
/-- R95, PERSONALITY_SET. -/
def execPersonalitySet (dt : Nat) (c : Cmd) (s : State) := done (hostRow dt specPersonalitySet .dev c s)
/-- R95, PERSONALITY_LIST. -/
def execPersonalityList (dt : Nat) (c : Cmd) (s : State) := done (hostRow dt specPersonalityList .dev c s)
/-- R92, CONFIG_DONE. -/
def execConfigDone (dt : Nat) (c : Cmd) (s : State) := done (hostRow dt specConfigDone .dev c s)
/-- R93, DEV_STATE_SET. -/
def execDevStateSet (dt : Nat) (c : Cmd) (s : State) := done (hostRow dt specDevStateSet .dev c s)
/-- R100, DEV_RESET. -/
def execDevReset (dt : Nat) (c : Cmd) (s : State) := done (hostRow dt specDevReset .dev c s)
/-- R72, EVENT_READ. -/
def execEventRead (dt : Nat) (c : Cmd) (s : State) := done (hostRow dt specEventRead .dev c s)
/-- R72, EVENT_CONFIG. -/
def execEventConfig (dt : Nat) (c : Cmd) (s : State) := done (hostRow dt specEventConfig .dev c s)
/-- R75, REG_READ32. -/
def execRegRead32 (dt : Nat) (c : Cmd) (s : State) := done (hostRow dt specRegRead32 .dev c s)
/-- R74, REG_WRITE32. -/
def execRegWrite32 (dt : Nat) (c : Cmd) (s : State) := done (hostRow dt specRegWrite32 .dev c s)
/-- R36, PACKET_WRITE. -/
def execPacketWrite (dt : Nat) (bytes : List Byte) (s : State) := done (eventRow dt (·.packetArrives bytes) s)
/-- R37, REPLY_READ. -/
def execReplyRead (dt : Nat) (n : Nat) (s : State) := done (eventRow dt (·.replyTaken n) s)
/-- R38, FAST_STATUS. -/
def execFastStatus (dt : Nat) (n : Nat) (s : State) := done (eventRow dt (·.drives n []) s)
/-- R35, UNKNOWN_TRANSACTION. -/
def execUnknownTransaction (dt : Nat) (code : Byte) (n : Nat) (s : State) := done (eventRow dt (·.unknownCode code n) s)

end Sys2Proof.Machine
end

