-- ==== Sys2Proof/Machine/Jtag.lean ====
section
/-! DEFINITION. The JTAG port (R403, R404): the instruction in force, the boundary register, and what the output balls drive. While
EXTEST, CLAMP, HIGHZ, EXTEST_PULSE or EXTEST_TRAIN is in force the balls follow the boundary register (`State.scanHolds`); the
device's internal state is not changed by a scan. -/

namespace Sys2Proof.Machine

/-- R403: an instruction is in force. The port works while the device is powered. -/
def State.jtagIr (s : State) (ir : JtagIr) (boundary : BitVec 63) : State :=
  if s.power.powered then { s with jtag := { ir := ir, boundary := boundary } } else s

/-- R403: what the 8-bit instruction register captures. -/
def irCapture : BitVec 8 := 0b0000_0001

/-- R403: the device identification register: version, part number, manufacturer, and 1 in bit 0. -/
def idRegister : BitVec 32 := 0x1#4 ++ 0x3208#16 ++ 0x529#11 ++ 1#1

/-- R404: what the boundary register makes an output ball of the host lanes or of the management port drive, none for high
impedance. Cell 52 controls SPI_MISO, and an open-drain output drives only 0. -/
def Jtag.drives (j : Jtag) (cell : Nat) : Option Bool :=
  let v := j.boundary.getLsbD cell
  if j.ir = .highz ∨ cell = 51 ∧ !j.boundary.getLsbD 52 then none
  else if cell = 53 ∨ cell = 55 then (if v then none else some false)
  else some v

/-- R39, R40, R389, R404: what MGMT_IRQ_N (53), MGMT_BUSY (54) or ALERT_N (55) drives. -/
def State.mgmtBall (s : State) (cell : Nat) : Option Bool :=
  if s.scanHolds then s.jtag.drives cell
  else if cell = 53 then (if s.irqLow then some false else none)
  else if cell = 54 then some s.mgmtBusy
  else if cell = 55 then (if s.alertLow then some false else none)
  else none

/-- R97, R403: a Wilrath debug code is open in MANUFACTURE. -/
def State.debugOpen (s : State) (code : BitVec 8) : Bool :=
  decide (0x80 ≤ code.toNat) && decide (code.toNat < 0xFF) && s.lifecycle == 0

/-- R403: a code that the table gives to another instruction. -/
def State.otherCode (s : State) (code : BitVec 8) : Bool := decide (code.toNat ≤ 6) || s.debugOpen code

/-- R403, BYPASS: 0xFF and every code not listed. -/
def State.bypassed (s : State) (code : BitVec 8) : State := if s.otherCode code then s else s.jtagIr .bypass s.jtag.boundary

/-- R403, EXTEST. -/
def execExtest (dt : Nat) (boundary : BitVec 63) (s : State) := done (eventRow dt (·.jtagIr .extest boundary) s)
/-- R403, IDCODE. -/
def execIdcode (dt : Nat) (s : State) := done (eventRow dt (fun t => t.jtagIr .idcode t.jtag.boundary) s)
/-- R403, SAMPLE/PRELOAD: the boundary register takes the balls. -/
def execSamplePreload (dt : Nat) (balls : BitVec 63) (s : State) := done (eventRow dt (·.jtagIr .sample balls) s)
/-- R403, CLAMP. -/
def execClamp (dt : Nat) (s : State) := done (eventRow dt (fun t => t.jtagIr .clamp t.jtag.boundary) s)
/-- R403, HIGHZ. -/
def execHighz (dt : Nat) (s : State) := done (eventRow dt (fun t => t.jtagIr .highz t.jtag.boundary) s)
/-- R403, EXTEST_PULSE. -/
def execExtestPulse (dt : Nat) (boundary : BitVec 63) (s : State) := done (eventRow dt (·.jtagIr .extestPulse boundary) s)
/-- R403, EXTEST_TRAIN. -/
def execExtestTrain (dt : Nat) (boundary : BitVec 63) (s : State) := done (eventRow dt (·.jtagIr .extestTrain boundary) s)
/-- R403, DEBUG_ACCESS: in MANUFACTURE the spec does not say what the instruction does; elsewhere the code selects BYPASS. -/
def execDebugAccess (dt : Nat) (code : BitVec 8) (s : State) : Host.Outcome State Fault Refusal :=
  if s.power.powered && s.debugOpen code then .refused (.debugInstruction code) else done (eventRow dt (·.bypassed code) s)
/-- R403, BYPASS. -/
def execBypass (dt : Nat) (code : BitVec 8) (s : State) := done (eventRow dt (·.bypassed code) s)
/-- R404, TEST_LOGIC_RESET: Test-Logic-Reset selects IDCODE and returns the balls to the device. -/
def execTestLogicReset (dt : Nat) (s : State) := done (eventRow dt (fun t => t.jtagIr .idcode t.jtag.boundary) s)

end Sys2Proof.Machine
end

