-- ==== Sys2Proof/Machine/Common.lean ====
section
/-! DEFINITION. The common opcodes (R61 to R63, R322 to R326): what every class answers to STATUS_GET, INFO_GET, ADMIN_SET,
STATE_GET, COUNTERS_GET, COUNTERS_CLEAR, EVENT_MASK_SET, PRESET_APPLY, GROUP_DEFINE and GROUP_GET. -/

namespace Sys2Proof.Machine

/-! ## Availability (R82) -/

/-- R82: READY and SHUTDOWN admit STATUS_GET, INFO_GET and STATE_GET to DEV alone. -/
def availRecord (s : State) (r : Req) : Option Nat := if r.cls = .dev then none else availRun s r

/-! ## STATUS_GET -/

/-- R101: the class words of DEV. FW_VERSION is 0 while no firmware has been accepted. -/
def State.statusDev (s : State) : List Word :=
  [pk [(s.power.dev.code, 0), (s.lifecycle, 6), (s.fuse.slots, 8), (s.fuse.counter, 16)],
   w32 Config.romVersion.toNat,
   (match s.fw.image with
    | some h => h.1.version
    | none => 0),
   s.setup.persInForce,
   pk [(s.boot.repaired.toNat, 0), (s.boot.failed.toNat, 8), (s.boot.ms.toNat, 16)]]

/-- R368: words 0 and 1 of the result block of an island. -/
def State.statusBist (s : State) (i : Nat) : List Word :=
  let b := s.bist[Fin.ofNat 78 i]
  let waiting := (s.port.deferred.filter fun d => d.isl.contains i).length
  [pk [(b.last.result, 0), (b2n b.last.partialOk, 4), (b2n b.held, 5), (b2n b.overrode, 6), (b2n (b.phase == .queued), 7),
       (b.last.cause, 8), (min waiting 4, 16)],
   w32 b.last.patterns]

/-- The class words of STATUS_GET; the spec gives none to FEC and MBX. -/
def State.classWords (s : State) (c : Cls) (i : Nat) : List Word :=
  match c with
  | .dev => s.statusDev
  | .hrx => s.statusHrx i
  | .htx => s.statusHtx i
  | .ltx => s.statusLtx i
  | .lrx => s.statusLrx i
  | .grp => s.frameHead (lineLane i)
  | .fec => []
  | .seal => (s.sealInfo (lineLane i)).take 3
  | .cal => s.statusCal
  | .mon => s.statusMon i
  | .thm => s.statusThm i
  | .bist => s.statusBist i
  | .perf => s.statusPerf i
  | .mbx => []
  | .mem => s.statusMem
  | .tst => s.statusTst i

/-- R61: the reply of STATUS_GET. -/
def State.statusReply (s : State) (c : Cls) (i : Nat) : List Word :=
  let ws := s.classWords c i
  let r := s.recOf c i
  pk [((s.admin c i).code, 0), (r.oper.code, 4), (s.remoteOf c i, 8), (r.reason, 16), (ws.length, 24)] :: ws

/-- R61, STATUS_GET. -/
def specStatusGet : CmdSpec :=
  { op := 0x00, avail := availRecord, denied := commonDenied, locked := commonLocked, count := exactly 0
    act := answer fun s r => s.statusReply r.cls r.inst }

/-! ## INFO_GET and STATE_GET -/

/-- R61: the info header. No chapter gives a class any class words of INFO_GET. -/
def infoReply (c : Cls) (i : Nat) : List Word := [unitWord c i, pk [((instances c).length, 0)]]

/-- R61, INFO_GET. -/
def specInfoGet : CmdSpec :=
  { op := 0x01, accepts := hostOpen, avail := availRecord, denied := commonDenied, locked := commonLocked, count := exactly 0
    act := answer fun _ r => infoReply r.cls r.inst }

/-- R62: the state block. -/
def State.stateBlock (s : State) (c : Cls) (i : Nat) : List Word :=
  let r := s.recOf c i
  let ms := match r.misSince with
    | some t => (s.now - t) / 1000000
    | none => 0
  [s.stateWord c i r.reason, w32 (sat32 ms)] ++ lohi r.changed ++ [0]

/-- R62, STATE_GET. -/
def specStateGet : CmdSpec :=
  { op := 0x03, accepts := hostOpen, avail := availRecord, denied := commonDenied, locked := commonLocked, count := exactly 0
    act := answer fun s r => s.stateBlock r.cls r.inst }

/-! ## ADMIN_SET -/

/-- R61: the ADMIN that parameter 0 asks for; the code 3 is refused by check 12. -/
def adminParam (r : Req) : Admin :=
  match fld (r.p 0) 0 2 with
  | 1 => .up
  | 2 => .test
  | _ => .down

/-- R82: the classes that cannot leave DOWN in CONFIG. -/
def carriesTraffic : Cls → Bool
  | .hrx | .htx | .ltx | .lrx | .grp | .fec | .seal => true
  | .dev | .cal | .mon | .thm | .bist | .perf | .mbx | .mem | .tst => false

/-- R82, R83: the device states that admit ADMIN_SET. -/
def availAdmin (s : State) (r : Req) : Option Nat :=
  let raised := adminParam r != .down
  match s.power.dev with
  | .config => if raised && carriesTraffic r.cls then some (s.recOf .dev 0).reason else none
  | .active => none
  | .sleep => if raised || r.cls == .dev then some 0x12 else none
  | .maint => if raised && r.cls == .grp then some 0x13 else none
  | .off | .boot | .ready | .shutdown => some (s.recOf .dev 0).reason

/-- R83, R216, R305, R365, R390: the values that a class takes. -/
def adminTaken (c : Cls) (a : Admin) : Bool :=
  match c with
  | .dev | .fec | .tst | .mem => a != .test
  | .thm => a == .up
  | .hrx | .htx | .ltx | .lrx | .grp | .seal | .cal | .mon | .bist | .perf | .mbx => true

def adminBad (_ : State) (r : Req) : Option Nat :=
  firstBad [(clear (r.p 0) 2 && fld (r.p 0) 0 2 != 3 && adminTaken r.cls (adminParam r), 0)]

/-- R49, R69, R390: check 13 judges the unit's islands, but never for DOWN nor for class THM. -/
def adminIsl (_ : State) (r : Req) : List Nat :=
  if adminParam r = .down ∨ r.cls = .thm then [] else unitIslands r.cls r.inst

/-- R373: ADMIN UP and TEST are the needs for which the device powers these units' domains (entry 23). -/
def adminPowers : Cls → Bool
  | .hrx | .htx | .ltx | .lrx | .grp | .cal | .mon | .tst => true
  | .dev | .fec | .seal | .thm | .bist | .perf | .mbx | .mem => false

/-- R83, R91, R214, R259, R305, R317: check 14. ADMIN_SET UP to DEV is step 7 of the configuration. -/
def adminCond (s : State) (r : Req) : Option Fail :=
  let a := adminParam r
  match r.cls with
  | .dev =>
    if a = .up then s.stepRefused 7
    else if s.power.dev = .config then none
    else some (s.devConflict (s.recOf .dev 0).reason)
  | .grp =>
    let named (reason : Nat) : Fail := { status := .stateConflict, pay := [s.stateWord .grp r.inst reason, unitWord .grp r.inst] }
    if a = .down then none
    else if s.gsize r.inst = 0 then some (named 0x0A)
    else require (s.grp[lineLane r.inst].mode != 0) (named 0x0B)
  | .seal => if a = .down then none else require (s.grp[lineLane r.inst].mode == 3) (s.conflict .grp r.inst)
  | .tst => if a = .up then s.tstUpRefused r.inst else none
  | .hrx | .htx | .ltx | .lrx | .fec | .cal | .mon | .thm | .bist | .perf | .mbx | .mem => none

/-- R64: ADMIN of a unit changes, with what the change does in its class. -/
def State.adminChange (s : State) (c : Cls) (i : Nat) (a : Admin) : State :=
  match c with
  | .dev => if a = .up then (s.setAdmin .dev 0 a).beginStep 7 else s.setAdmin .dev 0 a
  | .hrx => (s.adminHrx i a).tstCheck
  | .htx => (s.adminHtx i a).tstCheck
  | .ltx => (s.adminLtx i a).tstCheck
  | .lrx => (s.adminLrx i a).tstCheck
  | .grp => s.adminGrp i a
  | .seal => s.adminSeal i a
  | .cal => s.adminCal a
  | .mon => s.adminMon i a
  | .tst => s.adminTst i a
  | .fec | .thm | .bist | .perf | .mbx | .mem => s.setAdmin c i a

/-- R61, R64, ADMIN_SET to a class. -/
def specAdminSet (c : Cls) : CmdSpec :=
  { op := 0x02, accepts := hostOpen, avail := availAdmin, denied := commonDenied, locked := commonLocked, count := exactly 1
    bad := adminBad, isl := adminIsl, off := !adminPowers c
    cond := adminCond, act := change fun s r => s.adminChange r.cls r.inst (adminParam r) }

/-! ## COUNTERS_GET and COUNTERS_CLEAR (R322 to R326) -/

/-- R326: how many fixed counters a unit has. -/
def counterCount : Cls → Nat → Nat
  | .dev, _ | .fec, _ | .cal, _ | .tst, _ => 5
  | .hrx, _ => 6
  | .htx, _ | .ltx, _ | .bist, _ | .mem, _ => 4
  | .lrx, _ | .seal, _ => 9
  | .grp, _ => 7
  | .mon, i => if i = 0xFE then 1 else 4
  | .thm, i => if i = 0x60 then 0 else 2
  | .mbx, i => if i = 0xF0 ∨ i = 0xFF then 0 else 4
  | .perf, _ => 0

/-- A 64-bit free value (entry 9), for a counter that no row of the table drives. -/
def State.freeCount (s : State) (i k : Nat) : Nat :=
  (Config.freeAt s.free (16 * i + 2 * k)).toNat + 2 ^ 32 * (Config.freeAt s.free (16 * i + 2 * k + 1)).toNat

/-- R326: the values of a unit's fixed counters. -/
def State.counterVals (s : State) (c : Cls) (i : Nat) : List Nat :=
  let v := s.stats[uix c i].vals
  match c with
  | .dev => v.toList.take 4 ++ [s.obs.queued]
  | .htx => [s.freeCount i 0, s.freeCount i 1, s.obs.lf[hostLane i].episodes, s.freeCount i 2]
  | .hrx | .ltx | .lrx | .grp | .fec | .seal | .cal | .mon | .thm | .bist | .perf | .mbx | .mem | .tst =>
    v.toList.take (counterCount c i)

/-- R323: the counter block; for a PERF counter the read block (R326). -/
def State.counterBlock (s : State) (c : Cls) (i : Nat) : List Word :=
  match c with
  | .perf => s.perfBlock (perfCtr i)
  | .dev | .hrx | .htx | .ltx | .lrx | .grp | .fec | .seal | .cal | .mon | .thm | .bist | .mbx | .mem | .tst =>
    let vs := s.counterVals c i
    w32 vs.length :: lohi s.stats[uix c i].start ++ vs.flatMap lohi ++
      (if vs.isEmpty then [] else [pk (vs.zipIdx.map fun p => (b2n (p.1 == 2 ^ 64 - 1), p.2))])

/-- R322, R324: the counters of a unit are set to 0, and START to now. -/
def State.countersZero (s : State) (c : Cls) (i : Nat) : State :=
  let t := s.clearStats c i
  match c with
  | .dev => { t with obs := { t.obs with queued := 0, seen := 0 } }
  | .htx => { t with obs := { t.obs with lf := upd t.obs.lf (hostLane i) fun l => { l with episodes := 0 } } }
  | .perf => s.perfClear (perfCtr i)
  | .hrx | .ltx | .lrx | .grp | .fec | .seal | .cal | .mon | .thm | .bist | .mbx | .mem | .tst => t

/-- R144, R390: classes whose commands never get UNIT_OFF. -/
def neverOff (c : Cls) : Bool := c == .ltx || c == .thm

/-- R390: class THM is answered from records. -/
def counterIsl (_ : State) (r : Req) : List Nat := if r.cls = .thm then [] else unitIslands r.cls r.inst

/-- R323, COUNTERS_GET to a class. -/
def specCountersGet (c : Cls) : CmdSpec :=
  { op := 0x04, avail := availRun, denied := commonDenied, locked := commonLocked, counter := true
    count := exactly 1, bad := oneBit, isl := counterIsl, off := !neverOff c
    act := fun s r =>
      { st := if bit (r.p 0) 0 then s.countersZero r.cls r.inst else s, pay := s.counterBlock r.cls r.inst } }

/-- R324, COUNTERS_CLEAR to a class. -/
def specCountersClear (c : Cls) : CmdSpec :=
  { op := 0x05, accepts := hostOpen, avail := availRun, denied := commonDenied, locked := commonLocked, counter := true
    count := exactly 0, isl := counterIsl, off := !neverOff c
    act := change fun s r => s.countersZero r.cls r.inst }

/-! ## EVENT_MASK_SET -/

/-- R61: the number that words form, low word first. -/
def wordsNat : List Word → Nat
  | [] => 0
  | w :: r => w.toNat + 2 ^ 32 * wordsNat r

/-- R61, R70, EVENT_MASK_SET. -/
def specEventMaskSet : CmdSpec :=
  { op := 0x06, accepts := hostOpen, avail := availRun, denied := commonDenied, locked := commonLocked, count := exactly 8,
    act := change fun s r =>
      { s with units := upd s.units (uix r.cls r.inst) fun u => { u with mask := BitVec.ofNat 256 (wordsNat r.params) } } }

/-! ## PRESET_APPLY -/

/-- R296: in class MON the presets belong to the lane taps. -/
def presetAccepts (c : Cls) (i : Nat) : Bool := (c != .mon || decide (i < 24)) && hostOpen c i

/-- R112, R138, R188, R296: the preset ID; a class without presets takes none. -/
def presetBad (s : State) (r : Req) : Option Nat :=
  match r.cls with
  | .hrx | .htx => s.profileBad r
  | .ltx => ltxPresetBad r
  | .lrx => firstBad [(decide ((r.p 0).toNat < 4), 0)]
  | .mon => presetMonBad r
  | .dev | .grp | .fec | .seal | .cal | .thm | .bist | .perf | .mbx | .mem | .tst => some 0

/-- R112, R144, R188, R302: what check 13 judges (entry 23). -/
def presetIsl (s : State) (r : Req) : List Nat := if r.cls = .mon then capIsl s r else unitIslands r.cls r.inst

def presetCond (s : State) (r : Req) : Option Fail :=
  match r.cls with
  | .hrx | .htx => s.presetHostCond r
  | .dev | .ltx | .lrx | .grp | .fec | .seal | .cal | .mon | .thm | .bist | .perf | .mbx | .mem | .tst => none

/-- A preset is applied. -/
def State.presetChange (s : State) (c : Cls) (i : Nat) (w : Word) : State :=
  match c with
  | .hrx => s.presetHrx i w
  | .htx => s.presetHtx i w
  | .ltx => s.presetLtx i w
  | .lrx => s.presetLrx i w
  | .mon => s.presetMon i w
  | .dev | .grp | .fec | .seal | .cal | .thm | .bist | .perf | .mbx | .mem | .tst => s

/-- R61, PRESET_APPLY to a class. -/
def specPresetApply (c : Cls) : CmdSpec :=
  { op := 0x07, accepts := presetAccepts, avail := availRun, denied := commonDenied, locked := commonLocked, count := exactly 1
    bad := presetBad, isl := presetIsl
    off := c == .mon, cond := presetCond, act := change fun s r => s.presetChange r.cls r.inst (r.p 0) }

/-! ## GROUP_DEFINE and GROUP_GET (R50 to R52) -/

/-- R51: every bit of the mask that stands for an instance of the class. -/
def maskOf (c : Cls) : BitVec 128 := (instances c).foldl (fun m i => m ||| (1#128 <<< maskBit i)) 0

/-- R61: the first word with a bit for an instance that does not exist. -/
def groupBad (_ : State) (r : Req) : Option Nat :=
  (List.range 4).find? fun k => (r.p k).toNat &&& ((maskOf r.cls).toNat / 2 ^ (32 * k) % 2 ^ 32) != (r.p k).toNat

/-- R52, R61: a user group is defined, or deleted. -/
def State.setGroup (s : State) (c : Cls) (k : Nat) (m : BitVec 128) : State :=
  let rest := s.groups.filter fun g => !(g.1 == c && g.2.1 == k)
  { s with groups := if m = 0 then rest else rest ++ [(c, k, m)] }

/-- R61, GROUP_DEFINE. -/
def specGroupDefine : CmdSpec :=
  { op := 0x0E, groupCmd := true, avail := availRun, count := exactly 4, bad := groupBad,
    act := change fun s r => s.setGroup r.cls (r.inst - 0x800) (BitVec.ofNat 128 (wordsNat r.params)) }

/-- R61, GROUP_GET. -/
def specGroupGet : CmdSpec :=
  { op := 0x0F, groupCmd := true, avail := availRun, count := exactly 0,
    act := answer fun s r =>
      let m := (s.groupMask r.cls (r.inst - 0x800)).toNat
      lohi m ++ lohi (m / 2 ^ 64) }

/-! ## Rows -/

/-- R61, STATUS_GET. -/
def execStatusGet (dt : Nat) (cls : Cls) (c : Cmd) (s : State) := done (hostRow dt specStatusGet cls c s)
/-- R61, INFO_GET. -/
def execInfoGet (dt : Nat) (cls : Cls) (c : Cmd) (s : State) := done (hostRow dt specInfoGet cls c s)
/-- R61, ADMIN_SET. -/
def execAdminSet (dt : Nat) (cls : Cls) (c : Cmd) (s : State) := done (hostRow dt (specAdminSet cls) cls c s)
/-- R62, STATE_GET. -/
def execStateGet (dt : Nat) (cls : Cls) (c : Cmd) (s : State) := done (hostRow dt specStateGet cls c s)
/-- R323, COUNTERS_GET. -/
def execCountersGet (dt : Nat) (cls : Cls) (c : Cmd) (s : State) := done (hostRow dt (specCountersGet cls) cls c s)
/-- R324, COUNTERS_CLEAR. -/
def execCountersClear (dt : Nat) (cls : Cls) (c : Cmd) (s : State) := done (hostRow dt (specCountersClear cls) cls c s)
/-- R61, EVENT_MASK_SET. -/
def execEventMaskSet (dt : Nat) (cls : Cls) (c : Cmd) (s : State) := done (hostRow dt specEventMaskSet cls c s)
/-- R61, PRESET_APPLY. -/
def execPresetApply (dt : Nat) (cls : Cls) (c : Cmd) (s : State) := done (hostRow dt (specPresetApply cls) cls c s)
/-- R61, GROUP_DEFINE. -/
def execGroupDefine (dt : Nat) (cls : Cls) (c : Cmd) (s : State) := done (hostRow dt specGroupDefine cls c s)
/-- R61, GROUP_GET. -/
def execGroupGet (dt : Nat) (cls : Cls) (c : Cmd) (s : State) := done (hostRow dt specGroupGet cls c s)

end Sys2Proof.Machine
end

