-- ==== Sys2Proof/Machine/Bist.lean ====
section
/-! DEFINITION. Logic self-test (R353 to R358, R367, R368): the queue of islands, the runs, their results and holds, and the
commands that wait for them (R69). -/

namespace Sys2Proof.Machine

def State.setBist (s : State) (i : Fin 78) (f : Bist → Bist) : State := { s with bist := upd s.bist i f }

/-- An island number as an index. -/
def bistIx (i : Nat) : Fin 78 := Fin.ofNat 78 i

/-- R356: the patterns of a full run of an island, and its extra power in mW; 0 for an island without logic self-test. -/
def bistLoad (i : Nat) : Nat × Nat :=
  if i < 8 then (16384, 150)
  else if i < 16 then (262144, 900)
  else if i < 24 then (131072, 500)
  else if i < 32 then (16384, 150)
  else if i < 48 then (131072, 400)
  else if i < 64 then (65536, 200)
  else if i = 64 ∨ i = 67 then (262144, 800)
  else if i = 65 ∨ i = 66 then (262144, 900)
  else if i = 68 ∨ i = 69 then (524288, 1200)
  else if i = 70 then (32768, 600)
  else if i = 71 ∨ i = 73 then (262144, 500)
  else if i = 75 then (131072, 400)
  else (0, 0)

/-- R356: the run time of an island, in ns. -/
def bistRunNs (i : Nat) : Nat :=
  10000 * (if i < 8 then 164 else if i < 16 then 4096 else if i < 24 then 1638 else if i < 32 then 164 else if i < 48 then 1638
    else if i < 64 then 655 else if i = 64 ∨ i = 67 then 3277 else if i = 65 ∨ i = 66 then 4096 else if i = 68 ∨ i = 69 then 6554
    else if i = 70 then 9928 else if i = 71 ∨ i = 73 then 3277 else if i = 75 then 1638 else 0)

/-! ## Deferred commands (R69) -/

/-- The specification behind an opcode whose command can wait for the end of a self-test: one that check 13 can refuse with
BUSY_SELFTEST. A fuse command that has waited programs with no weak bit and no failing condition (entry 19). -/
def specOf (c : Cls) (op : Nat) : Option CmdSpec :=
  match op with
  | 0x02 => some (specAdminSet c)
  | 0x04 => some (specCountersGet c)
  | 0x05 => some (specCountersClear c)
  | 0x07 => some (specPresetApply c)
  | _ =>
    match c, op with
    | .dev, 0x20 => some specSecStage
    | .dev, 0x21 => some specCertLoad
    | .dev, 0x22 => some specPolicyLoad
    | .dev, 0x23 => some specSessionBegin
    | .dev, 0x24 => some specSessionOpen
    | .dev, 0x25 => some specSessionClose
    | .dev, 0x26 => some specAttestGet
    | .dev, 0x27 => some (specOwnerBind { weak := [], stop := none })
    | .dev, 0x28 => some (specOwnerRevoke { weak := [], stop := none })
    | .dev, 0x29 => some specZeroise
    | .dev, 0x30 => some specFuseRead
    | .dev, 0x31 => some specFuseStatusGet
    | .dev, 0x32 => some (specFuseProgram { weak := [], stop := none })
    | .dev, 0x33 => some (specFuseRepairCommit { weak := [], stop := none })
    | .dev, 0x34 => some (specLifecycleSet { weak := [], stop := none })
    | .dev, 0x44 => some specLatencyGet
    | .dev, 0x80 => some specRegRead32
    | .dev, 0x81 => some specRegWrite32
    | .hrx, 0x12 => some specHrxMarginGet
    | .hrx, 0x13 => some specHrxPolaritySet
    | .hrx, 0x80 => some specHrxEqGet
    | .hrx, 0x81 => some specHrxEqForce
    | .hrx, 0x82 => some specHrxAdaptFreeze
    | .hrx, 0x83 => some specHrxAmMode
    | .hrx, 0x84 => some specHrxSlip
    | .htx, 0x10 => some specHtxFaultForce
    | .htx, 0x11 => some specHtxPolaritySet
    | .htx, 0x80 => some specHtxFirGet
    | .htx, 0x81 => some specHtxFirSet
    | .htx, 0x82 => some specHtxSquelch
    | .ltx, 0x10 => some specLtxSwingSet
    | .ltx, 0x11 => some specLtxPolaritySet
    | .ltx, 0x12 => some specLtxPrecodeSet
    | .ltx, 0x13 => some specLtxSquelch
    | .ltx, 0x81 => some specLtxShapeSet
    | .ltx, 0x83 => some specLtxPdSet
    | .ltx, 0x84 => some specLtxSkewSet
    | .lrx, 0x10 => some specLrxSetupSet
    | .lrx, 0x11 => some specLrxPolicySet
    | .lrx, 0x13 => some specLrxMarginGet
    | .lrx, 0x14 => some specLrxRetrain
    | .lrx, 0x15 => some specLrxAdaptStatusGet
    | .lrx, 0x16 => some specLrxXtStatusGet
    | .lrx, 0x17 => some specLrxAfeGet
    | .lrx, 0x80 => some specLrxAdaptSet
    | .lrx, 0x81 => some specLrxBankRead
    | .lrx, 0x82 => some specLrxBankWrite
    | .lrx, 0x83 => some specLrxBankSwap
    | .lrx, 0x84 => some specLrxFadeAbort
    | .lrx, 0x85 => some specLrxShadowTrial
    | .lrx, 0x86 => some specLrxAfeForce
    | .grp, 0x14 => some specGrpFrameStatusGet
    | .fec, 0x10 => some specFecHistGet
    | .fec, 0x11 => some specFecLaneGet
    | .seal, 0x11 => some specSealRehandshake
    | .seal, 0x80 => some specSealEpochAdvance
    | .seal, 0x81 => some specSealTagCorrupt
    | .cal, 0x11 => some specCalLaneForeground
    | .cal, 0x81 => some specCalTrimForce
    | .cal, 0x82 => some specCalElementRetire
    | .mon, 0x10 => some specMonTapSet
    | .mon, 0x11 => some specMonRead
    | .mon, 0x12 => some specMonThresholdSet
    | .mon, 0x13 => some specMonStreamSet
    | .mon, 0x80 => some specMonCaptureSet
    | .mon, 0x81 => some specMonCaptureArm
    | .mon, 0x82 => some specMonCaptureStatusGet
    | .mon, 0x83 => some specMonCaptureRead
    | .mon, 0x84 => some specMonCaptureAbort
    | .tst, 0x11 => some specTstCheckGet
    | .tst, 0x81 => some specTstInjectSet
    | .tst, 0x82 => some specTstSlip
    | _, _ => none

/-- The request of a deferred command. -/
def Deferred.req (d : Deferred) : Req :=
  { cls := d.cls, inst := d.cmd.inst.toNat, op := d.op.toNat, tag := d.cmd.tag, params := d.cmd.params, authed := d.authed }

/-- R69: a deferred command executes, or fails with the test that it waited for. -/
def State.deferredAnswer (s : State) (d : Deferred) (failed : Bool) : Answer :=
  match specOf d.cls d.op.toNat with
  | none => { st := s, status := .unitFailed }
  | some sp =>
    if failed then { st := s, status := .unitFailed }
    else match s.early sp d.req with
      | some f => { st := s, status := f.status }
      | none =>
        let x := s.runChecked sp d.req { d.cmd with flags := 0 }
        { x with st := if x.status = .ok then sp.late x.st d.req else x.st }

/-- R69, DEFERRED_DONE: a deferred command reports its outcome; its reply is discarded. -/
def State.runDeferred (failed : Bool) (s : State) (d : Deferred) : State :=
  let x := s.deferredAnswer d failed
  x.st.useFree.raise d.cls d.cmd.inst.toNat 0x04 (pk [(x.status.code, 8), (d.op.toNat, 16), (d.cmd.tag.toNat, 24)])

/-- R69, R358: the commands that waited for island `i`, in the order they were taken in: all of them when its test has
failed, else those that no other island under test holds back. -/
def State.flush (s : State) (i : Nat) (failed : Bool) : State :=
  let ready := fun (d : Deferred) => d.isl.contains i && (failed || !d.isl.any s.underTest)
  let t : State := { s with port := { s.port with deferred := s.port.deferred.filter fun d => !ready d } }
  (s.port.deferred.filter ready).foldl (State.runDeferred failed) t

/-! ## BIST_RUN (R353) -/

/-- R353: the lane unit of an island of a lane. -/
def bistUnit (i : Nat) : Option (Cls × Nat) :=
  if i < 16 then some (.lrx, i % 8)
  else if i < 32 then some (.ltx, i % 8)
  else if i < 48 then some (.hrx, i - 32)
  else if i < 64 then some (.htx, i - 48)
  else none

/-- R353: the islands that are tested in MAINT only. -/
def maintOnly (i : Nat) : Bool := decide (64 ≤ i) && decide (i < 72)

/-- R353, R367, R411: the unit whose state refuses a test of island `i`, the lowest class first. -/
def State.bistBlocked (s : State) (i : Nat) : Option Fail :=
  let state := s.power.dev == .maint || (s.power.dev == .active && !maintOnly i)
  let lane : Option Fail := match bistUnit i with
    | some u => require (s.admin u.1 u.2 != .up) (s.conflict u.1 u.2)
    | none => none
  let group : Option Fail :=
    if i < 32 then
      match s.groupOf (i % 8) with
      | some g => require (!s.isUp .grp g) (s.conflict .grp g)
      | none => none
    else none
  if (bistLoad i).1 = 0 then some (s.conflict .bist i)
  else (((require (state && !(i == 71 && s.inSession)) (s.devConflict (s.recOf .dev 0).reason)).or lane).or group).or
    (require (s.isUp .bist i) (s.conflict .bist i))

/-- R353, R367: check 13 of BIST_RUN. The remaining time is an estimate: a free value. -/
def bistBusy (s : State) (r : Req) : Option Fail :=
  if !s.islandOn r.inst then some { status := .unitOff }
  else require (!s.underTest r.inst) { status := .busySelftest, pay := [s.freeWord] }

/-- R354 step 1: the run is queued; a line transmitter of the island falls silent (R143, R145). -/
def State.bistQueued (s : State) (i : Nat) : State :=
  (s.setBist (bistIx i) fun b => { b with phase := .queued, abort := false, supply := false }).ltxSettle

/-- R353, BIST_RUN. -/
def specBistRun : CmdSpec :=
  { op := 0x10, avail := availRun, count := exactly 0, busy := bistBusy,
    cond := fun s r => if s.supplyHeld then some s.holdSupply else s.bistBlocked r.inst,
    act := change fun s r => s.bistQueued r.inst }

/-! ## The other commands (R358, R367, R368) -/

/-- R368: the result block. -/
def State.bistBlock (s : State) (i : Nat) : List Word :=
  let b := s.bist[bistIx i]
  s.statusBist i ++ [w32 (bistLoad i).1, b.last.signature] ++ lohi b.done

/-- R368, BIST_RESULT_GET. -/
def specBistResultGet : CmdSpec :=
  { op := 0x11, avail := availRun, count := exactly 0, act := answer fun s r => s.bistBlock r.inst }

/-- R367: the wait of a queued island ends without a result; a running one is to stop. -/
def State.bistAborted (s : State) (i : Nat) : State :=
  if s.bist[bistIx i].phase = .queued then (s.setBist (bistIx i) fun b => { b with phase := .idle }).flush i false
  else s.setBist (bistIx i) fun b => { b with abort := !b.supply }

/-- R367, BIST_ABORT. -/
def specBistAbort : CmdSpec :=
  { op := 0x12, avail := availRun, count := exactly 0,
    cond := fun s r =>
      let p := s.bist[bistIx r.inst].phase
      require (p == .queued || p == .running) (s.conflict .bist r.inst),
    act := change fun s r => s.bistAborted r.inst }

/-- R354 step 6, R274: the island is in use again: what waited for it applies, and its units start cold. -/
def State.inUse (s : State) (i : Nat) : State :=
  let lanes : List (Fin 48) := (fins 48).filter fun k => (calIslands k).contains i && (calIslands k).all s.islandOn
  let t := ((lanes.foldl State.applyForced s.roundOpens).traceCheck).sendersStart i
  if i = 73 then t.roundsResume else t

/-- R358: the hold ends without a PASS. -/
def State.overridden (s : State) (i : Nat) : State :=
  ((s.setBist (bistIx i) fun b => { b with held := false, overrode := true }).inUse i).raise .bist i 0x12 0

/-- R358, R367, BIST_OVERRIDE. -/
def specBistOverride : CmdSpec :=
  { op := 0x80, avail := availRun, count := exactly 0,
    cond := fun s r => require s.bist[bistIx r.inst].held (s.conflict .bist r.inst),
    act := change fun s r => s.overridden r.inst }

/-! ## The runs (R354 to R357) -/

/-- R355: the islands that count against the limits. -/
def State.isolatedList (s : State) : List (Fin 78) := (fins 78).filter fun (i : Fin 78) => s.isolated i

/-- R173, R355: the queued island may start: none below it is queued, the limits of 8 islands and 4.0 W hold, the last start
was 20 µs ago, no supply is low or recovering, and no fade runs on the line lane. -/
def State.mayStart (s : State) (i : Fin 78) : Bool :=
  s.mcRuns && s.bist[i].phase == .queued && !s.supplyHeld && s.islandOn 76 &&
    (fins 78).all (fun (j : Fin 78) => decide (i ≤ j) || s.bist[j].phase != .queued) &&
    decide (s.isolatedList.length < 8) &&
    decide ((s.isolatedList.map fun j => (bistLoad j).2).foldl (· + ·) 0 + (bistLoad i).2 ≤ 4000) &&
    s.bist.toList.all (fun b => b.started.all fun t => decide (t + 20000 ≤ s.now)) &&
    (decide (16 ≤ i.val) || s.lrx[lineLane (i.val % 8)].fade.isNone)

/-- R277: calibration steps that the test of an island voids; a test of CC voids the whole round. -/
def State.bistVoids (s : State) (i : Fin 78) : State :=
  if i.val = 73 then s.voidAll 3
  else (fins 48).foldl (fun t (k : Fin 48) => if (calIslands k).contains i then t.voidLane k 3 else t) s

/-- R354 step 3, R182, R291, R305: the island is isolated: what it held is lost; its lane will acquire cold. A challenge
(R229) dies with SC. -/
def State.isolate (s : State) (i : Fin 78) : State :=
  let t := ((s.bistVoids i).capturesGone [i] 1).lost i
  let u : State := { t with
    tst := vmapIx (fun k x => if (unitIslands .tst k).contains i then { x with locked := false } else x) t.tst
    sec := if i.val = 71 then { t.sec with challenge := none } else t.sec }
  u.setBist i fun b => { b with phase := .running, started := some s.now }

/-- R355, BIST_STARTED. -/
def State.bistStarts (s : State) (i : Fin 78) : State :=
  if s.mayStart i then (s.isolate i).raise .bist i 0x11 (w32 (bistLoad i).1) else s

/-- R357: how a run of `applied` patterns with a signature ends; none where it goes on. -/
def State.bistEnd (s : State) (i : Fin 78) (applied : Nat) (signature : Word) : Option BistEnd :=
  let b := s.bist[i]
  let total := (bistLoad i).1
  let fits := decide (signature = Config.bistSignature i applied)
  if total < applied then none
  else if b.supply || b.abort then
    some { result := 3, partialOk := applied != 0 && applied % 4096 == 0 && fits, cause := if b.supply then 1 else 2
           patterns := applied, signature := signature }
  else if applied = total then
    some { result := if fits then 1 else 2, partialOk := false, cause := 0, patterns := applied, signature := signature }
  else none

/-- R354, R356, R377: `applied` patterns can have been applied by now: the run time of a full run, and the pauses after each
4,096 patterns, at a stage that has held since the start. -/
def State.bistPaused (s : State) (i : Fin 78) (applied : Nat) : Bool :=
  let run := if applied = (bistLoad i).1 then bistRunNs i else 0
  match s.bist[i].started with
  | some t => decide (t + run + (if t < s.thm.changed then 0 else applied / 4096 * s.pauseNs 1 4) ≤ s.now)
  | none => true

/-- R354 step 5, R357, BIST_PATTERNS_END: the patterns end and re-initialisation begins. -/
def State.patternsEnd (s : State) (i : Fin 78) (applied : Nat) (signature : Word) : State :=
  if s.mcRuns && s.bist[i].phase == .running && s.bistPaused i applied then
    match s.bistEnd i applied signature with
    | some e => s.setBist i fun b => { b with phase := .reinit, next := e, abort := false, supply := false }
    | none => s
  else s

/-- R326: the counters of a run that has ended. -/
def State.bistCounted (s : State) (i : Fin 78) (result : Nat) : State :=
  (s.count .bist i 0).count .bist i (Fin.ofNat 9 result)

/-- R25, R358, R359: the run is recorded: a PASS ends the hold and FAILED, another result holds an island that answers;
soft repairs of its memories take effect. -/
def State.bistRecorded (s : State) (i : Fin 78) (answers : Bool) (repairs : List Word) : State :=
  let e := s.bist[i].next
  let pass := e.result == 1
  let t := s.setBist i fun b =>
    { b with phase := .idle, last := e, done := s.now, held := !pass && answers, overrode := b.overrode && !pass }
  let made := (repairs.filter fun w => tagKind w == 3 && !s.repairs.contains w).eraseDups
  { t.withRepairs made with
    repairs := s.repairs ++ made
    dom := { t.dom with failed := if pass then t.dom.failed &&& ~~~(1#78 <<< i.val) else t.dom.failed } }

/-- R341: a re-initialised core is a reset participant: CC and SC. -/
def State.coreReset (s : State) (i : Fin 78) : State :=
  if i.val = 71 then s.partyReset 4 else if i.val = 73 then s.partyReset 3 else s

/-- R25, R354 step 5 and 6, BIST_DONE. -/
def State.bistDone (s : State) (i : Fin 78) (answers : Bool) (repairs : List Word) : State :=
  if s.mcRuns && s.bist[i].phase == .reinit then
    let e := s.bist[i].next
    let t := ((((s.bistRecorded i answers repairs).bistCounted i e.result).coreReset i).islandStarts i).raise .bist i 0x10
      (pk [(e.result, 0), (b2n e.partialOk, 4), (e.cause, 8)])
    let good := answers && e.result == 1
    let u := if !answers then t.islandFails i else if good then t.inUse i else t
    u.flush i (!good)
  else s

/-! ## Rows -/

/-- R353, BIST_RUN. -/
def execBistRun (dt : Nat) (c : Cmd) (s : State) := done (hostRow dt specBistRun .bist c s)
/-- R368, BIST_RESULT_GET. -/
def execBistResultGet (dt : Nat) (c : Cmd) (s : State) := done (hostRow dt specBistResultGet .bist c s)
/-- R367, BIST_ABORT. -/
def execBistAbort (dt : Nat) (c : Cmd) (s : State) := done (hostRow dt specBistAbort .bist c s)
/-- R358, BIST_OVERRIDE. -/
def execBistOverride (dt : Nat) (c : Cmd) (s : State) := done (hostRow dt specBistOverride .bist c s)
/-- R355, BIST_STARTED. -/
def execBistStarted (dt : Nat) (i : Fin 78) (s : State) := done (eventRow dt (·.bistStarts i) s)
/-- R357, BIST_PATTERNS_END. -/
def execBistPatternsEnd (dt : Nat) (i : Fin 78) (applied : Nat) (signature : Word) (s : State) :=
  done (eventRow dt (·.patternsEnd i applied signature) s)
/-- R354, BIST_DONE. -/
def execBistDone (dt : Nat) (i : Fin 78) (answers : Bool) (repairs : List Word) (s : State) :=
  done (eventRow dt (·.bistDone i answers repairs) s)

end Sys2Proof.Machine
end

