-- ==== Sys2Proof/Machine/Dispatch.lean ====
section
/-! DEFINITION. One arm per row of the opcode table: each is one call of the row's meaning. -/

namespace Sys2Proof.Machine

def exec (i : Instr) (s : State) : Host.Outcome State Fault Refusal :=
  match i with
  | .powerOn dt => Sys2Proof.Machine.execPowerOn dt s
  | .powerRemoved dt => Sys2Proof.Machine.execPowerRemoved dt s
  | .deviceReset dt => Sys2Proof.Machine.execDeviceReset dt s
  | .resetRelease dt => Sys2Proof.Machine.execResetRelease dt s
  | .bootRomComplete dt result => Sys2Proof.Machine.execBootRomComplete dt result s
  | .supplyReset dt rails => Sys2Proof.Machine.execSupplyReset dt rails s
  | .supplyResetRelease dt => Sys2Proof.Machine.execSupplyResetRelease dt s
  | .tamperNLow dt widthNs => Sys2Proof.Machine.execTamperNLow dt widthNs s
  | .trigInEdge dt rising => Sys2Proof.Machine.execTrigInEdge dt rising s
  | .fuseSupply dt mv => Sys2Proof.Machine.execFuseSupply dt mv s
  | .analogShutdown dt => Sys2Proof.Machine.execAnalogShutdown dt s
  | .packetWrite dt bytes => Sys2Proof.Machine.execPacketWrite dt bytes s
  | .replyRead dt n => Sys2Proof.Machine.execReplyRead dt n s
  | .fastStatus dt n => Sys2Proof.Machine.execFastStatus dt n s
  | .unknownTransaction dt code n => Sys2Proof.Machine.execUnknownTransaction dt code n s
  | .statusGet dt cls c => Sys2Proof.Machine.execStatusGet dt cls c s
  | .infoGet dt cls c => Sys2Proof.Machine.execInfoGet dt cls c s
  | .adminSet dt cls c => Sys2Proof.Machine.execAdminSet dt cls c s
  | .stateGet dt cls c => Sys2Proof.Machine.execStateGet dt cls c s
  | .countersGet dt cls c => Sys2Proof.Machine.execCountersGet dt cls c s
  | .countersClear dt cls c => Sys2Proof.Machine.execCountersClear dt cls c s
  | .eventMaskSet dt cls c => Sys2Proof.Machine.execEventMaskSet dt cls c s
  | .presetApply dt cls c => Sys2Proof.Machine.execPresetApply dt cls c s
  | .groupDefine dt cls c => Sys2Proof.Machine.execGroupDefine dt cls c s
  | .groupGet dt cls c => Sys2Proof.Machine.execGroupGet dt cls c s
  | .eventRead dt c => Sys2Proof.Machine.execEventRead dt c s
  | .eventConfig dt c => Sys2Proof.Machine.execEventConfig dt c s
  | .regRead32 dt c => Sys2Proof.Machine.execRegRead32 dt c s
  | .regWrite32 dt c => Sys2Proof.Machine.execRegWrite32 dt c s
  | .devReset dt c => Sys2Proof.Machine.execDevReset dt c s
  | .fwLoadBegin dt c => Sys2Proof.Machine.execFwLoadBegin dt c s
  | .fwLoadData dt c => Sys2Proof.Machine.execFwLoadData dt c s
  | .fwLoadEnd dt c => Sys2Proof.Machine.execFwLoadEnd dt c s
  | .rollbackStep dt env => Sys2Proof.Machine.execRollbackStep dt env s
  | .personalitySet dt c => Sys2Proof.Machine.execPersonalitySet dt c s
  | .personalityList dt c => Sys2Proof.Machine.execPersonalityList dt c s
  | .configDone dt c => Sys2Proof.Machine.execConfigDone dt c s
  | .calForegroundDone dt lane trims => Sys2Proof.Machine.execCalForegroundDone dt lane trims s
  | .devStateSet dt c => Sys2Proof.Machine.execDevStateSet dt c s
  | .latencyGet dt c => Sys2Proof.Machine.execLatencyGet dt c s
  | .secStage dt c => Sys2Proof.Machine.execSecStage dt c s
  | .certLoad dt c => Sys2Proof.Machine.execCertLoad dt c s
  | .policyLoad dt c => Sys2Proof.Machine.execPolicyLoad dt c s
  | .sessionBegin dt c => Sys2Proof.Machine.execSessionBegin dt c s
  | .challengeExpiry dt => Sys2Proof.Machine.execChallengeExpiry dt s
  | .sessionOpen dt c => Sys2Proof.Machine.execSessionOpen dt c s
  | .sessionClose dt c => Sys2Proof.Machine.execSessionClose dt c s
  | .attestGet dt c => Sys2Proof.Machine.execAttestGet dt c s
  | .ownerBind dt c env => Sys2Proof.Machine.execOwnerBind dt c env s
  | .ownerRevoke dt c env => Sys2Proof.Machine.execOwnerRevoke dt c env s
  | .zeroise dt c => Sys2Proof.Machine.execZeroise dt c s
  | .fuseRead dt c => Sys2Proof.Machine.execFuseRead dt c s
  | .fuseStatusGet dt c => Sys2Proof.Machine.execFuseStatusGet dt c s
  | .fuseProgram dt c env => Sys2Proof.Machine.execFuseProgram dt c env s
  | .fuseRepairCommit dt c env => Sys2Proof.Machine.execFuseRepairCommit dt c env s
  | .lifecycleSet dt c env => Sys2Proof.Machine.execLifecycleSet dt c env s
  | .boardTableLoad dt c => Sys2Proof.Machine.execBoardTableLoad dt c s
  | .boardTableInfo dt c => Sys2Proof.Machine.execBoardTableInfo dt c s
  | .hrxMarginGet dt c => Sys2Proof.Machine.execHrxMarginGet dt c s
  | .hrxPolaritySet dt c => Sys2Proof.Machine.execHrxPolaritySet dt c s
  | .hrxEqGet dt c => Sys2Proof.Machine.execHrxEqGet dt c s
  | .hrxEqForce dt c => Sys2Proof.Machine.execHrxEqForce dt c s
  | .hrxAdaptFreeze dt c => Sys2Proof.Machine.execHrxAdaptFreeze dt c s
  | .hrxAmMode dt c => Sys2Proof.Machine.execHrxAmMode dt c s
  | .hrxSlip dt c => Sys2Proof.Machine.execHrxSlip dt c s
  | .htxFaultForce dt c => Sys2Proof.Machine.execHtxFaultForce dt c s
  | .htxPolaritySet dt c => Sys2Proof.Machine.execHtxPolaritySet dt c s
  | .htxFirGet dt c => Sys2Proof.Machine.execHtxFirGet dt c s
  | .htxFirSet dt c => Sys2Proof.Machine.execHtxFirSet dt c s
  | .htxSquelch dt c => Sys2Proof.Machine.execHtxSquelch dt c s
  | .ltxSwingSet dt c => Sys2Proof.Machine.execLtxSwingSet dt c s
  | .ltxPolaritySet dt c => Sys2Proof.Machine.execLtxPolaritySet dt c s
  | .ltxPrecodeSet dt c => Sys2Proof.Machine.execLtxPrecodeSet dt c s
  | .ltxSquelch dt c => Sys2Proof.Machine.execLtxSquelch dt c s
  | .ltxConfigGet dt c => Sys2Proof.Machine.execLtxConfigGet dt c s
  | .ltxShapeGet dt c => Sys2Proof.Machine.execLtxShapeGet dt c s
  | .ltxShapeSet dt c => Sys2Proof.Machine.execLtxShapeSet dt c s
  | .ltxPdGet dt c => Sys2Proof.Machine.execLtxPdGet dt c s
  | .ltxPdSet dt c => Sys2Proof.Machine.execLtxPdSet dt c s
  | .ltxSkewSet dt c => Sys2Proof.Machine.execLtxSkewSet dt c s
  | .lrxSetupSet dt c => Sys2Proof.Machine.execLrxSetupSet dt c s
  | .lrxPolicySet dt c => Sys2Proof.Machine.execLrxPolicySet dt c s
  | .lrxConfigGet dt c => Sys2Proof.Machine.execLrxConfigGet dt c s
  | .lrxMarginGet dt c => Sys2Proof.Machine.execLrxMarginGet dt c s
  | .lrxRetrain dt c => Sys2Proof.Machine.execLrxRetrain dt c s
  | .lrxAdaptStatusGet dt c => Sys2Proof.Machine.execLrxAdaptStatusGet dt c s
  | .lrxXtStatusGet dt c => Sys2Proof.Machine.execLrxXtStatusGet dt c s
  | .lrxAfeGet dt c => Sys2Proof.Machine.execLrxAfeGet dt c s
  | .lrxAdaptSet dt c => Sys2Proof.Machine.execLrxAdaptSet dt c s
  | .lrxBankRead dt c => Sys2Proof.Machine.execLrxBankRead dt c s
  | .lrxBankWrite dt c => Sys2Proof.Machine.execLrxBankWrite dt c s
  | .lrxBankSwap dt c => Sys2Proof.Machine.execLrxBankSwap dt c s
  | .lrxFadeAbort dt c => Sys2Proof.Machine.execLrxFadeAbort dt c s
  | .lrxShadowTrial dt c => Sys2Proof.Machine.execLrxShadowTrial dt c s
  | .lrxAfeForce dt c => Sys2Proof.Machine.execLrxAfeForce dt c s
  | .grpTilingSet dt c => Sys2Proof.Machine.execGrpTilingSet dt c s
  | .grpXbarSet dt c => Sys2Proof.Machine.execGrpXbarSet dt c s
  | .grpModeSet dt c => Sys2Proof.Machine.execGrpModeSet dt c s
  | .grpConfigGet dt c => Sys2Proof.Machine.execGrpConfigGet dt c s
  | .grpFrameStatusGet dt c => Sys2Proof.Machine.execGrpFrameStatusGet dt c s
  | .fecHistGet dt c => Sys2Proof.Machine.execFecHistGet dt c s
  | .fecLaneGet dt c => Sys2Proof.Machine.execFecLaneGet dt c s
  | .fecMarginSet dt c => Sys2Proof.Machine.execFecMarginSet dt c s
  | .sealInfoGet dt c => Sys2Proof.Machine.execSealInfoGet dt c s
  | .sealRehandshake dt c => Sys2Proof.Machine.execSealRehandshake dt c s
  | .sealWaypostSend dt c => Sys2Proof.Machine.execSealWaypostSend dt c s
  | .sealWaypostRead dt c => Sys2Proof.Machine.execSealWaypostRead dt c s
  | .sealEpochAdvance dt c => Sys2Proof.Machine.execSealEpochAdvance dt c s
  | .sealTagCorrupt dt c => Sys2Proof.Machine.execSealTagCorrupt dt c s
  | .calLaneGet dt c => Sys2Proof.Machine.execCalLaneGet dt c s
  | .calLaneForeground dt c => Sys2Proof.Machine.execCalLaneForeground dt c s
  | .calTrimRead dt c => Sys2Proof.Machine.execCalTrimRead dt c s
  | .calTrimForce dt c => Sys2Proof.Machine.execCalTrimForce dt c s
  | .calElementRetire dt c => Sys2Proof.Machine.execCalElementRetire dt c s
  | .calFreeze dt c => Sys2Proof.Machine.execCalFreeze dt c s
  | .monTapSet dt c => Sys2Proof.Machine.execMonTapSet dt c s
  | .monRead dt c => Sys2Proof.Machine.execMonRead dt c s
  | .monThresholdSet dt c => Sys2Proof.Machine.execMonThresholdSet dt c s
  | .monStreamSet dt c => Sys2Proof.Machine.execMonStreamSet dt c s
  | .monHkConfig dt c => Sys2Proof.Machine.execMonHkConfig dt c s
  | .monHkRead dt c => Sys2Proof.Machine.execMonHkRead dt c s
  | .monCaptureSet dt c => Sys2Proof.Machine.execMonCaptureSet dt c s
  | .monCaptureArm dt c => Sys2Proof.Machine.execMonCaptureArm dt c s
  | .monCaptureStatusGet dt c => Sys2Proof.Machine.execMonCaptureStatusGet dt c s
  | .monCaptureRead dt c => Sys2Proof.Machine.execMonCaptureRead dt c s
  | .monCaptureAbort dt c => Sys2Proof.Machine.execMonCaptureAbort dt c s
  | .tstConfigSet dt c => Sys2Proof.Machine.execTstConfigSet dt c s
  | .tstCheckGet dt c => Sys2Proof.Machine.execTstCheckGet dt c s
  | .tstUserPatternSet dt c => Sys2Proof.Machine.execTstUserPatternSet dt c s
  | .tstLoopSet dt c => Sys2Proof.Machine.execTstLoopSet dt c s
  | .tstInjectSet dt c => Sys2Proof.Machine.execTstInjectSet dt c s
  | .tstSlip dt c => Sys2Proof.Machine.execTstSlip dt c s
  | .perfSet dt c => Sys2Proof.Machine.execPerfSet dt c s
  | .perfRead dt c => Sys2Proof.Machine.execPerfRead dt c s
  | .perfLoad dt c => Sys2Proof.Machine.execPerfLoad dt c s
  | .perfSat dt u incr => Sys2Proof.Machine.execPerfSat dt u incr s
  | .perfWrapped dt u incr => Sys2Proof.Machine.execPerfWrapped dt u incr s
  | .mbxSend dt c => Sys2Proof.Machine.execMbxSend dt c s
  | .mbxReceive dt c => Sys2Proof.Machine.execMbxReceive dt c s
  | .mbxDoorbellGet dt c => Sys2Proof.Machine.execMbxDoorbellGet dt c s
  | .mbxHostReset dt c => Sys2Proof.Machine.execMbxHostReset dt c s
  | .mbxLegacyWrite dt c => Sys2Proof.Machine.execMbxLegacyWrite dt c s
  | .mbxLegacyRead dt c => Sys2Proof.Machine.execMbxLegacyRead dt c s
  | .mbxPeek dt c => Sys2Proof.Machine.execMbxPeek dt c s
  | .legacyMsg dt => Sys2Proof.Machine.execLegacyMsg dt s
  | .mailboxServiceAnswer dt channel log => Sys2Proof.Machine.execMailboxServiceAnswer dt channel log s
  | .memWinRead dt c meets => Sys2Proof.Machine.execMemWinRead dt c meets s
  | .memWinWrite dt c meets => Sys2Proof.Machine.execMemWinWrite dt c meets s
  | .memTestStatusGet dt c => Sys2Proof.Machine.execMemTestStatusGet dt c s
  | .memTestSet dt c => Sys2Proof.Machine.execMemTestSet dt c s
  | .memTestRun dt c => Sys2Proof.Machine.execMemTestRun dt c s
  | .memTestDone dt => Sys2Proof.Machine.execMemTestDone dt s
  | .memSliceTest dt badRows busyNs => Sys2Proof.Machine.execMemSliceTest dt badRows busyNs s
  | .bistRun dt c => Sys2Proof.Machine.execBistRun dt c s
  | .bistResultGet dt c => Sys2Proof.Machine.execBistResultGet dt c s
  | .bistAbort dt c => Sys2Proof.Machine.execBistAbort dt c s
  | .bistOverride dt c => Sys2Proof.Machine.execBistOverride dt c s
  | .bistStarted dt u => Sys2Proof.Machine.execBistStarted dt u s
  | .bistPatternsEnd dt u applied signature => Sys2Proof.Machine.execBistPatternsEnd dt u applied signature s
  | .bistDone dt u answers repairs => Sys2Proof.Machine.execBistDone dt u answers repairs s
  | .thmRead dt c => Sys2Proof.Machine.execThmRead dt c s
  | .thmStageGet dt c => Sys2Proof.Machine.execThmStageGet dt c s
  | .thmDomainSet dt c => Sys2Proof.Machine.execThmDomainSet dt c s
  | .thmDomainGet dt c => Sys2Proof.Machine.execThmDomainGet dt c s
  | .thmAvsSet dt c => Sys2Proof.Machine.execThmAvsSet dt c s
  | .thmAvsGet dt c => Sys2Proof.Machine.execThmAvsGet dt c s
  | .thmAvsForce dt c => Sys2Proof.Machine.execThmAvsForce dt c s
  | .extest dt boundary => Sys2Proof.Machine.execExtest dt boundary s
  | .idcode dt => Sys2Proof.Machine.execIdcode dt s
  | .samplePreload dt balls => Sys2Proof.Machine.execSamplePreload dt balls s
  | .clamp dt => Sys2Proof.Machine.execClamp dt s
  | .highz dt => Sys2Proof.Machine.execHighz dt s
  | .extestPulse dt boundary => Sys2Proof.Machine.execExtestPulse dt boundary s
  | .extestTrain dt boundary => Sys2Proof.Machine.execExtestTrain dt boundary s
  | .debugAccess dt code => Sys2Proof.Machine.execDebugAccess dt code s
  | .bypass dt code => Sys2Proof.Machine.execBypass dt code s
  | .testLogicReset dt => Sys2Proof.Machine.execTestLogicReset dt s
  | .islandHeartbeat dt => Sys2Proof.Machine.execIslandHeartbeat dt s
  | .islandSilent dt u => Sys2Proof.Machine.execIslandSilent dt u s
  | .mcSilent dt => Sys2Proof.Machine.execMcSilent dt s
  | .stateMismatch dt cls inst => Sys2Proof.Machine.execStateMismatch dt cls inst s
  | .signalDetected dt lane => Sys2Proof.Machine.execSignalDetected dt lane s
  | .signalLost dt lane => Sys2Proof.Machine.execSignalLost dt lane s
  | .hrxAcquire dt n m => Sys2Proof.Machine.execHrxAcquire dt n m s
  | .hrxPolarityTry dt n => Sys2Proof.Machine.execHrxPolarityTry dt n s
  | .amLockLost dt n bad => Sys2Proof.Machine.execAmLockLost dt n bad s
  | .hmiUpdate dt n m => Sys2Proof.Machine.execHmiUpdate dt n m s
  | .hmiLow dt n => Sys2Proof.Machine.execHmiLow dt n s
  | .hmiRestored dt n => Sys2Proof.Machine.execHmiRestored dt n s
  | .txClipping dt l clips => Sys2Proof.Machine.execTxClipping dt l clips s
  | .txClipCleared dt l clips => Sys2Proof.Machine.execTxClipCleared dt l clips s
  | .agcUpdate dt l m => Sys2Proof.Machine.execAgcUpdate dt l m s
  | .laneOverdriven dt l => Sys2Proof.Machine.execLaneOverdriven dt l s
  | .timingLockLost dt lane range => Sys2Proof.Machine.execTimingLockLost dt lane range s
  | .lmiUpdate dt l m => Sys2Proof.Machine.execLmiUpdate dt l m s
  | .lmiLow dt l => Sys2Proof.Machine.execLmiLow dt l s
  | .lmiRestored dt l => Sys2Proof.Machine.execLmiRestored dt l s
  | .lrxAcquire dt l m => Sys2Proof.Machine.execLrxAcquire dt l m s
  | .lrxWarmAcquire dt l m => Sys2Proof.Machine.execLrxWarmAcquire dt l m s
  | .lrxPolarityTry dt l => Sys2Proof.Machine.execLrxPolarityTry dt l s
  | .neighbourDropped dt l hi cause offset => Sys2Proof.Machine.execNeighbourDropped dt l hi cause offset s
  | .adaptRoundStart dt l => Sys2Proof.Machine.execAdaptRoundStart dt l s
  | .adaptTrialStart dt l bank => Sys2Proof.Machine.execAdaptTrialStart dt l bank s
  | .adaptDecision dt l m => Sys2Proof.Machine.execAdaptDecision dt l m s
  | .hostTrialEnd dt l m => Sys2Proof.Machine.execHostTrialEnd dt l m s
  | .fadeStep dt l => Sys2Proof.Machine.execFadeStep dt l s
  | .innerWindow dt l count => Sys2Proof.Machine.execInnerWindow dt l count s
  | .innerLockLost dt l => Sys2Proof.Machine.execInnerLockLost dt l s
  | .periodStart dt g m => Sys2Proof.Machine.execPeriodStart dt g m s
  | .hostCodewordReceived dt g m => Sys2Proof.Machine.execHostCodewordReceived dt g m s
  | .lineCodewordReceived dt l m => Sys2Proof.Machine.execLineCodewordReceived dt l m s
  | .milestoneReceived dt l m => Sys2Proof.Machine.execMilestoneReceived dt l m s
  | .tagFailLimitReached dt g => Sys2Proof.Machine.execTagFailLimitReached dt g s
  | .milestoneMissed dt l => Sys2Proof.Machine.execMilestoneMissed dt l s
  | .peerLost dt g => Sys2Proof.Machine.execPeerLost dt g s
  | .clockLocked dt g freq => Sys2Proof.Machine.execClockLocked dt g freq s
  | .freqRange dt g offset => Sys2Proof.Machine.execFreqRange dt g offset s
  | .rsMarginWindow dt g => Sys2Proof.Machine.execRsMarginWindow dt g s
  | .rsMarginLow dt g => Sys2Proof.Machine.execRsMarginLow dt g s
  | .rsMarginRestored dt g => Sys2Proof.Machine.execRsMarginRestored dt g s
  | .hello dt g msg => Sys2Proof.Machine.execHello dt g msg s
  | .handshakeStart dt g => Sys2Proof.Machine.execHandshakeStart dt g s
  | .keyshareI dt g msg => Sys2Proof.Machine.execKeyshareI dt g msg s
  | .keyshareR dt g msg => Sys2Proof.Machine.execKeyshareR dt g msg s
  | .finishI dt g msg => Sys2Proof.Machine.execFinishI dt g msg s
  | .confirm dt g msg => Sys2Proof.Machine.execConfirm dt g msg s
  | .nack dt g msg => Sys2Proof.Machine.execNack dt g msg s
  | .abort dt g msg => Sys2Proof.Machine.execAbort dt g msg s
  | .fragmentWaitExpiry dt g => Sys2Proof.Machine.execFragmentWaitExpiry dt g s
  | .handshakeTimeout dt g => Sys2Proof.Machine.execHandshakeTimeout dt g s
  | .handshakeRetry dt g => Sys2Proof.Machine.execHandshakeRetry dt g s
  | .epochAnnounce dt g => Sys2Proof.Machine.execEpochAnnounce dt g s
  | .epochKeyDerived dt g => Sys2Proof.Machine.execEpochKeyDerived dt g s
  | .epochWithdrawn dt g => Sys2Proof.Machine.execEpochWithdrawn dt g s
  | .epochTxSwitched dt g => Sys2Proof.Machine.execEpochTxSwitched dt g s
  | .calRoundCommit dt trims => Sys2Proof.Machine.execCalRoundCommit dt trims s
  | .calOccupancyWindow dt lane shares => Sys2Proof.Machine.execCalOccupancyWindow dt lane shares s
  | .calFed dt lane => Sys2Proof.Machine.execCalFed dt lane s
  | .testSourceConnect dt lane => Sys2Proof.Machine.execTestSourceConnect dt lane s
  | .calrefRestored dt => Sys2Proof.Machine.execCalrefRestored dt s
  | .captureFillComplete dt u samples offset => Sys2Proof.Machine.execCaptureFillComplete dt u samples offset s
  | .captureDone dt u => Sys2Proof.Machine.execCaptureDone dt u s
  | .monitorOutput dt u v => Sys2Proof.Machine.execMonitorOutput dt u v s
  | .monitorRecordWrite dt u => Sys2Proof.Machine.execMonitorRecordWrite dt u s
  | .chkLocked dt u => Sys2Proof.Machine.execChkLocked dt u s
  | .chkLockLost dt u m => Sys2Proof.Machine.execChkLockLost dt u m s
  | .injection dt u => Sys2Proof.Machine.execInjection dt u s
  | .hkRound dt readings => Sys2Proof.Machine.execHkRound dt readings s
  | .throttleStepDown dt => Sys2Proof.Machine.execThrottleStepDown dt s
  | .sensorRestored dt u => Sys2Proof.Machine.execSensorRestored dt u s
  | .digitalShutdown dt u => Sys2Proof.Machine.execDigitalShutdown dt u s
  | .supplyWarningStart dt rail reading => Sys2Proof.Machine.execSupplyWarningStart dt rail reading s
  | .supplyWarn dt => Sys2Proof.Machine.execSupplyWarn dt s
  | .supplyEpisodeEnd dt => Sys2Proof.Machine.execSupplyEpisodeEnd dt s
  | .supplyRecovered dt => Sys2Proof.Machine.execSupplyRecovered dt s
  | .avsEvaluate dt fails status => Sys2Proof.Machine.execAvsEvaluate dt fails status s
  | .avsHostChangeComplete dt => Sys2Proof.Machine.execAvsHostChangeComplete dt s
  | .domainPowered dt d => Sys2Proof.Machine.execDomainPowered dt d s
  | .domainNeedEndOff dt d => Sys2Proof.Machine.execDomainNeedEndOff dt d s
  | .peerFrequencyInRange dt g offset => Sys2Proof.Machine.execPeerFrequencyInRange dt g offset s
  | .collisionIndicationEnd dt => Sys2Proof.Machine.execCollisionIndicationEnd dt s
  | .avsReadback dt mv => Sys2Proof.Machine.execAvsReadback dt mv s
  | .patternStart dt u m => Sys2Proof.Machine.execPatternStart dt u m s
  | .overRangeSample dt u => Sys2Proof.Machine.execOverRangeSample dt u s

end Sys2Proof.Machine
end

