-- ==== Sys2Proof/Safety.lean ====
section
/-! DEFINITION. What a well-kept state is, when a host command is served, and what a row answers and leaves unchanged, in the
terms that the statements use. -/

namespace Sys2Proof.Machine

/-- The scratchpad keeps its canonical form, and no more than four packets and replies fill the queue (R46). -/
abbrev State.kept (s : State) : Prop :=
  Memory.wf s.mem.cells = true ∧ s.port.replies.length + s.port.waiting.length ≤ 4

/-- The row answers a next state, of which `P` holds. -/
def Gives (i : Instr) (s : State) (P : State → Prop) : Prop := ∃ t, exec i s = .next t ∧ P t

/-- R41: a command packet without an AUTH trailer. -/
def cmdTo (inst : Nat) (tag flags : Byte) (params : List Word) : Cmd :=
  { inst := BitVec.ofNat 12 inst, tag := tag, flags := flags, params := params, auth := none }

/-- R55, R232, R325: what check 10 of R49 asks of a command without a trailer. -/
inductive Level where
  | basic | expert | counter | secure
  deriving DecidableEq, Repr

/-- R55, R97, R227, R232, R325: such a command passes check 10, and the lifecycle part of check 11. -/
abbrev State.allows (s : State) : Level → Prop
  | .basic => True
  | .expert => s.owned = false ∨ s.permit 1 = true
  | .counter => s.owned = false ∨ s.permit 0 = true
  | .secure => s.owned = false ∧ (s.lifecycle == 3) = false

/-- R36, R38, R46, R404: a packet that arrives is taken in, and is the next to execute. -/
abbrev State.takes (s : State) : Prop :=
  s.ready = true ∧ s.scanHolds = false ∧ s.port.waiting = [] ∧ s.port.replies.length < 4

/-- R36, R38: the state in which a command that the port takes executes. -/
def State.taken (s : State) (dt : Nat) (p : Packet) : State := (s.advance dt).takeIn (.good p)

/-- R49, check 13: the islands are not FAILED, not held and not under self-test; they may be off (R144). -/
abbrev State.sound (s : State) (isl : List Nat) : Prop :=
  ∀ i ∈ isl, s.islandFailed i = false ∧ s.islandHeld i = false ∧ s.underTest i = false

/-- R49, check 13: the islands are on as well. -/
abbrev State.workable (s : State) (isl : List Nat) : Prop := (∀ i ∈ isl, s.islandOn i = true) ∧ s.sound isl

/-- The port takes a command, firmware runs (R82), its level is open (R55), its islands are usable. -/
abbrev State.serves (s : State) (k : Level) (isl : List Nat) : Prop :=
  s.takes ∧ s.anyRun = true ∧ s.allows k ∧ s.workable isl

/-- R42, R43: the reply to a command without a trailer, to a single target: its status, its payload, the device time. -/
def replyIs (w : List Word) (now : Nat) (c : Cls) (inst : Nat) (tag : Byte) (status : Nat) (pay : List Word) : Prop :=
  ∃ flags < 256,
    let body := pk [(inst + 4096 * clsCode c, 0), (status, 16), (0x5C, 24)] ::
      pk [(pay.length, 0), (flags, 16), (tag.toNat, 24)] :: lohi now ++ pay
    w = body ++ [crcWords body]

/-- R42, R44: of the port, the row changes the replies alone: one more reply, or none where NO_REPLY is set and the status
is OK. -/
def Replies (s t : State) (cmd : Cmd) (c : Cls) (status : Nat) (pay : List Word) : Prop :=
  if status = 0 ∧ cmd.flags.getLsbD 1 = true then t.port = s.port
  else ∃ w, replyIs w t.now c cmd.inst.toNat cmd.tag status pay ∧ t.port = { s.port with replies := s.port.replies ++ [w] }

/-- `dt` ns pass; beyond that, the port, and what MC and the counting hardware keep (records, events, counters, captures that
an event triggers, the model's counter of free values), the state is `e`. -/
def Leaves (dt : Nat) (e t : State) : Prop :=
  t = { e with now := e.now + dt, obs := t.obs, stats := t.stats, mon := t.mon, port := t.port, free := t.free }

/-- The same of a row that does not touch the port. -/
def Becomes (dt : Nat) (e t : State) : Prop := Leaves dt e t ∧ t.port = e.port

/-- The state once `dt` ns have passed. -/
def State.later (s : State) (dt : Nat) : State := { s with now := s.now + dt }

/-- A host row whose command goes to one unit of class `c`: it answers a next state, which is `e` as `Leaves` says, and
replies OK with `pay`; both are given as functions of the state in which the row's time has passed. -/
def Does (row : Nat → Cmd → Instr) (c : Cls) (s : State) (dt : Nat) (k : Cmd) (e : State → State)
    (pay : State → List Word) : Prop :=
  Gives (row dt k) s fun t => Leaves 0 (e (s.later dt)) t ∧ Replies s t k c 0 (pay (s.later dt))

/-- A host row whose command is refused: nothing but the time changes, and the reply carries the status code `code`. -/
def Refuses (row : Nat → Cmd → Instr) (c : Cls) (s : State) (dt : Nat) (k : Cmd) (code : Nat) (pay : List Word) : Prop :=
  Gives (row dt k) s fun t => Leaves dt s t ∧ Replies s t k c code pay

/-- `v` is a state in which a command that arrives executes: `dt` ns have passed, and its packet is in its slot and counted; of
what MC keeps, the counters and the events that they raise have gone on. -/
def Arrives (s : State) (dt : Nat) (v : State) : Prop :=
  v = { s.later dt with obs := v.obs, stats := v.stats, port := v.port } ∧
  v.obs = { s.obs with queue := v.obs.queue, lost := v.obs.lost, queued := v.obs.queued, seen := v.obs.seen
                       fired := v.obs.fired, perf := v.obs.perf }

/-- The row ends in what follows every row (R62, R123, R288, R328), from a state that is `e` but for the records, events and
counters, the port, and the model's counter of free values. -/
def Ends (e t : State) : Prop := ∃ v, t = finish v ∧ v = { e with obs := v.obs, stats := v.stats, port := v.port, free := v.free }

/-- R70, R71: the event stands in the queue with the time of the row, unless its code is masked, the queue is full, or MC
does not run. -/
def Raised (s t : State) (c : Cls) (i code : Nat) (arg : Word) : Prop :=
  s.mcRuns = true → (s.unit c i).mask.getLsbD code = true →
    { code := code, cls := c, inst := i, arg := arg, time := t.now } ∈ t.obs.queue ∨ 256 ≤ t.obs.queue.length

/-- R41, R44, R57: the words of a command packet on the wire. -/
def Packet.words (p : Packet) : List Word :=
  let body := p.head ++
    (match p.cmd.auth with
     | some a => a.seq :: (List.range 4).map fun k => a.cmac.extractLsb' (32 * k) 32
     | none => [])
  body ++ [crcWords body]

end Sys2Proof.Machine
end

