-- ==== Sys2Proof/Certificates/Slice0/Obligations.lean ====
section
/-! DEFINITION. The statements for the provers, family by family. A host row is stated by `Does` or by `Gives`, `Leaves` and
`Replies`; an event row by `Gives`, `Becomes` and `Raised`. -/

open Sys2Proof Sys2Proof.Machine

/-! ## The command interface and the whole machine -/

/-- A step takes the row at the front of the queue and executes it on the state with the queue's rest; with nothing waiting
the block idles (the model's own queue, entry 1). -/
def Obligations.StepRunsFrontCommand : Prop :=
  (∀ (c : Instr) (q : List Instr) (s : State), s.pending = c :: q → step s = exec c { s with pending := q }) ∧
  (∀ s : State, s.pending = [] → step s = .next s)

/-- R64, R70, R78 to R81, R89, R373: the device right after a reset has ended: BOOT at device time 0, ADMIN DOWN but for the
units that their chapters make UP, no event, no packet and no reply queued, no firmware, no certificate, policy or session, no
tiling and no mode, every domain ON, the scratchpad in its canonical form. Model's choices: entries 1, 6, 45. -/
def Obligations.ResetLeavesWhatTheSpecSays : Prop :=
  let s := State.reset
  s.kept ∧ s.power.dev = .boot ∧ s.now = 0 ∧ s.pending = [] ∧ s.ready = false ∧ s.anyRun = false ∧
  s.obs.queue = [] ∧ s.port.waiting = [] ∧ s.port.replies = [] ∧ s.port.deferred = [] ∧
  s.fw.image = none ∧ s.sec.cert = [] ∧ s.sec.policy = [] ∧ s.inSession = false ∧
  s.tiling = (0, 0) ∧ (∀ g : Fin 8, s.grp[g].mode = 0) ∧ s.dom.powered = BitVec.allOnes 80 ∧ s.mem.cells = [] ∧
  (∀ u ∈ unitTable, s.admin u.1 u.2 =
    if u.1 = .bist ∨ (u.1 = .mbx ∧ u.2 ∈ channels) ∨ u.1 = .thm ∨ u.1 = .mem ∨ (u.1 = .mon ∧ u.2 = 0xFE) then .up else .down)

/-- Every step keeps a state well kept: the scratchpad in its canonical form, no more than four packets and replies in the
four slots of the queue (R46). Model's choices: entries 2, 6. -/
def Obligations.EveryStepKeepsStatesWellKept : Prop :=
  ∀ s t : State, s.kept → step s = .next t → t.kept

/-- R64: only ADMIN_SET changes ADMIN, apart from reset and removal of power; a shutdown keeps it. An ADMIN_SET that waits for
the end of a self-test (R69) executes at the row that ends it: here none waits. Model's choices: entries 35, 56. -/
def Obligations.OnlyAdminSetChangesAdmin : Prop :=
  ∀ (s t : State) (i : Instr), (∀ d ∈ s.port.deferred, d.op ≠ 0x02) → exec i s = .next t →
    (match i with
     | .adminSet .. | .powerOn .. | .powerRemoved .. | .deviceReset .. | .supplyReset .. | .resetRelease ..
     | .supplyResetRelease .. | .devReset .. => False
     | _ => True) →
    ∀ u : Fin 321, t.units[u].admin = s.units[u].admin

/-- R36, R41, R43, R49: the bytes of a command packet, sent whole, are taken apart to that packet again, with every field at
every value: no bit of a packet is dropped or read as another field. -/
def Obligations.PacketsSurviveTheWire : Prop :=
  ∀ p : Packet, p.cmd.params.length ≤ 1020 → p.cmd.flags.getLsbD 0 = p.cmd.auth.isSome →
    parsePacket (p.words.flatMap wordBytes) = .good p

/-- R44: the lengths of packets and replies. A packet with N parameters has N + 3 words on the wire, and 5 more with a
trailer; whatever is taken for a packet has that length, of at most 1,028 words; and a reply to match. -/
def Obligations.PacketAndReplyLengthsFollowTheirCounts : Prop :=
  (∀ p : Packet, p.words.length = p.cmd.params.length + 3 + (if p.cmd.auth.isSome then 5 else 0)) ∧
  (∀ bs p, parsePacket bs = .good p →
    bs.length = 4 * (p.cmd.params.length + 3 + (if p.cmd.auth.isSome then 5 else 0)) ∧ bs.length ≤ 4 * 1028) ∧
  (∀ (s : State) key st tgt tag bm pay,
    (s.reply key st tgt tag bm pay).length = pay.length + 5 + (if key.isSome then 5 else 0) ∧
    (pay.length ≤ 1020 → (s.reply key st tgt tag bm pay).length ≤ 1030))

/-- R47: NO_REPLY suppresses the reply to a command whose status is OK, and no other. `sp` is what a class chapter says of a
command, and every host row is `hostRow` of one. -/
def Obligations.OnlyOkRepliesAreSuppressed : Prop :=
  ∀ (s : State) (dt : Nat) (sp : CmdSpec) (c : Cls) (cmd : Cmd) (x : Answer), s.takes → (∀ t r, sp.late t r = t) →
    let p : Packet := { op := BitVec.ofNat 8 sp.op, cls := c, cmd := cmd }
    (s.taken dt p).perform sp p = some x → x.silent = false → x.st.port.replies = s.port.replies →
    if x.status = .ok ∧ cmd.flags.getLsbD 1 = true then (hostRow dt sp c cmd s).port.replies = s.port.replies
    else ∃ w, (hostRow dt sp c cmd s).port.replies = s.port.replies ++ [w]

/-- R40, R49, R55, R57, R59, R69, R82, R97, R232: a packet that finds no slot is dropped and counted; a command that a check
refuses changes nothing and is answered with the status of the first check that refuses it; under QUEUE_IF_BUSY one that a
self-test holds back waits for its end. `sp` is what a class chapter says of a command, and every host row is `hostRow` of
one. Model's choices: entries 2, 23, 34, 56, 69. -/
def Obligations.RefusedCommandsChangeNothing : Prop :=
  ∀ (s : State) (dt : Nat) (sp : CmdSpec) (c : Cls) (i : Nat) (g f : Byte) (ps : List Word),
    let cmd := cmdTo i g f ps
    let refused (code : Nat) (pay : List Word) : Prop :=
      Leaves dt s (hostRow dt sp c cmd s) ∧ Replies s (hostRow dt sp c cmd s) cmd c code pay
    let v := s.taken dt { op := BitVec.ofNat 8 sp.op, cls := c, cmd := cmd }
    let r : Req := { cls := c, inst := i, op := sp.op, tag := g, params := ps, authed := false, all := [i] }
    (s.ready = true → s.scanHolds = false → s.port.replies.length + s.port.waiting.length = 4 →
      s.port.waiting.head? ≠ some (.good { op := BitVec.ofNat 8 sp.op, cls := c, cmd := cmd }) →
      (∀ q ∈ s.port.waiting.head?, ∃ p, q = .good p ∧ opDefined p.cls p.op.toNat = true) →
      Leaves dt s (hostRow dt sp c cmd s) ∧
      (hostRow dt sp c cmd s).port = { s.port with dropped := (hostRow dt sp c cmd s).port.dropped } ∧
      Raised s (hostRow dt sp c cmd s) .dev 0 0x10 (w32 (sat32 (s.port.dropped + 1)))) ∧
    (s.takes → sp.op < 256 → i < 0x100 → sp.groupCmd = false →
      (∀ q, sp.avail v q = if s.anyRun then none else some (s.recOf .dev 0).reason) →
      sp.isl v { r with all := [] } = sp.isl v r → (sp.isl v r).any s.comingUp = false →
      (s.power.dev = .shutdown → ¬(c = .dev ∧ i = 0 ∧ sp.op = 0) → refused 0x60 []) ∧
      (s.power.dev ≠ .shutdown → i ∉ instances c → refused 0x22 []) ∧
      (s.power.dev ≠ .shutdown → i ∈ instances c → sp.accepts c i = true → s.anyRun = false →
        refused 0x42 [v.stateWord .dev 0 (s.recOf .dev 0).reason, 0]) ∧
      (s.anyRun = true → i ∈ instances c → sp.accepts c i = true →
        (s.owned = true → sp.secure v r = true ∨ (0x80 ≤ sp.op ∧ s.permit 1 = false) ∨ (sp.counter = true ∧ s.permit 0 = false) →
          refused 0x30 []) ∧
        (v.level sp r = none → sp.count v r = false → refused 0x24 []) ∧
        (∀ k, v.level sp r = none → sp.count v r = true → sp.bad v r = some k → refused 0x23 [w32 k]) ∧
        (v.level sp r = none → sp.count v r = true → sp.bad v r = none →
          (sp.off = true → (∃ k ∈ sp.isl v r, s.islandOn k = false) → refused 0x41 []) ∧
          ((∀ k ∈ sp.isl v r, s.islandOn k = true) → sp.failed = true →
            (∃ k ∈ sp.isl v r, s.islandFailed k = true ∨ s.islandHeld k = true) → refused 0x40 []) ∧
          ((∀ k ∈ sp.isl v r, s.islandOn k = true ∧ s.islandFailed k = false ∧ s.islandHeld k = false) → sp.test = true →
            (∃ k ∈ sp.isl v r, s.underTest k = true) →
            (f.getLsbD 2 = false → refused 0x11 [v.freeWord]) ∧
            (f.getLsbD 2 = true → c ≠ .bist → s.deferredOf c i < 4 →
              Leaves dt s (hostRow dt sp c cmd s) ∧ ∃ w,
                replyIs w (hostRow dt sp c cmd s).now c i g 0x02 [w32 (s.deferredOf c i + 1)] ∧
                (hostRow dt sp c cmd s).port = { s.port with
                  replies := s.port.replies ++ [w]
                  deferred := s.port.deferred ++
                    [{ op := BitVec.ofNat 8 sp.op, cls := c, cmd := cmd, authed := false, isl := sp.isl v r }] })) ∧
          (∀ e, v.unitCheck sp r = none → sp.cond v r = some e → e.status ≠ .ok → e.status ≠ .busySelftest →
            refused e.status.code e.pay)))) ∧
    (∀ a : Auth, s.takes → i < 0x100 → i ∈ instances c → sp.accepts c i = true → sp.groupCmd = false → s.anyRun = true →
      (∀ v q, v.anyRun = true → sp.avail v q = none) →
      let k := { cmd with auth := some a }
      s.verifies { op := BitVec.ofNat 8 sp.op, cls := c, cmd := k } a = false →
      Leaves dt s (hostRow dt sp c k s) ∧ Replies s (hostRow dt sp c k s) k c 0x32 [] ∧
        Raised s (hostRow dt sp c k s) .dev 0 0x11 a.seq)

/-- R62, R66, R70, R73, R288: what follows every row: while MC runs, the record of every unit gives OPER and REASON as they
are, with the time of their last change; no event leaves the queue; of the captures only those that an event triggers change,
and of the fixed counters only theirs. Nothing else of the state changes. Model's choices: entries 13, 30, 70, 80. -/
def Obligations.RecordsFollowTheUnits : Prop :=
  ∀ s : State,
    let t := finish s
    t = { s with obs := t.obs, mon := t.mon, stats := t.stats } ∧ s.obs.queue <+: t.obs.queue ∧ t.obs.fired = [] ∧
    t.mon.taps = s.mon.taps ∧ t.mon.hk = s.mon.hk ∧ (s.mon.sets = [] → t.mon = s.mon ∧ t.stats = s.stats) ∧
    (s.mcRuns = false → t.obs.recs = s.obs.recs) ∧
    (s.mcRuns = true → ∀ u ∈ unitTable,
      (t.recOf u.1 u.2).oper = (s.operOf u.1 u.2).1 ∧ (t.recOf u.1 u.2).reason = (s.operOf u.1 u.2).2 ∧
      (t.recOf u.1 u.2).changed =
        if (s.operOf u.1 u.2).1 = (s.recOf u.1 u.2).oper ∧ (s.operOf u.1 u.2).2 = (s.recOf u.1 u.2).reason
        then (s.recOf u.1 u.2).changed else s.now)

/-! ## Common opcodes -/

/-- R61, R62: STATUS_GET, INFO_GET and STATE_GET answer from MC's records and change nothing; STATE_GET gives the state block.
Model's choices: entries 13, 25, 45, 57, 70, 75, 76, 81. -/
def Obligations.RecordsAreReadWithoutEffect : Prop :=
  ∀ (s : State) (dt : Nat) (c : Cls) (i : Nat) (g f : Byte),
    s.takes → i ∈ instances c → (c = .dev ∨ s.anyRun = true) → (c = .mbx → hostSide i = false) →
    (Gives (.statusGet dt c (cmdTo i g f [])) s fun t => Leaves dt s t ∧ ∃ v, Arrives s dt v ∧
      Replies s t (cmdTo i g f []) c 0
        (pk [((s.admin c i).code, 0), ((s.recOf c i).oper.code, 4), (v.remoteOf c i, 8), ((s.recOf c i).reason, 16),
             ((v.classWords c i).length, 24)] :: v.classWords c i)) ∧
    (s.power.dev ≠ .shutdown → hostOpen c i = true →
      Does (.infoGet · c ·) c s dt (cmdTo i g f []) id (fun _ => [unitWord c i, pk [((instances c).length, 0)]]) ∧
      Does (.stateGet · c ·) c s dt (cmdTo i g f []) id fun s =>
        let r := s.recOf c i
        [pk [((s.admin c i).code, 0), (r.oper.code, 4), (s.remoteOf c i, 8), (b2n r.misSince.isSome, 12),
             (b2n r.misRaised, 13), (r.reason, 16)],
         w32 (match r.misSince with
              | some t => min ((s.now - t) / 1000000) 0xFFFFFFFF
              | none => 0)] ++ lohi r.changed ++ [0])

/-- R61, R64, R82, R83: ADMIN_SET, in the device states, the ADMIN states and the configurations that admit it, changes ADMIN
of its unit and of no other, with what the change does in the class (`State.adminChange`). Model's choices: entries 15, 23,
45, 57. -/
def Obligations.AdminSetChangesOneUnit : Prop :=
  ∀ (s : State) (dt : Nat) (c : Cls) (i : Nat) (a : Admin) (g f : Byte),
    s.takes → i ∈ instances c → adminTaken c a = true → (c = .mbx → hostSide i = false) → hostOpen c i = true →
    (s.power.dev = .active ∨ (s.power.dev = .config ∧ (a = .down ∨ carriesTraffic c = false)) ∨
      (s.power.dev = .sleep ∧ a = .down ∧ c ≠ .dev) ∨ (s.power.dev = .maint ∧ (a = .down ∨ c ≠ .grp))) →
    (a = .down ∨ c = .thm ∨
      (s.sound (unitIslands c i) ∧ (adminPowers c = false → ∀ k ∈ unitIslands c i, s.islandOn k = true))) →
    (c = .dev → if a = .up then s.power.dev = .config → s.missingStep 7 = none ∧ s.setup.step ≤ 7 else s.power.dev = .config) →
    (c = .grp → a ≠ .down → s.gsize i ≠ 0 ∧ s.grp[lineLane i].mode ≠ 0) →
    (c = .seal → a ≠ .down → s.grp[lineLane i].mode = 3) →
    (c = .tst → a = .up → s.tstUpRefused i = none) →
    Gives (.adminSet dt c (cmdTo i g f [w32 a.code])) s fun t =>
      Leaves 0 ((s.later dt).adminChange c i a) t ∧ Replies s t (cmdTo i g f [w32 a.code]) c 0 [] ∧
      t.admin c i = a ∧ (t.unit c i).mask = (s.unit c i).mask ∧ ∀ u : Fin 321, u ≠ uix c i → t.units[u] = s.units[u]

/-- R322 to R326: COUNTERS_GET answers the counter block of its unit, and with CLEAR set clears its counters; COUNTERS_CLEAR
clears them. `zero v`: they are cleared in the state `v` from which MC and the counting hardware go on. Model's choices:
entries 22, 23, 45. -/
def Obligations.CountersAreReadAndCleared : Prop :=
  ∀ (s : State) (dt : Nat) (c : Cls) (i : Nat) (g f : Byte) (w : Word),
    s.takes → i ∈ instances c → s.anyRun = true → s.allows .counter → (c = .mbx → hostSide i = false) →
    (c = .thm ∨ (s.sound (unitIslands c i) ∧ (c ≠ .ltx → ∀ k ∈ unitIslands c i, s.islandOn k = true))) →
    let zero (v : State) : Prop :=
      (c ≠ .perf → v.stats[uix c i] = { vals := .replicate 9 0, start := v.now }) ∧ (c = .dev → v.obs.queued = 0) ∧
      (∀ n : Fin 16, c = .htx → i = n.val → v.obs.lf[n].episodes = 0) ∧
      ∀ n : Fin 64, c = .perf → i = n.val →
        v.obs.perf[n] = { cfg := s.obs.perf[n].cfg, code := s.obs.perf[n].code, val := 0, sat := false, wrap := false }
    (clear w 1 = true →
      Gives (.countersGet dt c (cmdTo i g f [w])) s fun t =>
        Leaves dt s t ∧ (∃ v, Arrives s dt v ∧ Replies s t (cmdTo i g f [w]) c 0 (v.counterBlock c i)) ∧
        (bit w 0 = true → ∃ v, t = finish v ∧ zero v)) ∧
    (hostOpen c i = true →
      Gives (.countersClear dt c (cmdTo i g f [])) s fun t =>
        Leaves dt s t ∧ Replies s t (cmdTo i g f []) c 0 [] ∧ ∃ v, t = finish v ∧ zero v)

/-- R61, R112, R138, R144, R188, R296: PRESET_APPLY to each class that has presets. Model's choices: entries 23, 45, 57, 78.
-/
def Obligations.PresetApplyTakesEffect : Prop :=
  ∀ (s : State) (dt : Nat) (g f : Byte) (w : Word), s.takes → s.anyRun = true → clear w 8 = true →
    let id := fld w 0 8
    (∀ n : Fin 16, s.sound (unitIslands .hrx n) → (id = 0xFF ∨ (id < 4 ∧ id < s.profiles)) → s.board ≠ [] →
      (s.admin .hrx n = .down →
        Does (.presetApply · .hrx ·) .hrx s dt (cmdTo n g f [w])
          (fun s => { s with hrx := upd s.hrx n fun h => { h with chosen := if id = 0xFF then none else some id, kept := none } })
          (fun _ => [])) ∧
      (s.admin .hrx n = .test →
        Gives (.presetApply dt .hrx (cmdTo n g f [w])) s fun t =>
          Leaves dt { s with hrx := upd s.hrx n fun _ => t.hrx[n] } t ∧
          t.hrx[n].chosen = (if id = 0xFF then none else some id) ∧
          t.hrx[n].profile = (if id = 0xFF then s.defaultProfile n else id) ∧
          t.hrx[n].eq = s.seedEq t.hrx[n].profile n ∧ t.hrx[n].timing = false ∧ t.hrx[n].acqStart = t.now ∧
          Replies s t (cmdTo n g f [w]) .hrx 0 [])) ∧
    (∀ n : Fin 16, s.sound (unitIslands .htx n) → (id = 0xFF ∨ (id < 4 ∧ id < s.profiles)) → s.board ≠ [] →
      (s.admin .htx n = .down →
        Does (.presetApply · .htx ·) .htx s dt (cmdTo n g f [w])
          (fun s => { s with htx := upd s.htx n fun h => { h with chosen := if id = 0xFF then none else some id } })
          (fun _ => [])) ∧
      (s.admin .htx n = .test →
        let p := if id = 0xFF then s.defaultProfile n else id
        Does (.presetApply · .htx ·) .htx s dt (cmdTo n g f [w])
          (fun s => { s with htx := upd s.htx n fun h =>
            { h with chosen := if id = 0xFF then none else some id, profile := p
                     fir := Vector.ofFn fun k => s.htxEntry p n k.val } })
          (fun _ => []))) ∧
    (∀ l : Fin 8, s.sound (unitIslands .ltx l) → ∀ a b, ltxPreset id = some (a, b) →
      Does (.presetApply · .ltx ·) .ltx s dt (cmdTo l g f [w])
        (fun s => { s with ltx := upd s.ltx l fun x =>
          let y : Ltx := { x with
            staged := { x.staged with taps := some (id, a, b) }
            stagedAt := vec [x.stagedAt[0], s.now, x.stagedAt[2], x.stagedAt[3]] rfl }
          if x.driving = true ∧ s.admin .ltx l = .up then y else y.applyStaged })
        (fun _ => [])) ∧
    (∀ l : Fin 8, s.sound (unitIslands .lrx l) → id < 4 →
      Does (.presetApply · .lrx ·) .lrx s dt (cmdTo l g f [w])
        (fun s => { s with lrx := upd s.lrx l fun r => { r with preset := id } }) (fun _ => [])) ∧
    (∀ i : Fin 24, s.workable [75] → id < 4 →
      Gives (.presetApply dt .mon (cmdTo i g f [w])) s fun t =>
        Ends ({ s.later dt with mon := { s.mon with taps := upd s.mon.taps i fun p =>
          { p.restart (s.now + dt) with preset := id, gaps := 0 } } }) t ∧
        Replies s t (cmdTo i g f [w]) .mon 0 [])

/-- R50 to R52, R61, R70: EVENT_MASK_SET replaces the mask of one unit; GROUP_DEFINE stores the mask of a user group, or
deletes the group where the mask is 0; GROUP_GET answers the mask of a group, 0 where it is not defined. A class without user
groups has no such target. Model's choices: entries 34, 45. -/
def Obligations.MasksAndUserGroupsAreSet : Prop :=
  ∀ (s : State) (dt : Nat) (c : Cls) (g f : Byte), s.takes → s.anyRun = true →
    (∀ (i : Nat) (m : BitVec 256), i ∈ instances c → (c = .mbx → hostSide i = false) → hostOpen c i = true →
      Does (.eventMaskSet · c ·) c s dt (cmdTo i g f ((List.range 8).map fun k => m.extractLsb' (32 * k) 32))
        (fun s => { s with units := upd s.units (uix c i) fun u => { u with mask := m } }) (fun _ => [])) ∧
    (∀ (k : Fin 16) (m : BitVec 128), hasGroups c = true →
      let dest := 0x800 + k.val
      let ws := (List.range 4).map fun j => m.extractLsb' (32 * j) 32
      ((∀ b : Fin 128, m.getLsbD b = true → ∃ i ∈ instances c, maskBit i = b.val) →
        Gives (.groupDefine dt c (cmdTo dest g f ws)) s fun t =>
          Leaves dt { s with groups := t.groups } t ∧ Replies s t (cmdTo dest g f ws) c 0 [] ∧
          t.groupMask c k = m ∧
          ∀ (c' : Cls) (k' : Fin 16), (c', k') ≠ (c, k) → t.groupMask c' k' = s.groupMask c' k') ∧
      Gives (.groupGet dt c (cmdTo dest g f [])) s fun t =>
        Leaves dt s t ∧
        Replies s t (cmdTo dest g f []) c 0 ((List.range 4).map fun j => (s.groupMask c k).extractLsb' (32 * j) 32))

/-! ## Host lanes -/

/-- R111, R112, R124 to R127: what the commands to a host transmitter do, and that they change nothing else. Model's choices:
entry 23. -/
def Obligations.HostTransmitterCommandsTakeEffect : Prop :=
  ∀ (s : State) (dt : Nat) (n : Fin 16) (g f : Byte) (w w1 w2 : Word),
    s.serves .basic (unitIslands .htx n) →
    (clear w 2 = true → s.isUp .htx n = true →
      Gives (.htxFaultForce dt (cmdTo n g f [w])) s fun t =>
        Leaves dt { s with htx := upd s.htx n fun h => { h with force := fld w 0 2 } } t ∧
        Replies s t (cmdTo n g f [w]) .htx 0 []) ∧
    (clear w 2 = true → fld w 0 2 ≠ 3 → s.admin .htx n ≠ .up →
      Gives (.htxPolaritySet dt (cmdTo n g f [w])) s fun t =>
        Leaves dt { s with htx := upd s.htx n fun h => { h with pol := fld w 0 2 } } t ∧
        Replies s t (cmdTo n g f [w]) .htx 0 []) ∧
    (s.allows .expert →
      Gives (.htxFirGet dt (cmdTo n g f [])) s fun t =>
        Leaves dt s t ∧ Replies s t (cmdTo n g f []) .htx 0 s.htx[n].fir.toList) ∧
    (s.allows .expert → firstBad (firChecks w w1 w2 0) = none → s.admin .htx n = .test →
      Gives (.htxFirSet dt (cmdTo n g f [w, w1, w2])) s fun t =>
        Leaves dt { s with htx := upd s.htx n fun h => { h with fir := vec [w, w1, w2] rfl } } t ∧
        Replies s t (cmdTo n g f [w, w1, w2]) .htx 0 []) ∧
    (s.allows .expert → clear w 1 = true → s.isUp .htx n = true →
      Gives (.htxSquelch dt (cmdTo n g f [w])) s fun t =>
        Leaves dt { s with htx := upd s.htx n fun h => { h with squelch := bit w 0 } } t ∧
        Replies s t (cmdTo n g f [w]) .htx 0 [])

/-- R106, R119, R124, R125: what the commands to a host receiver do, and that they change nothing else. Model's choices:
entries 23, 24, 76, 78, 79. -/
def Obligations.HostReceiverCommandsTakeEffect : Prop :=
  ∀ (s : State) (dt : Nat) (n : Fin 16) (g f : Byte) (w a b c d : Word),
    s.serves .basic (unitIslands .hrx n) →
    (clear w 1 = true →
      Gives (.hrxMarginGet dt (cmdTo n g f [w])) s fun t =>
        Leaves dt { s with hrx := upd s.hrx n fun h =>
          { h with window := if bit w 0 then windowAt (s.now + dt) else h.window } } t ∧
        Replies s t (cmdTo n g f [w]) .hrx 0 (marginBlock s.hrx[n].hmi s.hrx[n].window (s.now + dt))) ∧
    (clear w 2 = true → s.admin .hrx n = .down →
      Gives (.hrxPolaritySet dt (cmdTo n g f [w])) s fun t =>
        Leaves dt { s with hrx := upd s.hrx n fun h => { h with pol := fld w 0 2, kept := none } } t ∧
        Replies s t (cmdTo n g f [w]) .hrx 0 []) ∧
    (clear w 2 = true → s.admin .hrx n = .test →
      Gives (.hrxPolaritySet dt (cmdTo n g f [w])) s fun t =>
        Leaves dt { s with hrx := upd s.hrx n fun h =>
          { (if h.timing then { h with amLock := false, deskewed := false, range := false } else h) with
            pol := fld w 0 2, kept := none, searched := false
            inverted := if fld w 0 2 = 1 then false else if fld w 0 2 = 2 then true
              else bit (s.hrxEntry h.profile n 0) 24 } } t ∧
        Replies s t (cmdTo n g f [w]) .hrx 0 []) ∧
    (s.allows .expert →
      Gives (.hrxEqGet dt (cmdTo n g f [])) s fun t =>
        Leaves dt s t ∧ Replies s t (cmdTo n g f []) .hrx 0 s.hrx[n].eq.toList) ∧
    (s.allows .expert → s.admin .hrx n = .test →
      fld w 0 8 ≤ 20 → fld w 8 8 ≤ 63 → 2 ≤ fld w 24 4 → fld w 24 4 ≤ 8 → clear w 28 = true →
      fld w 16 8 = 0 ∨ bit (s.hrxEntry s.hrx[n].profile n 0) 26 = true →
      Gives (.hrxEqForce dt (cmdTo n g f [w, a, b, c, d])) s fun t =>
        Leaves dt { s with hrx := upd s.hrx n fun h => { h with eq := vec [w, a, b, c, d] rfl, frozen := true } } t ∧
        Replies s t (cmdTo n g f [w, a, b, c, d]) .hrx 0 []) ∧
    (s.allows .expert → clear w 1 = true →
      Gives (.hrxAdaptFreeze dt (cmdTo n g f [w])) s fun t =>
        Leaves dt { s with hrx := upd s.hrx n fun h => { h with frozen := bit w 0 } } t ∧
        Replies s t (cmdTo n g f [w]) .hrx 0 []) ∧
    (s.allows .expert → clear w 1 = true → s.admin .hrx n ≠ .up →
      Gives (.hrxAmMode dt (cmdTo n g f [w])) s fun t =>
        Leaves dt { s with hrx := upd s.hrx n fun h =>
          { h with manual := bit w 0, slip := if bit w 0 then h.slip else 0 } } t ∧
        Replies s t (cmdTo n g f [w]) .hrx 0 []) ∧
    (s.allows .expert → clear w 10 = true → w ≠ 0 → s.admin .hrx n = .test →
      let o := (s.hrx[n].slip + fld w 0 10) % 65536
      Gives (.hrxSlip dt (cmdTo n g f [w])) s fun t =>
        Leaves dt { s with hrx := upd s.hrx n fun h => { h with slip := o } } t ∧
        Replies s t (cmdTo n g f [w]) .hrx 0 [w32 o])

/-- R110, R111, R125: a board table that passes every check is loaded whole, the overrides return to TABLE and the chosen
profiles to the DEFAULT, outside CONFIG with every host lane ADMIN DOWN and in CONFIG as step 4; BOARD_TABLE_INFO gives its
header. Model's choices: entries 15, 23. -/
def Obligations.BoardTableLoadsWhole : Prop :=
  ∀ (s : State) (dt : Nat) (g f : Byte) (tab : List Word), s.serves .basic [] →
    let loaded := { s with
      board := tab
      hrx := s.hrx.map fun h => { h with pol := 0, chosen := none, kept := none }
      htx := s.htx.map fun h => { h with pol := 0, chosen := none } }
    (1 ≤ tab.length → tab.length ≤ 1020 → firstBad (boardChecks tab) = none → s.power.dev ≠ .config →
      (∀ n : Fin 16, s.isUp .hrx n = false ∧ s.isUp .htx n = false) →
      Gives (.boardTableLoad dt (cmdTo 0 g f tab)) s fun t =>
        Leaves dt loaded t ∧ Replies s t (cmdTo 0 g f tab) .hrx 0 []) ∧
    (1 ≤ tab.length → tab.length ≤ 1020 → firstBad (boardChecks tab) = none → s.power.dev = .config →
      s.stepDone 1 = true → s.stepDone 2 = true → s.setup.step ≤ 4 →
      Gives (.boardTableLoad dt (cmdTo 0 g f tab)) s fun t =>
        Leaves dt { loaded with setup := { s.setup with step := 4 } } t ∧ Replies s t (cmdTo 0 g f tab) .hrx 0 []) ∧
    Gives (.boardTableInfo dt (cmdTo 0 g f [])) s fun t =>
      Leaves dt s t ∧
      Replies s t (cmdTo 0 g f []) .hrx 0
        (if s.board = [] then [0, 0, 0, 0]
         else [s.board.getD 2 0, s.board.getD 3 0,
               pk [(fld (s.board.getD 1 0) 8 4, 0), (fld (s.board.getD 1 0) 16 16, 16)], s.board.getLastD 0])

/-- R105, R106, R114 to R118, R129: the events of a host receiver. Where it is not frozen, the adapted CTLE lies within two
codes of its table value, at it without ADAPT_CTLE, and no DFE tap stands without DFE_EN. Model's choices: entries 3, 14, 60,
73, 74, 76, 77. -/
def Obligations.HostReceiverEventsTakeEffect : Prop :=
  ∀ (s : State) (dt : Nat) (n : Fin 16) (m : HrxAcq) (u : HmiMeasure) (bad : Nat),
    s.hrxLive n = true → s.isUp .hrx n = true →
    (s.hrx[n].sd = true → s.laneFg (8 + n.val) = false → s.symChk n = false → (s.hrx[n].amLock && s.hrx[n].timing) = false →
      (m.inverted = s.startPol n ∨ s.searches n = true) →
      Gives (.hrxAcquire dt n m) s fun t =>
        Becomes dt { s with hrx := upd s.hrx n fun h =>
          { h with timing := true, amLock := true, deskewed := decide (m.skew.toNat ≤ 18000)
                   range := !decide (m.skew.toNat ≤ 18000), inverted := m.inverted, kept := some m.inverted
                   searched := h.searched || (m.inverted != s.startPol n), skew := m.skew, hmi := m.hmi, lastHmi := m.hmi
                   eq := if h.frozen then h.eq else s.adaptedEq n m.eq } } t ∧
        Raised s t .hrx n 0x13 (w32 (sat32 ((s.now + dt - s.hrx[n].acqStart) / 1000)))) ∧
    (s.hrx[n].sd = true → s.laneFg (8 + n.val) = false → s.symChk n = false → s.hrx[n].amLock = false → s.searches n = true →
      Gives (.hrxPolarityTry dt n) s fun t =>
        Becomes dt { s with hrx := upd s.hrx n fun h =>
          { h with timing := true, inverted := !h.inverted, searched := true } } t) ∧
    (s.hrx[n].amLock = true → 4 ≤ bad →
      Gives (.amLockLost dt n bad) s fun t =>
        Becomes dt { s with hrx := upd s.hrx n fun h =>
          { h with amLock := false, deskewed := false, range := false, searched := false } } t ∧
        Raised s t .hrx n 0x12 (w32 (sat32 bad))) ∧
    (s.hrx[n].timing = true ∨ (u.locked = true ∧ s.hrx[n].sd = true ∧ s.laneFg (8 + n.val) = false) →
      Gives (.hmiUpdate dt n u) s fun t =>
        Becomes dt { s with hrx := upd s.hrx n fun h =>
          { h with timing := true, hmi := u.hmi, lastHmi := u.hmi, eq := if h.frozen then h.eq else s.adaptedEq n u.eq
                   window := h.window.add (some u.hmi.toInt)
                   lowCount := if u.hmi.toInt < s.hmiWarn then h.lowCount + 1 else 0
                   okCount := if s.hmiWarn + 8 ≤ u.hmi.toInt then h.okCount + 1 else 0 } } t) ∧
    (let e := s.hrxEntry s.hrx[n].profile n 0
      let q := fld (s.adaptedEq n u.eq)[0] 0 8
      q ≤ fld e 0 8 + 2 ∧ fld e 0 8 ≤ q + 2 ∧ (bit e 27 = false → q = fld e 0 8) ∧
        (bit e 26 = false → fld (s.adaptedEq n u.eq)[0] 16 8 = 0)) ∧
    (s.hrx[n].timing = false → u.locked = false ∨ s.hrx[n].sd = false ∨ s.laneFg (8 + n.val) = true →
      Gives (.hmiUpdate dt n u) s fun t =>
        Becomes dt { s with hrx := upd s.hrx n fun h =>
          { h with hmi := 0x800, window := h.window.add none, lowCount := 0, okCount := 0 } } t) ∧
    (s.hrx[n].lowMargin = false → 10 ≤ s.hrx[n].lowCount →
      Gives (.hmiLow dt n) s fun t =>
        Becomes dt { s with hrx := upd s.hrx n fun h => { h with lowMargin := true } } t ∧
        Raised s t .hrx n 0x15 (w32 s.hrx[n].hmi.toNat)) ∧
    (s.hrx[n].lowMargin = true → 10 ≤ s.hrx[n].okCount →
      Gives (.hmiRestored dt n) s fun t =>
        Becomes dt { s with hrx := upd s.hrx n fun h => { h with lowMargin := false } } t ∧
        Raised s t .hrx n 0x16 (w32 s.hrx[n].hmi.toNat))

/-! ## Line transmitters -/

/-- R139, R145, R147: a change of swing, shape or predistortion waits on a lane that drives in ADMIN UP, and on every other
lane applies at once, whole; its time counts for every kind that it changes. Model's choices: entry 23. -/
def Obligations.LineTransmitterChangesStageOrApply : Prop :=
  ∀ (s : State) (dt : Nat) (l : Fin 8) (g f : Byte) (w a b c : Word) (ps : Vector Word 17),
    s.takes → s.anyRun = true → s.sound (unitIslands .ltx l) →
    let put (x : Ltx) (q : LtxStaged) (at_ : Vector Nat 4) : Ltx :=
      let y : Ltx := { x with staged := q, stagedAt := at_ }
      if s.ltx[l].driving = true ∧ s.admin .ltx l = .up then y else y.applyStaged
    let now := s.now + dt
    (clear w 7 = true → fld w 0 7 ≤ 100 →
      Gives (.ltxSwingSet dt (cmdTo l g f [w])) s fun t =>
        Leaves dt { s with ltx := upd s.ltx l fun x =>
          (put x { x.staged with swing := some (fld w 0 7) }
            (vec [now, x.stagedAt[1], x.stagedAt[2], x.stagedAt[3]] rfl)) } t ∧
        Replies s t (cmdTo l g f [w]) .ltx 0 []) ∧
    (s.allows .expert → firstBad (shapeChecks a b c) = none →
      Gives (.ltxShapeSet dt (cmdTo l g f [a, b, c])) s fun t =>
        Leaves dt { s with ltx := upd s.ltx l fun x =>
          (put x { x.staged with taps := some (0xFF, a, b), lvl := some c }
            (vec [x.stagedAt[0], now, now, x.stagedAt[3]] rfl)) } t ∧
        Replies s t (cmdTo l g f [a, b, c]) .ltx 0 []) ∧
    (s.allows .expert → clear ps[0] 1 = true →
      (∀ k : Fin 17, k ≠ 0 → ∀ j < 4, -32 ≤ signed 8 (fld ps[k] (8 * j) 8) ∧ signed 8 (fld ps[k] (8 * j) 8) ≤ 31) →
      Gives (.ltxPdSet dt (cmdTo l g f ps.toList)) s fun t =>
        Leaves dt { s with ltx := upd s.ltx l fun x =>
          (put x { x.staged with pd := some ps } (vec [x.stagedAt[0], x.stagedAt[1], x.stagedAt[2], now] rfl)) } t ∧
        Replies s t (cmdTo l g f ps.toList) .ltx 0 [])

/-- R132, R137, R140, R142, R147, R149: the other settings of a line transmitter, and what reads them; TX_CLIPPING after ten
milliseconds above the clip limit, TX_CLIP_CLEARED after a hundred at or below it. Model's choices: entries 3, 14, 23, 81. -/
def Obligations.LineTransmitterSettingsTakeEffect : Prop :=
  ∀ (s : State) (dt : Nat) (l : Fin 8) (g f : Byte) (w : Word) (ms : List Nat),
    (s.takes → s.anyRun = true → s.sound (unitIslands .ltx l) → clear w 1 = true → s.admin .ltx l ≠ .up →
      Does .ltxPolaritySet .ltx s dt (cmdTo l g f [w])
        (fun s => { s with ltx := upd s.ltx l fun x => { x with inverted := bit w 0 } }) (fun _ => []) ∧
      Does .ltxPrecodeSet .ltx s dt (cmdTo l g f [w])
        (fun s => { s with ltx := upd s.ltx l fun x => { x with precode := bit w 0 } }) (fun _ => [])) ∧
    (s.takes → s.anyRun = true → s.sound (unitIslands .ltx l) → clear w 1 = true →
      Gives (.ltxSquelch dt (cmdTo l g f [w])) s fun t =>
        Leaves dt { s with ltx := upd s.ltx l fun x => { x with squelch := bit w 0 } } t ∧
        (bit w 0 ≠ s.ltx[l].squelch → Raised s t .ltx l 0x13 (w32 (b2n (bit w 0)))) ∧
        Replies s t (cmdTo l g f [w]) .ltx 0 []) ∧
    (s.takes → s.anyRun = true → s.sound (unitIslands .ltx l) → s.allows .expert → fld w 5 3 = 0 → fld w 14 2 = 0 → clear w 20 = true →
      s.admin .ltx l ≠ .up →
      Does .ltxSkewSet .ltx s dt (cmdTo l g f [w])
        (fun s => { s with ltx := upd s.ltx l fun x => { x with skew := w } }) (fun _ => [])) ∧
    (s.takes → s.anyRun = true → Does .ltxConfigGet .ltx s dt (cmdTo l g f []) id fun s =>
      let x := s.ltx[l]
      [pk [(x.swing, 0), (b2n x.inverted, 7), (b2n x.precode, 8), (b2n x.squelch, 9), (b2n (bit x.pd[0] 0), 10), (x.preset, 16)],
       x.skew]) ∧
    (s.takes → s.anyRun = true → s.allows .expert →
      Does .ltxShapeGet .ltx s dt (cmdTo l g f []) id (fun s => s.ltx[l].shape.toList) ∧
      Does .ltxPdGet .ltx s dt (cmdTo l g f []) id (fun s => s.ltx[l].pd.toList)) ∧
    (s.ltx[l].driving = true ∨ s.ltxContent l = 2 → s.ltx[l].clipping = false → ms.length = 10 → (∀ n ∈ ms, 227 < n) →
      Gives (.txClipping dt l ms) s fun t =>
        Becomes dt { s with ltx := upd s.ltx l fun x =>
          { x with clipping := true, clipSince := s.now + dt, clipsMs := ms.getLastD 0, clipsAt := s.now + dt } } t ∧
        Raised s t .ltx l 0x10 (w32 (min (ms.getLastD 0) 0xFFFF))) ∧
    (s.ltx[l].clipping = true → ms.length = 100 → (∀ n ∈ ms, n ≤ 227) →
      Gives (.txClipCleared dt l ms) s fun t =>
        Becomes dt { s with ltx := upd s.ltx l fun x =>
          { x with clipping := false, clipsMs := ms.getLastD 0, clipsAt := s.now + dt } } t ∧
        Raised s t .ltx l 0x11 (w32 (min ((s.now + dt - s.ltx[l].clipSince) / 1000000) 0xFFFFFFFF)))

/-! ## Host lanes that gain and lose signal, and line receivers -/

/-- R113, R114, R116, R153, R156, R173, R190: SIGNAL_DETECTED, SIGNAL_LOST and TIMING_LOCK_LOST on a host lane and on a line
lane; a host lane that loses timing lock acquires again, with the settings of its profile. Model's choices: entries 3, 14. -/
def Obligations.SignalAndTimingLockComeAndGo : Prop :=
  ∀ (s : State) (dt : Nat) (range : Bool),
    (∀ n : Fin 16, s.hrxLive n = true → s.hrx[n].sd = false →
      Gives (.signalDetected dt (.host n)) s fun t =>
        Becomes dt { s with hrx := upd s.hrx n fun _ => t.hrx[n], cal := t.cal } t ∧ t.hrx[n].sd = true ∧
        (s.isUp .hrx n = false → t.hrx[n] = { s.hrx[n] with sd := true } ∧ t.cal = s.cal) ∧
        (s.isUp .hrx n = true → t.hrx[n].timing = false ∧ t.hrx[n].amLock = false ∧ t.hrx[n].hmi = 0x800 ∧
          t.hrx[n].inverted = s.startPol n ∧ t.hrx[n].eq = s.seedEq s.hrx[n].profile n ∧ t.hrx[n].acqStart = t.now ∧
          Raised s t .hrx n 0x11 (w32 (s.sdThresh n)))) ∧
    (∀ n : Fin 16, s.hrxLive n = true → s.hrx[n].sd = true →
      Gives (.signalLost dt (.host n)) s fun t =>
        Becomes dt { s with hrx := upd s.hrx n fun h => { h.unlock with sd := false }
                            cal := { s.cal with lanes := upd s.cal.lanes (Fin.ofNat 48 (8 + n.val)) fun c =>
                              { c with sdOffAt := s.now + dt } } } t ∧
        (s.isUp .hrx n = true → Raised s t .hrx n 0x10 (w32 s.hrx[n].lastHmi.toNat))) ∧
    (∀ n : Fin 16, s.hrxLive n = true → s.isUp .hrx n = true → s.hrx[n].timing = true →
      Gives (.timingLockLost dt (.host n) range) s fun t =>
        Becomes dt { s with hrx := upd s.hrx n fun h =>
          { h.unlock with inverted := s.startPol n, searched := false, acqStart := s.now + dt
                          eq := s.seedEq h.profile n } } t) ∧
    (∀ l : Fin 8, s.lrxLive l = true → s.lrx[l].sd = false →
      Gives (.signalDetected dt (.line l)) s fun t =>
        Becomes dt { s with cal := t.cal
                            lrx := upd s.lrx l fun r => ({ r with sd := true } : Lrx).acquire r.warm (s.now + dt) } t ∧
        (s.isUp .lrx l = true → Raised s t .lrx l 0x11 (w32 s.lrx[l].sdCode))) ∧
    (∀ l : Fin 8, s.lrxLive l = true → s.lrx[l].sd = true →
      Gives (.signalLost dt (.line l)) s fun t =>
        Becomes dt { s with lrx := upd s.lrx l fun _ => t.lrx[l], cal := t.cal } t ∧
        t.lrx[l].sd = false ∧ t.lrx[l].timing = false ∧ t.lrx[l].fade = none ∧ t.lrx[l].round = none ∧
        t.lrx[l].banks = s.lrx[l].banks ∧ t.lrx[l].active = s.lrx[l].active ∧
        t.cal.lanes[Fin.ofNat 48 l.val].sdOffAt = t.now ∧
        (s.lrx[l].fade = none → t.cal = { s.cal with lanes := upd s.cal.lanes (Fin.ofNat 48 l.val) fun c =>
          { c with sdOffAt := s.now + dt } }) ∧
        (s.isUp .lrx l = true → Raised s t .lrx l 0x10 (w32 s.lrx[l].lmi.last.toNat))) ∧
    (∀ l : Fin 8, s.lrxLive l = true → s.isUp .lrx l = true → s.lrx[l].sd = true → s.lrx[l].timing = true →
      Gives (.timingLockLost dt (.line l) range) s fun t =>
        Becomes dt { s with lrx := upd s.lrx l fun _ => t.lrx[l], cal := t.cal } t ∧
        (s.lrx[l].fade = none → t.cal = s.cal) ∧
        t.lrx[l].sd = true ∧ t.lrx[l].timing = false ∧ t.lrx[l].warm = (s.lrx[l].acquired || s.lrx[l].warm) ∧
        t.lrx[l].fade = none ∧ t.lrx[l].banks = s.lrx[l].banks ∧ t.lrx[l].active = s.lrx[l].active ∧
        Raised s t .lrx l 0x12 (w32 (b2n range)))

/-- R185, R186: the commands that read a line receiver change nothing, but for LRX_MARGIN_GET with CLEAR set. Model's choices:
entries 23, 26. -/
def Obligations.LineReceiverIsRead : Prop :=
  ∀ (s : State) (dt : Nat) (l : Fin 8) (g f : Byte) (w : Word), s.takes → s.anyRun = true →
    Does .lrxConfigGet .lrx s dt (cmdTo l g f []) id
      (fun s => [s.lrx[l].setup, s.lrx[l].policy, w32 s.lrx[l].preset]) ∧
    (s.workable (unitIslands .lrx l) →
      (clear w 1 = true →
        Does .lrxMarginGet .lrx s dt (cmdTo l g f [w])
          (fun s => { s with lrx := upd s.lrx l fun r =>
            { r with lmi := { r.lmi with window := if bit w 0 then windowAt s.now else r.lmi.window } } })
          (fun s => marginBlock s.lrx[l].lmi.value s.lrx[l].lmi.window s.now ++ [w32 (b2n s.lrx[l].lmi.snrRoute)])) ∧
      (Does .lrxAdaptStatusGet .lrx s dt (cmdTo l g f []) id fun s =>
        let r := s.lrx[l]
        let z := s.obs.adapt[l]
        [pk [(r.active.val, 0), (b2n r.fade.isSome, 1), (b2n r.frozen, 2), (b2n (bankLean r.live), 3), (r.lastCause, 4),
             (r.phase, 6)],
         w32 (r.fadeLeft s.now), w32 (min (r.rounds - z.1) 0xFFFFFFFF), w32 (min (r.commits - z.2.1) 0xFFFFFFFF),
         w32 (min (r.voided - z.2.2) 0xFFFFFFFF),
         pk [(twos 12 r.delta, 0), (b2n r.committed, 12), (twos 12 r.cand, 16)]] ++ lohi r.lastFade) ∧
      Does .lrxXtStatusGet .lrx s dt (cmdTo l g f []) id (fun s => [s.xtWord l false, s.xtWord l true]) ∧
      (Does .lrxAfeGet .lrx s dt (cmdTo l g f []) id fun s =>
        let a := s.lrx[l].afe
        [pk [(a.agc, 0), (a.ctle, 8), (b2n a.held, 16), (b2n (a.agc == 104), 17), (b2n (a.agc == 0), 18)],
         w32 (min a.ovr 0xFFFFFFFF), w32 (min a.fsc 0xFFFFFFFF)]) ∧
      (s.allows .expert → clear w 1 = true →
        Does .lrxBankRead .lrx s dt (cmdTo l g f [w]) id
          (fun s => (if bit w 0 then s.lrx[l].banks[1] else s.lrx[l].banks[0]).toList)))

/-- R161, R173, R174, R177, R182, R185: the commands that act on a line receiver. Of calibration they move no more than the
round that is due, where a fade starts or ends. Model's choices: entries 23, 58. -/
def Obligations.LineReceiverCommandsTakeEffect : Prop :=
  ∀ (s : State) (dt : Nat) (l : Fin 8) (g f : Byte) (w : Word) (b : Bank), s.takes → s.anyRun = true →
    (s.sound (unitIslands .lrx l) → fld w 0 5 ≤ 30 → fld w 5 3 = 0 → fld w 8 2 ≠ 3 → clear w 11 = true →
      (s.admin .lrx l = .down →
        Does .lrxSetupSet .lrx s dt (cmdTo l g f [w])
          (fun s => { s with lrx := upd s.lrx l fun r => { r with setup := w, kept := none } }) (fun _ => [])) ∧
      (s.admin .lrx l = .test →
        Gives (.lrxSetupSet dt (cmdTo l g f [w])) s fun t =>
          Leaves dt { s with lrx := upd s.lrx l fun _ => t.lrx[l], cal := t.cal } t ∧ (s.lrx[l].fade = none → t.cal = s.cal) ∧
          t.lrx[l].setup = w ∧ t.lrx[l].kept = none ∧ t.lrx[l].inverted = decide (fld w 8 2 = 1) ∧
          (s.lrx[l].timing = true → fld w 8 2 ≠ s.lrx[l].polSet ∨ bit w 10 ≠ s.lrx[l].precode →
            t.lrx[l].timing = false ∧ t.lrx[l].warm = true) ∧
          Replies s t (cmdTo l g f [w]) .lrx 0 [])) ∧
    (s.sound (unitIslands .lrx l) → -32 ≤ sfld w 0 12 → sfld w 0 12 ≤ 96 → fld w 14 2 ≠ 3 → clear w 20 = true →
      Gives (.lrxPolicySet dt (cmdTo l g f [w])) s fun t =>
        Leaves dt { s with lrx := upd s.lrx l fun _ => t.lrx[l] } t ∧ t.lrx[l].policy = w ∧
        (0 < l.val → bit w 16 = false → t.lrx[l].sides[0].gated = true) ∧
        (l.val < 7 → bit w 17 = false → t.lrx[l].sides[1].gated = true) ∧
        (fld w 14 2 ≠ s.lrx[l].profile ∨ fld w 16 2 ≠ fld s.lrx[l].policy 16 2 → t.lrx[l].round = none) ∧
        (fld w 14 2 = s.lrx[l].profile → fld w 16 2 = 3 → fld s.lrx[l].policy 16 2 = 3 →
          t.lrx[l] = { s.lrx[l] with policy := w }) ∧
        Replies s t (cmdTo l g f [w]) .lrx 0 []) ∧
    (s.workable (unitIslands .lrx l) →
      (clear w 1 = true → s.isUp .lrx l = true →
        Gives (.lrxRetrain dt (cmdTo l g f [w])) s fun t =>
          Leaves dt { s with lrx := upd s.lrx l fun _ => t.lrx[l], cal := t.cal } t ∧ (s.lrx[l].fade = none → t.cal = s.cal) ∧
          t.lrx[l].timing = false ∧
          t.lrx[l].acquired = false ∧ t.lrx[l].warm = !bit w 0 ∧ t.lrx[l].fade = none ∧ t.lrx[l].round = none ∧
          t.lrx[l].hostTrial = none ∧ t.lrx[l].banks = s.lrx[l].banks ∧ t.lrx[l].active = s.lrx[l].active ∧
          Replies s t (cmdTo l g f [w]) .lrx 0 []) ∧
      (s.allows .expert →
        (clear w 1 = true →
          Does .lrxAdaptSet .lrx s dt (cmdTo l g f [w])
            (fun s => { s with lrx := upd s.lrx l fun r =>
              { (if bit w 0 && r.round.isSome then
                  { r with round := none, voided := r.voided + 1
                           sides := r.sides.map fun x => { x with training := false } }
                 else r) with frozen := bit w 0 } }) (fun _ => [])) ∧
        (fld w 0 8 ≤ 104 → fld w 8 8 ≤ 36 → clear w 17 = true → s.admin .lrx l = .test →
          Gives (.lrxAfeForce dt (cmdTo l g f [w])) s fun t =>
            Leaves dt { s with lrx := upd s.lrx l fun _ => t.lrx[l] } t ∧
            t.lrx[l].afe = { s.lrx[l].afe with agc := fld w 0 8, ctle := fld w 8 8, held := bit w 16 } ∧
            t.lrx[l].round = none ∧ t.lrx[l].banks = s.lrx[l].banks ∧ Replies s t (cmdTo l g f [w]) .lrx 0 []) ∧
        (clear w 1 = true → ∀ d, s.lrx[l].fade = some d →
          Gives (.lrxFadeAbort dt (cmdTo l g f [w])) s fun t =>
            Leaves dt { s with lrx := upd s.lrx l fun _ => t.lrx[l], cal := t.cal } t ∧ t.lrx[l].fade = none ∧
            t.lrx[l].banks = s.lrx[l].banks ∧
            t.lrx[l].active = (if bit w 0 then otherBank s.lrx[l].active else s.lrx[l].active) ∧
            Raised s t .lrx l 0x18 (pk [(d.remaining t.now - 4096, 0), (b2n (bit w 0), 27), (0, 28)]) ∧
            Replies s t (cmdTo l g f [w]) .lrx 0 [w32 (d.remaining t.now - 4096)]) ∧
        (s.lrx[l].fade = none → s.lrx[l].frozen = true → (s.operLrx l).1.carries = true →
          (clear w 1 = true → firstBad (bankChecks (bankWord b)) = none → fld w 0 1 ≠ s.lrx[l].active.val →
            Does .lrxBankWrite .lrx s dt (cmdTo l g f (w :: b.toList))
              (fun s => { s with lrx := upd s.lrx l fun r =>
                { r with banks := r.banks.set (otherBank r.active) b } }) (fun _ => [])) ∧
          (clear w 2 = true →
            Gives (.lrxBankSwap dt (cmdTo l g f [w])) s fun t =>
              Leaves dt { s with
                cal := (s.later dt).roundOpens.cal
                lrx := upd s.lrx l fun r =>
                  { r with lastCause := 1
                           fade := some { step := 0, stepAt := s.now + dt, len := fld w 0 2, cause := 1
                                          profile := if bankLean r.live != bankLean r.standby then some 0 else none } } } t ∧
              Raised s t .lrx l 0x16 (pk [(1, 0), (fld w 0 2, 2)]) ∧ Replies s t (cmdTo l g f [w]) .lrx 0 []) ∧
          (clear w 8 = true → w ≠ 0 →
            Does .lrxShadowTrial .lrx s dt (cmdTo l g f [w])
              (fun s => { s with lrx := upd s.lrx l fun r => { r with hostTrial := some (s.now + fld w 0 8 * 1000000) } })
              (fun _ => [])))))

/-- R153 to R156, R166 to R169, R177, R181 to R183: a line receiver acquires, measures and judges its margin. Where a side of
a neighbour becomes available again with it, that neighbour's round is voided (`State.voidRestored`). Model's choices: entries
3, 14, 20, 31, 60. -/
def Obligations.LineReceiverMeasuresAndAcquires : Prop :=
  ∀ (s : State) (dt : Nat) (l : Fin 8) (a : AgcMeasure) (m : LmiMeasure) (q : LrxAcq), s.lrxLive l = true →
    let put (r : Lrx) : State := { s with lrx := upd s.lrx l fun _ => r }
    let r := s.lrx[l]
    let lmi := max (-128) (min 256 q.lmi)
    (Gives (.agcUpdate dt l a) s fun t =>
      Becomes dt (put { r with afe := t.lrx[l].afe }) t ∧ t.lrx[l].afe.ovr = a.overs ∧ t.lrx[l].afe.fsc = a.fulls ∧
      t.lrx[l].afe.ctle = r.afe.ctle ∧
      t.lrx[l].afe.agc = (if r.afe.held then r.afe.agc else if 908 < a.overs then r.afe.agc - 1
        else if a.overs ≤ 56 ∧ r.afe.agc < 104 then r.afe.agc + 1 else r.afe.agc)) ∧
    (r.afe.driven = false → 100 ≤ r.afe.hotRun →
      Gives (.laneOverdriven dt l) s fun t =>
        Becomes dt (put { r with afe := { r.afe with driven := true } }) t ∧ Raised s t .lrx l 0x21 1) ∧
    (s.isUp .lrx l = true →
      (r.timing = false → m.locked = false ∨ r.sd = false ∨ s.laneFg l = true ∨ m.freq.toInt.natAbs > 30000 →
        Gives (.lmiUpdate dt l m) s fun t =>
          Becomes dt (put { r with
            confirm := 0
            lmi := { r.lmi with
              value := 0x800, window := r.lmi.window.add none, lowCount := 0, okCount := 0, below1 := 0, belowExit := 0
              over3 := none } }) t) ∧
      (r.timing = true → r.sd = true → 30000 < m.freq.toInt.natAbs →
        Gives (.lmiUpdate dt l m) s fun t =>
          Becomes dt { put t.lrx[l] with cal := t.cal } t ∧ t.lrx[l].timing = false ∧ t.lrx[l].banks = r.banks ∧
          t.lrx[l].active = r.active ∧ Raised s t .lrx l 0x12 1) ∧
      (r.timing = true ∨ (m.locked = true ∧ r.sd = true ∧ s.laneFg l = false) → m.freq.toInt.natAbs ≤ 30000 →
        Gives (.lmiUpdate dt l m) s fun t =>
          let x := t.lrx[l]
          Becomes dt (s.voidRestored { put x with lfd := upd s.lfd l fun f => { f with errMs := m.errors, uncMs := m.uncorr } }) t ∧
          x.lmi.value = BitVec.ofInt 12 (max (-128) (min 256
            (if 4000 ≤ m.errors ∧ s.symChk (16 + l.val) = false then berLmi m else m.snr + r.gain / 4096))) ∧
          x.timing = true ∧ x.lockAt = (if r.timing then r.lockAt else s.now + dt) ∧
          x.confirm = (if s.lineLock l then r.confirm + 1 else 0) ∧ x.trFreq = m.freq ∧ x.banks = r.banks ∧ x.active = r.active) ∧
      (r.sd = true → s.laneFg l = false → r.acquired = false →
        (s.lineLock l = true → q.found = true → q.inverted = r.inverted → q.freq.toInt.natAbs ≤ 30000 →
          (r.warm = false → 100 ≤ r.confirm → firstBad (bankChecks (bankWord q.bank)) = none →
            r.afe.held = true ∨ (1 ≤ r.preset ∧ r.preset ≤ 3) ∨ q.ctle ∈ [9, 18, 27, 36] →
            Gives (.lrxAcquire dt l q) s fun t =>
              let x := t.lrx[l]
              Becomes dt (s.voidRestored (put x)) t ∧ x.timing = true ∧ x.acquired = true ∧
              x.banks = .replicate 2 q.bank ∧ x.inverted = q.inverted ∧ x.lmi.value = BitVec.ofInt 12 lmi ∧
              x.afe.ctle = (if r.afe.held then r.afe.ctle else if r.preset = 1 then 8 else if r.preset = 2 then 18
                else if r.preset = 3 then 28 else q.ctle) ∧
              (∀ hi, x.sides[sideIx hi].gated = (s.sideCause l hi != 0)) ∧
              Raised s t .lrx l 0x13 (w32 (min ((t.now - r.acqStart) / 1000) (2 ^ 31 - 1)))) ∧
          (r.warm = true → 10 ≤ r.confirm → r.warn - 16 ≤ lmi →
            Gives (.lrxWarmAcquire dt l q) s fun t =>
              let x := t.lrx[l]
              Becomes dt (s.voidRestored (put x)) t ∧ x.timing = true ∧ x.acquired = true ∧ x.banks = r.banks ∧
              x.inverted = q.inverted ∧ x.lmi.value = BitVec.ofInt 12 lmi ∧
              Raised s t .lrx l 0x13 (pk [(min ((t.now - r.acqStart) / 1000) (2 ^ 31 - 1), 0), (1, 31)]))) ∧
        (r.warm = true → (q.found = false ∨ (10 ≤ r.confirm ∧ lmi < r.warn - 16)) →
          Gives (.lrxWarmAcquire dt l q) s (Becomes dt (put { r with
            warm := false, confirm := 0
            afe := { r.afe with ctle := if r.afe.held then r.afe.ctle else if r.preset = 1 then 8 else if r.preset = 2 then 18
              else if r.preset = 3 then 28 else r.afe.ctle } }))) ∧
        (s.lineLock l = false → r.polSet = 2 →
          Gives (.lrxPolarityTry dt l) s (Becomes dt (s.voidRestored (put { r with
            timing := true, lockAt := if r.timing then r.lockAt else s.now + dt, inverted := !r.inverted, searched := true }))))) ∧
      (r.lmi.lowMargin = false → 10 ≤ r.lmi.lowCount →
        Gives (.lmiLow dt l) s fun t =>
          Becomes dt (put { r with lmi := { r.lmi with lowMargin := true } }) t ∧
          Raised s t .lrx l 0x14 (w32 r.lmi.value.toNat)) ∧
      (r.lmi.lowMargin = true → 10 ≤ r.lmi.okCount →
        Gives (.lmiRestored dt l) s fun t =>
          Becomes dt (put { r with lmi := { r.lmi with lowMargin := false } }) t ∧
          Raised s t .lrx l 0x15 (w32 r.lmi.value.toNat)))

/-- R161, R171, R175 to R177, R180, R185: adaptation rounds, fades and host-ordered trials; a side that is dropped is gated at
once. A fade that reaches step 256 makes the standby bank the active one, and no row of them writes the active bank. Model's
choices: entries 3, 14, 26, 58, 83. -/
def Obligations.AdaptationAndFadesRun : Prop :=
  ∀ (s : State) (dt : Nat) (l : Fin 8) (hi : Bool) (o : BitVec 16) (b : Bank) (m : TrialMeasure), s.lrxLive l = true →
    let put (r : Lrx) : State := { s with lrx := upd s.lrx l fun _ => r }
    let r := s.lrx[l]
    let mean (v : List Int) : Int := v.foldl (· + ·) 0 / v.length
    let delta := mean (m.blocks.map fun x => x.1 - x.2)
    let cand := mean (m.blocks.map (·.1))
    (∀ n, neighbour l hi = some n → r.sides[sideIx hi].gated = false →
      (∀ cause, cause ≠ 0 → cause ≠ 4 → s.sideCause l hi = cause →
        Gives (.neighbourDropped dt l hi cause o) s fun t =>
          Becomes dt (put t.lrx[l]) t ∧
          t.lrx[l].sides[sideIx hi] = { gated := true, cause := cause, offset := o, training := false } ∧
          t.lrx[l].round = none ∧ t.lrx[l].dropped = true ∧ t.lrx[l].banks = r.banks ∧
          Raised s t .lrx l 0x1A (pk [(b2n hi, 0), (n.val, 4), (cause, 8)])) ∧
      (o.toInt < -25000 ∨ 25000 < o.toInt →
        Gives (.neighbourDropped dt l hi 4 o) s fun t =>
          Becomes dt (put t.lrx[l]) t ∧
          t.lrx[l].sides[sideIx hi] = { gated := true, cause := 4, offset := o, training := false } ∧
          t.lrx[l].round = none ∧ t.lrx[l].dropped = true ∧ t.lrx[l].banks = r.banks ∧
          Raised s t .lrx l 0x1C (pk [(b2n hi, 0), (o.toNat, 16)]))) ∧
    (s.ccRuns = true →
      ((s.operLrx l).1.carries = true → r.frozen = false → r.fade = none → r.round = none → r.hostTrial = none →
        Gives (.adaptRoundStart dt l) s fun t =>
          Becomes dt (put t.lrx[l]) t ∧ (∃ x, t.lrx[l].round = some x ∧ x.trial = false ∧ x.afterDrop = r.dropped) ∧
          t.lrx[l].active = r.active ∧ t.lrx[l].live = r.live) ∧
      (∀ x, r.round = some x →
        (x.trial = false → firstBad (bankChecks (bankWord (b.set 0 (bankWord r.standby 0)))) = none →
          Gives (.adaptTrialStart dt l b) s (Becomes dt (put { r with
            round := some { x with trial := true }
            banks := r.banks.set (otherBank r.active) (b.set 0 (bankWord r.standby 0)) }))) ∧
        (x.trial = true → s.sideOk l false = x.avail.1 → s.sideOk l true = x.avail.2 → x.move = none →
          let commit := x.afterDrop || decide (2 ≤ delta)
          Gives (.adaptDecision dt l m) s fun t =>
            Becomes dt { put t.lrx[l] with cal := if commit then (s.later dt).roundOpens.cal else s.cal } t ∧
            t.lrx[l].round = none ∧ t.lrx[l].committed = commit ∧ t.lrx[l].delta = delta ∧ t.lrx[l].rounds = r.rounds + 1 ∧
            t.lrx[l].banks = r.banks ∧ t.lrx[l].active = r.active ∧
            (commit = true → t.lrx[l].fade = some
              { step := 0, stepAt := t.now, len := r.fadeLen, cause := if x.afterDrop then 3 else 0, profile := none }) ∧
            (commit = false → t.lrx[l].fade = r.fade) ∧
            Raised s t .lrx l 0x19 (pk [(twos 12 delta, 0), (b2n commit, 12), (twos 12 cand, 16)])) ∧
        (x.trial = true → r.sides[sideIx hi].gated = true → s.sideOk l hi = true →
          (if hi then x.avail.2 else x.avail.1) = false →
          Gives (.adaptDecision dt l m) s (Becomes dt (put { r with
            round := none, voided := r.voided + 1, sides := r.sides.map fun y => { y with training := false } })))) ∧
      (∀ e, r.hostTrial = some e → e ≤ s.now + dt →
        Gives (.hostTrialEnd dt l m) s fun t =>
          Becomes dt (put { r with hostTrial := none, delta := delta, cand := cand, committed := false }) t ∧
          Raised s t .lrx l 0x19 (pk [(twos 12 delta, 0), (1, 13), (twos 12 cand, 16)]))) ∧
    (∀ d, r.fade = some d →
      (d.step < 255 →
        Gives (.fadeStep dt l) s (Becomes dt (put { r with
          fade := some { d with step := d.step + 1, stepAt := s.now + dt } }))) ∧
      (255 ≤ d.step →
        Gives (.fadeStep dt l) s fun t =>
          Becomes dt { put t.lrx[l] with cal := t.cal } t ∧ t.lrx[l].fade = none ∧ t.lrx[l].active = otherBank r.active ∧
          t.lrx[l].banks = r.banks ∧ t.lrx[l].lastFade = t.now ∧
          Raised s t .lrx l 0x17 (pk [((otherBank r.active).val, 0), (d.cause, 1)])))

/-! ## Line framing -/

/-- R120, R212 to R217: the commands of classes GRP and FEC, and LATENCY_GET. A group whose half of the tiling changes keeps
its mode only where it keeps its size; a host transmitter that moves, or whose group loses its frequency, runs from the host
PLL. Model's choices: entries 15, 51, 66. -/
def Obligations.GroupCommandsTakeEffect : Prop :=
  ∀ (s : State) (dt : Nat) (i : Fin 8) (g f : Byte) (w w1 : Word), s.takes → s.anyRun = true →
    let p := s.grp[i]
    let til := (fld w 0 3, fld w 4 3)
    let map : Vector Word 2 := vec [w, w1] rfl
    (1 ≤ fld w 0 3 → fld w 0 3 ≤ 5 → 1 ≤ fld w 4 3 → fld w 4 3 ≤ 5 → bit w 3 = false → clear w 7 = true →
      s.stepRefused 5 = none →
      (∀ h ∈ s.tilingHits til, s.isUp .grp h = false ∧
        (s.grp[h].mode = 3 → sizeIn til h ≠ sizeIn s.tiling h → s.isUp .seal h = false)) →
      Gives (.grpTilingSet dt (cmdTo 0 g f [w])) s fun t =>
        Leaves dt ((s.setTiling til).beginStep 5) t ∧ t.tiling = til ∧
        (∀ h : Fin 8, h ∈ s.tilingHits til → t.grp[h].mode = if sizeIn s.tiling h = sizeIn til h then s.grp[h].mode else 0) ∧
        (∀ h : Fin 8, h ∉ s.tilingHits til → t.grp[h] = s.grp[h] ∧ t.seals[h] = s.seals[h]) ∧
        Replies s t (cmdTo 0 g f [w]) .grp 0 []) ∧
    (xbarClash map = none → s.stepRefused 5 = none → (∀ h ∈ s.xbarHits map, s.isUp .grp h = false) →
      Gives (.grpXbarSet dt (cmdTo 0 g f [w, w1])) s fun t =>
        Leaves dt (({ s with xbar := map, htx := t.htx } : State).beginStep 5) t ∧
        (∀ n : Fin 16, t.htx[n] = { s.htx[n] with recovered := s.htx[n].recovered && xbarPos s.xbar n == xbarPos map n }) ∧
        Replies s t (cmdTo 0 g f [w, w1]) .grp 0 []) ∧
    (s.allows .secure → clear w 2 = true → fld w 0 2 ≠ 0 → (fld w 0 2 = 3 → s.owned = true) → s.stepRefused 6 = none →
      s.gsize i ≠ 0 → s.admin .grp i = .down → (p.mode = 3 → fld w 0 2 ≠ 3 → s.admin .seal i = .down) →
      (fld w 0 2 = 3 → ∀ l ∈ s.glanes i, s.isUp .tst (16 + l.val) = false) →
      Gives (.grpModeSet dt (cmdTo i g f [w])) s fun t =>
        Leaves dt ((s.setMode i (fld w 0 2)).beginStep 6) t ∧ t.grp[i].mode = fld w 0 2 ∧
        (p.mode ≠ fld w 0 2 → fld w 0 2 ≠ 3 → p.mode = 3 → t.seals[i].closed = .none) ∧
        Replies s t (cmdTo i g f [w]) .grp 0 []) ∧
    (Does .grpConfigGet .grp s dt (cmdTo 0 g f []) id fun s =>
      [pk [(s.tiling.1, 0), (s.tiling.2, 4)], s.xbar[0], s.xbar[1],
       pk ((fins 8).flatMap fun g =>
         [(s.grp[g].mode, 4 * g.val), (b2n (s.grp[g].mode == 3 && s.seals[g].stream), 4 * g.val + 2)])]) ∧
    (clear w 3 = true → s.gsize (fld w 0 3) ≠ 0 → s.workable [64, 65, 66, 67] →
      Does .latencyGet .dev s dt (cmdTo 0 g f [w]) id fun s =>
        let q := lineLane (fld w 0 3)
        let since (l : List (Nat × Nat)) : List Nat :=
          match s.obs.carry[q] with
          | none => []
          | some t => (l.filter fun x => decide (t ≤ x.1)).map (·.2)
        let valid (l : List (Nat × Nat)) : List Nat := if 256 ≤ (since l).length then since l else []
        let h2l := valid s.grp[q].h2l
        let l2h := valid s.grp[q].l2h
        pk [(b2n (h2l != []), 0), (b2n (l2h != []), 1), (fld w 0 3, 4)] :: figures h2l ++ figures l2h ++ lohi s.grp[q].latAt) ∧
    (s.workable [64, 65, 66, 67] →
      (Does .grpFrameStatusGet .grp s dt (cmdTo i g f []) id fun s => s.frameStatus i) ∧
      (Does .fecLaneGet .fec s dt (cmdTo i g f []) id fun s => (List.range 4).flatMap fun p => match s.atPos i p with
        | some l => [pk [(b2n s.lfd[l].inner, 0), (b2n (s.joined i l).isSome, 1), (l, 4), (s.lfd[l].offset, 8)],
                     w32 (min s.lfd[l].errMs 0xFFFFFFFF), w32 (min s.lfd[l].uncMs 0xFFFFFFFF),
                     w32 (s.lfd[l].missed - s.obs.missed[l])]
        | none => [0xF0, 0, 0, 0]) ∧
      (s.allows .counter → clear w 2 = true → (bit w 0 = true → p.mode ≠ 1) →
        Does .fecHistGet .fec s dt (cmdTo i g f [w])
          (fun s =>
            let fresh (h : Hist) : Hist := { h with vals := .replicate 18 0, start := s.now }
            if bit w 1 = false then s
            else if bit w 0 then { s with fec := upd s.fec i fun x => { x with host := fresh x.host } }
            else { s with fec := upd s.fec i fun x => { x with line := fresh x.line } })
          fun s => histBlock (if bit w 0 then s.fec[i].host else s.fec[i].line) (b2n (bit w 0))
            (!bit w 0 && s.grp[i].mode == 1))) ∧
    (fld w 0 4 ≠ 0 → fld w 4 12 = 0 → fld w 16 16 ≠ 0 →
      Does .fecMarginSet .fec s dt (cmdTo i g f [w])
        (fun s => { s with fec := upd s.fec i fun x => { x with bin := fld w 0 4, limit := fld w 16 16 } }) (fun _ => []))

/-- R166, R177, R196, R199, R203, R204, R207: inner lock comes and goes by its windows, and with it the lane keeps its
polarity; milestone lock is declared on the second of two milestones at the distance of a period, a milestone that is missed
is bridged once, and the second one ends the lock. Of the other groups nothing changes. Model's choices: entries 3, 14, 50,
64, 66. -/
def Obligations.LinesAreFramed : Prop :=
  ∀ (s : State) (dt : Nat) (l : Fin 8) (count : Nat) (m : MilestoneArrival),
    let x := s.lfd[l]
    let put (h : Lfd → Lfd) : State := { s with lfd := upd s.lfd l h }
    let group (g : Fin 8) (t : State) : State :=
      { s with lfd := upd s.lfd l fun _ => t.lfd[l], grp := upd s.grp g fun _ => t.grp[g], seals := upd s.seals g fun _ => t.seals[g]
               srx := t.srx, lay := t.lay, egress := t.egress, hostOut := t.hostOut }
    (s.usable [66] = true →
      (x.inner = true →
        Gives (.innerWindow dt l count) s (Becomes dt (put fun y => { y with badWin := if 384 < count then y.badWin + 1 else 0 }))) ∧
      (x.inner = false → s.isUp .lrx l = true → s.lrx[l].sd = true → s.laneFg l = false → 192 < count →
        Gives (.innerWindow dt l count) s (Becomes dt (put fun y => { y with offset := (y.offset + 1) % 128 }))) ∧
      (x.inner = false → s.isUp .lrx l = true → s.lrx[l].sd = true → s.laneFg l = false → count ≤ 192 →
        let flip := s.lrx[l].inverted != s.lrx[l].start && s.lrx[l].kept != some s.lrx[l].inverted
        Gives (.innerWindow dt l count) s fun t =>
          Becomes dt (s.voidRestored { (put fun y => { y with inner := true, badWin := 0, cand := none }) with
            lrx := upd s.lrx l fun r => { r with
              timing := true, lockAt := if r.timing then r.lockAt else s.now + dt, kept := some r.inverted
              searched := r.searched || flip } }) t ∧
          (flip = true → Raised s t .lrx l 0x20 (w32 (b2n s.lrx[l].inverted))) ∧
          ∀ g, s.groupOf l = some g → Raised s t .fec g 0x14 (pk [(x.offset, 8), (l.val - g, 0), (l, 4)]))) ∧
    (∀ g : Fin 8, s.groupOf l = some g.val →
      (x.inner = true → 4 ≤ x.badWin →
        Gives (.innerLockLost dt l) s fun t => Becomes dt (group g t) t ∧
          t.lfd[l] = { x with inner := false, badWin := 0, msLock := false, cand := none
                              misses := if x.msLock then 0 else x.misses } ∧
          Raised s t .fec g 0x13 (pk [(s.posOf g l, 0), (l, 4)])) ∧
      (x.inner = true → s.usable [66] = true → msValid m.rsOk m.words = true →
        (x.msLock = false → x.cand.all (fun c => m.slots != 2049 + c) = true →
          Gives (.milestoneReceived dt l m) s fun t => Becomes dt (group g t) t ∧
            t.lfd[l] = { x with cand := some (msF m.words), last := some m.words, lastAt := t.now } ∧
            t.grp[g].lastValid = t.now ∧ t.grp[g].rxSeq = msSeq m.words) ∧
        (x.msLock = false → x.cand = some (m.slots - 2049) → 2049 ≤ m.slots →
          Gives (.milestoneReceived dt l m) s fun t => Becomes dt (group g t) t ∧
            t.lfd[l] = { x with msLock := true, cand := none, misses := 0, last := some m.words, lastAt := t.now, slot := 0
                                skew := m.lag, lockAt := t.now } ∧
            t.grp[g].lastValid = t.now ∧ t.grp[g].rxSeq = msSeq m.words ∧
            Raised s t .grp g 0x11 (pk [(msLane m.words, 0), (l, 4)])) ∧
        (x.msLock = true → x.expects m.slots = true →
          Gives (.milestoneReceived dt l m) s fun t => Becomes dt (group g t) t ∧
            t.lfd[l] = { x with misses := 0, last := some m.words, lastAt := t.now, slot := 0, skew := m.lag } ∧
            t.grp[g].lastValid = t.now ∧ t.grp[g].rxSeq = msSeq m.words ∧ t.grp[g].idleRx = (msType m.words == 2))) ∧
      (x.msLock = true → x.misses = 0 →
        Gives (.milestoneMissed dt l) s fun t => Becomes dt (group g t) t ∧ t.grp[g] = s.grp[g] ∧
          t.lfd[l] = { x with misses := 1, missed := min (x.missed + 1) 0xFFFFFFFF, slot := 0 }) ∧
      (x.msLock = true → x.misses ≠ 0 →
        Gives (.milestoneMissed dt l) s fun t => Becomes dt (group g t) t ∧ t.lfd[l].msLock = false ∧
          t.grp[g].deskewed = false ∧ t.grp[g].locked = false ∧ t.egress[g] = [] ∧
          Raised s t .grp g 0x10 (pk [(0, 8), (s.posOf g l, 0), (l, 4)])))

/-- R15 to R17, R122, R133, R191, R200, R202, R209 to R211, R242, R247: a period starts with its milestone and F from the
ingress buffer; a host codeword joins the buffer, and the oldest codeword there fills the next data slot, encrypted under the
keys of a SEALED period before its parity is computed. A data slot of a lane that has joined its group goes to the egress
buffer, of which all but 32 codewords per lane reach the host, Local Fault in their place while the group has cause for it;
or, in HOLD, it waits in LAY for the tags of its period. Model's choices: entries 3, 8, 14, 51, 53, 63, 64, 65. -/
def Obligations.CodewordsAreCarried : Prop :=
  ∀ (s : State) (dt : Nat) (g : Fin 8) (l : Fin 8) (p : PeriodMeasure) (m : CodewordResult),
    let n := s.grp[g].slot
    let k := s.gsize g
    let pos := n % k
    let mode := s.grp[g].mode
    let got := rsDecode m.bits
    (s.sends g = true →
      Gives (.periodStart dt g p) s fun t =>
        Becomes dt { s with grp := upd s.grp g fun _ => t.grp[g], seals := upd s.seals g fun _ => t.seals[g]
                            ltx := t.ltx, tst := t.tst, txOut := t.txOut, lay := t.lay, srx := t.srx } t ∧
        t.grp[g].running = true ∧ t.grp[g].seq = (if s.grp[g].running then (s.grp[g].seq + 1) % 2 ^ 40 else 0) ∧
        t.grp[g].f = (if s.grp[g].running then fillOf (((s.later dt).endPeriod g).excess g p.part) else 2) ∧
        t.grp[g].slot = 0 ∧ t.grp[g].sent.length = k) ∧
    (s.sends g = true → s.usable [64] = true → s.hostLocked g = true → s.scanHolds = false → s.framedGen g = false →
      s.grp[g].running = true → n < 2048 * k →
      let c : Carried := if mode = 1 then .intact m.bits
        else .message (match got with
          | some x => if m.marks then Config.amPlace x.2 else x.2
          | none => Config.errorMessage)
      let first := s.grp[g].ingress.headD c
      Gives (.hostCodewordReceived dt g m) s fun t =>
        Becomes dt { s with
          fec := if mode = 1 then s.fec else upd s.fec g fun x => { x with host := x.host.add (got.map (·.1)) (s.now + dt) }
          grp := upd s.grp g fun x =>
            { x with slot := n + 1, ingress := (x.ingress ++ [c]).drop 1, madeAt := s.now + dt, made := 0 }
          seals := upd s.seals g fun _ => t.seals[g]
          tst := t.tst
          txOut := s.txOut.set g.val t.txOut[g] g.isLt } t ∧
        (s.grp[g].txIdle = true → t.txOut[g] = []) ∧
        (s.grp[g].txIdle = false → s.tst[Fin.ofNat 24 (16 + g.val + pos)].pend = [] →
          t.txOut[g] = [.data pos (n / k) (match first with
            | .intact w => w
            | .message v => rsCode (match s.seals[g].txPer with
              | some x => v ^^^ Config.gcmMask x.2.1 (periodIv x.1 s.grp[g].seq pos (b2n x.2.2)) (n / k)
              | none => v))])) ∧
    (∀ x q, s.groupOf l = some g.val → s.lfd[l].msLock = true → s.usable [66, 67] = true → s.lfd[l].slot < 2048 →
      s.lfd[l].last = some x → msType x ≠ 2 → mode ≠ 0 → s.joined g l = some q →
      let msg := (got.map (·.2)).getD (BitVec.ofNat 5140 m.bits.toNat)
      let plain := if mode = 3 then (s.decrypted g l msg).getD (Config.keyless msg) else msg
      let out : Output := if mode = 1 then .data q s.lfd[l].slot m.bits
        else if got.isSome then
          .data q s.lfd[l].slot (rsCode (if m.marks then Config.amRegenerate s.grp[g].bip plain else plain))
        else .marked q s.lfd[l].slot
      let next (t : State) : State :=
        { s with lfd := upd s.lfd l fun y => { y with slot := y.slot + 1 }
                 fec := upd s.fec g fun y => { t.fec[g] with line := y.line.add (got.map (·.1)) (s.now + dt), host := y.host }
                 grp := upd s.grp g fun y => { y with bip := t.grp[g].bip, marks := t.grp[g].marks }
                 srx := if mode = 3 ∧ s.seals[g].keys ≠ none then upd s.srx l fun v => v ++ [plain] else s.srx }
      (mode ≠ 3 ∨ s.seals[g].stream = true →
        let held := mode = 1 ∧ s.obs.held[g] = some (s.grp[g].marks + b2n m.marks)
        let bad := s.isUp .grp g = false ∨ s.noFrames g = true ∨ s.failClosed g = true ∨ s.grp[g].outRange = true
        let all := s.egress[g] ++ [if held then out.lost else out]
        let leave := all.take (all.length - 32 * k)
        Gives (.lineCodewordReceived dt l m) s fun t =>
          Becomes dt { next t with egress := s.egress.set g.val (all.drop (all.length - 32 * k)) g.isLt
                                   hostOut := s.hostOut.set g.val (if bad then leave.map Output.lost else leave) g.isLt } t) ∧
      (mode = 3 → s.seals[g].stream = false → s.seals[g].keys ≠ none →
        Gives (.lineCodewordReceived dt l m) s fun t =>
          Becomes dt { next t with lay := upd s.lay l fun v => v ++ [(s.lfd[l].period, out)] } t))

/-- R20 to R22, R120, R216: the host clock locks to the line once, inside ±250 ppm; a peer out of the tracking range is held
at its limit, and tracked again once it returns; the RS margin alarm comes and goes by ten windows in a row. Model's choices:
entries 3, 14, 60, 64. -/
def Obligations.ClocksAndMarginsAreWatched : Prop :=
  ∀ (s : State) (dt : Nat) (g : Fin 8) (w : Word),
    let p := s.grp[g]
    let x := s.fec[g]
    (s.gsize g ≠ 0 → p.deskewed = true → p.locked = false → p.outRange = false → w.toInt.natAbs ≤ 250000 →
      Gives (.clockLocked dt g w) s fun t =>
        Becomes dt { s with grp := upd s.grp g fun p => { p with locked := true, hasFreq := true, freq := w }, htx := t.htx } t ∧
        (∀ n : Fin 16, t.htx[n] = { s.htx[n] with recovered := s.htx[n].recovered || decide (n ∈ s.ghosts g) }) ∧
        Raised s t .grp g 0x18 (w32 (min ((t.now - p.lockAt) / 1000) 0xFFFFFFFF))) ∧
    (s.gsize g ≠ 0 → p.outRange = false → 25000 < w.toInt ∨ w.toInt < -25000 →
      Gives (.freqRange dt g w) s fun t =>
        Becomes dt { s with grp := upd s.grp g fun p => { p with
          outRange := true, hasFreq := true, freq := BitVec.ofInt 32 (if w.toInt < 0 then -250000 else 250000) } } t ∧
        Raised s t .grp g 0x15 w) ∧
    (p.outRange = true → -25000 ≤ w.toInt → w.toInt ≤ 25000 →
      Gives (.peerFrequencyInRange dt g w) s
        (Becomes dt { s with grp := upd s.grp g fun p => { p with outRange := false, freq := BitVec.ofInt 32 (10 * w.toInt) } })) ∧
    (Gives (.rsMarginWindow dt g) s (Becomes dt { s with fec := upd s.fec g fun x => { x with
      lastN := x.count, count := 0, low := if x.limitW ≤ x.count then x.low + 1 else 0
      ok := if x.limitW ≤ x.count then 0 else x.ok + 1, binW := x.bin, limitW := x.limit } })) ∧
    (x.alarm = false → 10 ≤ x.low →
      Gives (.rsMarginLow dt g) s fun t =>
        Becomes dt { s with fec := upd s.fec g fun x => { x with alarm := true, since := s.now + dt } } t ∧
        Raised s t .fec g 0x11 (w32 (min x.lastN 0xFFFFFFFF))) ∧
    (x.alarm = true → 10 ≤ x.ok →
      Gives (.rsMarginRestored dt g) s fun t =>
        Becomes dt { s with fec := upd s.fec g fun x => { x with alarm := false } } t ∧
        Raised s t .fec g 0x12 (w32 ((t.now - x.since) / 1000000000)))

/-! ## The sealed link -/

/-- R236, R241, R246, R248, R259, R260: the commands of class SEAL, to a device without owner; the payload commands in OWNED
as well, with their permit. SEAL_REHANDSHAKE also asks for a new attempt where the peer was refused. Model's choices: entries
8, 52. -/
def Obligations.SealCommandsTakeEffect : Prop :=
  ∀ (s : State) (dt : Nat) (i : Fin 8) (g f : Byte) (w : Word) (d : List Word), s.takes → s.anyRun = true →
    let c := s.seals[i]
    let put (h : Seal → Seal) (s : State) : State := { s with seals := upd s.seals i h }
    (Does .sealInfoGet .seal s dt (cmdTo i g f []) id fun s => s.sealInfo i) ∧
    (c.hs.phase = .idle → c.ann = none → s.workable [68, 69] → s.allows .secure →
      ((s.operSeal i).1 = .up ∨ (c.closed = .refused ∧ (s.operSeal i).2 = 0x0B) →
        Does .sealRehandshake .seal s dt (cmdTo i g f [])
          (fun s => put (fun c => { c with retryAt := some s.now }) s) (fun _ => [])) ∧
      ((s.operSeal i).1 = .up →
        Does .sealEpochAdvance .seal s dt (cmdTo i g f [])
          (put fun c => { c with annNext := some (if s.grp[i].running then (s.grp[i].seq + 1) % 2 ^ 40 else 0) })
          (fun _ => []))) ∧
    (s.allows .secure → s.workable [68, 69] → s.admin .seal i = .test → clear w 8 = true → w ≠ 0 →
      Does .sealTagCorrupt .seal s dt (cmdTo i g f [w]) (put fun c => { c with corrupt := fld w 0 8 }) (fun _ => [])) ∧
    (s.owned = false ∨ s.permit 2 = true → clear w 9 = true → 1 ≤ fld w 0 9 → fld w 0 9 ≤ 504 →
      d.length = (fld w 0 9 + 3) / 4 → s.gsize i ≠ 0 → c.wpOut.length < 4 →
      Does .sealWaypostSend .seal s dt (cmdTo i g f (w :: d))
        (put fun c => { c with wpOut := c.wpOut ++ [(fld w 0 9, d)] }) (fun _ => [])) ∧
    (s.owned = false ∨ s.permit 2 = true →
      Does .sealWaypostRead .seal s dt (cmdTo i g f []) (put fun c => { c with wpIn := c.wpIn.drop 1, lost := 0 }) fun s =>
        match s.seals[i].wpIn with
        | [] => [pk [(s.seals[i].lost, 24)], 0, 0]
        | w :: q => [pk [(w.len, 0), (b2n w.verified, 9), (q.length, 16), (s.seals[i].lost, 24)], w32 w.seq,
                     pk [(w.seq / 2 ^ 32, 0), (w.position, 8)]] ++ w.data)

/-- R228, R237 to R241, R244, R248, R252: peers come, are recognised as this device, and are lost; a handshake goes from HELLO
by KEYSHARE_I, KEYSHARE_R, FINISH_I and CONFIRM to keys of epoch 1 in both directions, and where keys are in force to a new
session that waits to enter; STREAM of the policy applies with it. Model's choices: entries 3, 8, 9, 52, 89. -/
def Obligations.HandshakesEndInKeys : Prop :=
  ∀ (s : State) (dt : Nat) (g : Fin 8) (m : List Word),
    let c := s.seals[g]
    let rest (t : State) : State := { s with seals := upd s.seals g fun _ => t.seals[g] }
    let closes (t : State) : State :=
      { rest t with grp := upd s.grp g fun _ => t.grp[g], lay := t.lay, srx := t.srx }
    let keyed (t : State) (first : Bool) (prk : Hash) : Prop :=
      t.seals[g].hs.phase = .idle ∧ t.seals[g].closed = .none ∧ t.seals[g].handshakes = min (c.handshakes + 1) 65535 ∧
      t.seals[g].hsTime = t.now ∧ t.seals[g].authId = some (helloId c.hello) ∧
      t.seals[g].stream = bit (s.sec.policy.getD 4 0) 0 ∧
      (c.keys = none → t.seals[g].keys = some { initiator := first, tx := firstKeys prk (if first then 0 else 1) 1
                                                rx := firstKeys prk (if first then 1 else 0) 1 } ∧
        Raised s t .seal g 0x1C 1) ∧
      (c.keys ≠ none → t.seals[g].keys = c.keys ∧
        t.seals[g].pend = some { initiator := first, prk := some prk, tx := .due, rx := .due }) ∧
      Raised s t .seal g 0x14 (w32 (min ((t.now - c.hs.start) / 1000) 0xFFFFFFFF))
    (s.gsize g ≠ 0 → s.grp[g].mode ≠ 0 → msgOk 1 m = true →
      Gives (.hello dt g m) s fun t => Becomes dt (closes t) t ∧ t.seals[g].peered = true ∧ t.seals[g].hello = m ∧
        t.seals[g].selfPeer = (s.sec.identity && helloId m == identityHash) ∧
        (s.sec.identity = true → helloId m = identityHash → c.selfPeer = false → Raised s t .seal g 0x1D 0) ∧
        (¬(s.sec.identity = true ∧ helloId m = identityHash) →
          t.seals[g].remembered = some (helloId m) ∧
          (c.remembered = none → Raised s t .seal g 0x10 (m.getD 4 0)) ∧
          (∀ r, c.remembered = some r → r ≠ helloId m → Raised s t .seal g 0x12 (m.getD 4 0)))) ∧
    (s.grp[g].lastValid + eightPeriods ≤ s.now + dt → c.peered = true ∨ s.grp[g].remote ≠ 0xE →
      Gives (.peerLost dt g) s fun t => Becomes dt (closes t) t ∧ t.grp[g].remote = 0xE ∧ t.seals[g].peered = false ∧
        t.seals[g].hello = [] ∧ (c.peered = true → Raised s t .seal g 0x11 (w32 s.grp[g].rxSeq)) ∧
        (s.grp[g].mode = 3 → s.sec.zeroised = false → t.seals[g].keys = none)) ∧
    (s.canHandshake g = true → (s.later dt).handshakeDue g = true → c.hs.phase = .idle →
      (s.initiates g = true → Gives (.handshakeStart dt g) s fun t => Becomes dt (rest t) t ∧
        t.seals[g].hs.phase = .sentI ∧ msgOk 2 t.seals[g].hs.ksI = true ∧
        t.seals[g].outbox = c.outbox ++ fragments t.seals[g].hs.ksI ∧ t.seals[g].retryAt = none) ∧
      (s.initiates g = true → c.retryAt ≠ none → Gives (.handshakeRetry dt g) s fun t => Becomes dt (rest t) t ∧
        t.seals[g].hs.phase = .sentI ∧ t.seals[g].hs.attempt = (c.hs.attempt + 1) % 2 ^ 32 ∧
        t.seals[g].outbox = c.outbox ++ fragments t.seals[g].hs.ksI ∧ t.seals[g].retryAt = none) ∧
      (s.initiates g = false → c.keys = none → Gives (.handshakeStart dt g) s fun t => Becomes dt (rest t) t ∧
        t.seals[g].hs.phase = .waitI)) ∧
    (s.canHandshake g = true → s.initiates g = false → c.hs.phase = .waitI ∨ c.hs.phase = .idle → msgOk 2 m = true →
      s.chainGood g (m.drop 420) = true → s.chainAdmitted g (m.drop 420) = true →
      Gives (.keyshareI dt g m) s fun t => Becomes dt (rest t) t ∧ t.seals[g].hs.phase = .sentR ∧
        t.seals[g].hs.attempt = msgAttempt m ∧ t.seals[g].hs.ksI = m ∧ msgOk 3 t.seals[g].hs.ksR = true ∧
        t.seals[g].outbox = fragments t.seals[g].hs.ksR) ∧
    (c.hs.phase = .sentI → msgOk 3 m = true → msgAttempt m = c.hs.attempt →
      s.chainGood g ((m.drop 420).take 2760) = true →
      Config.hybridValid (certKey ((m.drop 420).take 2760)) (transcript c.sentHello c.hello c.hs.ksI (m.take 3180)).toList
        (m.drop 3180) = true →
      s.chainAdmitted g ((m.drop 420).take 2760) = true →
      Gives (.keyshareR dt g m) s fun t => Becomes dt (rest t) t ∧ t.seals[g].hs.phase = .sentFinish ∧
        t.seals[g].hs.ksR = m ∧ t.seals[g].msgs.map msgType = c.msgs.map msgType ++ [4, 5]) ∧
    (c.hs.phase = .sentR → msgOk 4 m = true → msgAttempt m = c.hs.attempt →
      Config.hybridValid (certKey (c.hs.ksI.drop 420)) (c.hs.h2.getD (hashOf [])).toList (m.drop 4) = true →
      Gives (.finishI dt g m) s fun t => Becomes dt (rest t) t ∧ t.seals[g].hs.phase = .gotFinish ∧
        t.seals[g].hs.h3 = some (Config.sha384 ((c.hs.h2.getD (hashOf [])).toList ++ m.drop 4))) ∧
    (∀ prk h3, c.hs.prk = some prk → c.hs.h3 = some h3 → msgOk 5 m = true → msgAttempt m = c.hs.attempt →
      (c.hs.phase = .gotFinish → hashOf (m.drop 4) = confirmOf prk h3 0 →
        Gives (.confirm dt g m) s fun t => Becomes dt (rest t) t ∧ keyed t false prk ∧
          t.seals[g].outbox = c.outbox ++ fragments (msgHeader 5 64 c.hs.attempt ++ (confirmOf prk h3 1).toList)) ∧
      (c.hs.phase = .sentFinish → hashOf (m.drop 4) = confirmOf prk h3 1 →
        Gives (.confirm dt g m) s fun t => Becomes dt (rest t) t ∧ keyed t true prk))

/-- R234, R235, R241, R260: missing fragments are asked for and repeated; a handshake that times out or is aborted fails with
its cause, and an ABORT outside a handshake leaves its cause. Model's choices: entries 3, 52. -/
def Obligations.HandshakesFailByTheirRules : Prop :=
  ∀ (s : State) (dt : Nat) (g : Fin 8) (m : List Word),
    let c := s.seals[g]
    let closes (t : State) : State :=
      { s with seals := upd s.seals g fun _ => t.seals[g], grp := upd s.grp g fun _ => t.grp[g], lay := t.lay, srx := t.srx }
    (∀ x, msgOk 6 m = true → c.msgs.find? (fun x => msgType x == (m.getD 4 0).toNat) = some x →
      Gives (.nack dt g m) s (Becomes dt { s with seals := upd s.seals g fun c => { c with
        outbox := c.outbox ++ ((List.range (fragments x).length).filter
          ((m.getD 5 0).toNat + 2 ^ 32 * (m.getD 6 0).toNat).testBit).map fun i => (fragments x).getD i [] } })) ∧
    (∀ r, c.inbox = some r → r.missing ≠ 0 → r.at_ + fourPeriods ≤ s.now + dt → c.hs.nacks < 8 →
      Gives (.fragmentWaitExpiry dt g) s (Becomes dt { s with seals := upd s.seals g fun c => { c with
        outbox := c.outbox ++ fragments
          (msgHeader 6 32 (s.inboxAttempt g r) ++ [w32 r.type, w32 r.missing, w32 (r.missing / 2 ^ 32), 0])
        inbox := some { r with at_ := s.now + dt }, hs := { c.hs with nacks := c.hs.nacks + 1 } } })) ∧
    (c.hs.phase ≠ .idle → 8 ≤ c.hs.nacks ∨ c.hs.step + 20000000 ≤ s.now + dt →
      Gives (.handshakeTimeout dt g) s fun t => Becomes dt (closes t) t ∧ t.seals[g].hs.phase = .idle ∧
        t.seals[g].lastAbort = 1 ∧ t.seals[g].keys = c.keys ∧ Raised s t .seal g 0x15 (pk [(1, 0), (0, 8)]) ∧
        t.seals[g].outbox = fragments (msgHeader 7 32 c.hs.attempt ++ [1, 0, 0, 0])) ∧
    (msgOk 7 m = true → c.hs.phase ≠ .idle →
      Gives (.abort dt g m) s fun t => Becomes dt (closes t) t ∧ t.seals[g].hs.phase = .idle ∧
        t.seals[g].lastAbort = (m.getD 4 0).toNat % 256 ∧
        Raised s t .seal g 0x15 (pk [((m.getD 4 0).toNat % 256, 0), (1, 8)]) ∧
        ((m.getD 4 0).toNat = 4 → t.seals[g].keys = none)) ∧
    (msgOk 7 m = true → c.hs.phase = .idle →
      Gives (.abort dt g m) s (Becomes dt { s with seals := upd s.seals g fun c =>
        { c with lastAbort := (m.getD 4 0).toNat % 256 } }))

/-- R240, R244 to R248, R251: an epoch is announced, its key derived by the receiver, switched to at m+64, or withdrawn; one
chain key is held in a direction, and of a new session PRK goes once the first chain keys exist. After eight announcements
withdrawn in a row, or when the tag failures of a window reach the limit under REHANDSHAKE, the group fails closed. Model's
choices: entries 3, 8, 53. -/
def Obligations.EpochsAdvance : Prop :=
  ∀ (s : State) (dt : Nat) (g : Fin 8) (k : Keys),
    let c := s.seals[g]
    let next := s.nextSeq g
    let put (h : Seal → Seal) : State := { s with seals := upd s.seals g h }
    let closes (t : State) : State :=
      { s with seals := upd s.seals g fun _ => t.seals[g], grp := upd s.grp g fun _ => t.grp[g], lay := t.lay, srx := t.srx }
    (c.keys = some k →
      (s.announceDue g next = true → c.pend = none →
        let e := k.tx.epoch + 1
        let ch := if k.tx.chain.1 = e then k.tx.chain.2 else chainKey k.tx.chain.2 k.txDir e
        Gives (.epochAnnounce dt g) s (Becomes dt (put fun c => { c with
          keys := some { k with tx := { k.tx with chain := (e, ch), next := some (e, epochKey ch k.txDir e) } }
          ann := some { m := next, epoch := e, fresh := false, acked := false, drawn := false }
          annNext := none }))) ∧
      (∀ p prk, s.announceDue g next = true → c.pend = some p → p.prk = some prk → p.tx = .due →
        let e := k.tx.epoch + 1
        let dir := if p.initiator then 0 else 1
        let ch := chainKey prk dir e
        Gives (.epochAnnounce dt g) s (Becomes dt (put fun c => { c with
          keys := some { k with tx := { k.tx with next := some (e, epochKey ch dir e) } }
          pend := some { p with tx := .held e ch, prk := if p.rx = .due then some prk else none }
          ann := some { m := next, epoch := e, fresh := true, acked := false, drawn := false }
          annNext := none }))) ∧
      (∀ e seq, c.heard = some (e, false, seq) → c.ackFor ≠ some e →
        let ch := if k.rx.chain.1 = e then k.rx.chain.2 else chainKey k.rx.chain.2 k.rxDir e
        Gives (.epochKeyDerived dt g) s (Becomes dt (put fun c => { c with
          keys := some { k with rx := { k.rx with chain := (e, ch), next := some (e, epochKey ch k.rxDir e) } }
          ackFor := some e }))) ∧
      (∀ e seq p prk, c.heard = some (e, true, seq) → c.ackFor ≠ some e → c.pend = some p → p.prk = some prk → p.rx = .due →
        let ch := chainKey prk k.rxDir e
        Gives (.epochKeyDerived dt g) s (Becomes dt (put fun c => { c with
          keys := some { k with rx := { k.rx with next := some (e, epochKey ch k.rxDir e) } }
          pend := some { p with rx := .held e ch, prk := if p.tx = .due then some prk else none }
          ackFor := some e }))) ∧
      (∀ a, c.ann = some a → s.withdrawDue g next = true →
        (c.withdrawn + 1 < 8 →
          Gives (.epochWithdrawn dt g) s fun t =>
            Becomes dt (put fun c => { c with
              ann := some { a with drawn := true }, annNext := some ((a.m + 1024) % 2 ^ 40), withdrawn := c.withdrawn + 1
              keys := some { k with tx := { k.tx with next := none } } }) t ∧
            Raised s t .seal g 0x18 (w32 a.epoch)) ∧
        (8 ≤ c.withdrawn + 1 →
          Gives (.epochWithdrawn dt g) s fun t => Becomes dt (closes t) t ∧ t.seals[g].keys = none ∧
            t.seals[g].closed = .rekey ∧ Raised s t .seal g 0x19 (w32 k.tx.epoch))) ∧
      (∀ a e ky, c.ann = some a → k.tx.next = some (e, ky) → s.switchDue g next = true → a.fresh = false →
        c.since + 1 < 2 * fld (s.sec.policy.getD 4 0) 16 8 →
        Gives (.epochTxSwitched dt g) s fun t =>
          Becomes dt (put fun c => { c with
            keys := some { k with tx := { epoch := e, chain := k.tx.chain, key := ky, next := none, old := none } }
            ann := none, age := 0, since := c.since + 1, withdrawn := 0, limits := s.sec.policy.getD 4 0 }) t ∧
          Raised s t .seal g 0x16 (w32 e)) ∧
      (1 ≤ fld c.limits 8 8 → fld c.limits 8 8 ≤ c.fails → bit (s.sec.policy.getD 4 0) 2 = true →
        Gives (.tagFailLimitReached dt g) s fun t => Becomes dt (closes t) t ∧ t.seals[g].keys = none ∧
          t.seals[g].closed = .tagLimit))

/-! ## Calibration -/

/-- R267, R272, R277 to R282: the commands of class CAL. A round that is due opens before a command that changes who takes
part in it; a lane that is frozen in its step loses the step. Model's choices: entries 21, 23, 54, 84, 85. -/
def Obligations.CalibrationCommandsTakeEffect : Prop :=
  ∀ (s : State) (dt : Nat) (k : Fin 48) (g f : Byte) (w v x : Word), s.takes → s.anyRun = true →
    let o := (s.later dt).roundOpens
    let lanes (p : CalLane → CalLane) (s : State) : State := { s with cal := { s.cal with lanes := upd s.cal.lanes k p } }
    (Does .calLaneGet .cal s dt (cmdTo 0 g f [w32 (calCode k)]) id fun s =>
      let c := s.cal.lanes[k]
      [pk [(calCode k, 0), (b2n c.frozen, 8), (b2n c.starved, 9), (b2n c.internal, 10), (b2n (!c.untraced), 11),
           (b2n (c.waits && s.fadeOn k || c.swapDue), 12), (s.fewestFree k, 16), (min c.retired.length 15, 20)],
       w32 c.rounds, w32 c.voided, w32 c.sweeps] ++ lohi c.lastRound ++ lohi c.lastSweep ++
      [pk [(if calRx k then c.occMin else 0, 0), (c.out.headD 0x7FF, 8)], w32 (s.drift k)]) ∧
    (s.workable (73 :: calIslands k) → s.fgRuns = false → (∀ j : Fin 48, s.cal.lanes[j].foreground = none) →
      s.throttled = false → s.supplyHeld = false → s.admin (calUnit k).1 (calUnit k).2 ≠ .up →
      Gives (.calLaneForeground dt (cmdTo 0 g f [w32 (calCode k)])) s fun t =>
        Leaves 0 { o with cal := t.cal, lrx := t.lrx, hrx := t.hrx } t ∧
        t.cal = { o.cal with lanes := upd o.cal.lanes k fun _ => t.cal.lanes[k] } ∧
        t.cal.lanes[k].foreground = some t.now ∧ t.cal.lanes[k].internal = calRx k ∧
        (∀ l : Fin 8, if k.val = l.val ∧ s.isUp .lrx l = true then t.lrx[l].timing = false else t.lrx[l] = s.lrx[l]) ∧
        (∀ n : Fin 16, if k.val = 8 + n.val ∧ s.isUp .hrx n = true then t.hrx[n].timing = false else t.hrx[n] = s.hrx[n]) ∧
        Replies s t (cmdTo 0 g f [w32 (calCode k)]) .cal 0 []) ∧
    (s.allows .expert → calLane (fld w 0 8) = some k → elemOk w = true →
      let kind := fld w 8 2
      let elem := fld w 16 11
      (Does .calTrimRead .cal s dt (cmdTo 0 g f [w]) id fun s =>
        pk [(b2n (s.inService k kind elem), 0),
            (b2n ((List.range (trimCount kind)).any fun i => s.cal.forced.contains (trimKey k kind elem i)), 1),
            (b2n (s.isRetired k kind elem), 2), (b2n (kind == 0), 3), (trimCount kind, 8)] ::
          pairWords ((List.range (trimCount kind)).map fun i => (s.trim k kind elem i).toNat)) ∧
      ((∀ i ∈ 73 :: calIslands k, s.underTest i = false) →
        (let i := fld v 0 5
         i < trimCount kind → fld v 5 3 = 0 → clear v 9 = true → clear x 16 = true →
          let key := trimKey k kind elem i
          let value := BitVec.ofNat 16 (fld x 0 16)
          (bit v 8 = true →
            Does .calTrimForce .cal s dt (cmdTo 0 g f [w, v, x])
              (fun s => { s with cal := { s.cal with
                forced := s.cal.forced.filter (· != key), toForce := s.cal.toForce.filter fun p => p.1 != key } })
              (fun _ => [])) ∧
          (bit v 8 = false → (trimRange kind i).1 ≤ trimValue kind i value → trimValue kind i value ≤ (trimRange kind i).2 →
            Does .calTrimForce .cal s dt (cmdTo 0 g f [w, v, x])
              (fun s => { s with cal := { s.cal with
                forced := s.cal.forced.filter (· != key) ++ [key], toForce := insertKey key value s.cal.toForce } })
              (fun _ => []))) ∧
        (kind < 2 → s.isRetired k kind elem = false → 2 ≤ s.calFree k (if k.val < 24 then 0 else elem / 260) →
          Does .calElementRetire .cal s dt (cmdTo 0 g f [w])
            (lanes fun c => { c with retired := c.retired ++ [(kind, elem)] }) (fun _ => [])) ∧
        (kind < 2 → s.isRetired k kind elem = true →
          Does .calElementRetire .cal s dt (cmdTo 0 g f [w]) id (fun _ => [])))) ∧
    (s.allows .expert → ∀ on : Bool,
      let freeze (j : Fin 48) (c : CalLane) : CalLane :=
        if on = true ∧ c.frozen = false ∧ o.inStep j = true
        then { c with frozen := on, part := false, voided := min (c.voided + 1) 0xFFFFFFFF } else { c with frozen := on }
      (Gives (.calFreeze dt (cmdTo 0 g f [pk [(calCode k, 0), (b2n on, 8)]])) s fun t =>
        Leaves 0 (lanes (freeze k) o) t ∧
        (on = true → s.cal.lanes[k].frozen = false → o.inStep k = true →
          Raised s t .cal 0 0x15 (pk [(4, 0), (calCode k, 8)])) ∧
        Replies s t (cmdTo 0 g f [pk [(calCode k, 0), (b2n on, 8)]]) .cal 0 []) ∧
      (Gives (.calFreeze dt (cmdTo 0 g f [pk [(0xFF, 0), (b2n on, 8)]])) s fun t =>
        Leaves 0 { o with cal := { o.cal with lanes := t.cal.lanes } } t ∧
        (∀ j : Fin 48, t.cal.lanes[j] = freeze j o.cal.lanes[j]) ∧
        Replies s t (cmdTo 0 g f [pk [(0xFF, 0), (b2n on, 8)]]) .cal 0 []))

/-- R267, R270 to R277, R377: a round commits 4 ms after its start on the lanes that took part in it, and the next begins
after the pause of the throttle stage; foreground calibration ends, lanes starve and are fed, the test source is connected,
and CALREF comes back into use. Model's choices: entries 3, 14, 54, 84. -/
def Obligations.CalibrationProceeds : Prop :=
  ∀ (s : State) (dt : Nat) (trims : List TrimWrite) (n : Fin 24) (k : Fin 48) (shares : Vector Byte 4),
    let o := (s.later dt).roundOpens
    let lane : Fin 48 := ⟨n.val, by omega⟩
    let c := s.cal.lanes[lane]
    let put (s : State) (p : CalLane → CalLane) : State := { s with cal := { s.cal with lanes := upd s.cal.lanes lane p } }
    (∀ t0, s.calRuns = true → o.cal.live = true → o.cal.round = some t0 → t0 + 4000000 ≤ s.now + dt →
      Gives (.calRoundCommit dt trims) s fun t =>
        Becomes dt { s with cal := t.cal } t ∧ t.cal.rounds = min (s.cal.rounds + 1) 0xFFFFFFFF ∧ t.cal.finishing = false ∧
        t.cal.round = (if s.cal.finishing then none else some (t.now + s.pauseNs 4 12)) ∧
        ∀ j : Fin 48, if o.cal.lanes[j].part = true ∧ s.calJoins j = true
          then t.cal.lanes[j].rounds = min (s.cal.lanes[j].rounds + 1) 0xFFFFFFFF ∧ t.cal.lanes[j].lastRound = t.now
          else t.cal.lanes[j].rounds = s.cal.lanes[j].rounds ∧ t.cal.lanes[j].lastRound = s.cal.lanes[j].lastRound) ∧
    (s.supplyHeld = false → ∀ t0,
      (s.cal.fgStart = some t0 →
        Gives (.calForegroundDone dt none trims) s fun t =>
          Becomes 0 { (s.later dt).acquisitionsStart with cal := t.cal } t ∧ t.cal.fgStart = none ∧ t.cal.fgDone = true ∧
          Raised s t .cal 0 0x10 (pk [(0xFF, 0), ((t.now - t0) / 1000000, 8)])) ∧
      (s.cal.lanes[k].foreground = some t0 →
        Gives (.calForegroundDone dt (some k) trims) s fun t =>
          Becomes 0 { (s.later dt).acquisitionStarts k with cal := t.cal } t ∧ t.cal.lanes[k].foreground = none ∧
          Raised s t .cal 0 0x10 (pk [(calCode k, 0), ((t.now - t0) / 1000000, 8)]))) ∧
    ((calIslands lane).all s.islandOn = true → (calIslands lane).any s.underTest = false →
      ((∀ i : Fin 4, 20 ≤ shares[i].toNat) →
        Gives (.calOccupancyWindow dt n shares) s fun t =>
          Becomes dt (put s fun c => { c with fed := c.fed + 1, occMin := t.cal.lanes[lane].occMin }) t) ∧
      (∀ i : Fin 4, shares[i].toNat < 20 → (∀ j : Fin 4, j < i → 20 ≤ shares[j].toNat) →
        Gives (.calOccupancyWindow dt n shares) s fun t =>
          Becomes 0 (put o fun c => { c with starved := true, fed := 0, part := false, occMin := t.cal.lanes[lane].occMin }) t ∧
          (c.starved = false → Raised s t .cal 0 0x11 (pk [(calCode lane, 0), (i.val, 8), (shares[i].toNat, 16)])))) ∧
    (c.starved = true → 10 ≤ c.fed →
      Gives (.calFed dt n) s fun t =>
        Becomes 0 (put o fun c => { c with starved := false }) t ∧ Raised s t .cal 0 0x12 (w32 (calCode lane))) ∧
    ((calIslands lane).all s.islandOn = true → s.fgRuns = false → (s.later dt).wantsSource lane = true →
      Gives (.testSourceConnect dt n) s (Becomes dt (put s fun c => { c with internal := true }))) ∧
    (s.cal.refInUse = false → 16 ≤ s.cal.refGood →
      Gives (.calrefRestored dt) s fun t =>
        Becomes dt { s with cal := { s.cal with refInUse := true, lanes := t.cal.lanes, traced := t.cal.traced } } t ∧
        ∀ j : Fin 48, t.cal.lanes[j] =
          { s.cal.lanes[j] with swept := false, steps := 0, covered := .replicate 4 0, begun := t.now })

/-! ## Thermal and supply management -/

/-- R372, R388, R390, R391: the commands of class THM. A domain that a command sets OFF and that nothing needs goes off, and a
domain that it returns to device control comes on, but in SLEEP; no other domain changes. Model's choices: entries 48, 49. -/
def Obligations.ThermalCommandsTakeEffect : Prop :=
  ∀ (s : State) (dt i : Nat) (g f : Byte) (w : Word) (m : BitVec 80), s.takes → s.anyRun = true →
    let ws := [m.extractLsb' 0 32, m.extractLsb' 32 32, BitVec.ofNat 32 (m.toNat / 2 ^ 64)]
    (i ∈ instances .thm → i ≠ 0x60 →
      Does .thmRead .thm s dt (cmdTo i g f []) id (fun s => s.readingBlock i)) ∧
    (Does .thmStageGet .thm s dt (cmdTo 0x60 g f []) id fun s =>
      [pk [(s.thm.stage, 0), (b2n s.power.blind, 2), (b2n s.alertLow, 3), (s.hotSensor, 8), (s.hotValue.toNat, 16)],
       pk ((List.range 24).map fun i => (b2n (s.thm.sensors[Fin.ofNat 24 i].cause != 0), i)), w32 (s.thm.exit % 32)] ++
        lohi s.thm.changed) ∧
    (Does .thmDomainGet .thm s dt (cmdTo 0x60 g f []) id fun s =>
      mask3 s.dom.powered ++ mask3 s.dom.hostOff ++ mask3 s.neededMask) ∧
    ((∀ d < 80, m.getLsbD d = true → neverSet d = false ∧ (d < 77 → s.underTest d = false)) →
      (Gives (.thmDomainSet dt (cmdTo 0x60 g f (ws ++ [1]))) s fun t =>
        t.dom.hostOff = s.dom.hostOff &&& ~~~m ∧ t.units = s.units ∧ t.mem = s.mem ∧ t.fuse = s.fuse ∧
        (∀ d < 80, m.getLsbD d = false → t.dom.powered.getLsbD d = s.dom.powered.getLsbD d) ∧
        (s.power.dev ≠ .sleep → ∀ d < 80, m.getLsbD d = true → t.dom.powered.getLsbD d = true)) ∧
      ((∀ d < 80, m.getLsbD d = true → s.offBlocker d = none) →
        Gives (.thmDomainSet dt (cmdTo 0x60 g f (ws ++ [0]))) s fun t =>
          t.dom.hostOff = s.dom.hostOff ||| m ∧ t.units = s.units ∧ t.mem = s.mem ∧ t.fuse = s.fuse ∧
          (∀ d < 80, m.getLsbD d = false → t.dom.powered.getLsbD d = s.dom.powered.getLsbD d) ∧
          (∀ d < 80, t.dom.powered.getLsbD d = true → s.dom.powered.getLsbD d = true))) ∧
    (clear w 1 = true →
      Does .thmAvsSet .thm s dt (cmdTo 0x60 g f [w])
        (fun s => { s with thm := { s.thm with avs := { s.thm.avs with host := bit w 0 } } }) (fun _ => [])) ∧
    (Does .thmAvsGet .thm s dt (cmdTo 0x60 g f []) id fun s =>
      let a := s.thm.avs
      [pk [(b2n a.host, 0), (b2n a.fault, 1), (b2n a.changing, 2), (a.target, 16)],
       pk [(if a.host then 0 else a.readback % 65536, 0), (a.forced, 16)]]) ∧
    (s.allows .expert → (w = 0 ∨ (620 ≤ w.toNat ∧ w.toNat ≤ 780)) →
      Does .thmAvsForce .thm s dt (cmdTo 0x60 g f [w])
        (fun s => { s with thm := { s.thm with avs := { s.thm.avs with forced := w.toNat } } }) (fun _ => []))

/-- R300, R374 to R384: a round of the housekeeping ADC is taken, the throttle stage rises with the hottest sensor and falls
after its runs, a failed sensor returns, and a shutdown sets the latch: what the device held is gone, but for ADMIN, the
fuses, the boot summary, the image in force and the packets and replies in the queue slots. Model's choices: entries 3, 14,
47. -/
def Obligations.TemperatureIsManaged : Prop :=
  ∀ (s : State) (dt : Nat) (m : List HkReading) (i : Fin 24),
    (s.power.powered = true → s.power.inReset = false → s.power.latch = false →
      Gives (.hkRound dt m) s fun t =>
        Becomes dt { s with thm := t.thm, power := { s.power with blind := t.power.blind }, lrx := t.lrx, cal := t.cal } t ∧
        (∀ j : Fin 24, ∀ x, m[j.val]? = some x → t.thm.sensors[j].reading = x.value) ∧
        (1888 ≤ s16 t.hotValue ∨ t.power.blind = true → t.thm.stage = 2 ∨ 2 < s.thm.stage) ∧
        (1792 ≤ s16 t.hotValue → 1 ≤ t.thm.stage) ∧ s.thm.stage ≤ t.thm.stage ∧ t.thm.supply = s.thm.supply ∧
        (∃ v, t = finish v ∧ v.mon.rounds = (s.mon.rounds + 1) % 2 ^ 32)) ∧
    (16 ≤ s.thm.exit → s.power.blind = false → 1 ≤ s.thm.stage → s.thm.stage ≤ 2 →
      Gives (.throttleStepDown dt) s fun t =>
        Becomes dt { s with thm := { s.thm with stage := s.thm.stage - 1, exit := 0, changed := s.now + dt }
                            lrx := s.lrx.map fun r => { r with skipped := false } } t ∧
        Raised s t .thm 0x60 0x12 (pk [(s.thm.stage - 1, 0), (s.thm.stage, 2), (s.hotSensor, 8), (s.hotValue.toNat, 16)])) ∧
    (s.thm.sensors[i].cause ≠ 0 → 256 ≤ s.thm.sensors[i].good →
      Gives (.sensorRestored dt i) s fun t =>
        Becomes dt { s with thm := { s.thm with sensors := upd s.thm.sensors i fun x =>
          { x with cause := 0, good := 0, alone := false } } } t ∧
        Raised s t .thm i 0x14 (w32 s.thm.sensors[i].reading.toNat)) ∧
    (s.power.powered = true → s.power.latch = false → s.power.dev ≠ .off →
      let shut : State :=
        { State.reset with
          pending := s.pending, now := s.now + dt, free := s.free, jtag := s.jtag, boot := s.boot, setup := s.setup
          units := s.units
          fuse := { s.fuse with rollbackStop := false, rollbackWait := false }
          fw := { s.fw with declared := 0, stage := [] }
          thm := { thmReset with fuseMv := s.thm.fuseMv, stage := if s.power.blind then 2 else 0 }
          power := { s.power with latch := true, dev := .shutdown, inReset := false, pinLow := false, railsLow := 0, mcSilent := false }
          dom := { powered := 0, hostOff := 0, failed := 0, since := .replicate 78 (s.now + dt) }
          port := { portReset with replies := s.port.replies, waiting := s.port.waiting, miso := s.port.miso }
          obs := { obsReset with recs := (obsReset.recs.set 0
            ({ oper := .failed, reason := 0, changed := s.now + dt, misSince := none, misRaised := false } : UnitRec)) } }
      Gives (.analogShutdown dt) s (· = shut) ∧
      (2 ≤ s.thm.sensors[i].hot → Gives (.digitalShutdown dt i) s (· = shut)))

/-- R385 to R387, R391, R393: a supply warning episode begins, is raised once it has lasted 1 ms, ends and is recovered from;
VDD_FUSE is observed. Model's choices: entries 3, 48. -/
def Obligations.SupplyEpisodesRun : Prop :=
  ∀ (s : State) (dt : Nat) (r : Fin 12) (v mv st e first : Nat) (w : Bool),
    (s.power.powered = true → s.power.inReset = false → s.power.latch = false → s.belowWarn r v = true →
      s.thm.supply = .none →
      Gives (.supplyWarningStart dt r v) s fun t =>
        Becomes dt { s with thm := { s.thm with supply := .episode (s.now + dt) false r, rails := t.thm.rails }
                            lrx := t.lrx, cal := t.cal, bist := t.bist } t ∧
        t.thm.rails[r].low = true ∧ (s.thm.rails[r].low = false → t.thm.rails[r].min = v ∧ t.thm.rails[r].dip = t.now) ∧
        (∀ l : Fin 8, t.lrx[l].round = none ∧ t.lrx[l].banks = s.lrx[l].banks) ∧
        (∀ i : Fin 78, s.bist[i].phase = .running → s.bist[i].abort = false → t.bist[i].supply = true)) ∧
    (s.thm.supply = .episode st false first → st + 1000000 ≤ s.now + dt →
      Gives (.supplyWarn dt) s fun t =>
        Becomes dt { s with thm := { s.thm with supply := .episode st true first } } t ∧
        Raised s t .thm 0x60 0x16 (pk [(first, 0), (1, 4), (s.thm.rails[Fin.ofNat 12 first].min % 65536, 16)])) ∧
    (s.thm.supply = .episode st w first →
      Gives (.supplyEpisodeEnd dt) s fun t =>
        Becomes dt { s with thm := { s.thm with
          supply := .recovering st (s.now + dt) true first
          rails := s.thm.rails.map fun r => { r with low := false, lastMin := r.min, lastUs := (s.now + dt - st) / 1000 } } } t ∧
        (w = false →
          Raised s t .thm 0x60 0x16 (pk [(first, 0), (0, 4), (s.thm.rails[Fin.ofNat 12 first].min % 65536, 16)]))) ∧
    (s.thm.supply = .recovering st e w first → e + 1000000 ≤ s.now + dt →
      Gives (.supplyRecovered dt) s fun t =>
        Becomes 0 ({ s.later dt with thm := { s.thm with supply := .none } } : State).roundsResume t ∧
        (({ s with thm := { s.thm with supply := .none } } : State).calRuns = true → t.cal.live = true) ∧
        Raised s t .thm 0x60 0x17 (w32 (min ((e - st) / 1000) 0xFFFFFFFF))) ∧
    (Gives (.fuseSupply dt mv) s fun t =>
      Becomes dt { s with thm := { s.thm with fuseMv := mv } } t ∧
      (decide (1746 ≤ mv ∧ mv ≤ 1854) ≠ s.fuseOk → Raised s t .thm 0x4B 0x18 (w32 (b2n (decide (1746 ≤ mv ∧ mv ≤ 1854))))))

/-- R372, R373, R388: the AVS controller moves its target by at most 5 mV an evaluation, within 620 to 780 mV, and holds it
where a transaction fails; a domain that is needed is powered, and one that nothing needs goes off again. Model's choices:
entries 3, 9, 49. -/
def Obligations.VoltageAndDomainsFollowNeed : Prop :=
  ∀ (s : State) (dt mv : Nat) (status : Byte) (d : Fin 80), s.anyRun = true →
    let a := s.thm.avs
    let put (a : Avs) : State := { s with thm := { s.thm with avs := a } }
    (620 ≤ a.target → a.target ≤ 780 → (s.later dt).avsDue = true →
      Gives (.avsEvaluate dt false status) s fun t =>
        Becomes dt (put t.thm.avs) t ∧ t.thm.avs.evalAt = some t.now ∧ 620 ≤ t.thm.avs.target ∧ t.thm.avs.target ≤ 780 ∧
        t.thm.avs.target ≤ a.target + 5 ∧ a.target ≤ t.thm.avs.target + 5 ∧
        (a.host = true → t.thm.avs.target ≠ a.target → Raised s t .thm 0x60 0x19 (w32 t.thm.avs.target))) ∧
    (a.host = false →
      ((s.later dt).avsDue = true → Gives (.avsEvaluate dt true status) s fun t =>
        Becomes dt (put { a with fault := true, evalAt := some (s.now + dt) }) t ∧ Raised s t .thm 0x60 0x1A (w32 status.toNat)) ∧
      Gives (.avsReadback dt mv) s (Becomes dt (put { a with
        fault := false, readback := mv, changing := a.changing && !(decide (mv ≤ a.target + 5) && decide (a.target ≤ mv + 5)) }))) ∧
    (a.host = true → a.changing = true → a.since + 100000000 ≤ s.now + dt →
      Gives (.avsHostChangeComplete dt) s (Becomes dt (put { a with changing := false }))) ∧
    (s.needs d = true → (s.dom.hostOff.getLsbD d = true ∨ d = 70) →
      Gives (.domainPowered dt d) s fun t =>
        t.dom.hostOff = s.dom.hostOff ∧ t.dom.failed = s.dom.failed ∧ t.units = s.units ∧ t.mem = s.mem ∧ t.fuse = s.fuse ∧
        ∀ k < 80, t.dom.powered.getLsbD k = (s.dom.powered.getLsbD k || k == d.val)) ∧
    (s.needs d = false → (s.dom.hostOff.getLsbD d = true ∨ d = 70) → (d.val < 77 → s.underTest d = false) →
      Gives (.domainNeedEndOff dt d) s fun t =>
        t.dom.hostOff = s.dom.hostOff ∧ t.dom.failed = s.dom.failed ∧ t.units = s.units ∧ t.fuse = s.fuse ∧ t.port = s.port ∧
        ∀ k < 80, t.dom.powered.getLsbD k = (s.dom.powered.getLsbD k && k != d.val))

/-! ## Logic self-test -/

/-- R353, R354, R358, R367, R368: the commands of class BIST. The deferred commands are those of R69: here none waits for the
island. An override puts the island to use again, as the end of a run does. Model's choices: entry 55. -/
def Obligations.SelfTestCommandsTakeEffect : Prop :=
  ∀ (s : State) (dt : Nat) (i : Fin 78) (g f : Byte), s.takes → s.anyRun = true →
    let c := cmdTo i g f []
    let put (h : Bist → Bist) (s : State) : State := { s with bist := upd s.bist i h }
    (s.islandOn i = true → s.underTest i = false → s.supplyHeld = false → s.bistBlocked i = none →
      Does .bistRun .bist s dt c
        (fun s => (put (fun b => { b with phase := .queued, abort := false, supply := false }) s).ltxSettle) (fun _ => [])) ∧
    (Does .bistResultGet .bist s dt c id fun s => s.bistBlock i) ∧
    (s.bist[i].phase = .queued → (∀ d ∈ s.port.deferred, i.val ∉ d.isl) →
      Does .bistAbort .bist s dt c (put fun b => { b with phase := .idle }) (fun _ => [])) ∧
    (s.bist[i].phase = .running →
      Does .bistAbort .bist s dt c (put fun b => { b with abort := !b.supply }) (fun _ => [])) ∧
    (s.bist[i].held = true →
      Gives (.bistOverride dt c) s fun t =>
        Leaves 0 ((put (fun b => { b with held := false, overrode := true }) (s.later dt)).inUse i) t ∧
        Raised s t .bist i 0x12 0 ∧ Replies s t c .bist 0 [])

/-- R25, R354 to R359, R377: the queued island that may start is isolated; its patterns end with a result once all were
applied, or once a stop was asked for, not before the time that they and their pauses take; the end of re-initialisation
records the result, and an island that answers with a PASS is in use again. Model's choices: entries 3, 8, 14, 55. -/
def Obligations.SelfTestRunsToItsResult : Prop :=
  ∀ (s : State) (dt : Nat) (i : Fin 78) (applied : Nat) (sig : Word) (answers : Bool) (repairs : List Word),
    let b := s.bist[i]
    let total := (bistLoad i).1
    let fits := sig = Config.bistSignature i applied
    let put (h : Bist → Bist) : State := { s with bist := upd s.bist i h }
    ((s.later dt).mayStart i = true →
      Gives (.bistStarted dt i) s fun t =>
        Becomes 0 ((s.later dt).isolate i) t ∧ t.bist[i] = { b with phase := .running, started := some t.now } ∧
        Raised s t .bist i 0x11 (w32 total)) ∧
    (s.mcRuns = true → b.phase = .running → (s.later dt).bistPaused i applied = true → applied = total → b.supply = false →
      b.abort = false →
      Gives (.bistPatternsEnd dt i applied sig) s (Becomes dt (put fun b => { b with
        phase := .reinit, abort := false, supply := false
        next := { result := if fits then 1 else 2, partialOk := false, cause := 0, patterns := applied, signature := sig } }))) ∧
    (s.mcRuns = true → b.phase = .running → (s.later dt).bistPaused i applied = true → applied ≤ total →
      b.supply = true ∨ b.abort = true →
      Gives (.bistPatternsEnd dt i applied sig) s (Becomes dt (put fun b => { b with
        phase := .reinit, abort := false, supply := false
        next := { result := 3, partialOk := decide (applied ≠ 0 ∧ applied % 4096 = 0 ∧ fits)
                  cause := if b.supply then 1 else 2, patterns := applied, signature := sig } }))) ∧
    (s.mcRuns = true → b.phase = .reinit → (∀ d ∈ s.port.deferred, i.val ∉ d.isl) →
      Gives (.bistDone dt i answers repairs) s fun t =>
        let u := (((s.later dt).bistRecorded i answers repairs).coreReset i).islandStarts i
        Becomes 0 (if answers = false then u.islandFails i else if b.next.result = 1 then u.inUse i else u) t ∧
        t.bist[i] = { b with phase := .idle, last := b.next, done := t.now, held := decide (b.next.result ≠ 1) && answers,
                             overrode := b.overrode && decide (b.next.result ≠ 1) } ∧
        (b.next.result = 1 → answers = true → t.islandFailed i = false) ∧ (answers = false → t.islandFailed i = true) ∧
        Raised s t .bist i 0x10 (pk [(b.next.result, 0), (b2n b.next.partialOk, 4), (b.next.cause, 8)]))

/-! ## Test and monitor units -/

/-- R305 to R308, R311 to R319: the commands that set up a test unit, read its checker, inject errors and move its alignment.
Model's choices: entries 23, 44. -/
def Obligations.TestCommandsTakeEffect : Prop :=
  ∀ (s : State) (dt : Nat) (i : Fin 24) (g f : Byte) (w v : Word) (ws : List Word),
    s.takes → s.anyRun = true →
    let put (p : Tst → Tst) (s : State) : State := { s with tst := upd s.tst i p }
    (s.admin .tst i = .down → s.tstSealed i = none →
      (patternOk (bit w 2) (fld w 4 4) = true → patternOk (bit w 2) (fld w 8 4) = true → fld w 13 3 = 0 → clear w 22 = true →
        (fld w 4 4 = 12 ∨ fld w 8 4 = 12 → 1 ≤ fld w 16 6 ∧ fld w 16 6 ≤ 32) →
        (bit w 0 = true → s.tst[i].loopSel ≠ 3) →
        (bit w 2 = true → 16 ≤ i.val ∧ s.groupOf (i.val - 16) = some (i.val - 16)) →
        Does .tstConfigSet .tst s dt (cmdTo i g f [w])
          (put fun t => { t with cfg := w, slip := if bit w 12 then t.slip else 0 }) (fun _ => [])) ∧
      (s.allows .expert → clear w 2 = true → (fld w 0 2 = 3 → s.tst[i].gen = false) →
        Does .tstLoopSet .tst s dt (cmdTo i g f [w]) (put fun t => { t with loopSel := fld w 0 2 }) (fun _ => []))) ∧
    (s.admin .tst i = .down → clear w 11 = true → 16 ≤ fld w 0 11 → fld w 0 11 ≤ 1024 → fld w 0 11 % 16 = 0 →
      ws.length = fld w 0 11 / 16 →
      Does .tstUserPatternSet .tst s dt (cmdTo i g f (w :: ws)) (put fun t => { t with user := ws }) (fun _ => [])) ∧
    (s.workable (unitIslands .tst i) → clear w 1 = true →
      Gives (.tstCheckGet dt (cmdTo i g f [w])) s fun t =>
        Leaves dt (put (fun x => { x with losses := if bit w 0 then 0 else x.losses }) s) t ∧
        (∃ u, Arrives s dt u ∧ Replies s t (cmdTo i g f [w]) .tst 0 (u.checkBlock i)) ∧
        (bit w 0 = true → t.stats[uix .tst i] = { vals := .replicate 9 0, start := t.now })) ∧
    (s.workable (unitIslands .tst i) → s.allows .expert → s.tstSealed i = none → s.admin .tst i = .up →
      injectBad s { cls := .tst, inst := i, op := 0x81, tag := g, params := [w, v], authed := false } = none →
      (fld w 0 3 ≠ 0 → s.tstBlocked i s.tst[i] true = none) → (fld w 0 3 = 4 → s.hasSlots i = true) →
      Does .tstInjectSet .tst s dt (cmdTo i g f [w, v])
        (put fun t => { t with inject := w, count := fld v 0 16, left := fld v 0 16 }) (fun _ => [])) ∧
    (s.workable (unitIslands .tst i) → s.allows .expert → clear w 10 = true → w ≠ 0 → s.tst[i].manual = true →
      (16 ≤ i.val →
        let o := (s.tst[i].slip + fld w 0 10) % 65536
        Does .tstSlip .tst s dt (cmdTo i g f [w]) (put fun t => { t with slip := o }) (fun _ => [w32 o])) ∧
      (∀ n : Fin 16, i.val = n.val → s.admin .hrx n = .test →
        let o := (s.hrx[n].slip + fld w 0 10) % 65536
        Does .tstSlip .tst s dt (cmdTo i g f [w])
          (fun s => { s with hrx := upd s.hrx n fun h => { h with slip := o } }) (fun _ => [w32 o])))

/-- R309, R310, R312 to R314: a checker that has seen enough locks, and loses lock after a window of 4,096 symbols with more
than 1,024 errors; it counts at pattern starts, and an injector counts its injections down. Model's choices: entries 3, 14,
44, 65. -/
def Obligations.CheckersAndInjectorsRun : Prop :=
  ∀ (s : State) (dt : Nat) (i : Fin 24) (seen : CheckSeen) (m : CheckCounts), s.tstLive i = true →
    let x := s.tst[i]
    let put (x : Tst) : State := { s with tst := upd s.tst i fun _ => x }
    let counts (t : State) : Prop :=
      t.stats[uix .tst i].vals[0] = sat64 (s.stats[uix .tst i].vals[0] + m.bits) ∧
      t.stats[uix .tst i].vals[1] = sat64 (s.stats[uix .tst i].vals[1] + m.bitErr) ∧
      t.stats[uix .tst i].vals[2] = (if x.framed then s.stats[uix .tst i].vals[2] else sat64 (s.stats[uix .tst i].vals[2] + m.symErr)) ∧
      t.stats[uix .tst i].vals[3] = (if x.framed then sat64 (s.stats[uix .tst i].vals[3] + m.postErr) else s.stats[uix .tst i].vals[3])
    (x.chk = true → x.locked = false → x.locksOn seen = true →
      (∀ n : Fin 16, i.val = n.val → s.hrx[n].sd = true → s.laneFg (8 + n) = false → x.framed = false →
        Gives (.chkLocked dt { pair := i, seen := seen }) s fun t =>
          Becomes dt { put { x with locked := true } with hrx := upd s.hrx n fun h => { h with timing := true } } t ∧
          Raised s t .tst i 0x10 (w32 (min ((t.now - x.since) / 1000) 0xFFFFFFFF))) ∧
      (∀ l : Fin 8, i.val = 16 + l.val → s.lrx[l].sd = true → s.laneFg l = false →
        let flips := !x.framed && s.lrx[l].inverted != s.lrx[l].start && s.lrx[l].kept != some s.lrx[l].inverted
        Gives (.chkLocked dt { pair := i, seen := seen }) s fun t =>
          Becomes dt (if x.framed then put { x with locked := true }
            else s.voidRestored { put { x with locked := true } with
              lrx := upd s.lrx l fun r => { r with
                timing := true, lockAt := if r.timing then r.lockAt else s.now + dt
                kept := some r.inverted, searched := r.searched || flips } }) t ∧
          (flips = true → Raised s t .lrx l 0x20 (w32 (b2n s.lrx[l].inverted))) ∧
          Raised s t .tst i 0x10 (w32 (min ((t.now - x.since) / 1000) 0xFFFFFFFF)))) ∧
    (x.locked = true →
      (1024 < m.window → Gives (.chkLockLost dt i m) s fun t =>
        Becomes dt (put { x with locked := false, losses := min 0xFFFF (x.losses + 1), since := s.now + dt }) t ∧ counts t ∧
        Raised s t .tst i 0x11 (w32 (min 0xFFFF (x.losses + 1)))) ∧
      (Gives (.patternStart dt i m) s fun t => Becomes dt s t ∧ counts t)) ∧
    (x.injects = true →
      Gives (.injection dt i) s fun t =>
        Becomes dt (put { x with
          left := x.left - 1
          pend :=
            let hit := injectPlaces 544 (fld x.inject 8 5) s.stats[uix .tst i].vals[4]
            if x.level = 4 ∧ 16 ≤ i.val ∧ hit ≠ [] then hit else x.pend }) t ∧
        t.stats[uix .tst i].vals[4] = sat64 (s.stats[uix .tst i].vals[4] + 1) ∧
        (x.count ≠ 0 → x.left = 1 → Raised s t .tst i 0x12 (w32 x.count)))

/-- R292, R296 to R300, R303: the commands to the slow-signal monitor and to the housekeeping ADC. Model's choices: entry 23.
-/
def Obligations.MonitorCommandsTakeEffect : Prop :=
  ∀ (s : State) (dt : Nat) (i : Fin 24) (g f : Byte) (w v e : Word),
    s.takes → s.anyRun = true →
    (s.workable [75] →
      (fld w 0 3 < 6 → fld w 3 5 = 0 → 4 ≤ fld w 8 4 → fld w 12 4 = 0 → clear w 20 = true →
        Gives (.monTapSet dt (cmdTo i g f [w])) s fun t =>
          Ends { s.later dt with mon := { s.mon with taps := upd s.mon.taps i fun p =>
            { (if fld w 0 3 = fld p.word 0 3 then p else p.restart (s.now + dt)) with word := w } } } t ∧
          Replies s t (cmdTo i g f [w]) .mon 0 []) ∧
      (Gives (.monRead dt (cmdTo i g f [])) s fun t =>
        Ends (s.later dt) t ∧
        (let p := s.mon.taps[i]
         Replies s t (cmdTo i g f []) .mon 0
           ([w32 (twos 24 p.last), w32 (twos 24 p.max), w32 (twos 24 p.min), w32 (twos 24 p.rms), w32 (twos 24 (p.env / 65536)),
             w32 p.gaps] ++ lohi p.at_))) ∧
      (clear w 25 = true → clear v 24 = true → sfld v 0 24 ≤ sfld w 0 24 →
        Gives (.monThresholdSet dt (cmdTo i g f [w, v])) s fun t =>
          Ends { s.later dt with mon := { s.mon with taps := upd s.mon.taps i fun p =>
            { p with high := w, low := v, above := p.above && bit w 24 } } } t ∧
          Replies s t (cmdTo i g f [w, v]) .mon 0 []) ∧
      (Gives (.monStreamSet dt (cmdTo i g f [0, v, 0])) s fun t =>
        Ends { s.later dt with mon := { s.mon with taps := upd s.mon.taps i fun p =>
          { p with base := 0, size := 0, queue := [], spilt := 0 } } } t ∧
        Replies s t (cmdTo i g f [0, v, 0]) .mon 0 []) ∧
      (ringBase (s.rings false [i.val]) w.toNat v.toNat = true → ringSize (s.rings false [i.val]) w.toNat v.toNat = true →
        clear e 1 = true → w ≠ 0 →
        Gives (.monStreamSet dt (cmdTo i g f [w, v, e])) s fun t =>
          Ends { s.later dt with
            mem := (s.ringInit (bit e 0) w.toNat).mem
            mon := { s.mon with taps := upd s.mon.taps i fun p =>
              { p with base := w.toNat, size := v.toNat, wrote := if p.base = 0 then p.index else p.wrote } } } t ∧
          Replies s t (cmdTo i g f [w, v, e]) .mon 0 [])) ∧
    ((let ch := fld w 0 6
      ch < 40 ∧ fld w 6 2 = 0 ∧ fld w 17 3 = 0 ∧ clear w 24 = true ∧ fld w 20 4 ≤ 8 ∧
      (if ch < 24 then 4 ≤ fld w 8 9 ∧ fld w 8 9 ≤ 64 else 2 ≤ fld w 8 9 ∧ fld w 8 9 ≤ 256)) →
      Gives (.monHkConfig dt (cmdTo 0xFE g f [w])) s fun t =>
        Ends { s.later dt with mon := { s.mon with hk := upd s.mon.hk (Fin.ofNat 40 (fld w 0 6)) fun c =>
          { c with nNext := fld w 8 9, shNext := fld w 20 4 } } } t ∧
        Replies s t (cmdTo 0xFE g f [w]) .mon 0 []) ∧
    (fld w 0 6 < 40 → fld w 6 2 = 0 → 1 ≤ fld w 8 6 → fld w 0 6 + fld w 8 6 ≤ 40 → clear w 14 = true →
      Gives (.monHkRead dt (cmdTo 0xFE g f [w])) s fun t =>
        Ends (s.later dt) t ∧
        Replies s t (cmdTo 0xFE g f [w]) .mon 0
          (w32 s.mon.rounds :: (List.range (fld w 8 6)).flatMap fun k =>
            let ch := fld w 0 6 + k
            let c := s.mon.hk[Fin.ofNat 40 ch]
            [pk [(c.value.toNat, 0), (ch, 16), (b2n (c.valid && !s.hkRemoved ch), 24)], pk [(c.raw % 2 ^ 20, 0)],
             w32 (min ((t.now - c.at_) / 1000) 0xFFFFFFFF)]))

/-- R287 to R291, R294, R303, R304: the commands to the captures of a lane instance. A capture on IMMEDIATE without PRE
samples fills from the end of its arming. Model's choices: entries 23, 42, 87, 88. -/
def Obligations.CaptureCommandsTakeEffect : Prop :=
  ∀ (s : State) (dt : Nat) (i : Fin 24) (g f : Byte) (w : Word) (cfg : Vector Word 8),
    s.takes → s.anyRun = true → s.workable (unitIslands .mon i) → s.allows .expert →
    let c := s.mon.caps[i]
    (c.state = .idle ∨ c.state = .held ∨ c.state = .aborted →
      (captureBad s { cls := .mon, inst := i, op := 0x80, tag := g, params := cfg.toList, authed := false, all := [i.val] } = none →
        Gives (.monCaptureSet dt (cmdTo i g f cfg.toList)) s fun t =>
          Ends { s.later dt with mem := (s.ringInit (bit cfg[0] 16 && bit cfg[0] 18) cfg[6].toNat).mem
                                 mon := { s.mon with caps := upd s.mon.caps i fun c => { c with cfg := cfg } } } t ∧
          Replies s t (cmdTo i g f cfg.toList) .mon 0 []) ∧
      (s.admin .mon i = .up →
        Gives (.monCaptureArm dt (cmdTo i g f [])) s fun t => ∃ v, t = finish v ∧
          v = { s.later dt with mon := v.mon, obs := v.obs, stats := v.stats, port := v.port, free := v.free } ∧
          v.mon.caps = upd s.mon.caps i (fun c =>
            { c with state := .armed, acq := 0, sums := [], flags := [], sram := [], noLock := false, armedAt := s.now + dt }) ∧
          { members := [i.val], cfg := c.cfg } ∈ v.mon.sets ∧ v.mon.seq = s.mon.seq ∧
          (fld c.cfg[2] 0 4 = 0 → fld c.cfg[1] 16 16 = 0 → t.mon.caps[i].state = .filling ∧ t.mon.caps[i].at_ = t.now) ∧
          Replies s t (cmdTo i g f []) .mon 0 [])) ∧
    (Gives (.monCaptureStatusGet dt (cmdTo i g f [])) s fun t =>
      Ends (s.later dt) t ∧ Replies s t (cmdTo i g f []) .mon 0 (capBlock (s.later dt).immediates.mon.caps[i])) ∧
    (c.state = .held → clear w 26 = true → 1 ≤ fld w 16 10 → fld w 16 10 ≤ 1016 → fld w 0 16 + fld w 16 10 ≤ c.sram.length →
      Gives (.monCaptureRead dt (cmdTo i g f [w])) s fun t =>
        Ends { s.later dt with mon := { s.mon with caps := upd s.mon.caps i fun c => c.readTo (fld w 0 16) (fld w 16 10) } } t ∧
        Replies s t (cmdTo i g f [w]) .mon 0 ((c.sram.drop (fld w 0 16)).take (fld w 16 10))) ∧
    (Gives (.monCaptureAbort dt (cmdTo i g f [])) s fun t => ∃ v, t = finish v ∧
      v = { s.later dt with mon := v.mon, obs := v.obs, stats := v.stats, port := v.port, free := v.free } ∧
      (c.state = .idle ∨ c.state = .aborted → v.mon = s.mon) ∧
      (¬(c.state = .idle ∨ c.state = .aborted) → v.mon.caps[i].state = .aborted ∧ v.mon.caps[i].sram = [] ∧
        (∀ x ∈ v.mon.sets, i.val ∉ x.members) ∧ Raised s t .mon i 0x12 4) ∧
      Replies s t (cmdTo i g f []) .mon 0 [])

/-- R287 to R298, R377: acquisitions fill, records are written by the DMA engine when their turn and the pause of the throttle
stage allow, outputs of the monitor are detected, queued and written, and an edge of TRIG_IN or an over-range sample triggers
the sets that wait for it. Model's choices: entries 3, 14, 31, 42, 43, 86, 88. -/
def Obligations.CapturesAndOutputsProceed : Prop :=
  ∀ (s : State) (dt : Nat) (i : Fin 24) (ws : List Word) (o : Byte) (y : Int) (rising : Bool),
    let c := s.mon.caps[i]
    let p := s.mon.taps[i]
    let before (t v : State) : Prop := t = finish v ∧
      v = { s.later dt with mon := v.mon, mem := v.mem, obs := v.obs, stats := v.stats, free := v.free }
    (c.state = .filling → ws.length = capLength c → s.monRuns i = true →
      (capAvg c = 0 ∨ 2 ^ capAvg c ≤ c.acq + 1 →
        Gives (.captureFillComplete dt i ws o) s fun t => ∃ v, before t v ∧ v.mem = s.mem ∧
          v.mon.caps[i].state = (if bit c.cfg[0] 16 then .moving else .held) ∧
          v.mon.caps[i].sram = (if capAvg c = 0 then pairWords (ws.map (sampleWord i (capSource c)))
            else ((addLists c.sums (ws.map (sampleValue (capSource c)))).zip
              (orLists c.flags (ws.map (sampleFlags (capSource c))))).map fun p => avgWord (fld c.cfg[0] 10 4) p.1 p.2) ∧
          v.mon.caps[i].offset = o ∧ (bit c.cfg[0] 16 = false → Raised s t .mon i 0x10 (w32 c.seq))) ∧
      (capAvg c ≠ 0 → c.acq + 1 < 2 ^ capAvg c →
        Gives (.captureFillComplete dt i ws o) s fun t => ∃ v, before t v ∧ v.mem = s.mem ∧
          v.mon.caps[i].state = .armed ∧ v.mon.caps[i].acq = c.acq + 1 ∧
          v.mon.caps[i].sums = addLists c.sums (ws.map (sampleValue (capSource c))))) ∧
    (c.state = .moving → s.dmaBehind i = false → s.monRuns i = true → (s.later dt).dmaMay c.filledAt = true →
      (s.later dt).ringStalls c.cfg[6].toNat c.cfg[7].toNat (32 + 4 * c.sram.length) = false →
      Gives (.captureDone dt i) s fun t => ∃ v, before t v ∧ Raised s t .mon i 0x10 (w32 c.seq) ∧
        v.mon.caps[i].state = (if bit c.cfg[0] 17 then .armed else .idle) ∧ v.mon.caps[i].dropped = 0 ∧ v.mon.dmaAt = t.now ∧
        v.mem.cells = (s.ringWrite i c.cfg[6].toNat c.cfg[7].toNat c.dropped (c.record ++ c.sram)).mem.cells) ∧
    (s.monRuns i = true → fld p.word 0 3 ≠ 0 → p.since + groupDelay i p.preset ≤ s.now + dt →
      (s.tapLock i = true →
        Gives (.monitorOutput dt i y) s fun t => ∃ v, before t v ∧ v.mem = s.mem ∧
          v.mon.taps[i].last = signed 24 (twos 24 y) ∧ v.mon.taps[i].at_ = t.now ∧ v.mon.taps[i].index = p.index + 1 ∧
          ∀ j : Fin 24, j ≠ i → v.mon.taps[j] = s.mon.taps[j]) ∧
      (s.tapLock i = false →
        Gives (.monitorOutput dt i y) s fun t => ∃ v, before t v ∧ v.mem = s.mem ∧
          v.mon.taps = upd s.mon.taps i (fun q => { q with index := q.index + 1, gaps := min (q.gaps + 1) 0xFFFFFFFF }) ∧
          Raised s t .mon i 0x15 1)) ∧
    (∀ q rest, p.queue = q :: rest → p.base ≠ 0 → s.capRuns = true → s.ccRuns = true →
      let run := runOf 256 q.1 p.queue
      let due := match p.queue[255]? with
        | some x => min x.2.1 (q.2.1 + 100000000)
        | none => q.2.1 + 100000000
      (s.later dt).dmaMay due = true → (s.later dt).ringStalls p.base p.size (32 + 4 * run.length) = false →
      Gives (.monitorRecordWrite dt i) s fun t => ∃ v, before t v ∧ 1 ≤ run.length ∧ v.mon.dmaAt = t.now ∧
        v.mon.taps = upd s.mon.taps i (fun x => { x with queue := p.queue.drop run.length, wrote := q.1 + run.length, spilt := 0 }) ∧
        v.mem.cells = (s.ringWrite i p.base p.size ((p.spilt + 255) / 256)
          ([pk [(2, 0), (i.val, 8), (run.length, 16)], w32 q.1] ++ lohi q.2.1 ++
            [pk [(fld p.word 0 3, 18), (p.preset, 21)], 0, pk [(b2n (q.1 != p.wrote), 3)], 0] ++
            run.map fun x => w32 (twos 32 x.2.2))).mem.cells) ∧
    (∀ x ∈ s.mon.sets, (∀ z ∈ s.mon.sets, z ≠ x → ∀ k ∈ z.members, k ∉ x.members) → (s.later dt).setReady x = true →
      (fld x.cfg[2] 0 4 = 1 → bit x.cfg[2] 4 = rising →
        Gives (.trigInEdge dt rising) s fun t => ∃ v, before t v ∧ v.mem = s.mem ∧ v.mon.trigOut = t.now ∧
          (s.mon.sets = [x] → v.mon.seq = (s.mon.seq + 1) % 2 ^ 32) ∧
          ∀ k : Fin 24, k.val ∈ x.members → s.mon.caps[k].state = .armed →
            v.mon.caps[k].state = .filling ∧ v.mon.caps[k].at_ = t.now) ∧
      (fld x.cfg[2] 0 4 = 5 → fld x.cfg[2] 8 8 = i.val →
        Gives (.overRangeSample dt i) s fun t => ∃ v, before t v ∧ v.mem = s.mem ∧ v.mon.trigOut = t.now ∧
          (s.mon.sets = [x] → v.mon.seq = (s.mon.seq + 1) % 2 ^ 32) ∧
          ∀ k : Fin 24, k.val ∈ x.members → s.mon.caps[k].state = .armed →
            v.mon.caps[k].state = .filling ∧ v.mon.caps[k].at_ = t.now))

/-! ## Islands, JTAG, programmable counters, mailboxes, scratchpad -/

/-- R25, R66: heartbeats change nothing; a silent island is FAILED and its line lanes stop driving; AON finds MC silent; a
mismatch of more than 100 ms is raised once. Model's choices: entry 3. -/
def Obligations.SilenceAndMismatchAreNoticed : Prop :=
  ∀ (s : State) (dt : Nat) (i : Fin 78) (c : Cls) (j : BitVec 12) (t0 : Nat),
    Gives (.islandHeartbeat dt) s (Becomes dt s) ∧
    (s.mcRuns = true → i ≠ 72 → s.islandOn i = true → s.underTest i = false → s.islandFailed i = false →
      Gives (.islandSilent dt i) s fun t =>
        Becomes dt { s with dom := { s.dom with failed := t.dom.failed }, ltx := t.ltx } t ∧
        (∀ k : Fin 78, t.dom.failed.getLsbD k = (s.dom.failed.getLsbD k || k == i)) ∧
        (∀ l : Fin 8, i.val ∈ unitIslands .ltx l → t.ltx[l].driving = false) ∧
        Raised s t .dev 0 0x13 (w32 i)) ∧
    (s.mcRuns = true → Gives (.mcSilent dt) s (Becomes dt { s with power := { s.power with mcSilent := true } })) ∧
    (s.mcRuns = true → j.toNat ∈ instances c → (s.recOf c j.toNat).misSince = some t0 → (s.recOf c j.toNat).misRaised = false →
      t0 + 100000000 < s.now + dt → (s.later dt).mismatch c j.toNat ((s.later dt).operOf c j.toNat).1 = true →
      Gives (.stateMismatch dt c j) s fun t =>
        Becomes dt s t ∧
        Raised s t c j.toNat 0x02 (pk [((s.admin c j.toNat).code, 0), (((s.later dt).operOf c j.toNat).1.code, 4),
          ((s.later dt).remoteOf c j.toNat, 8)]))

/-- R97, R403, R404: an instruction of the JTAG port changes the instruction in force and the boundary register alone, while
the device is powered. Outside MANUFACTURE a debug code selects BYPASS; in MANUFACTURE the spec does not say what it does, and
the row stops by name. Model's choices: entry 41. -/
def Obligations.ScanInstructionsTakeEffect : Prop :=
  ∀ (s : State) (dt : Nat) (b : BitVec 63) (code : BitVec 8), s.power.powered = true →
    let put (ir : JtagIr) (v : BitVec 63) : State := { s with jtag := { ir := ir, boundary := v } }
    Gives (.extest dt b) s (Becomes dt (put .extest b)) ∧
    Gives (.idcode dt) s (Becomes dt (put .idcode s.jtag.boundary)) ∧
    Gives (.samplePreload dt b) s (Becomes dt (put .sample b)) ∧
    Gives (.clamp dt) s (Becomes dt (put .clamp s.jtag.boundary)) ∧
    Gives (.highz dt) s (Becomes dt (put .highz s.jtag.boundary)) ∧
    Gives (.extestPulse dt b) s (Becomes dt (put .extestPulse b)) ∧
    Gives (.extestTrain dt b) s (Becomes dt (put .extestTrain b)) ∧
    Gives (.testLogicReset dt) s (Becomes dt (put .idcode s.jtag.boundary)) ∧
    (7 ≤ code.toNat → (code.toNat < 0x80 ∨ code = 0xFF ∨ s.lifecycle ≠ 0) →
      Gives (.bypass dt code) s (Becomes dt (put .bypass s.jtag.boundary))) ∧
    (0x80 ≤ code.toNat → code ≠ 0xFF → s.lifecycle ≠ 0 →
      Gives (.debugAccess dt code) s (Becomes dt (put .bypass s.jtag.boundary))) ∧
    (0x80 ≤ code.toNat → code ≠ 0xFF → s.lifecycle = 0 →
      exec (.debugAccess dt code) s = .refused (.debugInstruction code))

/-- R327 to R335: a programmable counter is set, read, loaded, and passes its end: it saturates, or wraps with WRAP set.
Model's choices: entries 3, 22, 33, 60. -/
def Obligations.ProgrammableCountersCount : Prop :=
  ∀ (s : State) (dt : Nat) (i : Fin 64) (g f : Byte) (w v : Word) (n : Nat),
    (s.takes → s.anyRun = true → s.allows .counter →
      ((let c := clsOf (fld w 12 4)
        fld w 0 12 ∈ instances c ∧ fld w 16 8 ≤ topSignal c ∧ clear w 26 = true ∧ clear v 8 = true ∧ (fld w 16 8 = 0 ∨ v = 0)) →
        Gives (.perfSet dt (cmdTo i g f [w, v])) s fun t =>
          Leaves dt s t ∧ Replies s t (cmdTo i g f [w, v]) .perf 0 [] ∧
          ∃ u, t = finish u ∧ u.obs.perf[i] = { cfg := w, code := v, val := 0, sat := false, wrap := false }) ∧
      (clear w 1 = true →
        Gives (.perfRead dt (cmdTo i g f [w])) s fun t =>
          Leaves dt s t ∧
          (∃ u, Arrives s dt u ∧
            (let p := u.obs.perf[i]
             Replies s t (cmdTo i g f [w]) .perf 0
               ((if p.undriven then [Config.freeAt u.free 0, Config.freeAt u.free 1 &&& 0x0003_FFFF]
                 else [w32 p.val, pk [(p.val / 2 ^ 32 % 65536, 0), (b2n p.sat, 16), (b2n p.wrap, 17)]]) ++ lohi t.now))) ∧
          (bit w 0 = true → ∃ u, t = finish u ∧
            u.obs.perf[i] = { cfg := s.obs.perf[i].cfg, code := s.obs.perf[i].code, val := 0, sat := false, wrap := false })) ∧
      (s.allows .expert → clear v 16 = true →
        Gives (.perfLoad dt (cmdTo i g f [w, v])) s fun t =>
          Leaves dt s t ∧ Replies s t (cmdTo i g f [w, v]) .perf 0 [] ∧
          ∃ u, t = finish u ∧ u.obs.perf[i] = { cfg := s.obs.perf[i].cfg, code := s.obs.perf[i].code
                                                val := w.toNat + 2 ^ 32 * fld v 0 16, sat := false, wrap := false })) ∧
    ((let p := s.obs.perf[i]
      s.admin .perf i = .up ∧ s.live (clsOf (fld p.cfg 12 4)) (fld p.cfg 0 12) = true ∧ (p.cfg ≠ 0 ∨ p.code ≠ 0) ∧
      1 ≤ n ∧ 2 ^ 48 ≤ p.val + n ∧ p.val < 2 ^ 48) →
      (bit s.obs.perf[i].cfg 24 = false →
        Gives (.perfSat dt i n) s fun t =>
          Becomes dt s t ∧ t.obs.perf[i].val = 2 ^ 48 - 1 ∧ t.obs.perf[i].sat = true ∧
          (bit s.obs.perf[i].cfg 25 = true → s.obs.perf[i].sat = false →
            Raised s t .perf i 0x10 (w32 (fld s.obs.perf[i].cfg 0 24)))) ∧
      (bit s.obs.perf[i].cfg 24 = true →
        Gives (.perfWrapped dt i n) s fun t =>
          Becomes dt s t ∧ t.obs.perf[i].wrap = true ∧
          (bit s.obs.perf[i].cfg 25 = true → Raised s t .perf i 0x11 (w32 (fld s.obs.perf[i].cfg 0 24)))))

/-- R336 to R344: messages are posted and received in order, a full channel is BUSY, a doorbell read clears it, a host reset
flushes its inbound channels, the legacy mailbox is written, read and answered, and a core answers a service request. A HOST-S
channel without a trailer is LOCKED, in OWNED DENIED, and a core-to-core channel has no STATE_GET. Model's choices: entries 3,
32, 45. -/
def Obligations.MailboxesCarryMessages : Prop :=
  ∀ (s : State) (dt : Nat) (g f : Byte) (ch : Nat) (w : Word) (ws : List Word),
    let put (q : List Msg) : State := { s with mbx := { s.mbx with ch := upd s.mbx.ch (chIx ch) fun _ => q } }
    let q := s.mbx.ch[chIx ch]
    (s.takes → s.anyRun = true → ch ∈ channels →
      (senderOf ch = 0 → receiverOf ch ≠ 1 → bit w 15 = false → fld w 8 7 = ws.length → ws.length ≤ 64 →
        (q.length < 8 → s.isUp .mbx ch = true →
          Does .mbxSend .mbx s dt (cmdTo ch g f (w :: ws))
            (fun s => { put (q ++ [{ service := BitVec.ofNat 8 (fld w 0 8), id := BitVec.ofNat 16 (fld w 16 16), data := ws
                                     sender := 0, epoch := s.mbx.epoch[0], posted := s.now }]) with now := s.now })
            (fun _ => [])) ∧
        (8 ≤ q.length → Refuses .mbxSend .mbx s dt (cmdTo ch g f (w :: ws)) 0x10 [0xFFFFFFFF])) ∧
      (receiverOf ch = 0 → senderOf ch ≠ 1 →
        Does .mbxReceive .mbx s dt (cmdTo ch g f []) (fun s => { put q.tail with now := s.now })
          (fun _ => msgBlock q (q.length - 1))) ∧
      (2 ≤ senderOf ch → 2 ≤ receiverOf ch → senderOf ch ≠ 4 → receiverOf ch ≠ 4 → s.allows .expert →
        Does .mbxPeek .mbx s dt (cmdTo ch g f []) id (fun _ => msgBlock q q.length)) ∧
      (senderOf ch = 1 →
        Refuses .mbxSend .mbx s dt (cmdTo ch g f (w :: ws)) (if s.owned = true then 0x30 else 0x31) []) ∧
      (hostSide ch = true →
        Refuses (.stateGet · .mbx ·) .mbx s dt (cmdTo ch g f []) (if s.owned = true then 0x30 else 0x31) []) ∧
      (2 ≤ senderOf ch → 2 ≤ receiverOf ch → Refuses (.stateGet · .mbx ·) .mbx s dt (cmdTo ch g f []) 0x22 [])) ∧
    (s.takes → s.anyRun = true →
      (Does .mbxDoorbellGet .mbx s dt (cmdTo 0xFF g f [0])
        (fun s => { s with mbx := { s.mbx with bell := upd s.mbx.bell 0 fun _ => 0 } }) (fun s => s.doorbell 0)) ∧
      (Gives (.mbxHostReset dt (cmdTo 0xFF g f [0])) s fun t =>
        Leaves dt { s with mbx := { s.mbx with ch := t.mbx.ch, bell := t.mbx.bell, legacy := mbxReset.legacy
                                               epoch := upd s.mbx.epoch 0 fun e => e + 1 } } t ∧
        (∀ k ∈ channels, t.mbx.ch[chIx k] = if receiverOf k = 0 then [] else s.mbx.ch[chIx k]) ∧
        Replies s t (cmdTo 0xFF g f [0]) .mbx 0 []) ∧
      (1 ≤ ws.length → ws.length ≤ 16 → w = w32 ws.length →
        Gives (.mbxLegacyWrite dt (cmdTo 0xF0 g f (w :: ws))) s fun t =>
          Leaves dt { s with mbx := { s.mbx with legacy := t.mbx.legacy } } t ∧ t.mbx.legacy.data = ws ∧
          t.mbx.legacy.writer = 1 ∧ t.mbx.legacy.request = some (ws.headD 0) ∧ t.mbx.legacy.hostAt = some t.now ∧
          Replies s t (cmdTo 0xF0 g f (w :: ws)) .mbx 0 []) ∧
      (Does .mbxLegacyRead .mbx s dt (cmdTo 0xF0 g f [])
        (fun s => { s with mbx := { s.mbx with legacy :=
          { s.mbx.legacy with unread := false, overwrite := false, collision := false } } })
        (fun s =>
          let l := s.mbx.legacy
          pk [(l.writer, 0), (b2n (l.writer == 2 && l.unread), 2), (b2n l.overwrite, 3), (b2n l.collision, 4), (l.data.length, 8)]
            :: (List.range 16).map fun k => l.data.getD k 0))) ∧
    (s.anyRun = true → s.power.mcSilent = false → s.mbx.legacy.again = [] → s.mbx.legacy.request = some w →
      (s.later dt).nearWrite s.mbx.legacy.hostAt = false →
      Gives (.legacyMsg dt) s fun t =>
        Becomes dt { s with mbx := { s.mbx with legacy := t.mbx.legacy } } t ∧ t.mbx.legacy.data = s.legacyAnswer w ∧
        t.mbx.legacy.writer = 2 ∧ t.mbx.legacy.unread = true ∧ t.mbx.legacy.request = none ∧
        Raised s t .mbx 0xF0 0x12 (w32 (s.legacyAnswer w).length)) ∧
    (∀ m rest, ch ∈ channels → senderOf ch < 2 → 2 ≤ receiverOf ch → q = m :: rest → s.anyRun = true →
      (∀ k, partyIsland (receiverOf ch) = some k → s.islandOn k = true ∧ s.underTest k = false ∧ s.islandFailed k = false) →
      let back := receiverOf ch * 16 + senderOf ch
      s.mbx.ch[chIx back].length < 8 → s.isUp .mbx back = true →
      Gives (.mailboxServiceAnswer dt (BitVec.ofNat 12 ch) ws) s fun t =>
        Becomes dt { s with mbx := { s.mbx with ch := t.mbx.ch } } t ∧ t.mbx.ch[chIx ch] = rest ∧
        (∃ a, t.mbx.ch[chIx back] = s.mbx.ch[chIx back] ++ [a] ∧ a.id = m.id ∧ a.posted = t.now ∧
          (a.service, a.data) = (if m.service = 1 then (1, m.data)
            else if m.service = 2 ∧ receiverOf ch < 4 then (2, ws.take 64) else (0xFF, [w32 m.service.toNat]))) ∧
        ∀ k ∈ channels, k ≠ ch → k ≠ back → t.mbx.ch[chIx k] = s.mbx.ch[chIx k])

/-- R346 to R352, R365, R366, R377: the memory window reads and writes the scratchpad; a window command that touches the
borrowed slice gets RETRY; the transparent test takes slice after slice, one every INTERVAL in the background, with the pauses
of the throttle stage. A row that tests a pinned slice lasts until its write-back (the model's choice, entry 90). Model's
choices: entries 3, 6, 9, 29, 46, 90. -/
def Obligations.ScratchpadIsReadWrittenAndTested : Prop :=
  ∀ (s : State) (dt : Nat) (g f : Byte) (a : Nat) (n : Nat) (ws : List Word) (w : Word) (rows : List Nat),
    (s.takes → s.workable [74] → s.anyRun = true →
      (s.isUp .mem 0 = true → 1 ≤ n → n ≤ 4064 → a + n ≤ 0x600000 →
        ((s.later dt).windowRetry a n = true →
          Gives (.memWinRead dt (cmdTo 0 g f [w32 a, w32 n]) []) s fun t =>
            Leaves dt { s with mem := { s.mem with retryHold := true } } t ∧
            Replies s t (cmdTo 0 g f [w32 a, w32 n]) .mem 0x14 []) ∧
        ((s.later dt).windowRetry a n = false → (0x40000 ≤ a ∨ s.owned = false ∨ s.permit 1 = true) →
          Does (.memWinRead · · []) .mem s dt (cmdTo 0 g f [w32 a, w32 n]) id
            (fun s => w32 n :: bytesWords ((List.range n).map fun i => s.windowByte (a + i)))) ∧
        (s.allows .expert → ws.length = (n + 3) / 4 → 0x40000 ≤ a → (s.later dt).windowRetry a n = false →
          Memory.wf s.mem.cells = true →
          Gives (.memWinWrite dt (cmdTo 0 g f (w32 a :: w32 n :: ws)) []) s fun t =>
            Leaves dt { s with mem := { s.mem with cells := t.mem.cells } } t ∧
            (∀ k, readByte t.mem.cells k = if a ≤ k ∧ k < a + n then (ws.flatMap wordBytes).getD (k - a) 0
              else readByte s.mem.cells k) ∧
            Replies s t (cmdTo 0 g f (w32 a :: w32 n :: ws)) .mem 0 []))) ∧
    (s.takes → s.anyRun = true →
      (Does .memTestStatusGet .mem s dt (cmdTo 0 g f []) id fun s =>
        [pk [(s.mem.next, 0), (s.mem.spares, 16)], w32 s.mem.passes, w32 s.mem.repaired, w32 s.mem.failed.length]) ∧
      (s.allows .expert →
        ((w = 0 ∨ (10 ≤ w.toNat ∧ w.toNat ≤ 10000)) →
          Does .memTestSet .mem s dt (cmdTo 0 g f [w]) (fun s => { s with mem := { s.mem with interval := w.toNat } })
            (fun _ => [])) ∧
        (s.workable [76] → s.mem.run = none → fld w 11 5 = 0 → clear w 27 = true → 1 ≤ fld w 16 11 →
          fld w 0 11 + fld w 16 11 ≤ 1536 → (64 ≤ fld w 0 11 ∨ s.power.dev = .maint) →
          Does .memTestRun .mem s dt (cmdTo 0 g f [w])
            (fun s => { s with mem := { s.mem with
              run := some { first := fld w 0 11, count := fld w 16 11, done := 0, repaired := 0, failed := 0 } } })
            (fun _ => [])))) ∧
    (∀ x, s.mem.run = some x → x.count ≤ x.done → (s.later dt).borrowed = none →
      Gives (.memTestDone dt) s fun t =>
        Becomes dt { s with mem := { s.mem with run := none } } t ∧
        Raised s t .mem 0 0x13 (pk [(x.repaired, 0), (x.failed, 16)])) ∧
    ((s.later dt).bstFree = true →
      (s.mem.run = none → s.mem.interval ≠ 0 → s.isUp .mem 0 = true →
        (∀ t0 ∈ s.mem.sliceAt, t0 + 1000000 * s.mem.interval ≤ s.now + dt) →
        Gives (.memSliceTest dt [] n) s (Becomes dt { s with mem := { s.mem with
          borrow := some (s.mem.next, s.now + dt + min n 12000), retryHold := false, sliceAt := some (s.now + dt)
          next := if s.mem.next = 1535 then 64 else s.mem.next + 1
          passes := if s.mem.next = 1535 then min (s.mem.passes + 1) 0xFFFFFFFF else s.mem.passes } })) ∧
      (∀ x, s.mem.run = some x → x.done < x.count → (64 ≤ x.first + x.done ∨ s.power.dev = .maint) →
        Gives (.memSliceTest dt rows n) s fun t =>
          Becomes (if x.first + x.done < 64 then dt + min n 12000 else dt) { s with
            repairs := t.repairs, cal := { s.cal with repairs := s.cal.repairs ++ t.repairs.drop s.repairs.length }, mem := { s.mem with
            borrow := some (x.first + x.done, s.now + dt + min n 12000), retryHold := false
            run := some { x with done := x.done + 1, repaired := t.mem.run.elim 0 (·.repaired)
                                 failed := t.mem.run.elim 0 (·.failed) }
            spares := t.mem.spares, repaired := t.mem.repaired, failed := t.mem.failed } } t ∧
          ((rows.filter (· < 128)).eraseDups.length ≤ s.mem.spares → t.mem.failed = s.mem.failed ∧
            t.mem.spares = s.mem.spares - (rows.filter (· < 128)).eraseDups.length) ∧
          (s.mem.spares < (rows.filter (· < 128)).eraseDups.length → x.first + x.done ∈ t.mem.failed ∧ t.mem.spares = 0 ∧
            Raised s t .mem 0 0x12 (w32 (x.first + x.done))))) ∧
    Gives (.collisionIndicationEnd dt) s (Becomes dt { s with mem := { s.mem with collision := false } })

/-! ## Power, reset, boot, firmware load and device states -/

/-- R33, R78 to R80, R99, R386: the rows of power and reset. Nothing but the fuses survives a loss of power; a reset clears
all volatile state, and what AON holds, VDD_FUSE and the JTAG port stay; reset ends once RESET_N is high and no rail is below
its reset level, and the device is then in BOOT at device time 0. In SHUTDOWN none of them but the loss of power has an effect
(R384). Model's choices: entries 5, 35. -/
def Obligations.PowerAndResetClearTheDevice : Prop :=
  ∀ (s : State) (dt : Nat) (rails : BitVec 12) (g f : Byte),
    let wiped (p : Power) (now : Nat) : State :=
      { State.reset with
        pending := s.pending, now := now, free := s.free, power := p, jtag := s.jtag
        fuse := { s.fuse with rollbackStop := false, rollbackWait := false }
        thm := { thmReset with fuseMv := s.thm.fuseMv, stage := if s.power.blind then 2 else 0 } }
    let dark (on : Bool) : State :=
      { State.reset with
        pending := s.pending, now := s.now + dt, free := s.free
        fuse := { s.fuse with rollbackStop := false, rollbackWait := false }
        power := { powered := on, inReset := true, pinLow := true, railsLow := 0, dev := .off, latch := false, blind := false,
                   mcSilent := false } }
    Gives (.powerOn dt) s (· = dark true) ∧
    Gives (.powerRemoved dt) s (· = dark false) ∧
    (s.power.powered = true → s.power.latch = false →
      Gives (.deviceReset dt) s (· = wiped { s.power with
        dev := if s.power.dev = .off then .off else .boot, inReset := true, pinLow := true, mcSilent := false } (s.now + dt)) ∧
      (rails ≠ 0 →
        Gives (.supplyReset dt rails) s (· = wiped { s.power with
          dev := if s.power.dev = .off then .off else .boot, inReset := true, mcSilent := false
          railsLow := s.power.railsLow ||| rails } (s.now + dt))) ∧
      (s.power.pinLow = true → s.power.railsLow = 0 →
        Gives (.resetRelease dt) s (· = wiped { s.power with
          dev := .boot, inReset := false, pinLow := false, mcSilent := false } 0)) ∧
      (s.power.pinLow = true → s.power.railsLow ≠ 0 →
        Gives (.resetRelease dt) s (Becomes dt { s with power := { s.power with pinLow := false } })) ∧
      (s.power.pinLow = false → s.power.railsLow ≠ 0 →
        Gives (.supplyResetRelease dt) s (· = wiped { s.power with
          dev := .boot, inReset := false, railsLow := 0, mcSilent := false } 0)) ∧
      (s.power.pinLow = true → s.power.railsLow ≠ 0 →
        Gives (.supplyResetRelease dt) s (Becomes dt { s with power := { s.power with railsLow := 0 } }))) ∧
    (s.takes → s.power.dev ≠ .shutdown →
      Gives (.devReset dt (cmdTo 0 g f [])) s (· = wiped { s.power with dev := .boot, mcSilent := false } 0)) ∧
    (s.power.latch = true →
      ∀ i ∈ [Instr.deviceReset dt, .resetRelease dt, .supplyReset dt rails, .supplyResetRelease dt], Gives i s (Becomes dt s))

/-- R84 to R87: the boot ROM enters READY; a firmware image is loaded in order, checked, measured and started in CONFIG, or
reported INCOMPLETE, after which the load is over. Model's choices: entries 3, 14, 18, 37. -/
def Obligations.FirmwareIsLoadedAndStarted : Prop :=
  ∀ (s : State) (dt : Nat) (g f : Byte) (w : Word) (ws : List Word) (m : BootResult) (h : ImageHeader),
    (s.power.powered = true → s.power.inReset = false → s.power.dev = .boot →
      Gives (.bootRomComplete dt m) s fun t =>
        Becomes dt { s with
          power := { s.power with dev := .ready }, repairs := m.repairs
          boot := { repaired := m.repaired, failed := m.failed, ms := m.ms, islands := t.boot.islands }
          cal := { s.cal with repairs :=
            ((s.fuse.tagged 0x510 0x7F0 ++ m.repairs).filter fun w => tagKind w == 3 || tagKind w == 9).eraseDups }
          mem := { s.mem with spares := t.mem.spares }
          sec := { s.sec with identity := !m.tamperLow && s.lifecycle != 3, zeroised := s.sec.zeroised && m.tamperLow } } t ∧
        ∀ i : Fin 78, t.boot.islands.getLsbD i = decide (i ∈ m.islands)) ∧
    (s.takes → s.power.dev = .ready →
      (65536 ≤ w.toNat → w.toNat ≤ 2097152 → w.toNat % 4 = 0 → (∀ i ∈ [71, 72, 73, 74], s.boot.islands.getLsbD i = false) →
        Does .fwLoadBegin .dev s dt (cmdTo 0 g f [w])
          (fun s => { s with fw := { s.fw with declared := w.toNat / 4, stage := [] } }) (fun _ => [])) ∧
      (1 ≤ ws.length → ws.length ≤ 1019 → w.toNat = s.fw.stage.length → s.fw.stage.length + ws.length ≤ s.fw.declared →
        Does .fwLoadData .dev s dt (cmdTo 0 g f (w :: ws))
          (fun s => { s with fw := { s.fw with stage := s.fw.stage ++ ws } }) (fun _ => [])) ∧
      (s.fw.declared ≠ 0 → s.fw.declared ≤ s.fw.stage.length → Config.imageHeader s.fw.stage = some h →
        h.rollback ≤ 256 → Config.imageSigned s.fw.stage = true → s.fuse.counter ≤ h.rollback → 0x3141 ∈ h.personalities →
        Gives (.fwLoadEnd dt (cmdTo 0 g f [])) s fun t =>
          Leaves dt { s with
            fw := { declared := 0, stage := [], image := some (h, Config.sha384 s.fw.stage) }
            power := { s.power with dev := .config }
            setup := { step := 0, entered := s.now + dt, persSet := none, persInForce := 0 } } t ∧
          Raised s t .dev 0 0x1C (pk [(2, 0), (1, 3)]) ∧
          (s.boot.repaired ≠ 0 ∨ s.boot.failed ≠ 0 →
            Raised s t .dev 0 0x1B (pk [(s.boot.repaired.toNat, 0), (s.boot.failed.toNat, 8)])) ∧
          Replies s t (cmdTo 0 g f []) .dev 0
            ([0, h.version, pk [(h.rollback, 0), (s.fuse.counter, 16)]] ++ (Config.sha384 s.fw.stage).toList)) ∧
      (s.fw.declared = 0 ∨ s.fw.stage.length < s.fw.declared →
        Gives (.fwLoadEnd dt (cmdTo 0 g f [])) s fun t =>
          Leaves dt { s with fw := { s.fw with declared := 0, stage := [] } } t ∧
          ∃ v r, Replies s t (cmdTo 0 g f []) .dev 0 ([1, v, r] ++ List.replicate 12 0)))

/-- R90 to R95, R100, R102: the configuration ends, the personality is set and listed, and the device moves among ACTIVE,
SLEEP and MAINT. Model's choices: entries 11, 15, 36, 72. -/
def Obligations.DeviceStatesChange : Prop :=
  ∀ (s : State) (dt : Nat) (g f : Byte) (w : Word), s.takes →
    let moved (d : DevState) (t : State) : Prop :=
      Raised s t .dev 0 0x1C (pk [(d.code, 0), (s.power.dev.code, 3)]) ∧
      (d = .active → Raised s t .dev 0 0x18 (w32 (min (t.now / 1000000) 0xFFFFFFFF))) ∧ t.power = { s.power with dev := d } ∧
      t.units = s.units ∧ t.mem = s.mem ∧ t.fuse.cells = s.fuse.cells ∧ t.setup.step = s.setup.step
    (s.anyRun = true →
      Does .personalityList .dev s dt (cmdTo 0 g f []) id (fun s => w32 (offeredBy s.header).length :: offeredBy s.header)) ∧
    (s.power.dev = .config →
      ((s.persLock = 0 ∨ w = s.persLock) → w ∈ offeredBy s.header → s.missingStep 3 = none → s.setup.step ≤ 3 →
        Does .personalitySet .dev s dt (cmdTo 0 g f [w])
          (fun s => { s with setup := { s.setup with step := 3, persSet := some w } }) (fun _ => [])) ∧
      ((∀ k < 8, s.stepDone k = true) →
        Gives (.configDone dt (cmdTo 0 g f [])) s fun t =>
          moved .active t ∧ t.cal.fgStart = some t.now ∧
          t.setup.persInForce = (if s.persLock ≠ 0 then s.persLock else s.setup.persSet.getD 0x3141) ∧
          Replies s t (cmdTo 0 g f []) .dev 0 [w32 (min ((t.now - s.setup.entered) / 1000000) 0xFFFFFFFF)])) ∧
    (s.power.dev = .active →
      Does .devStateSet .dev s dt (cmdTo 0 g f [3]) id (fun _ => []) ∧
      (s.throttled = false → (∀ j : Fin 8, s.isUp .grp j = false) →
        Gives (.devStateSet dt (cmdTo 0 g f [5])) s fun t =>
          moved .maint t ∧ Leaves dt { s with power := { s.power with dev := .maint } } t ∧
          Replies s t (cmdTo 0 g f [5]) .dev 0 []) ∧
      ((∀ i : Fin 78, i.val < 71 → s.bist[i].phase ≠ .queued ∧ s.bist[i].phase ≠ .running) →
        Gives (.devStateSet dt (cmdTo 0 g f [4])) s fun t =>
          moved .sleep t ∧ (∀ d < 71, t.dom.powered.getLsbD d = false) ∧ t.sec.session = none ∧
          (∀ j : Fin 8, s.grp[j].mode = 3 → t.seals[j].keys = none) ∧ t.port.deferred = s.port.deferred)) ∧
    (s.power.dev = .sleep →
      Does .devStateSet .dev s dt (cmdTo 0 g f [4]) id (fun _ => []) ∧
      Gives (.devStateSet dt (cmdTo 0 g f [3])) s fun t =>
        moved .active t ∧ ∀ d < 70, t.dom.powered.getLsbD d = (s.dom.powered.getLsbD d || !s.dom.hostOff.getLsbD d)) ∧
    (s.power.dev = .maint →
      Does .devStateSet .dev s dt (cmdTo 0 g f [5]) id (fun _ => []) ∧
      ((∀ i : Fin 78, s.bist[i].phase = .idle) →
        Gives (.devStateSet dt (cmdTo 0 g f [3])) s fun t =>
          moved .active t ∧ Leaves dt { s with power := { s.power with dev := .active }
                                               fuse := { s.fuse with rollbackWait := false } } t ∧
          Replies s t (cmdTo 0 g f [3]) .dev 0 []))

/-- R72, R74 to R76: the event queue is read and configured; registers are read, high halves from the holding register, and
SCRATCH is written under byte enables. Model's choices: entry 9. -/
def Obligations.EventsAndRegistersAreAccessed : Prop :=
  ∀ (s : State) (dt : Nat) (g f : Byte) (w a e : Word), s.takes → s.anyRun = true →
    (1 ≤ w.toNat → w.toNat ≤ 16 →
      Gives (.eventRead dt (cmdTo 0 g f [w])) s fun t =>
        Leaves dt s t ∧ ∃ v, Arrives s dt v ∧ s.obs.queue <+: v.obs.queue ∧ v.obs.queue.drop w.toNat <+: t.obs.queue ∧
        Replies s t (cmdTo 0 g f [w]) .dev 0
          (let l := v.obs.queue.take w.toNat
           pk [(l.length, 0), ((v.obs.queue.drop w.toNat).length, 8)] :: w32 v.obs.lost ::
             l.flatMap fun x => [pk [(x.code, 0), (clsCode x.cls, 8), (x.inst, 12)], x.arg] ++ lohi x.time)) ∧
    (clear w 4 = true →
      let u : State := { s with port := { s.port with irqOnEvent := bit w 0, irqOnReply := bit w 1 } }
      Gives (.eventConfig dt (cmdTo 0 g f [w])) s fun t =>
        Leaves dt s t ∧ Replies u t (cmdTo 0 g f [w]) .dev 0 [] ∧
        ∃ v, t.obs = (finish v).obs ∧ (bit w 2 = true → v.obs.lost = 0) ∧ (bit w 3 = true → v.obs.queue = []) ∧
          (bit w 3 = false → s.obs.queue <+: v.obs.queue)) ∧
    (s.allows .expert →
      (∀ n, w = w32 n → 1 ≤ n → n ≤ 16 → a.toNat + 4 * n ≤ 2 ^ 32 →
        (∀ k < n, (s.rawWord (a.toNat + 4 * k)).isSome = true ∧ keyRange (a.toNat + 4 * k) = false) →
        (∀ j ∈ rawIsl a.toNat n, s.islandOn j = true ∧ s.underTest j = false) →
        let x := (s.later dt).readRaws s.port.hold a.toNat n
        Gives (.regRead32 dt (cmdTo 0 g f [a, w])) s fun t =>
          Leaves dt s t ∧ Replies { s with port := { s.port with hold := x.2 } } t (cmdTo 0 g f [a, w]) .dev 0
            (pk (x.1.zipIdx.map fun v => (b2n v.1.2, v.2)) :: x.1.map (·.1))) ∧
      (∀ i : Fin 78, a.toNat = 0x40000018 + 0x10000 * i.val → 1 ≤ e.toNat → e.toNat < 16 →
        s.islandOn i = true → s.underTest i = false →
        Gives (.regWrite32 dt (cmdTo 0 g f [a, w, e])) s fun t =>
          Leaves dt s t ∧
          Replies { s with port := { s.port with scratch := t.port.scratch } } t (cmdTo 0 g f [a, w, e]) .dev 0 [] ∧
          (∀ j : Fin 78, j ≠ i → t.port.scratch[j] = s.port.scratch[j]) ∧
          ∀ k < 4, fld t.port.scratch[i] (8 * k) 8 = if e.getLsbD k then fld w (8 * k) 8 else fld s.port.scratch[i] (8 * k) 8))

/-- R35 to R38, R404: an SPI transaction drives 0x00, FAST_STATUS and what follows, while the device is powered, out of reset,
and JTAG does not hold the balls; a packet is taken in while the device is ready and a slot is free; a reply leaves its slot
once its last byte has been clocked out. Nothing but the port changes. Model's choices: entries 10, 61. -/
def Obligations.TransactionsDriveAndDeliver : Prop :=
  ∀ (s : State) (dt n : Nat) (bytes : List Byte) (code : Byte),
    let drives (m : Nat) (tail : List Byte) (t : State) : Prop :=
      ∃ v : State, v = { s.later dt with obs := v.obs } ∧ s.obs.queue <+: v.obs.queue ∧
        t.port.miso = if s.power.powered = true ∧ s.power.inReset = false ∧ s.scanHolds = false then
            ([0, BitVec.ofNat 8 v.fastStatus, BitVec.ofNat 8 (v.fastStatus / 256)] ++ tail ++ List.replicate m 0).take m
          else []
    Gives (.fastStatus dt n) s (fun t =>
      Leaves dt s t ∧ drives n [] t ∧ t.port = { s.port with miso := t.port.miso }) ∧
    (code ∉ [1, 2, 3] → Gives (.unknownTransaction dt code n) s fun t =>
      Leaves dt s t ∧ drives n [] t ∧ t.port = { s.port with miso := t.port.miso }) ∧
    (∀ r rest, s.port.replies = r :: rest →
      Gives (.replyRead dt n) s fun t =>
        Leaves dt s t ∧ drives n (r.flatMap wordBytes) t ∧
        t.port = { s.port with
          miso := t.port.miso
          replies := if s.power.powered = true ∧ s.power.inReset = false ∧ s.scanHolds = false ∧ 3 + 4 * r.length ≤ n
            then rest else s.port.replies }) ∧
    (s.takes →
      (∀ p, parsePacket bytes = .good p → opDefined p.cls p.op.toNat = true →
        Gives (.packetWrite dt bytes) s fun t =>
          Leaves dt s t ∧ drives (1 + bytes.length) [] t ∧
          t.port = { s.port with miso := t.port.miso, waiting := [.good p] }) ∧
      (∀ st target tag, parsePacket bytes = .bad st target tag →
        Gives (.packetWrite dt bytes) s fun t =>
          Leaves dt s t ∧ drives (1 + bytes.length) [] t ∧
          ∃ w, t.port = { s.port with miso := t.port.miso, replies := s.port.replies ++ [w] } ∧
            w.length = 5 ∧ w[0]? = some (pk [(target.toNat, 0), (st, 16), (0x5C, 24)])))

/-! ## Fuses, owners, lifecycle and anti-rollback -/

/-- R359, R360, R362, R370: fuse words are read with their status, programmed and committed one slot at a time, and the
array's status is reported; a slot that fails to verify is left uncommitted and the command is LOCKED. Model's choices:
entries 7, 9, 17, 19, 39. -/
def Obligations.FuseWordsAreReadAndProgrammed : Prop :=
  ∀ (s : State) (dt : Nat) (g f : Byte) (w v : Word) (env : FuseEnv),
    s.takes → s.power.dev ≠ .shutdown → s.workable [71] → s.allows .secure →
    (fld w 11 5 = 0 → clear w 25 = true → 1 ≤ fld w 16 9 → fld w 16 9 ≤ 500 → fld w 0 11 + fld w 16 9 ≤ 2048 →
      (0x020 ≤ fld w 0 11 ∨ fld w 0 11 + fld w 16 9 ≤ 0x010) →
      Does .fuseRead .dev s dt (cmdTo 0 g f [w]) id fun s =>
        (List.range (fld w 16 9)).flatMap fun k =>
          let a := fld w 0 11 + k
          let x := s.fuse.at a
          [if x.uncorrectable then Config.freeAt s.free a else x.data,
           pk [(b2n x.committed, 0), (b2n x.corrected, 1), (b2n x.uncorrectable, 2), (b2n x.blank, 3)]]) ∧
    (Does .fuseStatusGet .dev s dt (cmdTo 0 g f []) id fun s =>
      (List.range 8).map s.regionStatus ++ [pk [(b2n s.tjOk, 0), (b2n s.fuseOk, 1), (min 255 s.repairsPending.length, 8)]]) ∧
    (s.anyRun = true → s.fuseHold = none → clear w 11 = true → 0x7F0 ≤ fld w 0 11 → (s.fuse.at (fld w 0 11)).blank = true →
      env.stop = none →
      (fld w 0 11 ∉ env.weak →
        Does (.fuseProgram · · env) .dev s dt (cmdTo 0 g f [w, v])
          (fun s => { s with fuse := (s.fuse.put (fld w 0 11)
            { data := v, committed := true, corrected := false, uncorrectable := false, blank := false }) }) (fun _ => [])) ∧
      (fld w 0 11 ∈ env.weak →
        Gives (.fuseProgram dt (cmdTo 0 g f [w, v]) env) s fun t =>
          Leaves dt { s with fuse := t.fuse } t ∧ Replies s t (cmdTo 0 g f [w, v]) .dev 0x31 [] ∧
          (t.fuse.at (fld w 0 11)).committed = false ∧ (t.fuse.at (fld w 0 11)).blank = false ∧
          ∀ a, a ≠ fld w 0 11 → t.fuse.at a = s.fuse.at a))

/-- R359, R361, R363, R364, R371: tagged words are committed by FUSE_REPAIR_COMMIT, LIFECYCLE_SET, OWNER_BIND and
OWNER_REVOKE, and by an anti-rollback step; a word once committed stays as it is. Model's choices: entries 17, 19, 39, 40, 71.
-/
def Obligations.TaggedWordsAreCommitted : Prop :=
  ∀ (s : State) (dt : Nat) (g f : Byte) (k : Fin 4) (h : List Word) (env : FuseEnv),
    env.stop = none → env.weak = [] → s.fuseHold = none → s.anyRun = true →
    let keeps (t : State) : Prop := ∀ a, (s.fuse.at a).blank = false → t.fuse.at a = s.fuse.at a
    let committed (t : State) (r : Nat) (w : Word) : Prop := w ∈ t.fuse.tagged (regionLo r) (regionHi r)
    (s.takes → s.workable [71] →
      (s.allows .secure → s.roomFor (s.repairsPending.map fun w => (6, w)) = true →
        Gives (.fuseRepairCommit dt (cmdTo 0 g f []) env) s fun t =>
          Leaves dt { s with fuse := t.fuse } t ∧ keeps t ∧ (∀ w ∈ s.repairsPending, committed t 6 w) ∧
          Raised s t .dev 0 0x33 (w32 s.repairsPending.length) ∧
          Replies s t (cmdTo 0 g f []) .dev 0 [w32 s.repairsPending.length]) ∧
      (s.lifecycle = 0 → s.fuse.unused 0 ≠ [] →
        Gives (.lifecycleSet dt (cmdTo 0 g f [1]) env) s fun t =>
          Leaves dt { s with fuse := t.fuse } t ∧ keeps t ∧ t.lifecycle = 1 ∧ Raised s t .dev 0 0x32 1 ∧
          Replies s t (cmdTo 0 g f [1]) .dev 0 []) ∧
      ((s.allows .secure ∨ s.allRevoked = true ∧ s.lifecycle = 2) → s.fuse.unused 0 ≠ [] →
        Gives (.lifecycleSet dt (cmdTo 0 g f [3]) env) s fun t =>
          keeps t ∧ t.lifecycle = 3 ∧ t.sec.identity = false ∧ t.sec.zeroised = true ∧ t.sec.session = none ∧
          t.power = s.power ∧ t.mem = s.mem ∧ t.units = s.units ∧ Raised s t .dev 0 0x32 (pk [(3, 0), (s.lifecycle, 2)]) ∧
          Replies s t (cmdTo 0 g f [3]) .dev 0 []) ∧
      (s.allows .secure → s.lifecycle = 1 → h.length = 12 → s.fuse.ownerSlot k ≠ 2 → s.partDiffers k h = none →
        s.roomFor (s.bindWords k h) = true →
        Gives (.ownerBind dt (cmdTo 0 g f (w32 k :: h)) env) s fun t =>
          Leaves dt { s with fuse := t.fuse } t ∧ keeps t ∧ (∀ w ∈ s.bindWords k h, committed t w.1 w.2) ∧ t.lifecycle = 2 ∧
          Raised s t .dev 0 0x32 (pk [(2, 0), (1, 2)]) ∧ Replies s t (cmdTo 0 g f (w32 k :: h)) .dev 0 []) ∧
      (s.allows .secure → s.fuse.ownerSlot k = 1 → s.fuse.unused 2 ≠ [] →
        Gives (.ownerRevoke dt (cmdTo 0 g f [w32 k]) env) s fun t =>
          Leaves dt { s with fuse := t.fuse } t ∧ keeps t ∧ t.fuse.ownerSlot k = 2 ∧ Raised s t .dev 0 0x26 (w32 k) ∧
          Replies s t (cmdTo 0 g f [w32 k]) .dev 0 [])) ∧
    (s.power.mcSilent = false → s.islandOn 71 = true → s.underTest 71 = false → s.header.advance = true →
      s.fuse.counter < s.header.rollback → s.header.rollback ≤ 256 → s.fuse.rollbackStop = false → s.fuse.rollbackWait = false →
      s.fuse.unused 4 ≠ [] →
      Gives (.rollbackStep dt env) s fun t =>
        Becomes dt { s with fuse := t.fuse } t ∧ keeps t ∧ s.fuse.counter < t.fuse.counter ∧
        Raised s t .dev 0 0x19 (w32 t.fuse.counter))

/-! ## Secure commands -/

/-- R221 to R229, R257: staging, the certificate, the owner policy, and the host secure session. Model's choices: entries 8,
9, 38. -/
def Obligations.StagedObjectsAreLoaded : Prop :=
  ∀ (s : State) (dt : Nat) (g f : Byte) (o : Word) (ws : List Word),
    s.takes → s.anyRun = true → s.workable [71] →
    (1 ≤ ws.length → ws.length ≤ 1019 → (o = 0 ∨ o.toNat = s.sec.staging.length) → o.toNat + ws.length ≤ 4096 →
      let all := (if o = 0 then [] else s.sec.staging) ++ ws
      Does .secStage .dev s dt (cmdTo 0 g f (o :: ws)) (fun s => { s with sec := { s.sec with staging := all } })
        (fun _ => [w32 all.length])) ∧
    (s.stepRefused 1 = none →
      let c := s.sec.staging
      let n := if chainFormed c = false then 1 else if chainSigned c = false then 2
        else if certKey c ≠ Config.identityKey then 3 else if s.sec.identity = false then 4 else 0
      Does .certLoad .dev s dt (cmdTo 0 g f [])
        (fun s => { s.beginStep 1 with sec := { s.sec with staging := [], cert := if n = 0 then c else s.sec.cert } })
        (fun s => w32 n :: if s.sec.identity then identityHash.toList else List.replicate 12 0)) ∧
    (s.owned = true → s.stepRefused 2 = none →
      let p := s.sec.staging
      (s.policyResult p ≠ 0 →
        Does .policyLoad .dev s dt (cmdTo 0 g f [])
          (fun s => { s.beginStep 2 with sec := { s.sec with staging := [] } })
          (fun s => [w32 (s.policyResult p), s.sec.policy.getD 2 0])) ∧
      (s.policyResult p = 0 →
        Gives (.policyLoad dt (cmdTo 0 g f [])) s fun t =>
          t.sec = { s.sec with staging := [], policy := p } ∧ t.fuse = s.fuse ∧ t.mem = s.mem ∧ t.units = s.units ∧
          Raised s t .dev 0 0x24 (p.getD 2 0) ∧ Replies s t (cmdTo 0 g f []) .dev 0 [0, p.getD 2 0])) ∧
    (s.owned = true → s.sec.identity = true → s.sec.zeroised = false →
      Gives (.sessionBegin dt (cmdTo 0 g f [])) s fun t =>
        ∃ c, c.payload.length = 428 ∧ c.since = t.now ∧
          Leaves dt { s with sec := { s.sec with challenge := some c } } t ∧ Replies s t (cmdTo 0 g f []) .dev 0 c.payload) ∧
    (s.owned = true → ∀ c, s.sec.challenge = some c → s.now + dt < c.since + 10000000000 → s.sec.staging.length = 1268 →
      s.sec.policy ≠ [] →
      (let q := s.sec.staging
       if Config.hybridValid (policyKey s.sec.policy) (c.payload ++ q.take 416) (q.drop 416) = true then
         Gives (.sessionOpen dt (cmdTo 0 g f [])) s fun t =>
           Leaves dt { s with sec := { s.sec with staging := [], challenge := none, session := some (sessionOf c q) }
                              mbx := t.mbx } t ∧
           Raised s t .dev 0 0x22 0 ∧ Replies s t (cmdTo 0 g f []) .dev 0 [0]
       else
         Does .sessionOpen .dev s dt (cmdTo 0 g f [])
           (fun s => { s with sec := { s.sec with staging := [], challenge := none } }) (fun _ => [2]))) ∧
    (s.owned = true → s.sec.challenge = none →
      Does .sessionOpen .dev s dt (cmdTo 0 g f [])
        (fun s => { s with sec := { s.sec with staging := [] } }) (fun _ => [3]))

/-- R229, R231, R254 to R256: a challenge expires after 10 s; a session closes after the reply of SESSION_CLOSE; ZEROISE and
the tamper pin erase the identity, and end the session; an attestation report names the nonce, changes nothing, and comes
after the pause of the throttle stage (the model's choice, entry 89: the row lasts that long). TAMPER carries the time low at
the end of its actions, 2 µs at the most (entry 67). Model's choices: entries 3, 8, 9, 38, 67, 89. -/
def Obligations.SecretsAreErasedAndAttested : Prop :=
  ∀ (s : State) (dt : Nat) (g f : Byte) (nonce : List Word) (width : Nat),
    let erased (t : State) : Prop :=
      t.sec.identity = false ∧ t.sec.zeroised = true ∧ t.sec.challenge = none ∧ t.sec.session = none ∧
      (∀ j : Fin 8, s.grp[j].mode = 3 → t.seals[j].keys = none) ∧ t.lay = .replicate 8 [] ∧
      t.fuse = s.fuse ∧ t.mem = s.mem ∧ t.units = s.units ∧ t.power = s.power
    (∀ c, s.sec.challenge = some c → c.since + 10000000000 ≤ s.now + dt →
      Gives (.challengeExpiry dt) s (Becomes dt { s with sec := { s.sec with challenge := none } })) ∧
    (s.power.powered = true → s.power.dev ≠ .off → 200 ≤ width →
      Gives (.tamperNLow dt width) s fun t => erased t ∧ Raised s t .dev 0 0x20 (w32 (min width 2000))) ∧
    (s.takes → s.anyRun = true → s.workable [71] →
      (s.lifecycle ≠ 3 → nonce.length = 12 → s.sec.identity = true →
        let u := s.later (dt + s.pauseNs 2 10)
        let body := u.reportBody nonce false
        Gives (.attestGet dt (cmdTo 0 g f nonce)) s fun t =>
          Leaves 0 u t ∧ Replies s t (cmdTo 0 g f nonce) .dev 0 (body ++ fit 852 (Config.identitySign body))) ∧
      (s.allows .secure →
        (Gives (.zeroise dt (cmdTo 0 g f [])) s fun t =>
          erased t ∧ Raised s t .dev 0 0x21 0 ∧ Replies s t (cmdTo 0 g f []) .dev 0 []) ∧
        (Gives (.sessionClose dt (cmdTo 0 g f [])) s fun t =>
          t.sec = { s.sec with session := none } ∧ Replies s t (cmdTo 0 g f []) .dev 0 [])) ∧
      (∀ a k, s.sec.session = some k → s.lifecycle ≠ 3 →
        let cmd : Cmd := { cmdTo 0 g f [] with auth := some a }
        let p : Packet := { op := 0x25, cls := .dev, cmd := cmd }
        Config.cmac k.cmdKey (p.head ++ [a.seq]) = a.cmac → k.last < a.seq.toNat →
        Gives (.sessionClose dt cmd) s fun t =>
          t.sec = { s.sec with session := none } ∧ (a.seq ≠ 0xFFFFFFFF → Raised s t .dev 0 0x23 1)))
end

