-- ==== Sys2Proof/Laws/State.lean ====
section
/-! SUPPORT. One lemma per field of the state for each named update: what the update leaves unchanged, and what the field it changes
becomes. Each is true by unfolding, and tagged for simp. -/

namespace Sys2Proof.Machine

/-! ## Vectors -/

@[simp] theorem upd_get {α : Type} {n : Nat} (v : Vector α n) (i : Fin n) (f : α → α) : (upd v i f)[i.val] = f v[i.val] := by
  simp [upd]

theorem upd_get_ne {α : Type} {n : Nat} (v : Vector α n) {i j : Fin n} (f : α → α) (h : i ≠ j) : (upd v i f)[j] = v[j] := by
  have : i.val ≠ j.val := fun e => h (Fin.ext e)
  simp [upd, this]

@[simp] theorem upd_upd {α : Type} {n : Nat} (v : Vector α n) (i : Fin n) (f g : α → α) :
    upd (upd v i f) i g = upd v i fun x => g (f x) := by
  simp [upd]

/-! ## State.setAdmin -/

section
variable (s : State) (c : Cls) (i : Nat) (a : Admin)

@[simp] theorem setAdmin_pending : (s.setAdmin c i a).pending = s.pending := rfl
@[simp] theorem setAdmin_now : (s.setAdmin c i a).now = s.now := rfl
@[simp] theorem setAdmin_free : (s.setAdmin c i a).free = s.free := rfl
@[simp] theorem setAdmin_power : (s.setAdmin c i a).power = s.power := rfl
@[simp] theorem setAdmin_boot : (s.setAdmin c i a).boot = s.boot := rfl
@[simp] theorem setAdmin_stats : (s.setAdmin c i a).stats = s.stats := rfl
@[simp] theorem setAdmin_groups : (s.setAdmin c i a).groups = s.groups := rfl
@[simp] theorem setAdmin_obs : (s.setAdmin c i a).obs = s.obs := rfl
@[simp] theorem setAdmin_port : (s.setAdmin c i a).port = s.port := rfl
@[simp] theorem setAdmin_fuse : (s.setAdmin c i a).fuse = s.fuse := rfl
@[simp] theorem setAdmin_fw : (s.setAdmin c i a).fw = s.fw := rfl
@[simp] theorem setAdmin_setup : (s.setAdmin c i a).setup = s.setup := rfl
@[simp] theorem setAdmin_mem : (s.setAdmin c i a).mem = s.mem := rfl
@[simp] theorem setAdmin_bist : (s.setAdmin c i a).bist = s.bist := rfl
@[simp] theorem setAdmin_repairs : (s.setAdmin c i a).repairs = s.repairs := rfl
@[simp] theorem setAdmin_mbx : (s.setAdmin c i a).mbx = s.mbx := rfl
@[simp] theorem setAdmin_thm : (s.setAdmin c i a).thm = s.thm := rfl
@[simp] theorem setAdmin_dom : (s.setAdmin c i a).dom = s.dom := rfl
@[simp] theorem setAdmin_board : (s.setAdmin c i a).board = s.board := rfl
@[simp] theorem setAdmin_hrx : (s.setAdmin c i a).hrx = s.hrx := rfl
@[simp] theorem setAdmin_htx : (s.setAdmin c i a).htx = s.htx := rfl
@[simp] theorem setAdmin_ltx : (s.setAdmin c i a).ltx = s.ltx := rfl
@[simp] theorem setAdmin_lrx : (s.setAdmin c i a).lrx = s.lrx := rfl
@[simp] theorem setAdmin_tiling : (s.setAdmin c i a).tiling = s.tiling := rfl
@[simp] theorem setAdmin_xbar : (s.setAdmin c i a).xbar = s.xbar := rfl
@[simp] theorem setAdmin_lfd : (s.setAdmin c i a).lfd = s.lfd := rfl
@[simp] theorem setAdmin_grp : (s.setAdmin c i a).grp = s.grp := rfl
@[simp] theorem setAdmin_fec : (s.setAdmin c i a).fec = s.fec := rfl
@[simp] theorem setAdmin_txOut : (s.setAdmin c i a).txOut = s.txOut := rfl
@[simp] theorem setAdmin_hostOut : (s.setAdmin c i a).hostOut = s.hostOut := rfl
@[simp] theorem setAdmin_egress : (s.setAdmin c i a).egress = s.egress := rfl
@[simp] theorem setAdmin_sec : (s.setAdmin c i a).sec = s.sec := rfl
@[simp] theorem setAdmin_seals : (s.setAdmin c i a).seals = s.seals := rfl
@[simp] theorem setAdmin_srx : (s.setAdmin c i a).srx = s.srx := rfl
@[simp] theorem setAdmin_lay : (s.setAdmin c i a).lay = s.lay := rfl
@[simp] theorem setAdmin_cal : (s.setAdmin c i a).cal = s.cal := rfl
@[simp] theorem setAdmin_mon : (s.setAdmin c i a).mon = s.mon := rfl
@[simp] theorem setAdmin_tst : (s.setAdmin c i a).tst = s.tst := rfl
@[simp] theorem setAdmin_jtag : (s.setAdmin c i a).jtag = s.jtag := rfl

end

/-! ## State.useFree -/

section
variable (s : State)

@[simp] theorem useFree_pending : (s.useFree).pending = s.pending := rfl
@[simp] theorem useFree_now : (s.useFree).now = s.now := rfl
@[simp] theorem useFree_free : (s.useFree).free = s.free + 1 := rfl
@[simp] theorem useFree_power : (s.useFree).power = s.power := rfl
@[simp] theorem useFree_boot : (s.useFree).boot = s.boot := rfl
@[simp] theorem useFree_units : (s.useFree).units = s.units := rfl
@[simp] theorem useFree_stats : (s.useFree).stats = s.stats := rfl
@[simp] theorem useFree_groups : (s.useFree).groups = s.groups := rfl
@[simp] theorem useFree_obs : (s.useFree).obs = s.obs := rfl
@[simp] theorem useFree_port : (s.useFree).port = s.port := rfl
@[simp] theorem useFree_fuse : (s.useFree).fuse = s.fuse := rfl
@[simp] theorem useFree_fw : (s.useFree).fw = s.fw := rfl
@[simp] theorem useFree_setup : (s.useFree).setup = s.setup := rfl
@[simp] theorem useFree_mem : (s.useFree).mem = s.mem := rfl
@[simp] theorem useFree_bist : (s.useFree).bist = s.bist := rfl
@[simp] theorem useFree_repairs : (s.useFree).repairs = s.repairs := rfl
@[simp] theorem useFree_mbx : (s.useFree).mbx = s.mbx := rfl
@[simp] theorem useFree_thm : (s.useFree).thm = s.thm := rfl
@[simp] theorem useFree_dom : (s.useFree).dom = s.dom := rfl
@[simp] theorem useFree_board : (s.useFree).board = s.board := rfl
@[simp] theorem useFree_hrx : (s.useFree).hrx = s.hrx := rfl
@[simp] theorem useFree_htx : (s.useFree).htx = s.htx := rfl
@[simp] theorem useFree_ltx : (s.useFree).ltx = s.ltx := rfl
@[simp] theorem useFree_lrx : (s.useFree).lrx = s.lrx := rfl
@[simp] theorem useFree_tiling : (s.useFree).tiling = s.tiling := rfl
@[simp] theorem useFree_xbar : (s.useFree).xbar = s.xbar := rfl
@[simp] theorem useFree_lfd : (s.useFree).lfd = s.lfd := rfl
@[simp] theorem useFree_grp : (s.useFree).grp = s.grp := rfl
@[simp] theorem useFree_fec : (s.useFree).fec = s.fec := rfl
@[simp] theorem useFree_txOut : (s.useFree).txOut = s.txOut := rfl
@[simp] theorem useFree_hostOut : (s.useFree).hostOut = s.hostOut := rfl
@[simp] theorem useFree_egress : (s.useFree).egress = s.egress := rfl
@[simp] theorem useFree_sec : (s.useFree).sec = s.sec := rfl
@[simp] theorem useFree_seals : (s.useFree).seals = s.seals := rfl
@[simp] theorem useFree_srx : (s.useFree).srx = s.srx := rfl
@[simp] theorem useFree_lay : (s.useFree).lay = s.lay := rfl
@[simp] theorem useFree_cal : (s.useFree).cal = s.cal := rfl
@[simp] theorem useFree_mon : (s.useFree).mon = s.mon := rfl
@[simp] theorem useFree_tst : (s.useFree).tst = s.tst := rfl
@[simp] theorem useFree_jtag : (s.useFree).jtag = s.jtag := rfl

end

/-! ## State.advance -/

section
variable (s : State) (dt : Nat)

@[simp] theorem advance_pending : (s.advance dt).pending = s.pending := rfl
@[simp] theorem advance_now : (s.advance dt).now = s.now + dt := rfl
@[simp] theorem advance_free : (s.advance dt).free = s.free := rfl
@[simp] theorem advance_power : (s.advance dt).power = s.power := rfl
@[simp] theorem advance_boot : (s.advance dt).boot = s.boot := rfl
@[simp] theorem advance_units : (s.advance dt).units = s.units := rfl
@[simp] theorem advance_stats : (s.advance dt).stats = s.stats := rfl
@[simp] theorem advance_groups : (s.advance dt).groups = s.groups := rfl
@[simp] theorem advance_port : (s.advance dt).port = s.port := rfl
@[simp] theorem advance_fuse : (s.advance dt).fuse = s.fuse := rfl
@[simp] theorem advance_fw : (s.advance dt).fw = s.fw := rfl
@[simp] theorem advance_setup : (s.advance dt).setup = s.setup := rfl
@[simp] theorem advance_mem : (s.advance dt).mem = s.mem := rfl
@[simp] theorem advance_bist : (s.advance dt).bist = s.bist := rfl
@[simp] theorem advance_repairs : (s.advance dt).repairs = s.repairs := rfl
@[simp] theorem advance_mbx : (s.advance dt).mbx = s.mbx := rfl
@[simp] theorem advance_thm : (s.advance dt).thm = s.thm := rfl
@[simp] theorem advance_dom : (s.advance dt).dom = s.dom := rfl
@[simp] theorem advance_board : (s.advance dt).board = s.board := rfl
@[simp] theorem advance_hrx : (s.advance dt).hrx = s.hrx := rfl
@[simp] theorem advance_htx : (s.advance dt).htx = s.htx := rfl
@[simp] theorem advance_ltx : (s.advance dt).ltx = s.ltx := rfl
@[simp] theorem advance_lrx : (s.advance dt).lrx = s.lrx := rfl
@[simp] theorem advance_tiling : (s.advance dt).tiling = s.tiling := rfl
@[simp] theorem advance_xbar : (s.advance dt).xbar = s.xbar := rfl
@[simp] theorem advance_lfd : (s.advance dt).lfd = s.lfd := rfl
@[simp] theorem advance_grp : (s.advance dt).grp = s.grp := rfl
@[simp] theorem advance_fec : (s.advance dt).fec = s.fec := rfl
@[simp] theorem advance_txOut : (s.advance dt).txOut = s.txOut := rfl
@[simp] theorem advance_hostOut : (s.advance dt).hostOut = s.hostOut := rfl
@[simp] theorem advance_egress : (s.advance dt).egress = s.egress := rfl
@[simp] theorem advance_sec : (s.advance dt).sec = s.sec := rfl
@[simp] theorem advance_seals : (s.advance dt).seals = s.seals := rfl
@[simp] theorem advance_srx : (s.advance dt).srx = s.srx := rfl
@[simp] theorem advance_lay : (s.advance dt).lay = s.lay := rfl
@[simp] theorem advance_cal : (s.advance dt).cal = s.cal := rfl
@[simp] theorem advance_mon : (s.advance dt).mon = s.mon := rfl
@[simp] theorem advance_tst : (s.advance dt).tst = s.tst := rfl
@[simp] theorem advance_jtag : (s.advance dt).jtag = s.jtag := rfl

end

/-! ## State.raise -/

section
variable (s : State) (c : Cls) (i code : Nat) (arg : Word)

@[simp] theorem raise_pending : (s.raise c i code arg).pending = s.pending := rfl
@[simp] theorem raise_now : (s.raise c i code arg).now = s.now := rfl
@[simp] theorem raise_free : (s.raise c i code arg).free = s.free := rfl
@[simp] theorem raise_power : (s.raise c i code arg).power = s.power := rfl
@[simp] theorem raise_boot : (s.raise c i code arg).boot = s.boot := rfl
@[simp] theorem raise_units : (s.raise c i code arg).units = s.units := rfl
@[simp] theorem raise_stats : (s.raise c i code arg).stats = s.stats := rfl
@[simp] theorem raise_groups : (s.raise c i code arg).groups = s.groups := rfl
@[simp] theorem raise_port : (s.raise c i code arg).port = s.port := rfl
@[simp] theorem raise_fuse : (s.raise c i code arg).fuse = s.fuse := rfl
@[simp] theorem raise_fw : (s.raise c i code arg).fw = s.fw := rfl
@[simp] theorem raise_setup : (s.raise c i code arg).setup = s.setup := rfl
@[simp] theorem raise_mem : (s.raise c i code arg).mem = s.mem := rfl
@[simp] theorem raise_bist : (s.raise c i code arg).bist = s.bist := rfl
@[simp] theorem raise_repairs : (s.raise c i code arg).repairs = s.repairs := rfl
@[simp] theorem raise_mbx : (s.raise c i code arg).mbx = s.mbx := rfl
@[simp] theorem raise_thm : (s.raise c i code arg).thm = s.thm := rfl
@[simp] theorem raise_dom : (s.raise c i code arg).dom = s.dom := rfl
@[simp] theorem raise_board : (s.raise c i code arg).board = s.board := rfl
@[simp] theorem raise_hrx : (s.raise c i code arg).hrx = s.hrx := rfl
@[simp] theorem raise_htx : (s.raise c i code arg).htx = s.htx := rfl
@[simp] theorem raise_ltx : (s.raise c i code arg).ltx = s.ltx := rfl
@[simp] theorem raise_lrx : (s.raise c i code arg).lrx = s.lrx := rfl
@[simp] theorem raise_tiling : (s.raise c i code arg).tiling = s.tiling := rfl
@[simp] theorem raise_xbar : (s.raise c i code arg).xbar = s.xbar := rfl
@[simp] theorem raise_lfd : (s.raise c i code arg).lfd = s.lfd := rfl
@[simp] theorem raise_grp : (s.raise c i code arg).grp = s.grp := rfl
@[simp] theorem raise_fec : (s.raise c i code arg).fec = s.fec := rfl
@[simp] theorem raise_txOut : (s.raise c i code arg).txOut = s.txOut := rfl
@[simp] theorem raise_hostOut : (s.raise c i code arg).hostOut = s.hostOut := rfl
@[simp] theorem raise_egress : (s.raise c i code arg).egress = s.egress := rfl
@[simp] theorem raise_sec : (s.raise c i code arg).sec = s.sec := rfl
@[simp] theorem raise_seals : (s.raise c i code arg).seals = s.seals := rfl
@[simp] theorem raise_srx : (s.raise c i code arg).srx = s.srx := rfl
@[simp] theorem raise_lay : (s.raise c i code arg).lay = s.lay := rfl
@[simp] theorem raise_cal : (s.raise c i code arg).cal = s.cal := rfl
@[simp] theorem raise_mon : (s.raise c i code arg).mon = s.mon := rfl
@[simp] theorem raise_tst : (s.raise c i code arg).tst = s.tst := rfl
@[simp] theorem raise_jtag : (s.raise c i code arg).jtag = s.jtag := rfl

end

/-! ## State.raiseIf -/

section
variable (s : State) (b : Bool) (c : Cls) (i code : Nat) (arg : Word)

@[simp] theorem raiseIf_pending : (s.raiseIf b c i code arg).pending = s.pending := rfl
@[simp] theorem raiseIf_now : (s.raiseIf b c i code arg).now = s.now := rfl
@[simp] theorem raiseIf_free : (s.raiseIf b c i code arg).free = s.free := rfl
@[simp] theorem raiseIf_power : (s.raiseIf b c i code arg).power = s.power := rfl
@[simp] theorem raiseIf_boot : (s.raiseIf b c i code arg).boot = s.boot := rfl
@[simp] theorem raiseIf_units : (s.raiseIf b c i code arg).units = s.units := rfl
@[simp] theorem raiseIf_stats : (s.raiseIf b c i code arg).stats = s.stats := rfl
@[simp] theorem raiseIf_groups : (s.raiseIf b c i code arg).groups = s.groups := rfl
@[simp] theorem raiseIf_port : (s.raiseIf b c i code arg).port = s.port := rfl
@[simp] theorem raiseIf_fuse : (s.raiseIf b c i code arg).fuse = s.fuse := rfl
@[simp] theorem raiseIf_fw : (s.raiseIf b c i code arg).fw = s.fw := rfl
@[simp] theorem raiseIf_setup : (s.raiseIf b c i code arg).setup = s.setup := rfl
@[simp] theorem raiseIf_mem : (s.raiseIf b c i code arg).mem = s.mem := rfl
@[simp] theorem raiseIf_bist : (s.raiseIf b c i code arg).bist = s.bist := rfl
@[simp] theorem raiseIf_repairs : (s.raiseIf b c i code arg).repairs = s.repairs := rfl
@[simp] theorem raiseIf_mbx : (s.raiseIf b c i code arg).mbx = s.mbx := rfl
@[simp] theorem raiseIf_thm : (s.raiseIf b c i code arg).thm = s.thm := rfl
@[simp] theorem raiseIf_dom : (s.raiseIf b c i code arg).dom = s.dom := rfl
@[simp] theorem raiseIf_board : (s.raiseIf b c i code arg).board = s.board := rfl
@[simp] theorem raiseIf_hrx : (s.raiseIf b c i code arg).hrx = s.hrx := rfl
@[simp] theorem raiseIf_htx : (s.raiseIf b c i code arg).htx = s.htx := rfl
@[simp] theorem raiseIf_ltx : (s.raiseIf b c i code arg).ltx = s.ltx := rfl
@[simp] theorem raiseIf_lrx : (s.raiseIf b c i code arg).lrx = s.lrx := rfl
@[simp] theorem raiseIf_tiling : (s.raiseIf b c i code arg).tiling = s.tiling := rfl
@[simp] theorem raiseIf_xbar : (s.raiseIf b c i code arg).xbar = s.xbar := rfl
@[simp] theorem raiseIf_lfd : (s.raiseIf b c i code arg).lfd = s.lfd := rfl
@[simp] theorem raiseIf_grp : (s.raiseIf b c i code arg).grp = s.grp := rfl
@[simp] theorem raiseIf_fec : (s.raiseIf b c i code arg).fec = s.fec := rfl
@[simp] theorem raiseIf_txOut : (s.raiseIf b c i code arg).txOut = s.txOut := rfl
@[simp] theorem raiseIf_hostOut : (s.raiseIf b c i code arg).hostOut = s.hostOut := rfl
@[simp] theorem raiseIf_egress : (s.raiseIf b c i code arg).egress = s.egress := rfl
@[simp] theorem raiseIf_sec : (s.raiseIf b c i code arg).sec = s.sec := rfl
@[simp] theorem raiseIf_seals : (s.raiseIf b c i code arg).seals = s.seals := rfl
@[simp] theorem raiseIf_srx : (s.raiseIf b c i code arg).srx = s.srx := rfl
@[simp] theorem raiseIf_lay : (s.raiseIf b c i code arg).lay = s.lay := rfl
@[simp] theorem raiseIf_cal : (s.raiseIf b c i code arg).cal = s.cal := rfl
@[simp] theorem raiseIf_mon : (s.raiseIf b c i code arg).mon = s.mon := rfl
@[simp] theorem raiseIf_tst : (s.raiseIf b c i code arg).tst = s.tst := rfl
@[simp] theorem raiseIf_jtag : (s.raiseIf b c i code arg).jtag = s.jtag := rfl

end

/-! ## State.count -/

section
variable (s : State) (c : Cls) (i : Nat) (k : Fin 9) (n : Nat)

@[simp] theorem count_pending : (s.count c i k n).pending = s.pending := rfl
@[simp] theorem count_now : (s.count c i k n).now = s.now := rfl
@[simp] theorem count_free : (s.count c i k n).free = s.free := rfl
@[simp] theorem count_power : (s.count c i k n).power = s.power := rfl
@[simp] theorem count_boot : (s.count c i k n).boot = s.boot := rfl
@[simp] theorem count_units : (s.count c i k n).units = s.units := rfl
@[simp] theorem count_groups : (s.count c i k n).groups = s.groups := rfl
@[simp] theorem count_obs : (s.count c i k n).obs = s.obs := rfl
@[simp] theorem count_port : (s.count c i k n).port = s.port := rfl
@[simp] theorem count_fuse : (s.count c i k n).fuse = s.fuse := rfl
@[simp] theorem count_fw : (s.count c i k n).fw = s.fw := rfl
@[simp] theorem count_setup : (s.count c i k n).setup = s.setup := rfl
@[simp] theorem count_mem : (s.count c i k n).mem = s.mem := rfl
@[simp] theorem count_bist : (s.count c i k n).bist = s.bist := rfl
@[simp] theorem count_repairs : (s.count c i k n).repairs = s.repairs := rfl
@[simp] theorem count_mbx : (s.count c i k n).mbx = s.mbx := rfl
@[simp] theorem count_thm : (s.count c i k n).thm = s.thm := rfl
@[simp] theorem count_dom : (s.count c i k n).dom = s.dom := rfl
@[simp] theorem count_board : (s.count c i k n).board = s.board := rfl
@[simp] theorem count_hrx : (s.count c i k n).hrx = s.hrx := rfl
@[simp] theorem count_htx : (s.count c i k n).htx = s.htx := rfl
@[simp] theorem count_ltx : (s.count c i k n).ltx = s.ltx := rfl
@[simp] theorem count_lrx : (s.count c i k n).lrx = s.lrx := rfl
@[simp] theorem count_tiling : (s.count c i k n).tiling = s.tiling := rfl
@[simp] theorem count_xbar : (s.count c i k n).xbar = s.xbar := rfl
@[simp] theorem count_lfd : (s.count c i k n).lfd = s.lfd := rfl
@[simp] theorem count_grp : (s.count c i k n).grp = s.grp := rfl
@[simp] theorem count_fec : (s.count c i k n).fec = s.fec := rfl
@[simp] theorem count_txOut : (s.count c i k n).txOut = s.txOut := rfl
@[simp] theorem count_hostOut : (s.count c i k n).hostOut = s.hostOut := rfl
@[simp] theorem count_egress : (s.count c i k n).egress = s.egress := rfl
@[simp] theorem count_sec : (s.count c i k n).sec = s.sec := rfl
@[simp] theorem count_seals : (s.count c i k n).seals = s.seals := rfl
@[simp] theorem count_srx : (s.count c i k n).srx = s.srx := rfl
@[simp] theorem count_lay : (s.count c i k n).lay = s.lay := rfl
@[simp] theorem count_cal : (s.count c i k n).cal = s.cal := rfl
@[simp] theorem count_mon : (s.count c i k n).mon = s.mon := rfl
@[simp] theorem count_tst : (s.count c i k n).tst = s.tst := rfl
@[simp] theorem count_jtag : (s.count c i k n).jtag = s.jtag := rfl

end

/-! ## State.signal -/

section
variable (s : State) (c : Cls) (i sig n : Nat)

@[simp] theorem signal_pending : (s.signal c i sig n).pending = s.pending := rfl
@[simp] theorem signal_now : (s.signal c i sig n).now = s.now := rfl
@[simp] theorem signal_free : (s.signal c i sig n).free = s.free := rfl
@[simp] theorem signal_power : (s.signal c i sig n).power = s.power := rfl
@[simp] theorem signal_boot : (s.signal c i sig n).boot = s.boot := rfl
@[simp] theorem signal_units : (s.signal c i sig n).units = s.units := rfl
@[simp] theorem signal_stats : (s.signal c i sig n).stats = s.stats := rfl
@[simp] theorem signal_groups : (s.signal c i sig n).groups = s.groups := rfl
@[simp] theorem signal_port : (s.signal c i sig n).port = s.port := rfl
@[simp] theorem signal_fuse : (s.signal c i sig n).fuse = s.fuse := rfl
@[simp] theorem signal_fw : (s.signal c i sig n).fw = s.fw := rfl
@[simp] theorem signal_setup : (s.signal c i sig n).setup = s.setup := rfl
@[simp] theorem signal_mem : (s.signal c i sig n).mem = s.mem := rfl
@[simp] theorem signal_bist : (s.signal c i sig n).bist = s.bist := rfl
@[simp] theorem signal_repairs : (s.signal c i sig n).repairs = s.repairs := rfl
@[simp] theorem signal_mbx : (s.signal c i sig n).mbx = s.mbx := rfl
@[simp] theorem signal_thm : (s.signal c i sig n).thm = s.thm := rfl
@[simp] theorem signal_dom : (s.signal c i sig n).dom = s.dom := rfl
@[simp] theorem signal_board : (s.signal c i sig n).board = s.board := rfl
@[simp] theorem signal_hrx : (s.signal c i sig n).hrx = s.hrx := rfl
@[simp] theorem signal_htx : (s.signal c i sig n).htx = s.htx := rfl
@[simp] theorem signal_ltx : (s.signal c i sig n).ltx = s.ltx := rfl
@[simp] theorem signal_lrx : (s.signal c i sig n).lrx = s.lrx := rfl
@[simp] theorem signal_tiling : (s.signal c i sig n).tiling = s.tiling := rfl
@[simp] theorem signal_xbar : (s.signal c i sig n).xbar = s.xbar := rfl
@[simp] theorem signal_lfd : (s.signal c i sig n).lfd = s.lfd := rfl
@[simp] theorem signal_grp : (s.signal c i sig n).grp = s.grp := rfl
@[simp] theorem signal_fec : (s.signal c i sig n).fec = s.fec := rfl
@[simp] theorem signal_txOut : (s.signal c i sig n).txOut = s.txOut := rfl
@[simp] theorem signal_hostOut : (s.signal c i sig n).hostOut = s.hostOut := rfl
@[simp] theorem signal_egress : (s.signal c i sig n).egress = s.egress := rfl
@[simp] theorem signal_sec : (s.signal c i sig n).sec = s.sec := rfl
@[simp] theorem signal_seals : (s.signal c i sig n).seals = s.seals := rfl
@[simp] theorem signal_srx : (s.signal c i sig n).srx = s.srx := rfl
@[simp] theorem signal_lay : (s.signal c i sig n).lay = s.lay := rfl
@[simp] theorem signal_cal : (s.signal c i sig n).cal = s.cal := rfl
@[simp] theorem signal_mon : (s.signal c i sig n).mon = s.mon := rfl
@[simp] theorem signal_tst : (s.signal c i sig n).tst = s.tst := rfl
@[simp] theorem signal_jtag : (s.signal c i sig n).jtag = s.jtag := rfl

end

/-! ## State.setHrx -/

section
variable (s : State) (n : Fin 16) (f : Hrx → Hrx)

@[simp] theorem setHrx_pending : (s.setHrx n f).pending = s.pending := rfl
@[simp] theorem setHrx_now : (s.setHrx n f).now = s.now := rfl
@[simp] theorem setHrx_free : (s.setHrx n f).free = s.free := rfl
@[simp] theorem setHrx_power : (s.setHrx n f).power = s.power := rfl
@[simp] theorem setHrx_boot : (s.setHrx n f).boot = s.boot := rfl
@[simp] theorem setHrx_units : (s.setHrx n f).units = s.units := rfl
@[simp] theorem setHrx_stats : (s.setHrx n f).stats = s.stats := rfl
@[simp] theorem setHrx_groups : (s.setHrx n f).groups = s.groups := rfl
@[simp] theorem setHrx_obs : (s.setHrx n f).obs = s.obs := rfl
@[simp] theorem setHrx_port : (s.setHrx n f).port = s.port := rfl
@[simp] theorem setHrx_fuse : (s.setHrx n f).fuse = s.fuse := rfl
@[simp] theorem setHrx_fw : (s.setHrx n f).fw = s.fw := rfl
@[simp] theorem setHrx_setup : (s.setHrx n f).setup = s.setup := rfl
@[simp] theorem setHrx_mem : (s.setHrx n f).mem = s.mem := rfl
@[simp] theorem setHrx_bist : (s.setHrx n f).bist = s.bist := rfl
@[simp] theorem setHrx_repairs : (s.setHrx n f).repairs = s.repairs := rfl
@[simp] theorem setHrx_mbx : (s.setHrx n f).mbx = s.mbx := rfl
@[simp] theorem setHrx_thm : (s.setHrx n f).thm = s.thm := rfl
@[simp] theorem setHrx_dom : (s.setHrx n f).dom = s.dom := rfl
@[simp] theorem setHrx_board : (s.setHrx n f).board = s.board := rfl
@[simp] theorem setHrx_hrx : (s.setHrx n f).hrx = upd s.hrx n f := rfl
@[simp] theorem setHrx_htx : (s.setHrx n f).htx = s.htx := rfl
@[simp] theorem setHrx_ltx : (s.setHrx n f).ltx = s.ltx := rfl
@[simp] theorem setHrx_lrx : (s.setHrx n f).lrx = s.lrx := rfl
@[simp] theorem setHrx_tiling : (s.setHrx n f).tiling = s.tiling := rfl
@[simp] theorem setHrx_xbar : (s.setHrx n f).xbar = s.xbar := rfl
@[simp] theorem setHrx_lfd : (s.setHrx n f).lfd = s.lfd := rfl
@[simp] theorem setHrx_grp : (s.setHrx n f).grp = s.grp := rfl
@[simp] theorem setHrx_fec : (s.setHrx n f).fec = s.fec := rfl
@[simp] theorem setHrx_txOut : (s.setHrx n f).txOut = s.txOut := rfl
@[simp] theorem setHrx_hostOut : (s.setHrx n f).hostOut = s.hostOut := rfl
@[simp] theorem setHrx_egress : (s.setHrx n f).egress = s.egress := rfl
@[simp] theorem setHrx_sec : (s.setHrx n f).sec = s.sec := rfl
@[simp] theorem setHrx_seals : (s.setHrx n f).seals = s.seals := rfl
@[simp] theorem setHrx_srx : (s.setHrx n f).srx = s.srx := rfl
@[simp] theorem setHrx_lay : (s.setHrx n f).lay = s.lay := rfl
@[simp] theorem setHrx_cal : (s.setHrx n f).cal = s.cal := rfl
@[simp] theorem setHrx_mon : (s.setHrx n f).mon = s.mon := rfl
@[simp] theorem setHrx_tst : (s.setHrx n f).tst = s.tst := rfl
@[simp] theorem setHrx_jtag : (s.setHrx n f).jtag = s.jtag := rfl

end

/-! ## State.setHtx -/

section
variable (s : State) (n : Fin 16) (f : Htx → Htx)

@[simp] theorem setHtx_pending : (s.setHtx n f).pending = s.pending := rfl
@[simp] theorem setHtx_now : (s.setHtx n f).now = s.now := rfl
@[simp] theorem setHtx_free : (s.setHtx n f).free = s.free := rfl
@[simp] theorem setHtx_power : (s.setHtx n f).power = s.power := rfl
@[simp] theorem setHtx_boot : (s.setHtx n f).boot = s.boot := rfl
@[simp] theorem setHtx_units : (s.setHtx n f).units = s.units := rfl
@[simp] theorem setHtx_stats : (s.setHtx n f).stats = s.stats := rfl
@[simp] theorem setHtx_groups : (s.setHtx n f).groups = s.groups := rfl
@[simp] theorem setHtx_obs : (s.setHtx n f).obs = s.obs := rfl
@[simp] theorem setHtx_port : (s.setHtx n f).port = s.port := rfl
@[simp] theorem setHtx_fuse : (s.setHtx n f).fuse = s.fuse := rfl
@[simp] theorem setHtx_fw : (s.setHtx n f).fw = s.fw := rfl
@[simp] theorem setHtx_setup : (s.setHtx n f).setup = s.setup := rfl
@[simp] theorem setHtx_mem : (s.setHtx n f).mem = s.mem := rfl
@[simp] theorem setHtx_bist : (s.setHtx n f).bist = s.bist := rfl
@[simp] theorem setHtx_repairs : (s.setHtx n f).repairs = s.repairs := rfl
@[simp] theorem setHtx_mbx : (s.setHtx n f).mbx = s.mbx := rfl
@[simp] theorem setHtx_thm : (s.setHtx n f).thm = s.thm := rfl
@[simp] theorem setHtx_dom : (s.setHtx n f).dom = s.dom := rfl
@[simp] theorem setHtx_board : (s.setHtx n f).board = s.board := rfl
@[simp] theorem setHtx_hrx : (s.setHtx n f).hrx = s.hrx := rfl
@[simp] theorem setHtx_htx : (s.setHtx n f).htx = upd s.htx n f := rfl
@[simp] theorem setHtx_ltx : (s.setHtx n f).ltx = s.ltx := rfl
@[simp] theorem setHtx_lrx : (s.setHtx n f).lrx = s.lrx := rfl
@[simp] theorem setHtx_tiling : (s.setHtx n f).tiling = s.tiling := rfl
@[simp] theorem setHtx_xbar : (s.setHtx n f).xbar = s.xbar := rfl
@[simp] theorem setHtx_lfd : (s.setHtx n f).lfd = s.lfd := rfl
@[simp] theorem setHtx_grp : (s.setHtx n f).grp = s.grp := rfl
@[simp] theorem setHtx_fec : (s.setHtx n f).fec = s.fec := rfl
@[simp] theorem setHtx_txOut : (s.setHtx n f).txOut = s.txOut := rfl
@[simp] theorem setHtx_hostOut : (s.setHtx n f).hostOut = s.hostOut := rfl
@[simp] theorem setHtx_egress : (s.setHtx n f).egress = s.egress := rfl
@[simp] theorem setHtx_sec : (s.setHtx n f).sec = s.sec := rfl
@[simp] theorem setHtx_seals : (s.setHtx n f).seals = s.seals := rfl
@[simp] theorem setHtx_srx : (s.setHtx n f).srx = s.srx := rfl
@[simp] theorem setHtx_lay : (s.setHtx n f).lay = s.lay := rfl
@[simp] theorem setHtx_cal : (s.setHtx n f).cal = s.cal := rfl
@[simp] theorem setHtx_mon : (s.setHtx n f).mon = s.mon := rfl
@[simp] theorem setHtx_tst : (s.setHtx n f).tst = s.tst := rfl
@[simp] theorem setHtx_jtag : (s.setHtx n f).jtag = s.jtag := rfl

end

/-! ## State.setLtx -/

section
variable (s : State) (l : Fin 8) (f : Ltx → Ltx)

@[simp] theorem setLtx_pending : (s.setLtx l f).pending = s.pending := rfl
@[simp] theorem setLtx_now : (s.setLtx l f).now = s.now := rfl
@[simp] theorem setLtx_free : (s.setLtx l f).free = s.free := rfl
@[simp] theorem setLtx_power : (s.setLtx l f).power = s.power := rfl
@[simp] theorem setLtx_boot : (s.setLtx l f).boot = s.boot := rfl
@[simp] theorem setLtx_units : (s.setLtx l f).units = s.units := rfl
@[simp] theorem setLtx_stats : (s.setLtx l f).stats = s.stats := rfl
@[simp] theorem setLtx_groups : (s.setLtx l f).groups = s.groups := rfl
@[simp] theorem setLtx_obs : (s.setLtx l f).obs = s.obs := rfl
@[simp] theorem setLtx_port : (s.setLtx l f).port = s.port := rfl
@[simp] theorem setLtx_fuse : (s.setLtx l f).fuse = s.fuse := rfl
@[simp] theorem setLtx_fw : (s.setLtx l f).fw = s.fw := rfl
@[simp] theorem setLtx_setup : (s.setLtx l f).setup = s.setup := rfl
@[simp] theorem setLtx_mem : (s.setLtx l f).mem = s.mem := rfl
@[simp] theorem setLtx_bist : (s.setLtx l f).bist = s.bist := rfl
@[simp] theorem setLtx_repairs : (s.setLtx l f).repairs = s.repairs := rfl
@[simp] theorem setLtx_mbx : (s.setLtx l f).mbx = s.mbx := rfl
@[simp] theorem setLtx_thm : (s.setLtx l f).thm = s.thm := rfl
@[simp] theorem setLtx_dom : (s.setLtx l f).dom = s.dom := rfl
@[simp] theorem setLtx_board : (s.setLtx l f).board = s.board := rfl
@[simp] theorem setLtx_hrx : (s.setLtx l f).hrx = s.hrx := rfl
@[simp] theorem setLtx_htx : (s.setLtx l f).htx = s.htx := rfl
@[simp] theorem setLtx_ltx : (s.setLtx l f).ltx = upd s.ltx l f := rfl
@[simp] theorem setLtx_lrx : (s.setLtx l f).lrx = s.lrx := rfl
@[simp] theorem setLtx_tiling : (s.setLtx l f).tiling = s.tiling := rfl
@[simp] theorem setLtx_xbar : (s.setLtx l f).xbar = s.xbar := rfl
@[simp] theorem setLtx_lfd : (s.setLtx l f).lfd = s.lfd := rfl
@[simp] theorem setLtx_grp : (s.setLtx l f).grp = s.grp := rfl
@[simp] theorem setLtx_fec : (s.setLtx l f).fec = s.fec := rfl
@[simp] theorem setLtx_txOut : (s.setLtx l f).txOut = s.txOut := rfl
@[simp] theorem setLtx_hostOut : (s.setLtx l f).hostOut = s.hostOut := rfl
@[simp] theorem setLtx_egress : (s.setLtx l f).egress = s.egress := rfl
@[simp] theorem setLtx_sec : (s.setLtx l f).sec = s.sec := rfl
@[simp] theorem setLtx_seals : (s.setLtx l f).seals = s.seals := rfl
@[simp] theorem setLtx_srx : (s.setLtx l f).srx = s.srx := rfl
@[simp] theorem setLtx_lay : (s.setLtx l f).lay = s.lay := rfl
@[simp] theorem setLtx_cal : (s.setLtx l f).cal = s.cal := rfl
@[simp] theorem setLtx_mon : (s.setLtx l f).mon = s.mon := rfl
@[simp] theorem setLtx_tst : (s.setLtx l f).tst = s.tst := rfl
@[simp] theorem setLtx_jtag : (s.setLtx l f).jtag = s.jtag := rfl

end

/-! ## State.setLrx -/

section
variable (s : State) (l : Fin 8) (f : Lrx → Lrx)

@[simp] theorem setLrx_pending : (s.setLrx l f).pending = s.pending := rfl
@[simp] theorem setLrx_now : (s.setLrx l f).now = s.now := rfl
@[simp] theorem setLrx_free : (s.setLrx l f).free = s.free := rfl
@[simp] theorem setLrx_power : (s.setLrx l f).power = s.power := rfl
@[simp] theorem setLrx_boot : (s.setLrx l f).boot = s.boot := rfl
@[simp] theorem setLrx_units : (s.setLrx l f).units = s.units := rfl
@[simp] theorem setLrx_stats : (s.setLrx l f).stats = s.stats := rfl
@[simp] theorem setLrx_groups : (s.setLrx l f).groups = s.groups := rfl
@[simp] theorem setLrx_obs : (s.setLrx l f).obs = s.obs := rfl
@[simp] theorem setLrx_port : (s.setLrx l f).port = s.port := rfl
@[simp] theorem setLrx_fuse : (s.setLrx l f).fuse = s.fuse := rfl
@[simp] theorem setLrx_fw : (s.setLrx l f).fw = s.fw := rfl
@[simp] theorem setLrx_setup : (s.setLrx l f).setup = s.setup := rfl
@[simp] theorem setLrx_mem : (s.setLrx l f).mem = s.mem := rfl
@[simp] theorem setLrx_bist : (s.setLrx l f).bist = s.bist := rfl
@[simp] theorem setLrx_repairs : (s.setLrx l f).repairs = s.repairs := rfl
@[simp] theorem setLrx_mbx : (s.setLrx l f).mbx = s.mbx := rfl
@[simp] theorem setLrx_thm : (s.setLrx l f).thm = s.thm := rfl
@[simp] theorem setLrx_dom : (s.setLrx l f).dom = s.dom := rfl
@[simp] theorem setLrx_board : (s.setLrx l f).board = s.board := rfl
@[simp] theorem setLrx_hrx : (s.setLrx l f).hrx = s.hrx := rfl
@[simp] theorem setLrx_htx : (s.setLrx l f).htx = s.htx := rfl
@[simp] theorem setLrx_ltx : (s.setLrx l f).ltx = s.ltx := rfl
@[simp] theorem setLrx_lrx : (s.setLrx l f).lrx = upd s.lrx l f := rfl
@[simp] theorem setLrx_tiling : (s.setLrx l f).tiling = s.tiling := rfl
@[simp] theorem setLrx_xbar : (s.setLrx l f).xbar = s.xbar := rfl
@[simp] theorem setLrx_lfd : (s.setLrx l f).lfd = s.lfd := rfl
@[simp] theorem setLrx_grp : (s.setLrx l f).grp = s.grp := rfl
@[simp] theorem setLrx_fec : (s.setLrx l f).fec = s.fec := rfl
@[simp] theorem setLrx_txOut : (s.setLrx l f).txOut = s.txOut := rfl
@[simp] theorem setLrx_hostOut : (s.setLrx l f).hostOut = s.hostOut := rfl
@[simp] theorem setLrx_egress : (s.setLrx l f).egress = s.egress := rfl
@[simp] theorem setLrx_sec : (s.setLrx l f).sec = s.sec := rfl
@[simp] theorem setLrx_seals : (s.setLrx l f).seals = s.seals := rfl
@[simp] theorem setLrx_srx : (s.setLrx l f).srx = s.srx := rfl
@[simp] theorem setLrx_lay : (s.setLrx l f).lay = s.lay := rfl
@[simp] theorem setLrx_cal : (s.setLrx l f).cal = s.cal := rfl
@[simp] theorem setLrx_mon : (s.setLrx l f).mon = s.mon := rfl
@[simp] theorem setLrx_tst : (s.setLrx l f).tst = s.tst := rfl
@[simp] theorem setLrx_jtag : (s.setLrx l f).jtag = s.jtag := rfl

end

/-! ## State.setLfd -/

section
variable (s : State) (l : Fin 8) (f : Lfd → Lfd)

@[simp] theorem setLfd_pending : (s.setLfd l f).pending = s.pending := rfl
@[simp] theorem setLfd_now : (s.setLfd l f).now = s.now := rfl
@[simp] theorem setLfd_free : (s.setLfd l f).free = s.free := rfl
@[simp] theorem setLfd_power : (s.setLfd l f).power = s.power := rfl
@[simp] theorem setLfd_boot : (s.setLfd l f).boot = s.boot := rfl
@[simp] theorem setLfd_units : (s.setLfd l f).units = s.units := rfl
@[simp] theorem setLfd_stats : (s.setLfd l f).stats = s.stats := rfl
@[simp] theorem setLfd_groups : (s.setLfd l f).groups = s.groups := rfl
@[simp] theorem setLfd_obs : (s.setLfd l f).obs = s.obs := rfl
@[simp] theorem setLfd_port : (s.setLfd l f).port = s.port := rfl
@[simp] theorem setLfd_fuse : (s.setLfd l f).fuse = s.fuse := rfl
@[simp] theorem setLfd_fw : (s.setLfd l f).fw = s.fw := rfl
@[simp] theorem setLfd_setup : (s.setLfd l f).setup = s.setup := rfl
@[simp] theorem setLfd_mem : (s.setLfd l f).mem = s.mem := rfl
@[simp] theorem setLfd_bist : (s.setLfd l f).bist = s.bist := rfl
@[simp] theorem setLfd_repairs : (s.setLfd l f).repairs = s.repairs := rfl
@[simp] theorem setLfd_mbx : (s.setLfd l f).mbx = s.mbx := rfl
@[simp] theorem setLfd_thm : (s.setLfd l f).thm = s.thm := rfl
@[simp] theorem setLfd_dom : (s.setLfd l f).dom = s.dom := rfl
@[simp] theorem setLfd_board : (s.setLfd l f).board = s.board := rfl
@[simp] theorem setLfd_hrx : (s.setLfd l f).hrx = s.hrx := rfl
@[simp] theorem setLfd_htx : (s.setLfd l f).htx = s.htx := rfl
@[simp] theorem setLfd_ltx : (s.setLfd l f).ltx = s.ltx := rfl
@[simp] theorem setLfd_lrx : (s.setLfd l f).lrx = s.lrx := rfl
@[simp] theorem setLfd_tiling : (s.setLfd l f).tiling = s.tiling := rfl
@[simp] theorem setLfd_xbar : (s.setLfd l f).xbar = s.xbar := rfl
@[simp] theorem setLfd_lfd : (s.setLfd l f).lfd = upd s.lfd l f := rfl
@[simp] theorem setLfd_grp : (s.setLfd l f).grp = s.grp := rfl
@[simp] theorem setLfd_fec : (s.setLfd l f).fec = s.fec := rfl
@[simp] theorem setLfd_txOut : (s.setLfd l f).txOut = s.txOut := rfl
@[simp] theorem setLfd_hostOut : (s.setLfd l f).hostOut = s.hostOut := rfl
@[simp] theorem setLfd_egress : (s.setLfd l f).egress = s.egress := rfl
@[simp] theorem setLfd_sec : (s.setLfd l f).sec = s.sec := rfl
@[simp] theorem setLfd_seals : (s.setLfd l f).seals = s.seals := rfl
@[simp] theorem setLfd_srx : (s.setLfd l f).srx = s.srx := rfl
@[simp] theorem setLfd_lay : (s.setLfd l f).lay = s.lay := rfl
@[simp] theorem setLfd_cal : (s.setLfd l f).cal = s.cal := rfl
@[simp] theorem setLfd_mon : (s.setLfd l f).mon = s.mon := rfl
@[simp] theorem setLfd_tst : (s.setLfd l f).tst = s.tst := rfl
@[simp] theorem setLfd_jtag : (s.setLfd l f).jtag = s.jtag := rfl

end

/-! ## State.setGrp -/

section
variable (s : State) (g : Fin 8) (f : Grp → Grp)

@[simp] theorem setGrp_pending : (s.setGrp g f).pending = s.pending := rfl
@[simp] theorem setGrp_now : (s.setGrp g f).now = s.now := rfl
@[simp] theorem setGrp_free : (s.setGrp g f).free = s.free := rfl
@[simp] theorem setGrp_power : (s.setGrp g f).power = s.power := rfl
@[simp] theorem setGrp_boot : (s.setGrp g f).boot = s.boot := rfl
@[simp] theorem setGrp_units : (s.setGrp g f).units = s.units := rfl
@[simp] theorem setGrp_stats : (s.setGrp g f).stats = s.stats := rfl
@[simp] theorem setGrp_groups : (s.setGrp g f).groups = s.groups := rfl
@[simp] theorem setGrp_obs : (s.setGrp g f).obs = s.obs := rfl
@[simp] theorem setGrp_port : (s.setGrp g f).port = s.port := rfl
@[simp] theorem setGrp_fuse : (s.setGrp g f).fuse = s.fuse := rfl
@[simp] theorem setGrp_fw : (s.setGrp g f).fw = s.fw := rfl
@[simp] theorem setGrp_setup : (s.setGrp g f).setup = s.setup := rfl
@[simp] theorem setGrp_mem : (s.setGrp g f).mem = s.mem := rfl
@[simp] theorem setGrp_bist : (s.setGrp g f).bist = s.bist := rfl
@[simp] theorem setGrp_repairs : (s.setGrp g f).repairs = s.repairs := rfl
@[simp] theorem setGrp_mbx : (s.setGrp g f).mbx = s.mbx := rfl
@[simp] theorem setGrp_thm : (s.setGrp g f).thm = s.thm := rfl
@[simp] theorem setGrp_dom : (s.setGrp g f).dom = s.dom := rfl
@[simp] theorem setGrp_board : (s.setGrp g f).board = s.board := rfl
@[simp] theorem setGrp_hrx : (s.setGrp g f).hrx = s.hrx := rfl
@[simp] theorem setGrp_htx : (s.setGrp g f).htx = s.htx := rfl
@[simp] theorem setGrp_ltx : (s.setGrp g f).ltx = s.ltx := rfl
@[simp] theorem setGrp_lrx : (s.setGrp g f).lrx = s.lrx := rfl
@[simp] theorem setGrp_tiling : (s.setGrp g f).tiling = s.tiling := rfl
@[simp] theorem setGrp_xbar : (s.setGrp g f).xbar = s.xbar := rfl
@[simp] theorem setGrp_lfd : (s.setGrp g f).lfd = s.lfd := rfl
@[simp] theorem setGrp_grp : (s.setGrp g f).grp = upd s.grp g f := rfl
@[simp] theorem setGrp_fec : (s.setGrp g f).fec = s.fec := rfl
@[simp] theorem setGrp_txOut : (s.setGrp g f).txOut = s.txOut := rfl
@[simp] theorem setGrp_hostOut : (s.setGrp g f).hostOut = s.hostOut := rfl
@[simp] theorem setGrp_egress : (s.setGrp g f).egress = s.egress := rfl
@[simp] theorem setGrp_sec : (s.setGrp g f).sec = s.sec := rfl
@[simp] theorem setGrp_seals : (s.setGrp g f).seals = s.seals := rfl
@[simp] theorem setGrp_srx : (s.setGrp g f).srx = s.srx := rfl
@[simp] theorem setGrp_lay : (s.setGrp g f).lay = s.lay := rfl
@[simp] theorem setGrp_cal : (s.setGrp g f).cal = s.cal := rfl
@[simp] theorem setGrp_mon : (s.setGrp g f).mon = s.mon := rfl
@[simp] theorem setGrp_tst : (s.setGrp g f).tst = s.tst := rfl
@[simp] theorem setGrp_jtag : (s.setGrp g f).jtag = s.jtag := rfl

end

/-! ## State.setFec -/

section
variable (s : State) (g : Fin 8) (f : Fec → Fec)

@[simp] theorem setFec_pending : (s.setFec g f).pending = s.pending := rfl
@[simp] theorem setFec_now : (s.setFec g f).now = s.now := rfl
@[simp] theorem setFec_free : (s.setFec g f).free = s.free := rfl
@[simp] theorem setFec_power : (s.setFec g f).power = s.power := rfl
@[simp] theorem setFec_boot : (s.setFec g f).boot = s.boot := rfl
@[simp] theorem setFec_units : (s.setFec g f).units = s.units := rfl
@[simp] theorem setFec_stats : (s.setFec g f).stats = s.stats := rfl
@[simp] theorem setFec_groups : (s.setFec g f).groups = s.groups := rfl
@[simp] theorem setFec_obs : (s.setFec g f).obs = s.obs := rfl
@[simp] theorem setFec_port : (s.setFec g f).port = s.port := rfl
@[simp] theorem setFec_fuse : (s.setFec g f).fuse = s.fuse := rfl
@[simp] theorem setFec_fw : (s.setFec g f).fw = s.fw := rfl
@[simp] theorem setFec_setup : (s.setFec g f).setup = s.setup := rfl
@[simp] theorem setFec_mem : (s.setFec g f).mem = s.mem := rfl
@[simp] theorem setFec_bist : (s.setFec g f).bist = s.bist := rfl
@[simp] theorem setFec_repairs : (s.setFec g f).repairs = s.repairs := rfl
@[simp] theorem setFec_mbx : (s.setFec g f).mbx = s.mbx := rfl
@[simp] theorem setFec_thm : (s.setFec g f).thm = s.thm := rfl
@[simp] theorem setFec_dom : (s.setFec g f).dom = s.dom := rfl
@[simp] theorem setFec_board : (s.setFec g f).board = s.board := rfl
@[simp] theorem setFec_hrx : (s.setFec g f).hrx = s.hrx := rfl
@[simp] theorem setFec_htx : (s.setFec g f).htx = s.htx := rfl
@[simp] theorem setFec_ltx : (s.setFec g f).ltx = s.ltx := rfl
@[simp] theorem setFec_lrx : (s.setFec g f).lrx = s.lrx := rfl
@[simp] theorem setFec_tiling : (s.setFec g f).tiling = s.tiling := rfl
@[simp] theorem setFec_xbar : (s.setFec g f).xbar = s.xbar := rfl
@[simp] theorem setFec_lfd : (s.setFec g f).lfd = s.lfd := rfl
@[simp] theorem setFec_grp : (s.setFec g f).grp = s.grp := rfl
@[simp] theorem setFec_fec : (s.setFec g f).fec = upd s.fec g f := rfl
@[simp] theorem setFec_txOut : (s.setFec g f).txOut = s.txOut := rfl
@[simp] theorem setFec_hostOut : (s.setFec g f).hostOut = s.hostOut := rfl
@[simp] theorem setFec_egress : (s.setFec g f).egress = s.egress := rfl
@[simp] theorem setFec_sec : (s.setFec g f).sec = s.sec := rfl
@[simp] theorem setFec_seals : (s.setFec g f).seals = s.seals := rfl
@[simp] theorem setFec_srx : (s.setFec g f).srx = s.srx := rfl
@[simp] theorem setFec_lay : (s.setFec g f).lay = s.lay := rfl
@[simp] theorem setFec_cal : (s.setFec g f).cal = s.cal := rfl
@[simp] theorem setFec_mon : (s.setFec g f).mon = s.mon := rfl
@[simp] theorem setFec_tst : (s.setFec g f).tst = s.tst := rfl
@[simp] theorem setFec_jtag : (s.setFec g f).jtag = s.jtag := rfl

end

/-! ## State.setSeal -/

section
variable (s : State) (g : Fin 8) (f : Seal → Seal)

@[simp] theorem setSeal_pending : (s.setSeal g f).pending = s.pending := rfl
@[simp] theorem setSeal_now : (s.setSeal g f).now = s.now := rfl
@[simp] theorem setSeal_free : (s.setSeal g f).free = s.free := rfl
@[simp] theorem setSeal_power : (s.setSeal g f).power = s.power := rfl
@[simp] theorem setSeal_boot : (s.setSeal g f).boot = s.boot := rfl
@[simp] theorem setSeal_units : (s.setSeal g f).units = s.units := rfl
@[simp] theorem setSeal_stats : (s.setSeal g f).stats = s.stats := rfl
@[simp] theorem setSeal_groups : (s.setSeal g f).groups = s.groups := rfl
@[simp] theorem setSeal_obs : (s.setSeal g f).obs = s.obs := rfl
@[simp] theorem setSeal_port : (s.setSeal g f).port = s.port := rfl
@[simp] theorem setSeal_fuse : (s.setSeal g f).fuse = s.fuse := rfl
@[simp] theorem setSeal_fw : (s.setSeal g f).fw = s.fw := rfl
@[simp] theorem setSeal_setup : (s.setSeal g f).setup = s.setup := rfl
@[simp] theorem setSeal_mem : (s.setSeal g f).mem = s.mem := rfl
@[simp] theorem setSeal_bist : (s.setSeal g f).bist = s.bist := rfl
@[simp] theorem setSeal_repairs : (s.setSeal g f).repairs = s.repairs := rfl
@[simp] theorem setSeal_mbx : (s.setSeal g f).mbx = s.mbx := rfl
@[simp] theorem setSeal_thm : (s.setSeal g f).thm = s.thm := rfl
@[simp] theorem setSeal_dom : (s.setSeal g f).dom = s.dom := rfl
@[simp] theorem setSeal_board : (s.setSeal g f).board = s.board := rfl
@[simp] theorem setSeal_hrx : (s.setSeal g f).hrx = s.hrx := rfl
@[simp] theorem setSeal_htx : (s.setSeal g f).htx = s.htx := rfl
@[simp] theorem setSeal_ltx : (s.setSeal g f).ltx = s.ltx := rfl
@[simp] theorem setSeal_lrx : (s.setSeal g f).lrx = s.lrx := rfl
@[simp] theorem setSeal_tiling : (s.setSeal g f).tiling = s.tiling := rfl
@[simp] theorem setSeal_xbar : (s.setSeal g f).xbar = s.xbar := rfl
@[simp] theorem setSeal_lfd : (s.setSeal g f).lfd = s.lfd := rfl
@[simp] theorem setSeal_grp : (s.setSeal g f).grp = s.grp := rfl
@[simp] theorem setSeal_fec : (s.setSeal g f).fec = s.fec := rfl
@[simp] theorem setSeal_txOut : (s.setSeal g f).txOut = s.txOut := rfl
@[simp] theorem setSeal_hostOut : (s.setSeal g f).hostOut = s.hostOut := rfl
@[simp] theorem setSeal_egress : (s.setSeal g f).egress = s.egress := rfl
@[simp] theorem setSeal_sec : (s.setSeal g f).sec = s.sec := rfl
@[simp] theorem setSeal_seals : (s.setSeal g f).seals = upd s.seals g f := rfl
@[simp] theorem setSeal_srx : (s.setSeal g f).srx = s.srx := rfl
@[simp] theorem setSeal_lay : (s.setSeal g f).lay = s.lay := rfl
@[simp] theorem setSeal_cal : (s.setSeal g f).cal = s.cal := rfl
@[simp] theorem setSeal_mon : (s.setSeal g f).mon = s.mon := rfl
@[simp] theorem setSeal_tst : (s.setSeal g f).tst = s.tst := rfl
@[simp] theorem setSeal_jtag : (s.setSeal g f).jtag = s.jtag := rfl

end

/-! ## State.setCal -/

section
variable (s : State) (k : Fin 48) (f : CalLane → CalLane)

@[simp] theorem setCal_pending : (s.setCal k f).pending = s.pending := rfl
@[simp] theorem setCal_now : (s.setCal k f).now = s.now := rfl
@[simp] theorem setCal_free : (s.setCal k f).free = s.free := rfl
@[simp] theorem setCal_power : (s.setCal k f).power = s.power := rfl
@[simp] theorem setCal_boot : (s.setCal k f).boot = s.boot := rfl
@[simp] theorem setCal_units : (s.setCal k f).units = s.units := rfl
@[simp] theorem setCal_stats : (s.setCal k f).stats = s.stats := rfl
@[simp] theorem setCal_groups : (s.setCal k f).groups = s.groups := rfl
@[simp] theorem setCal_obs : (s.setCal k f).obs = s.obs := rfl
@[simp] theorem setCal_port : (s.setCal k f).port = s.port := rfl
@[simp] theorem setCal_fuse : (s.setCal k f).fuse = s.fuse := rfl
@[simp] theorem setCal_fw : (s.setCal k f).fw = s.fw := rfl
@[simp] theorem setCal_setup : (s.setCal k f).setup = s.setup := rfl
@[simp] theorem setCal_mem : (s.setCal k f).mem = s.mem := rfl
@[simp] theorem setCal_bist : (s.setCal k f).bist = s.bist := rfl
@[simp] theorem setCal_repairs : (s.setCal k f).repairs = s.repairs := rfl
@[simp] theorem setCal_mbx : (s.setCal k f).mbx = s.mbx := rfl
@[simp] theorem setCal_thm : (s.setCal k f).thm = s.thm := rfl
@[simp] theorem setCal_dom : (s.setCal k f).dom = s.dom := rfl
@[simp] theorem setCal_board : (s.setCal k f).board = s.board := rfl
@[simp] theorem setCal_hrx : (s.setCal k f).hrx = s.hrx := rfl
@[simp] theorem setCal_htx : (s.setCal k f).htx = s.htx := rfl
@[simp] theorem setCal_ltx : (s.setCal k f).ltx = s.ltx := rfl
@[simp] theorem setCal_lrx : (s.setCal k f).lrx = s.lrx := rfl
@[simp] theorem setCal_tiling : (s.setCal k f).tiling = s.tiling := rfl
@[simp] theorem setCal_xbar : (s.setCal k f).xbar = s.xbar := rfl
@[simp] theorem setCal_lfd : (s.setCal k f).lfd = s.lfd := rfl
@[simp] theorem setCal_grp : (s.setCal k f).grp = s.grp := rfl
@[simp] theorem setCal_fec : (s.setCal k f).fec = s.fec := rfl
@[simp] theorem setCal_txOut : (s.setCal k f).txOut = s.txOut := rfl
@[simp] theorem setCal_hostOut : (s.setCal k f).hostOut = s.hostOut := rfl
@[simp] theorem setCal_egress : (s.setCal k f).egress = s.egress := rfl
@[simp] theorem setCal_sec : (s.setCal k f).sec = s.sec := rfl
@[simp] theorem setCal_seals : (s.setCal k f).seals = s.seals := rfl
@[simp] theorem setCal_srx : (s.setCal k f).srx = s.srx := rfl
@[simp] theorem setCal_lay : (s.setCal k f).lay = s.lay := rfl
@[simp] theorem setCal_mon : (s.setCal k f).mon = s.mon := rfl
@[simp] theorem setCal_tst : (s.setCal k f).tst = s.tst := rfl
@[simp] theorem setCal_jtag : (s.setCal k f).jtag = s.jtag := rfl

end

/-! ## State.setCap -/

section
variable (s : State) (i : Fin 24) (f : Capture → Capture)

@[simp] theorem setCap_pending : (s.setCap i f).pending = s.pending := rfl
@[simp] theorem setCap_now : (s.setCap i f).now = s.now := rfl
@[simp] theorem setCap_free : (s.setCap i f).free = s.free := rfl
@[simp] theorem setCap_power : (s.setCap i f).power = s.power := rfl
@[simp] theorem setCap_boot : (s.setCap i f).boot = s.boot := rfl
@[simp] theorem setCap_units : (s.setCap i f).units = s.units := rfl
@[simp] theorem setCap_stats : (s.setCap i f).stats = s.stats := rfl
@[simp] theorem setCap_groups : (s.setCap i f).groups = s.groups := rfl
@[simp] theorem setCap_obs : (s.setCap i f).obs = s.obs := rfl
@[simp] theorem setCap_port : (s.setCap i f).port = s.port := rfl
@[simp] theorem setCap_fuse : (s.setCap i f).fuse = s.fuse := rfl
@[simp] theorem setCap_fw : (s.setCap i f).fw = s.fw := rfl
@[simp] theorem setCap_setup : (s.setCap i f).setup = s.setup := rfl
@[simp] theorem setCap_mem : (s.setCap i f).mem = s.mem := rfl
@[simp] theorem setCap_bist : (s.setCap i f).bist = s.bist := rfl
@[simp] theorem setCap_repairs : (s.setCap i f).repairs = s.repairs := rfl
@[simp] theorem setCap_mbx : (s.setCap i f).mbx = s.mbx := rfl
@[simp] theorem setCap_thm : (s.setCap i f).thm = s.thm := rfl
@[simp] theorem setCap_dom : (s.setCap i f).dom = s.dom := rfl
@[simp] theorem setCap_board : (s.setCap i f).board = s.board := rfl
@[simp] theorem setCap_hrx : (s.setCap i f).hrx = s.hrx := rfl
@[simp] theorem setCap_htx : (s.setCap i f).htx = s.htx := rfl
@[simp] theorem setCap_ltx : (s.setCap i f).ltx = s.ltx := rfl
@[simp] theorem setCap_lrx : (s.setCap i f).lrx = s.lrx := rfl
@[simp] theorem setCap_tiling : (s.setCap i f).tiling = s.tiling := rfl
@[simp] theorem setCap_xbar : (s.setCap i f).xbar = s.xbar := rfl
@[simp] theorem setCap_lfd : (s.setCap i f).lfd = s.lfd := rfl
@[simp] theorem setCap_grp : (s.setCap i f).grp = s.grp := rfl
@[simp] theorem setCap_fec : (s.setCap i f).fec = s.fec := rfl
@[simp] theorem setCap_txOut : (s.setCap i f).txOut = s.txOut := rfl
@[simp] theorem setCap_hostOut : (s.setCap i f).hostOut = s.hostOut := rfl
@[simp] theorem setCap_egress : (s.setCap i f).egress = s.egress := rfl
@[simp] theorem setCap_sec : (s.setCap i f).sec = s.sec := rfl
@[simp] theorem setCap_seals : (s.setCap i f).seals = s.seals := rfl
@[simp] theorem setCap_srx : (s.setCap i f).srx = s.srx := rfl
@[simp] theorem setCap_lay : (s.setCap i f).lay = s.lay := rfl
@[simp] theorem setCap_cal : (s.setCap i f).cal = s.cal := rfl
@[simp] theorem setCap_tst : (s.setCap i f).tst = s.tst := rfl
@[simp] theorem setCap_jtag : (s.setCap i f).jtag = s.jtag := rfl

end

/-! ## State.setTap -/

section
variable (s : State) (i : Fin 24) (f : Tap → Tap)

@[simp] theorem setTap_pending : (s.setTap i f).pending = s.pending := rfl
@[simp] theorem setTap_now : (s.setTap i f).now = s.now := rfl
@[simp] theorem setTap_free : (s.setTap i f).free = s.free := rfl
@[simp] theorem setTap_power : (s.setTap i f).power = s.power := rfl
@[simp] theorem setTap_boot : (s.setTap i f).boot = s.boot := rfl
@[simp] theorem setTap_units : (s.setTap i f).units = s.units := rfl
@[simp] theorem setTap_stats : (s.setTap i f).stats = s.stats := rfl
@[simp] theorem setTap_groups : (s.setTap i f).groups = s.groups := rfl
@[simp] theorem setTap_obs : (s.setTap i f).obs = s.obs := rfl
@[simp] theorem setTap_port : (s.setTap i f).port = s.port := rfl
@[simp] theorem setTap_fuse : (s.setTap i f).fuse = s.fuse := rfl
@[simp] theorem setTap_fw : (s.setTap i f).fw = s.fw := rfl
@[simp] theorem setTap_setup : (s.setTap i f).setup = s.setup := rfl
@[simp] theorem setTap_mem : (s.setTap i f).mem = s.mem := rfl
@[simp] theorem setTap_bist : (s.setTap i f).bist = s.bist := rfl
@[simp] theorem setTap_repairs : (s.setTap i f).repairs = s.repairs := rfl
@[simp] theorem setTap_mbx : (s.setTap i f).mbx = s.mbx := rfl
@[simp] theorem setTap_thm : (s.setTap i f).thm = s.thm := rfl
@[simp] theorem setTap_dom : (s.setTap i f).dom = s.dom := rfl
@[simp] theorem setTap_board : (s.setTap i f).board = s.board := rfl
@[simp] theorem setTap_hrx : (s.setTap i f).hrx = s.hrx := rfl
@[simp] theorem setTap_htx : (s.setTap i f).htx = s.htx := rfl
@[simp] theorem setTap_ltx : (s.setTap i f).ltx = s.ltx := rfl
@[simp] theorem setTap_lrx : (s.setTap i f).lrx = s.lrx := rfl
@[simp] theorem setTap_tiling : (s.setTap i f).tiling = s.tiling := rfl
@[simp] theorem setTap_xbar : (s.setTap i f).xbar = s.xbar := rfl
@[simp] theorem setTap_lfd : (s.setTap i f).lfd = s.lfd := rfl
@[simp] theorem setTap_grp : (s.setTap i f).grp = s.grp := rfl
@[simp] theorem setTap_fec : (s.setTap i f).fec = s.fec := rfl
@[simp] theorem setTap_txOut : (s.setTap i f).txOut = s.txOut := rfl
@[simp] theorem setTap_hostOut : (s.setTap i f).hostOut = s.hostOut := rfl
@[simp] theorem setTap_egress : (s.setTap i f).egress = s.egress := rfl
@[simp] theorem setTap_sec : (s.setTap i f).sec = s.sec := rfl
@[simp] theorem setTap_seals : (s.setTap i f).seals = s.seals := rfl
@[simp] theorem setTap_srx : (s.setTap i f).srx = s.srx := rfl
@[simp] theorem setTap_lay : (s.setTap i f).lay = s.lay := rfl
@[simp] theorem setTap_cal : (s.setTap i f).cal = s.cal := rfl
@[simp] theorem setTap_tst : (s.setTap i f).tst = s.tst := rfl
@[simp] theorem setTap_jtag : (s.setTap i f).jtag = s.jtag := rfl

end

/-! ## State.setTst -/

section
variable (s : State) (i : Fin 24) (f : Tst → Tst)

@[simp] theorem setTst_pending : (s.setTst i f).pending = s.pending := rfl
@[simp] theorem setTst_now : (s.setTst i f).now = s.now := rfl
@[simp] theorem setTst_free : (s.setTst i f).free = s.free := rfl
@[simp] theorem setTst_power : (s.setTst i f).power = s.power := rfl
@[simp] theorem setTst_boot : (s.setTst i f).boot = s.boot := rfl
@[simp] theorem setTst_units : (s.setTst i f).units = s.units := rfl
@[simp] theorem setTst_stats : (s.setTst i f).stats = s.stats := rfl
@[simp] theorem setTst_groups : (s.setTst i f).groups = s.groups := rfl
@[simp] theorem setTst_obs : (s.setTst i f).obs = s.obs := rfl
@[simp] theorem setTst_port : (s.setTst i f).port = s.port := rfl
@[simp] theorem setTst_fuse : (s.setTst i f).fuse = s.fuse := rfl
@[simp] theorem setTst_fw : (s.setTst i f).fw = s.fw := rfl
@[simp] theorem setTst_setup : (s.setTst i f).setup = s.setup := rfl
@[simp] theorem setTst_mem : (s.setTst i f).mem = s.mem := rfl
@[simp] theorem setTst_bist : (s.setTst i f).bist = s.bist := rfl
@[simp] theorem setTst_repairs : (s.setTst i f).repairs = s.repairs := rfl
@[simp] theorem setTst_mbx : (s.setTst i f).mbx = s.mbx := rfl
@[simp] theorem setTst_thm : (s.setTst i f).thm = s.thm := rfl
@[simp] theorem setTst_dom : (s.setTst i f).dom = s.dom := rfl
@[simp] theorem setTst_board : (s.setTst i f).board = s.board := rfl
@[simp] theorem setTst_hrx : (s.setTst i f).hrx = s.hrx := rfl
@[simp] theorem setTst_htx : (s.setTst i f).htx = s.htx := rfl
@[simp] theorem setTst_ltx : (s.setTst i f).ltx = s.ltx := rfl
@[simp] theorem setTst_lrx : (s.setTst i f).lrx = s.lrx := rfl
@[simp] theorem setTst_tiling : (s.setTst i f).tiling = s.tiling := rfl
@[simp] theorem setTst_xbar : (s.setTst i f).xbar = s.xbar := rfl
@[simp] theorem setTst_lfd : (s.setTst i f).lfd = s.lfd := rfl
@[simp] theorem setTst_grp : (s.setTst i f).grp = s.grp := rfl
@[simp] theorem setTst_fec : (s.setTst i f).fec = s.fec := rfl
@[simp] theorem setTst_txOut : (s.setTst i f).txOut = s.txOut := rfl
@[simp] theorem setTst_hostOut : (s.setTst i f).hostOut = s.hostOut := rfl
@[simp] theorem setTst_egress : (s.setTst i f).egress = s.egress := rfl
@[simp] theorem setTst_sec : (s.setTst i f).sec = s.sec := rfl
@[simp] theorem setTst_seals : (s.setTst i f).seals = s.seals := rfl
@[simp] theorem setTst_srx : (s.setTst i f).srx = s.srx := rfl
@[simp] theorem setTst_lay : (s.setTst i f).lay = s.lay := rfl
@[simp] theorem setTst_cal : (s.setTst i f).cal = s.cal := rfl
@[simp] theorem setTst_mon : (s.setTst i f).mon = s.mon := rfl
@[simp] theorem setTst_tst : (s.setTst i f).tst = upd s.tst i f := rfl
@[simp] theorem setTst_jtag : (s.setTst i f).jtag = s.jtag := rfl

end

/-! ## State.setBist -/

section
variable (s : State) (i : Fin 78) (f : Bist → Bist)

@[simp] theorem setBist_pending : (s.setBist i f).pending = s.pending := rfl
@[simp] theorem setBist_now : (s.setBist i f).now = s.now := rfl
@[simp] theorem setBist_free : (s.setBist i f).free = s.free := rfl
@[simp] theorem setBist_power : (s.setBist i f).power = s.power := rfl
@[simp] theorem setBist_boot : (s.setBist i f).boot = s.boot := rfl
@[simp] theorem setBist_units : (s.setBist i f).units = s.units := rfl
@[simp] theorem setBist_stats : (s.setBist i f).stats = s.stats := rfl
@[simp] theorem setBist_groups : (s.setBist i f).groups = s.groups := rfl
@[simp] theorem setBist_obs : (s.setBist i f).obs = s.obs := rfl
@[simp] theorem setBist_port : (s.setBist i f).port = s.port := rfl
@[simp] theorem setBist_fuse : (s.setBist i f).fuse = s.fuse := rfl
@[simp] theorem setBist_fw : (s.setBist i f).fw = s.fw := rfl
@[simp] theorem setBist_setup : (s.setBist i f).setup = s.setup := rfl
@[simp] theorem setBist_mem : (s.setBist i f).mem = s.mem := rfl
@[simp] theorem setBist_bist : (s.setBist i f).bist = upd s.bist i f := rfl
@[simp] theorem setBist_repairs : (s.setBist i f).repairs = s.repairs := rfl
@[simp] theorem setBist_mbx : (s.setBist i f).mbx = s.mbx := rfl
@[simp] theorem setBist_thm : (s.setBist i f).thm = s.thm := rfl
@[simp] theorem setBist_dom : (s.setBist i f).dom = s.dom := rfl
@[simp] theorem setBist_board : (s.setBist i f).board = s.board := rfl
@[simp] theorem setBist_hrx : (s.setBist i f).hrx = s.hrx := rfl
@[simp] theorem setBist_htx : (s.setBist i f).htx = s.htx := rfl
@[simp] theorem setBist_ltx : (s.setBist i f).ltx = s.ltx := rfl
@[simp] theorem setBist_lrx : (s.setBist i f).lrx = s.lrx := rfl
@[simp] theorem setBist_tiling : (s.setBist i f).tiling = s.tiling := rfl
@[simp] theorem setBist_xbar : (s.setBist i f).xbar = s.xbar := rfl
@[simp] theorem setBist_lfd : (s.setBist i f).lfd = s.lfd := rfl
@[simp] theorem setBist_grp : (s.setBist i f).grp = s.grp := rfl
@[simp] theorem setBist_fec : (s.setBist i f).fec = s.fec := rfl
@[simp] theorem setBist_txOut : (s.setBist i f).txOut = s.txOut := rfl
@[simp] theorem setBist_hostOut : (s.setBist i f).hostOut = s.hostOut := rfl
@[simp] theorem setBist_egress : (s.setBist i f).egress = s.egress := rfl
@[simp] theorem setBist_sec : (s.setBist i f).sec = s.sec := rfl
@[simp] theorem setBist_seals : (s.setBist i f).seals = s.seals := rfl
@[simp] theorem setBist_srx : (s.setBist i f).srx = s.srx := rfl
@[simp] theorem setBist_lay : (s.setBist i f).lay = s.lay := rfl
@[simp] theorem setBist_cal : (s.setBist i f).cal = s.cal := rfl
@[simp] theorem setBist_mon : (s.setBist i f).mon = s.mon := rfl
@[simp] theorem setBist_tst : (s.setBist i f).tst = s.tst := rfl
@[simp] theorem setBist_jtag : (s.setBist i f).jtag = s.jtag := rfl

end

/-! ## State.setPerf -/

section
variable (s : State) (i : Fin 64) (f : PerfCtr → PerfCtr)

@[simp] theorem setPerf_pending : (s.setPerf i f).pending = s.pending := rfl
@[simp] theorem setPerf_now : (s.setPerf i f).now = s.now := rfl
@[simp] theorem setPerf_free : (s.setPerf i f).free = s.free := rfl
@[simp] theorem setPerf_power : (s.setPerf i f).power = s.power := rfl
@[simp] theorem setPerf_boot : (s.setPerf i f).boot = s.boot := rfl
@[simp] theorem setPerf_units : (s.setPerf i f).units = s.units := rfl
@[simp] theorem setPerf_stats : (s.setPerf i f).stats = s.stats := rfl
@[simp] theorem setPerf_groups : (s.setPerf i f).groups = s.groups := rfl
@[simp] theorem setPerf_port : (s.setPerf i f).port = s.port := rfl
@[simp] theorem setPerf_fuse : (s.setPerf i f).fuse = s.fuse := rfl
@[simp] theorem setPerf_fw : (s.setPerf i f).fw = s.fw := rfl
@[simp] theorem setPerf_setup : (s.setPerf i f).setup = s.setup := rfl
@[simp] theorem setPerf_mem : (s.setPerf i f).mem = s.mem := rfl
@[simp] theorem setPerf_bist : (s.setPerf i f).bist = s.bist := rfl
@[simp] theorem setPerf_repairs : (s.setPerf i f).repairs = s.repairs := rfl
@[simp] theorem setPerf_mbx : (s.setPerf i f).mbx = s.mbx := rfl
@[simp] theorem setPerf_thm : (s.setPerf i f).thm = s.thm := rfl
@[simp] theorem setPerf_dom : (s.setPerf i f).dom = s.dom := rfl
@[simp] theorem setPerf_board : (s.setPerf i f).board = s.board := rfl
@[simp] theorem setPerf_hrx : (s.setPerf i f).hrx = s.hrx := rfl
@[simp] theorem setPerf_htx : (s.setPerf i f).htx = s.htx := rfl
@[simp] theorem setPerf_ltx : (s.setPerf i f).ltx = s.ltx := rfl
@[simp] theorem setPerf_lrx : (s.setPerf i f).lrx = s.lrx := rfl
@[simp] theorem setPerf_tiling : (s.setPerf i f).tiling = s.tiling := rfl
@[simp] theorem setPerf_xbar : (s.setPerf i f).xbar = s.xbar := rfl
@[simp] theorem setPerf_lfd : (s.setPerf i f).lfd = s.lfd := rfl
@[simp] theorem setPerf_grp : (s.setPerf i f).grp = s.grp := rfl
@[simp] theorem setPerf_fec : (s.setPerf i f).fec = s.fec := rfl
@[simp] theorem setPerf_txOut : (s.setPerf i f).txOut = s.txOut := rfl
@[simp] theorem setPerf_hostOut : (s.setPerf i f).hostOut = s.hostOut := rfl
@[simp] theorem setPerf_egress : (s.setPerf i f).egress = s.egress := rfl
@[simp] theorem setPerf_sec : (s.setPerf i f).sec = s.sec := rfl
@[simp] theorem setPerf_seals : (s.setPerf i f).seals = s.seals := rfl
@[simp] theorem setPerf_srx : (s.setPerf i f).srx = s.srx := rfl
@[simp] theorem setPerf_lay : (s.setPerf i f).lay = s.lay := rfl
@[simp] theorem setPerf_cal : (s.setPerf i f).cal = s.cal := rfl
@[simp] theorem setPerf_mon : (s.setPerf i f).mon = s.mon := rfl
@[simp] theorem setPerf_tst : (s.setPerf i f).tst = s.tst := rfl
@[simp] theorem setPerf_jtag : (s.setPerf i f).jtag = s.jtag := rfl

end

/-! ## State.setCh -/

section
variable (s : State) (ch : Nat) (f : List Msg → List Msg)

@[simp] theorem setCh_pending : (s.setCh ch f).pending = s.pending := rfl
@[simp] theorem setCh_now : (s.setCh ch f).now = s.now := rfl
@[simp] theorem setCh_free : (s.setCh ch f).free = s.free := rfl
@[simp] theorem setCh_power : (s.setCh ch f).power = s.power := rfl
@[simp] theorem setCh_boot : (s.setCh ch f).boot = s.boot := rfl
@[simp] theorem setCh_units : (s.setCh ch f).units = s.units := rfl
@[simp] theorem setCh_stats : (s.setCh ch f).stats = s.stats := rfl
@[simp] theorem setCh_groups : (s.setCh ch f).groups = s.groups := rfl
@[simp] theorem setCh_obs : (s.setCh ch f).obs = s.obs := rfl
@[simp] theorem setCh_port : (s.setCh ch f).port = s.port := rfl
@[simp] theorem setCh_fuse : (s.setCh ch f).fuse = s.fuse := rfl
@[simp] theorem setCh_fw : (s.setCh ch f).fw = s.fw := rfl
@[simp] theorem setCh_setup : (s.setCh ch f).setup = s.setup := rfl
@[simp] theorem setCh_mem : (s.setCh ch f).mem = s.mem := rfl
@[simp] theorem setCh_bist : (s.setCh ch f).bist = s.bist := rfl
@[simp] theorem setCh_repairs : (s.setCh ch f).repairs = s.repairs := rfl
@[simp] theorem setCh_thm : (s.setCh ch f).thm = s.thm := rfl
@[simp] theorem setCh_dom : (s.setCh ch f).dom = s.dom := rfl
@[simp] theorem setCh_board : (s.setCh ch f).board = s.board := rfl
@[simp] theorem setCh_hrx : (s.setCh ch f).hrx = s.hrx := rfl
@[simp] theorem setCh_htx : (s.setCh ch f).htx = s.htx := rfl
@[simp] theorem setCh_ltx : (s.setCh ch f).ltx = s.ltx := rfl
@[simp] theorem setCh_lrx : (s.setCh ch f).lrx = s.lrx := rfl
@[simp] theorem setCh_tiling : (s.setCh ch f).tiling = s.tiling := rfl
@[simp] theorem setCh_xbar : (s.setCh ch f).xbar = s.xbar := rfl
@[simp] theorem setCh_lfd : (s.setCh ch f).lfd = s.lfd := rfl
@[simp] theorem setCh_grp : (s.setCh ch f).grp = s.grp := rfl
@[simp] theorem setCh_fec : (s.setCh ch f).fec = s.fec := rfl
@[simp] theorem setCh_txOut : (s.setCh ch f).txOut = s.txOut := rfl
@[simp] theorem setCh_hostOut : (s.setCh ch f).hostOut = s.hostOut := rfl
@[simp] theorem setCh_egress : (s.setCh ch f).egress = s.egress := rfl
@[simp] theorem setCh_sec : (s.setCh ch f).sec = s.sec := rfl
@[simp] theorem setCh_seals : (s.setCh ch f).seals = s.seals := rfl
@[simp] theorem setCh_srx : (s.setCh ch f).srx = s.srx := rfl
@[simp] theorem setCh_lay : (s.setCh ch f).lay = s.lay := rfl
@[simp] theorem setCh_cal : (s.setCh ch f).cal = s.cal := rfl
@[simp] theorem setCh_mon : (s.setCh ch f).mon = s.mon := rfl
@[simp] theorem setCh_tst : (s.setCh ch f).tst = s.tst := rfl
@[simp] theorem setCh_jtag : (s.setCh ch f).jtag = s.jtag := rfl

end

/-! ## State.setLegacy -/

section
variable (s : State) (f : Legacy → Legacy)

@[simp] theorem setLegacy_pending : (s.setLegacy f).pending = s.pending := rfl
@[simp] theorem setLegacy_now : (s.setLegacy f).now = s.now := rfl
@[simp] theorem setLegacy_free : (s.setLegacy f).free = s.free := rfl
@[simp] theorem setLegacy_power : (s.setLegacy f).power = s.power := rfl
@[simp] theorem setLegacy_boot : (s.setLegacy f).boot = s.boot := rfl
@[simp] theorem setLegacy_units : (s.setLegacy f).units = s.units := rfl
@[simp] theorem setLegacy_stats : (s.setLegacy f).stats = s.stats := rfl
@[simp] theorem setLegacy_groups : (s.setLegacy f).groups = s.groups := rfl
@[simp] theorem setLegacy_obs : (s.setLegacy f).obs = s.obs := rfl
@[simp] theorem setLegacy_port : (s.setLegacy f).port = s.port := rfl
@[simp] theorem setLegacy_fuse : (s.setLegacy f).fuse = s.fuse := rfl
@[simp] theorem setLegacy_fw : (s.setLegacy f).fw = s.fw := rfl
@[simp] theorem setLegacy_setup : (s.setLegacy f).setup = s.setup := rfl
@[simp] theorem setLegacy_mem : (s.setLegacy f).mem = s.mem := rfl
@[simp] theorem setLegacy_bist : (s.setLegacy f).bist = s.bist := rfl
@[simp] theorem setLegacy_repairs : (s.setLegacy f).repairs = s.repairs := rfl
@[simp] theorem setLegacy_thm : (s.setLegacy f).thm = s.thm := rfl
@[simp] theorem setLegacy_dom : (s.setLegacy f).dom = s.dom := rfl
@[simp] theorem setLegacy_board : (s.setLegacy f).board = s.board := rfl
@[simp] theorem setLegacy_hrx : (s.setLegacy f).hrx = s.hrx := rfl
@[simp] theorem setLegacy_htx : (s.setLegacy f).htx = s.htx := rfl
@[simp] theorem setLegacy_ltx : (s.setLegacy f).ltx = s.ltx := rfl
@[simp] theorem setLegacy_lrx : (s.setLegacy f).lrx = s.lrx := rfl
@[simp] theorem setLegacy_tiling : (s.setLegacy f).tiling = s.tiling := rfl
@[simp] theorem setLegacy_xbar : (s.setLegacy f).xbar = s.xbar := rfl
@[simp] theorem setLegacy_lfd : (s.setLegacy f).lfd = s.lfd := rfl
@[simp] theorem setLegacy_grp : (s.setLegacy f).grp = s.grp := rfl
@[simp] theorem setLegacy_fec : (s.setLegacy f).fec = s.fec := rfl
@[simp] theorem setLegacy_txOut : (s.setLegacy f).txOut = s.txOut := rfl
@[simp] theorem setLegacy_hostOut : (s.setLegacy f).hostOut = s.hostOut := rfl
@[simp] theorem setLegacy_egress : (s.setLegacy f).egress = s.egress := rfl
@[simp] theorem setLegacy_sec : (s.setLegacy f).sec = s.sec := rfl
@[simp] theorem setLegacy_seals : (s.setLegacy f).seals = s.seals := rfl
@[simp] theorem setLegacy_srx : (s.setLegacy f).srx = s.srx := rfl
@[simp] theorem setLegacy_lay : (s.setLegacy f).lay = s.lay := rfl
@[simp] theorem setLegacy_cal : (s.setLegacy f).cal = s.cal := rfl
@[simp] theorem setLegacy_mon : (s.setLegacy f).mon = s.mon := rfl
@[simp] theorem setLegacy_tst : (s.setLegacy f).tst = s.tst := rfl
@[simp] theorem setLegacy_jtag : (s.setLegacy f).jtag = s.jtag := rfl

end

/-! ## State.mapMem -/

section
variable (s : State) (f : MemState → MemState)

@[simp] theorem mapMem_pending : (s.mapMem f).pending = s.pending := rfl
@[simp] theorem mapMem_now : (s.mapMem f).now = s.now := rfl
@[simp] theorem mapMem_free : (s.mapMem f).free = s.free := rfl
@[simp] theorem mapMem_power : (s.mapMem f).power = s.power := rfl
@[simp] theorem mapMem_boot : (s.mapMem f).boot = s.boot := rfl
@[simp] theorem mapMem_units : (s.mapMem f).units = s.units := rfl
@[simp] theorem mapMem_stats : (s.mapMem f).stats = s.stats := rfl
@[simp] theorem mapMem_groups : (s.mapMem f).groups = s.groups := rfl
@[simp] theorem mapMem_obs : (s.mapMem f).obs = s.obs := rfl
@[simp] theorem mapMem_port : (s.mapMem f).port = s.port := rfl
@[simp] theorem mapMem_fuse : (s.mapMem f).fuse = s.fuse := rfl
@[simp] theorem mapMem_fw : (s.mapMem f).fw = s.fw := rfl
@[simp] theorem mapMem_setup : (s.mapMem f).setup = s.setup := rfl
@[simp] theorem mapMem_mem : (s.mapMem f).mem = f s.mem := rfl
@[simp] theorem mapMem_bist : (s.mapMem f).bist = s.bist := rfl
@[simp] theorem mapMem_repairs : (s.mapMem f).repairs = s.repairs := rfl
@[simp] theorem mapMem_mbx : (s.mapMem f).mbx = s.mbx := rfl
@[simp] theorem mapMem_thm : (s.mapMem f).thm = s.thm := rfl
@[simp] theorem mapMem_dom : (s.mapMem f).dom = s.dom := rfl
@[simp] theorem mapMem_board : (s.mapMem f).board = s.board := rfl
@[simp] theorem mapMem_hrx : (s.mapMem f).hrx = s.hrx := rfl
@[simp] theorem mapMem_htx : (s.mapMem f).htx = s.htx := rfl
@[simp] theorem mapMem_ltx : (s.mapMem f).ltx = s.ltx := rfl
@[simp] theorem mapMem_lrx : (s.mapMem f).lrx = s.lrx := rfl
@[simp] theorem mapMem_tiling : (s.mapMem f).tiling = s.tiling := rfl
@[simp] theorem mapMem_xbar : (s.mapMem f).xbar = s.xbar := rfl
@[simp] theorem mapMem_lfd : (s.mapMem f).lfd = s.lfd := rfl
@[simp] theorem mapMem_grp : (s.mapMem f).grp = s.grp := rfl
@[simp] theorem mapMem_fec : (s.mapMem f).fec = s.fec := rfl
@[simp] theorem mapMem_txOut : (s.mapMem f).txOut = s.txOut := rfl
@[simp] theorem mapMem_hostOut : (s.mapMem f).hostOut = s.hostOut := rfl
@[simp] theorem mapMem_egress : (s.mapMem f).egress = s.egress := rfl
@[simp] theorem mapMem_sec : (s.mapMem f).sec = s.sec := rfl
@[simp] theorem mapMem_seals : (s.mapMem f).seals = s.seals := rfl
@[simp] theorem mapMem_srx : (s.mapMem f).srx = s.srx := rfl
@[simp] theorem mapMem_lay : (s.mapMem f).lay = s.lay := rfl
@[simp] theorem mapMem_cal : (s.mapMem f).cal = s.cal := rfl
@[simp] theorem mapMem_mon : (s.mapMem f).mon = s.mon := rfl
@[simp] theorem mapMem_tst : (s.mapMem f).tst = s.tst := rfl
@[simp] theorem mapMem_jtag : (s.mapMem f).jtag = s.jtag := rfl

end

/-! ## State.mapSec -/

section
variable (s : State) (f : Secure → Secure)

@[simp] theorem mapSec_pending : (s.mapSec f).pending = s.pending := rfl
@[simp] theorem mapSec_now : (s.mapSec f).now = s.now := rfl
@[simp] theorem mapSec_free : (s.mapSec f).free = s.free := rfl
@[simp] theorem mapSec_power : (s.mapSec f).power = s.power := rfl
@[simp] theorem mapSec_boot : (s.mapSec f).boot = s.boot := rfl
@[simp] theorem mapSec_units : (s.mapSec f).units = s.units := rfl
@[simp] theorem mapSec_stats : (s.mapSec f).stats = s.stats := rfl
@[simp] theorem mapSec_groups : (s.mapSec f).groups = s.groups := rfl
@[simp] theorem mapSec_obs : (s.mapSec f).obs = s.obs := rfl
@[simp] theorem mapSec_port : (s.mapSec f).port = s.port := rfl
@[simp] theorem mapSec_fuse : (s.mapSec f).fuse = s.fuse := rfl
@[simp] theorem mapSec_fw : (s.mapSec f).fw = s.fw := rfl
@[simp] theorem mapSec_setup : (s.mapSec f).setup = s.setup := rfl
@[simp] theorem mapSec_mem : (s.mapSec f).mem = s.mem := rfl
@[simp] theorem mapSec_bist : (s.mapSec f).bist = s.bist := rfl
@[simp] theorem mapSec_repairs : (s.mapSec f).repairs = s.repairs := rfl
@[simp] theorem mapSec_mbx : (s.mapSec f).mbx = s.mbx := rfl
@[simp] theorem mapSec_thm : (s.mapSec f).thm = s.thm := rfl
@[simp] theorem mapSec_dom : (s.mapSec f).dom = s.dom := rfl
@[simp] theorem mapSec_board : (s.mapSec f).board = s.board := rfl
@[simp] theorem mapSec_hrx : (s.mapSec f).hrx = s.hrx := rfl
@[simp] theorem mapSec_htx : (s.mapSec f).htx = s.htx := rfl
@[simp] theorem mapSec_ltx : (s.mapSec f).ltx = s.ltx := rfl
@[simp] theorem mapSec_lrx : (s.mapSec f).lrx = s.lrx := rfl
@[simp] theorem mapSec_tiling : (s.mapSec f).tiling = s.tiling := rfl
@[simp] theorem mapSec_xbar : (s.mapSec f).xbar = s.xbar := rfl
@[simp] theorem mapSec_lfd : (s.mapSec f).lfd = s.lfd := rfl
@[simp] theorem mapSec_grp : (s.mapSec f).grp = s.grp := rfl
@[simp] theorem mapSec_fec : (s.mapSec f).fec = s.fec := rfl
@[simp] theorem mapSec_txOut : (s.mapSec f).txOut = s.txOut := rfl
@[simp] theorem mapSec_hostOut : (s.mapSec f).hostOut = s.hostOut := rfl
@[simp] theorem mapSec_egress : (s.mapSec f).egress = s.egress := rfl
@[simp] theorem mapSec_sec : (s.mapSec f).sec = f s.sec := rfl
@[simp] theorem mapSec_seals : (s.mapSec f).seals = s.seals := rfl
@[simp] theorem mapSec_srx : (s.mapSec f).srx = s.srx := rfl
@[simp] theorem mapSec_lay : (s.mapSec f).lay = s.lay := rfl
@[simp] theorem mapSec_cal : (s.mapSec f).cal = s.cal := rfl
@[simp] theorem mapSec_mon : (s.mapSec f).mon = s.mon := rfl
@[simp] theorem mapSec_tst : (s.mapSec f).tst = s.tst := rfl
@[simp] theorem mapSec_jtag : (s.mapSec f).jtag = s.jtag := rfl

end

/-! ## State.mapThm -/

section
variable (s : State) (f : Thermal → Thermal)

@[simp] theorem mapThm_pending : (s.mapThm f).pending = s.pending := rfl
@[simp] theorem mapThm_now : (s.mapThm f).now = s.now := rfl
@[simp] theorem mapThm_free : (s.mapThm f).free = s.free := rfl
@[simp] theorem mapThm_power : (s.mapThm f).power = s.power := rfl
@[simp] theorem mapThm_boot : (s.mapThm f).boot = s.boot := rfl
@[simp] theorem mapThm_units : (s.mapThm f).units = s.units := rfl
@[simp] theorem mapThm_stats : (s.mapThm f).stats = s.stats := rfl
@[simp] theorem mapThm_groups : (s.mapThm f).groups = s.groups := rfl
@[simp] theorem mapThm_obs : (s.mapThm f).obs = s.obs := rfl
@[simp] theorem mapThm_port : (s.mapThm f).port = s.port := rfl
@[simp] theorem mapThm_fuse : (s.mapThm f).fuse = s.fuse := rfl
@[simp] theorem mapThm_fw : (s.mapThm f).fw = s.fw := rfl
@[simp] theorem mapThm_setup : (s.mapThm f).setup = s.setup := rfl
@[simp] theorem mapThm_mem : (s.mapThm f).mem = s.mem := rfl
@[simp] theorem mapThm_bist : (s.mapThm f).bist = s.bist := rfl
@[simp] theorem mapThm_repairs : (s.mapThm f).repairs = s.repairs := rfl
@[simp] theorem mapThm_mbx : (s.mapThm f).mbx = s.mbx := rfl
@[simp] theorem mapThm_thm : (s.mapThm f).thm = f s.thm := rfl
@[simp] theorem mapThm_dom : (s.mapThm f).dom = s.dom := rfl
@[simp] theorem mapThm_board : (s.mapThm f).board = s.board := rfl
@[simp] theorem mapThm_hrx : (s.mapThm f).hrx = s.hrx := rfl
@[simp] theorem mapThm_htx : (s.mapThm f).htx = s.htx := rfl
@[simp] theorem mapThm_ltx : (s.mapThm f).ltx = s.ltx := rfl
@[simp] theorem mapThm_lrx : (s.mapThm f).lrx = s.lrx := rfl
@[simp] theorem mapThm_tiling : (s.mapThm f).tiling = s.tiling := rfl
@[simp] theorem mapThm_xbar : (s.mapThm f).xbar = s.xbar := rfl
@[simp] theorem mapThm_lfd : (s.mapThm f).lfd = s.lfd := rfl
@[simp] theorem mapThm_grp : (s.mapThm f).grp = s.grp := rfl
@[simp] theorem mapThm_fec : (s.mapThm f).fec = s.fec := rfl
@[simp] theorem mapThm_txOut : (s.mapThm f).txOut = s.txOut := rfl
@[simp] theorem mapThm_hostOut : (s.mapThm f).hostOut = s.hostOut := rfl
@[simp] theorem mapThm_egress : (s.mapThm f).egress = s.egress := rfl
@[simp] theorem mapThm_sec : (s.mapThm f).sec = s.sec := rfl
@[simp] theorem mapThm_seals : (s.mapThm f).seals = s.seals := rfl
@[simp] theorem mapThm_srx : (s.mapThm f).srx = s.srx := rfl
@[simp] theorem mapThm_lay : (s.mapThm f).lay = s.lay := rfl
@[simp] theorem mapThm_cal : (s.mapThm f).cal = s.cal := rfl
@[simp] theorem mapThm_mon : (s.mapThm f).mon = s.mon := rfl
@[simp] theorem mapThm_tst : (s.mapThm f).tst = s.tst := rfl
@[simp] theorem mapThm_jtag : (s.mapThm f).jtag = s.jtag := rfl

end

/-! ## What follows a row -/

@[simp] theorem finish_pending (s : State) : (finish s).pending = s.pending := rfl
@[simp] theorem finish_now (s : State) : (finish s).now = s.now := rfl
@[simp] theorem finish_free (s : State) : (finish s).free = s.free := rfl
@[simp] theorem finish_power (s : State) : (finish s).power = s.power := rfl
@[simp] theorem finish_boot (s : State) : (finish s).boot = s.boot := rfl
@[simp] theorem finish_units (s : State) : (finish s).units = s.units := rfl
@[simp] theorem finish_groups (s : State) : (finish s).groups = s.groups := rfl
@[simp] theorem finish_port (s : State) : (finish s).port = s.port := rfl
@[simp] theorem finish_fuse (s : State) : (finish s).fuse = s.fuse := rfl
@[simp] theorem finish_fw (s : State) : (finish s).fw = s.fw := rfl
@[simp] theorem finish_setup (s : State) : (finish s).setup = s.setup := rfl
@[simp] theorem finish_mem (s : State) : (finish s).mem = s.mem := rfl
@[simp] theorem finish_bist (s : State) : (finish s).bist = s.bist := rfl
@[simp] theorem finish_repairs (s : State) : (finish s).repairs = s.repairs := rfl
@[simp] theorem finish_mbx (s : State) : (finish s).mbx = s.mbx := rfl
@[simp] theorem finish_thm (s : State) : (finish s).thm = s.thm := rfl
@[simp] theorem finish_dom (s : State) : (finish s).dom = s.dom := rfl
@[simp] theorem finish_board (s : State) : (finish s).board = s.board := rfl
@[simp] theorem finish_hrx (s : State) : (finish s).hrx = s.hrx := rfl
@[simp] theorem finish_htx (s : State) : (finish s).htx = s.htx := rfl
@[simp] theorem finish_ltx (s : State) : (finish s).ltx = s.ltx := rfl
@[simp] theorem finish_lrx (s : State) : (finish s).lrx = s.lrx := rfl
@[simp] theorem finish_tiling (s : State) : (finish s).tiling = s.tiling := rfl
@[simp] theorem finish_xbar (s : State) : (finish s).xbar = s.xbar := rfl
@[simp] theorem finish_lfd (s : State) : (finish s).lfd = s.lfd := rfl
@[simp] theorem finish_grp (s : State) : (finish s).grp = s.grp := rfl
@[simp] theorem finish_fec (s : State) : (finish s).fec = s.fec := rfl
@[simp] theorem finish_txOut (s : State) : (finish s).txOut = s.txOut := rfl
@[simp] theorem finish_hostOut (s : State) : (finish s).hostOut = s.hostOut := rfl
@[simp] theorem finish_egress (s : State) : (finish s).egress = s.egress := rfl
@[simp] theorem finish_sec (s : State) : (finish s).sec = s.sec := rfl
@[simp] theorem finish_seals (s : State) : (finish s).seals = s.seals := rfl
@[simp] theorem finish_srx (s : State) : (finish s).srx = s.srx := rfl
@[simp] theorem finish_lay (s : State) : (finish s).lay = s.lay := rfl
@[simp] theorem finish_cal (s : State) : (finish s).cal = s.cal := rfl
@[simp] theorem finish_tst (s : State) : (finish s).tst = s.tst := rfl
@[simp] theorem finish_jtag (s : State) : (finish s).jtag = s.jtag := rfl

/-! ## What the rest of the model reads of a state, while time passes and while events and counts are recorded -/

@[simp] theorem advance_unit (s : State) (dt : Nat) (c : Cls) (i : Nat) : (s.advance dt).unit c i = s.unit c i := rfl
@[simp] theorem advance_admin (s : State) (dt : Nat) (c : Cls) (i : Nat) : (s.advance dt).admin c i = s.admin c i := rfl
@[simp] theorem advance_isUp (s : State) (dt : Nat) (c : Cls) (i : Nat) : (s.advance dt).isUp c i = s.isUp c i := rfl
@[simp] theorem advance_islandOn (s : State) (dt : Nat) (i : Nat) : (s.advance dt).islandOn i = s.islandOn i := rfl
@[simp] theorem advance_underTest (s : State) (dt : Nat) (i : Nat) : (s.advance dt).underTest i = s.underTest i := rfl
@[simp] theorem advance_isolated (s : State) (dt : Nat) (i : Nat) : (s.advance dt).isolated i = s.isolated i := rfl
@[simp] theorem advance_islandFailed (s : State) (dt : Nat) (i : Nat) : (s.advance dt).islandFailed i = s.islandFailed i := rfl
@[simp] theorem advance_islandHeld (s : State) (dt : Nat) (i : Nat) : (s.advance dt).islandHeld i = s.islandHeld i := rfl
@[simp] theorem advance_live (s : State) (dt : Nat) (c : Cls) (i : Nat) : (s.advance dt).live c i = s.live c i := rfl
@[simp] theorem advance_anyRun (s : State) (dt : Nat) : (s.advance dt).anyRun = s.anyRun := rfl
@[simp] theorem advance_mcRuns (s : State) (dt : Nat) : (s.advance dt).mcRuns = s.mcRuns := rfl
@[simp] theorem advance_ready (s : State) (dt : Nat) : (s.advance dt).ready = s.ready := rfl
@[simp] theorem advance_scanHolds (s : State) (dt : Nat) : (s.advance dt).scanHolds = s.scanHolds := rfl
@[simp] theorem advance_lifecycle (s : State) (dt : Nat) : (s.advance dt).lifecycle = s.lifecycle := rfl
@[simp] theorem advance_owned (s : State) (dt : Nat) : (s.advance dt).owned = s.owned := rfl
@[simp] theorem advance_gsize (s : State) (dt : Nat) (g : Nat) : (s.advance dt).gsize g = s.gsize g := rfl
@[simp] theorem advance_groupOf (s : State) (dt : Nat) (l : Nat) : (s.advance dt).groupOf l = s.groupOf l := rfl
@[simp] theorem advance_glanes (s : State) (dt : Nat) (g : Nat) : (s.advance dt).glanes g = s.glanes g := rfl
@[simp] theorem advance_fgRuns (s : State) (dt : Nat) : (s.advance dt).fgRuns = s.fgRuns := rfl
@[simp] theorem advance_inSession (s : State) (dt : Nat) : (s.advance dt).inSession = s.inSession := rfl
@[simp] theorem advance_supplyHeld (s : State) (dt : Nat) : (s.advance dt).supplyHeld = s.supplyHeld := rfl
@[simp] theorem advance_laneFg (s : State) (dt : Nat) (k : Nat) : (s.advance dt).laneFg k = s.laneFg k := rfl
@[simp] theorem advance_capRuns (s : State) (dt : Nat) : (s.advance dt).capRuns = s.capRuns := rfl
@[simp] theorem advance_hrxLive (s : State) (dt : Nat) (n : Fin 16) : (s.advance dt).hrxLive n = s.hrxLive n := rfl
@[simp] theorem advance_lrxLive (s : State) (dt : Nat) (l : Fin 8) : (s.advance dt).lrxLive l = s.lrxLive l := rfl
@[simp] theorem advance_symChk (s : State) (dt : Nat) (i : Nat) : (s.advance dt).symChk i = s.symChk i := rfl
@[simp] theorem advance_failClosed (s : State) (dt : Nat) (g : Fin 8) : (s.advance dt).failClosed g = s.failClosed g := rfl
@[simp] theorem advance_profiles (s : State) (dt : Nat) : (s.advance dt).profiles = s.profiles := rfl

@[simp] theorem raise_unit (s : State) (c : Cls) (i code : Nat) (arg : Word) (c' : Cls) (i' : Nat) : (s.raise c i code arg).unit c' i' = s.unit c' i' := rfl
@[simp] theorem raise_admin (s : State) (c : Cls) (i code : Nat) (arg : Word) (c' : Cls) (i' : Nat) : (s.raise c i code arg).admin c' i' = s.admin c' i' := rfl
@[simp] theorem raise_isUp (s : State) (c : Cls) (i code : Nat) (arg : Word) (c' : Cls) (i' : Nat) : (s.raise c i code arg).isUp c' i' = s.isUp c' i' := rfl
@[simp] theorem raise_islandOn (s : State) (c : Cls) (i code : Nat) (arg : Word) (i' : Nat) : (s.raise c i code arg).islandOn i' = s.islandOn i' := rfl
@[simp] theorem raise_underTest (s : State) (c : Cls) (i code : Nat) (arg : Word) (i' : Nat) : (s.raise c i code arg).underTest i' = s.underTest i' := rfl
@[simp] theorem raise_isolated (s : State) (c : Cls) (i code : Nat) (arg : Word) (i' : Nat) : (s.raise c i code arg).isolated i' = s.isolated i' := rfl
@[simp] theorem raise_islandFailed (s : State) (c : Cls) (i code : Nat) (arg : Word) (i' : Nat) : (s.raise c i code arg).islandFailed i' = s.islandFailed i' := rfl
@[simp] theorem raise_islandHeld (s : State) (c : Cls) (i code : Nat) (arg : Word) (i' : Nat) : (s.raise c i code arg).islandHeld i' = s.islandHeld i' := rfl
@[simp] theorem raise_live (s : State) (c : Cls) (i code : Nat) (arg : Word) (c' : Cls) (i' : Nat) : (s.raise c i code arg).live c' i' = s.live c' i' := rfl
@[simp] theorem raise_anyRun (s : State) (c : Cls) (i code : Nat) (arg : Word) : (s.raise c i code arg).anyRun = s.anyRun := rfl
@[simp] theorem raise_mcRuns (s : State) (c : Cls) (i code : Nat) (arg : Word) : (s.raise c i code arg).mcRuns = s.mcRuns := rfl
@[simp] theorem raise_ready (s : State) (c : Cls) (i code : Nat) (arg : Word) : (s.raise c i code arg).ready = s.ready := rfl
@[simp] theorem raise_scanHolds (s : State) (c : Cls) (i code : Nat) (arg : Word) : (s.raise c i code arg).scanHolds = s.scanHolds := rfl
@[simp] theorem raise_lifecycle (s : State) (c : Cls) (i code : Nat) (arg : Word) : (s.raise c i code arg).lifecycle = s.lifecycle := rfl
@[simp] theorem raise_owned (s : State) (c : Cls) (i code : Nat) (arg : Word) : (s.raise c i code arg).owned = s.owned := rfl
@[simp] theorem raise_gsize (s : State) (c : Cls) (i code : Nat) (arg : Word) (g : Nat) : (s.raise c i code arg).gsize g = s.gsize g := rfl
@[simp] theorem raise_groupOf (s : State) (c : Cls) (i code : Nat) (arg : Word) (l : Nat) : (s.raise c i code arg).groupOf l = s.groupOf l := rfl
@[simp] theorem raise_glanes (s : State) (c : Cls) (i code : Nat) (arg : Word) (g : Nat) : (s.raise c i code arg).glanes g = s.glanes g := rfl
@[simp] theorem raise_fgRuns (s : State) (c : Cls) (i code : Nat) (arg : Word) : (s.raise c i code arg).fgRuns = s.fgRuns := rfl
@[simp] theorem raise_inSession (s : State) (c : Cls) (i code : Nat) (arg : Word) : (s.raise c i code arg).inSession = s.inSession := rfl
@[simp] theorem raise_supplyHeld (s : State) (c : Cls) (i code : Nat) (arg : Word) : (s.raise c i code arg).supplyHeld = s.supplyHeld := rfl
@[simp] theorem raise_laneFg (s : State) (c : Cls) (i code : Nat) (arg : Word) (k : Nat) : (s.raise c i code arg).laneFg k = s.laneFg k := rfl
@[simp] theorem raise_capRuns (s : State) (c : Cls) (i code : Nat) (arg : Word) : (s.raise c i code arg).capRuns = s.capRuns := rfl
@[simp] theorem raise_hrxLive (s : State) (c : Cls) (i code : Nat) (arg : Word) (n : Fin 16) : (s.raise c i code arg).hrxLive n = s.hrxLive n := rfl
@[simp] theorem raise_lrxLive (s : State) (c : Cls) (i code : Nat) (arg : Word) (l : Fin 8) : (s.raise c i code arg).lrxLive l = s.lrxLive l := rfl
@[simp] theorem raise_symChk (s : State) (c : Cls) (i code : Nat) (arg : Word) (i' : Nat) : (s.raise c i code arg).symChk i' = s.symChk i' := rfl
@[simp] theorem raise_failClosed (s : State) (c : Cls) (i code : Nat) (arg : Word) (g : Fin 8) : (s.raise c i code arg).failClosed g = s.failClosed g := rfl
@[simp] theorem raise_profiles (s : State) (c : Cls) (i code : Nat) (arg : Word) : (s.raise c i code arg).profiles = s.profiles := rfl

@[simp] theorem raiseIf_unit (s : State) (b : Bool) (c : Cls) (i code : Nat) (arg : Word) (c' : Cls) (i' : Nat) : (s.raiseIf b c i code arg).unit c' i' = s.unit c' i' := rfl
@[simp] theorem raiseIf_admin (s : State) (b : Bool) (c : Cls) (i code : Nat) (arg : Word) (c' : Cls) (i' : Nat) : (s.raiseIf b c i code arg).admin c' i' = s.admin c' i' := rfl
@[simp] theorem raiseIf_isUp (s : State) (b : Bool) (c : Cls) (i code : Nat) (arg : Word) (c' : Cls) (i' : Nat) : (s.raiseIf b c i code arg).isUp c' i' = s.isUp c' i' := rfl
@[simp] theorem raiseIf_islandOn (s : State) (b : Bool) (c : Cls) (i code : Nat) (arg : Word) (i' : Nat) : (s.raiseIf b c i code arg).islandOn i' = s.islandOn i' := rfl
@[simp] theorem raiseIf_underTest (s : State) (b : Bool) (c : Cls) (i code : Nat) (arg : Word) (i' : Nat) : (s.raiseIf b c i code arg).underTest i' = s.underTest i' := rfl
@[simp] theorem raiseIf_isolated (s : State) (b : Bool) (c : Cls) (i code : Nat) (arg : Word) (i' : Nat) : (s.raiseIf b c i code arg).isolated i' = s.isolated i' := rfl
@[simp] theorem raiseIf_islandFailed (s : State) (b : Bool) (c : Cls) (i code : Nat) (arg : Word) (i' : Nat) : (s.raiseIf b c i code arg).islandFailed i' = s.islandFailed i' := rfl
@[simp] theorem raiseIf_islandHeld (s : State) (b : Bool) (c : Cls) (i code : Nat) (arg : Word) (i' : Nat) : (s.raiseIf b c i code arg).islandHeld i' = s.islandHeld i' := rfl
@[simp] theorem raiseIf_live (s : State) (b : Bool) (c : Cls) (i code : Nat) (arg : Word) (c' : Cls) (i' : Nat) : (s.raiseIf b c i code arg).live c' i' = s.live c' i' := rfl
@[simp] theorem raiseIf_anyRun (s : State) (b : Bool) (c : Cls) (i code : Nat) (arg : Word) : (s.raiseIf b c i code arg).anyRun = s.anyRun := rfl
@[simp] theorem raiseIf_mcRuns (s : State) (b : Bool) (c : Cls) (i code : Nat) (arg : Word) : (s.raiseIf b c i code arg).mcRuns = s.mcRuns := rfl
@[simp] theorem raiseIf_ready (s : State) (b : Bool) (c : Cls) (i code : Nat) (arg : Word) : (s.raiseIf b c i code arg).ready = s.ready := rfl
@[simp] theorem raiseIf_scanHolds (s : State) (b : Bool) (c : Cls) (i code : Nat) (arg : Word) : (s.raiseIf b c i code arg).scanHolds = s.scanHolds := rfl
@[simp] theorem raiseIf_lifecycle (s : State) (b : Bool) (c : Cls) (i code : Nat) (arg : Word) : (s.raiseIf b c i code arg).lifecycle = s.lifecycle := rfl
@[simp] theorem raiseIf_owned (s : State) (b : Bool) (c : Cls) (i code : Nat) (arg : Word) : (s.raiseIf b c i code arg).owned = s.owned := rfl
@[simp] theorem raiseIf_gsize (s : State) (b : Bool) (c : Cls) (i code : Nat) (arg : Word) (g : Nat) : (s.raiseIf b c i code arg).gsize g = s.gsize g := rfl
@[simp] theorem raiseIf_groupOf (s : State) (b : Bool) (c : Cls) (i code : Nat) (arg : Word) (l : Nat) : (s.raiseIf b c i code arg).groupOf l = s.groupOf l := rfl
@[simp] theorem raiseIf_glanes (s : State) (b : Bool) (c : Cls) (i code : Nat) (arg : Word) (g : Nat) : (s.raiseIf b c i code arg).glanes g = s.glanes g := rfl
@[simp] theorem raiseIf_fgRuns (s : State) (b : Bool) (c : Cls) (i code : Nat) (arg : Word) : (s.raiseIf b c i code arg).fgRuns = s.fgRuns := rfl
@[simp] theorem raiseIf_inSession (s : State) (b : Bool) (c : Cls) (i code : Nat) (arg : Word) : (s.raiseIf b c i code arg).inSession = s.inSession := rfl
@[simp] theorem raiseIf_supplyHeld (s : State) (b : Bool) (c : Cls) (i code : Nat) (arg : Word) : (s.raiseIf b c i code arg).supplyHeld = s.supplyHeld := rfl
@[simp] theorem raiseIf_laneFg (s : State) (b : Bool) (c : Cls) (i code : Nat) (arg : Word) (k : Nat) : (s.raiseIf b c i code arg).laneFg k = s.laneFg k := rfl
@[simp] theorem raiseIf_capRuns (s : State) (b : Bool) (c : Cls) (i code : Nat) (arg : Word) : (s.raiseIf b c i code arg).capRuns = s.capRuns := rfl
@[simp] theorem raiseIf_hrxLive (s : State) (b : Bool) (c : Cls) (i code : Nat) (arg : Word) (n : Fin 16) : (s.raiseIf b c i code arg).hrxLive n = s.hrxLive n := rfl
@[simp] theorem raiseIf_lrxLive (s : State) (b : Bool) (c : Cls) (i code : Nat) (arg : Word) (l : Fin 8) : (s.raiseIf b c i code arg).lrxLive l = s.lrxLive l := rfl
@[simp] theorem raiseIf_symChk (s : State) (b : Bool) (c : Cls) (i code : Nat) (arg : Word) (i' : Nat) : (s.raiseIf b c i code arg).symChk i' = s.symChk i' := rfl
@[simp] theorem raiseIf_failClosed (s : State) (b : Bool) (c : Cls) (i code : Nat) (arg : Word) (g : Fin 8) : (s.raiseIf b c i code arg).failClosed g = s.failClosed g := rfl
@[simp] theorem raiseIf_profiles (s : State) (b : Bool) (c : Cls) (i code : Nat) (arg : Word) : (s.raiseIf b c i code arg).profiles = s.profiles := rfl

@[simp] theorem count_unit (s : State) (c : Cls) (i : Nat) (k : Fin 9) (n : Nat) (c' : Cls) (i' : Nat) : (s.count c i k n).unit c' i' = s.unit c' i' := rfl
@[simp] theorem count_admin (s : State) (c : Cls) (i : Nat) (k : Fin 9) (n : Nat) (c' : Cls) (i' : Nat) : (s.count c i k n).admin c' i' = s.admin c' i' := rfl
@[simp] theorem count_isUp (s : State) (c : Cls) (i : Nat) (k : Fin 9) (n : Nat) (c' : Cls) (i' : Nat) : (s.count c i k n).isUp c' i' = s.isUp c' i' := rfl
@[simp] theorem count_islandOn (s : State) (c : Cls) (i : Nat) (k : Fin 9) (n : Nat) (i' : Nat) : (s.count c i k n).islandOn i' = s.islandOn i' := rfl
@[simp] theorem count_underTest (s : State) (c : Cls) (i : Nat) (k : Fin 9) (n : Nat) (i' : Nat) : (s.count c i k n).underTest i' = s.underTest i' := rfl
@[simp] theorem count_isolated (s : State) (c : Cls) (i : Nat) (k : Fin 9) (n : Nat) (i' : Nat) : (s.count c i k n).isolated i' = s.isolated i' := rfl
@[simp] theorem count_islandFailed (s : State) (c : Cls) (i : Nat) (k : Fin 9) (n : Nat) (i' : Nat) : (s.count c i k n).islandFailed i' = s.islandFailed i' := rfl
@[simp] theorem count_islandHeld (s : State) (c : Cls) (i : Nat) (k : Fin 9) (n : Nat) (i' : Nat) : (s.count c i k n).islandHeld i' = s.islandHeld i' := rfl
@[simp] theorem count_live (s : State) (c : Cls) (i : Nat) (k : Fin 9) (n : Nat) (c' : Cls) (i' : Nat) : (s.count c i k n).live c' i' = s.live c' i' := rfl
@[simp] theorem count_anyRun (s : State) (c : Cls) (i : Nat) (k : Fin 9) (n : Nat) : (s.count c i k n).anyRun = s.anyRun := rfl
@[simp] theorem count_mcRuns (s : State) (c : Cls) (i : Nat) (k : Fin 9) (n : Nat) : (s.count c i k n).mcRuns = s.mcRuns := rfl
@[simp] theorem count_ready (s : State) (c : Cls) (i : Nat) (k : Fin 9) (n : Nat) : (s.count c i k n).ready = s.ready := rfl
@[simp] theorem count_scanHolds (s : State) (c : Cls) (i : Nat) (k : Fin 9) (n : Nat) : (s.count c i k n).scanHolds = s.scanHolds := rfl
@[simp] theorem count_lifecycle (s : State) (c : Cls) (i : Nat) (k : Fin 9) (n : Nat) : (s.count c i k n).lifecycle = s.lifecycle := rfl
@[simp] theorem count_owned (s : State) (c : Cls) (i : Nat) (k : Fin 9) (n : Nat) : (s.count c i k n).owned = s.owned := rfl
@[simp] theorem count_gsize (s : State) (c : Cls) (i : Nat) (k : Fin 9) (n : Nat) (g : Nat) : (s.count c i k n).gsize g = s.gsize g := rfl
@[simp] theorem count_groupOf (s : State) (c : Cls) (i : Nat) (k : Fin 9) (n : Nat) (l : Nat) : (s.count c i k n).groupOf l = s.groupOf l := rfl
@[simp] theorem count_glanes (s : State) (c : Cls) (i : Nat) (k : Fin 9) (n : Nat) (g : Nat) : (s.count c i k n).glanes g = s.glanes g := rfl
@[simp] theorem count_fgRuns (s : State) (c : Cls) (i : Nat) (k : Fin 9) (n : Nat) : (s.count c i k n).fgRuns = s.fgRuns := rfl
@[simp] theorem count_inSession (s : State) (c : Cls) (i : Nat) (k : Fin 9) (n : Nat) : (s.count c i k n).inSession = s.inSession := rfl
@[simp] theorem count_supplyHeld (s : State) (c : Cls) (i : Nat) (k : Fin 9) (n : Nat) : (s.count c i k n).supplyHeld = s.supplyHeld := rfl
@[simp] theorem count_laneFg (s : State) (c : Cls) (i : Nat) (k : Fin 9) (n : Nat) (k' : Nat) : (s.count c i k n).laneFg k' = s.laneFg k' := rfl
@[simp] theorem count_capRuns (s : State) (c : Cls) (i : Nat) (k : Fin 9) (n : Nat) : (s.count c i k n).capRuns = s.capRuns := rfl
@[simp] theorem count_hrxLive (s : State) (c : Cls) (i : Nat) (k : Fin 9) (n : Nat) (n' : Fin 16) : (s.count c i k n).hrxLive n' = s.hrxLive n' := rfl
@[simp] theorem count_lrxLive (s : State) (c : Cls) (i : Nat) (k : Fin 9) (n : Nat) (l : Fin 8) : (s.count c i k n).lrxLive l = s.lrxLive l := rfl
@[simp] theorem count_symChk (s : State) (c : Cls) (i : Nat) (k : Fin 9) (n : Nat) (i' : Nat) : (s.count c i k n).symChk i' = s.symChk i' := rfl
@[simp] theorem count_failClosed (s : State) (c : Cls) (i : Nat) (k : Fin 9) (n : Nat) (g : Fin 8) : (s.count c i k n).failClosed g = s.failClosed g := rfl
@[simp] theorem count_profiles (s : State) (c : Cls) (i : Nat) (k : Fin 9) (n : Nat) : (s.count c i k n).profiles = s.profiles := rfl

@[simp] theorem signal_unit (s : State) (c : Cls) (i sig n : Nat) (c' : Cls) (i' : Nat) : (s.signal c i sig n).unit c' i' = s.unit c' i' := rfl
@[simp] theorem signal_admin (s : State) (c : Cls) (i sig n : Nat) (c' : Cls) (i' : Nat) : (s.signal c i sig n).admin c' i' = s.admin c' i' := rfl
@[simp] theorem signal_isUp (s : State) (c : Cls) (i sig n : Nat) (c' : Cls) (i' : Nat) : (s.signal c i sig n).isUp c' i' = s.isUp c' i' := rfl
@[simp] theorem signal_islandOn (s : State) (c : Cls) (i sig n : Nat) (i' : Nat) : (s.signal c i sig n).islandOn i' = s.islandOn i' := rfl
@[simp] theorem signal_underTest (s : State) (c : Cls) (i sig n : Nat) (i' : Nat) : (s.signal c i sig n).underTest i' = s.underTest i' := rfl
@[simp] theorem signal_isolated (s : State) (c : Cls) (i sig n : Nat) (i' : Nat) : (s.signal c i sig n).isolated i' = s.isolated i' := rfl
@[simp] theorem signal_islandFailed (s : State) (c : Cls) (i sig n : Nat) (i' : Nat) : (s.signal c i sig n).islandFailed i' = s.islandFailed i' := rfl
@[simp] theorem signal_islandHeld (s : State) (c : Cls) (i sig n : Nat) (i' : Nat) : (s.signal c i sig n).islandHeld i' = s.islandHeld i' := rfl
@[simp] theorem signal_live (s : State) (c : Cls) (i sig n : Nat) (c' : Cls) (i' : Nat) : (s.signal c i sig n).live c' i' = s.live c' i' := rfl
@[simp] theorem signal_anyRun (s : State) (c : Cls) (i sig n : Nat) : (s.signal c i sig n).anyRun = s.anyRun := rfl
@[simp] theorem signal_mcRuns (s : State) (c : Cls) (i sig n : Nat) : (s.signal c i sig n).mcRuns = s.mcRuns := rfl
@[simp] theorem signal_ready (s : State) (c : Cls) (i sig n : Nat) : (s.signal c i sig n).ready = s.ready := rfl
@[simp] theorem signal_scanHolds (s : State) (c : Cls) (i sig n : Nat) : (s.signal c i sig n).scanHolds = s.scanHolds := rfl
@[simp] theorem signal_lifecycle (s : State) (c : Cls) (i sig n : Nat) : (s.signal c i sig n).lifecycle = s.lifecycle := rfl
@[simp] theorem signal_owned (s : State) (c : Cls) (i sig n : Nat) : (s.signal c i sig n).owned = s.owned := rfl
@[simp] theorem signal_gsize (s : State) (c : Cls) (i sig n : Nat) (g : Nat) : (s.signal c i sig n).gsize g = s.gsize g := rfl
@[simp] theorem signal_groupOf (s : State) (c : Cls) (i sig n : Nat) (l : Nat) : (s.signal c i sig n).groupOf l = s.groupOf l := rfl
@[simp] theorem signal_glanes (s : State) (c : Cls) (i sig n : Nat) (g : Nat) : (s.signal c i sig n).glanes g = s.glanes g := rfl
@[simp] theorem signal_fgRuns (s : State) (c : Cls) (i sig n : Nat) : (s.signal c i sig n).fgRuns = s.fgRuns := rfl
@[simp] theorem signal_inSession (s : State) (c : Cls) (i sig n : Nat) : (s.signal c i sig n).inSession = s.inSession := rfl
@[simp] theorem signal_supplyHeld (s : State) (c : Cls) (i sig n : Nat) : (s.signal c i sig n).supplyHeld = s.supplyHeld := rfl
@[simp] theorem signal_laneFg (s : State) (c : Cls) (i sig n : Nat) (k : Nat) : (s.signal c i sig n).laneFg k = s.laneFg k := rfl
@[simp] theorem signal_capRuns (s : State) (c : Cls) (i sig n : Nat) : (s.signal c i sig n).capRuns = s.capRuns := rfl
@[simp] theorem signal_hrxLive (s : State) (c : Cls) (i sig n : Nat) (n' : Fin 16) : (s.signal c i sig n).hrxLive n' = s.hrxLive n' := rfl
@[simp] theorem signal_lrxLive (s : State) (c : Cls) (i sig n : Nat) (l : Fin 8) : (s.signal c i sig n).lrxLive l = s.lrxLive l := rfl
@[simp] theorem signal_symChk (s : State) (c : Cls) (i sig n : Nat) (i' : Nat) : (s.signal c i sig n).symChk i' = s.symChk i' := rfl
@[simp] theorem signal_failClosed (s : State) (c : Cls) (i sig n : Nat) (g : Fin 8) : (s.signal c i sig n).failClosed g = s.failClosed g := rfl
@[simp] theorem signal_profiles (s : State) (c : Cls) (i sig n : Nat) : (s.signal c i sig n).profiles = s.profiles := rfl

end Sys2Proof.Machine
end

