-- ==== Sys2Proof/Laws/Carry.lean ====
section
/-! SUPPORT. What the operations of carried traffic and of calibration rounds can change: the buffers of a group (R200 to
R202), the bits of a codeword (R191), the pauses of a throttle stage (R377), rounds (R267, R277). -/

namespace Sys2Proof.Machine

/-! ## The ingress buffer -/

theorem ingest_frame (s : State) (g : Fin 8) : s.ingest g = { s with grp := (s.ingest g).grp } := by
  unfold State.ingest
  split <;> rfl

theorem ingest_other (s : State) {g h : Fin 8} (hg : g ≠ h) : (s.ingest g).grp[h] = s.grp[h] := by
  unfold State.ingest
  split <;> exact upd_get_ne _ _ hg

/-- With a host locked and no FRAMED generator nothing is generated: only the time from which it would count moves. -/
theorem ingest_carried (s : State) (g : Fin 8) (h : s.generates g = false) :
    s.ingest g = s.setGrp g fun p => { p with madeAt := s.now, made := 0 } := by
  simp [State.ingest, h]

theorem prime_frame (s : State) (g : Fin 8) : s.prime g = { s with grp := (s.prime g).grp } := rfl

theorem fillSlots_frame (s : State) (g : Fin 8) (r : Nat) : s.fillSlots g r =
    { s with grp := (s.fillSlots g r).grp, seals := (s.fillSlots g r).seals, txOut := (s.fillSlots g r).txOut,
             tst := (s.fillSlots g r).tst } := rfl

/-- The slots that are due are filled, in the order of the buffer, which gives up as many codewords as it has. -/
theorem fillSlots_grp (s : State) (g : Fin 8) (r : Nat) :
    (s.fillSlots g r).grp[g].slot = s.grp[g].slot + r ∧
    (s.fillSlots g r).grp[g].ingress = (s.grp[g].ingress ++ s.makes g (r - s.grp[g].ingress.length)).drop r := by
  constructor <;> simp [State.fillSlots, State.setSeal, State.setGrp]

theorem fillSlots_other (s : State) {g h : Fin 8} (r : Nat) (hg : g ≠ h) : (s.fillSlots g r).grp[h] = s.grp[h] :=
  upd_get_ne _ _ hg

theorem endPeriod_frame (s : State) (g : Fin 8) : s.endPeriod g =
    { s with grp := (s.endPeriod g).grp, seals := (s.endPeriod g).seals, txOut := (s.endPeriod g).txOut,
             tst := (s.endPeriod g).tst } := by
  obtain ⟨v, hv⟩ : ∃ v, s.ingest g = { s with grp := v } := ⟨_, ingest_frame s g⟩
  simp only [State.endPeriod, hv]
  split <;> rfl

/-! ## The egress buffer -/

theorem deliverOut_frame (s : State) (g : Fin 8) (os : List Output) : s.deliverOut g os =
    { s with stats := (s.deliverOut g os).stats, egress := (s.deliverOut g os).egress,
             hostOut := (s.deliverOut g os).hostOut } := rfl

/-- R202: no more than 32 codewords per lane stay. -/
theorem deliverOut_bound (s : State) (g : Fin 8) (os : List Output) :
    (s.deliverOut g os).egress[g].length ≤ 32 * s.gsize g := by
  simp only [State.deliverOut, Fin.getElem_fin, Vector.getElem_set_self, List.length_drop]
  omega

/-! ## Codewords (R191) -/

/-- The message stands in the codeword's first 5,140 bits. -/
theorem rsCode_message (m : BitVec 5140) : BitVec.ofNat 5140 (rsCode m).toNat = m := by
  apply BitVec.eq_of_toNat_eq
  rw [BitVec.toNat_ofNat, rsCode, BitVec.toNat_ofNat, Nat.mod_mod_of_dvd _ (Nat.pow_dvd_pow 2 (by omega)), Nat.mul_comm,
    Nat.add_mul_mod_self_left, Nat.mod_eq_of_lt m.isLt]

/-! ## Pauses (R377) -/

@[simp] theorem pauseNs_stage0 (s : State) (a b : Nat) (h : s.thm.stage = 0) : s.pauseNs a b = 0 := by
  simp [State.pauseNs, h]

theorem paced_cases (f : State → State) (g : Fin 8) (s : State) :
    State.paced f g s = f s ∨
    State.paced f g s = (f s).setSeal g fun c => { c with pacedTo := s.now + s.pauseNs 2 10 } := by
  unfold State.paced
  dsimp only
  split
  · exact .inr rfl
  · exact .inl rfl

/-! ## Rounds (R267, R277) -/

theorem roundOpens_frame (s : State) : s.roundOpens = { s with cal := s.roundOpens.cal } := by
  unfold State.roundOpens
  split
  · rfl
  · split <;> rfl

theorem roundsResume_frame (s : State) : s.roundsResume = { s with cal := s.roundsResume.cal } := by
  unfold State.roundsResume
  split
  · exact roundOpens_frame { s with cal := { s.cal with round := some s.now } }
  · rfl

theorem applyForcedAt_frame (s : State) (k : Fin 48) (p : Nat → Bool) :
    s.applyForcedAt k p = { s with cal := (s.applyForcedAt k p).cal } := rfl

end Sys2Proof.Machine
end

