-- ==== Sys2Proof/Laws/Port.lean ====
section
/-! SUPPORT. What the command interface does with a command that is served, and what the end of a row leaves unchanged. -/

namespace Sys2Proof.Machine

/-- What follows a row changes the records, the captures and the counters alone. -/
theorem finish_frame (s : State) :
    finish s = { s with obs := (finish s).obs, mon := (finish s).mon, stats := (finish s).stats } := rfl

/-- The passing of time changes device time and the programmable counters alone. -/
theorem advance_frame (s : State) (dt : Nat) :
    s.advance dt = { s with now := s.now + dt, obs := (s.advance dt).obs } := rfl

theorem settleOne_empty {s : State} (h : s.port.waiting = []) : s.settleOne = s := by
  unfold State.settleOne; rw [h]

theorem settle_empty {s : State} (h : s.port.waiting = []) : s.settle = s := by
  simp [State.settle, settleOne_empty h]

/-- R36: it differs in device time, the packet in its slot, and the counts. -/
theorem taken_frame {s : State} (h : s.takes) (dt : Nat) (p : Packet) :
    s.taken dt p = { s with now := s.now + dt, obs := (s.taken dt p).obs, stats := (s.taken dt p).stats,
                            port := { s.port with waiting := [.good p] } } := by
  obtain ⟨hr, hj, hw, hq⟩ := h
  have h1 : (s.advance dt).ready = true := hr
  have h2 : (s.advance dt).scanHolds = false := hj
  have h3 : (s.advance dt).qfree ≠ 0 := by
    show 4 - (s.port.replies.length + s.port.waiting.length) ≠ 0
    rw [hw]; simp; omega
  have h4 : (s.advance dt).port = s.port := rfl
  unfold State.taken State.takeIn
  simp only [h1, h2, h3, h4, hw, Bool.not_true, Bool.or_self, Bool.false_eq_true, if_false, List.nil_append]
  rfl

theorem taken_ready {s : State} (h : s.takes) (dt : Nat) (p : Packet) : (s.taken dt p).ready = true := by
  rw [taken_frame h]; exact h.1

/-- R46, R49: a command that the port takes executes at once. -/
theorem hostRow_served {s : State} (h : s.takes) (dt : Nat) (sp : CmdSpec) (c : Cls) (cmd : Cmd) {x : Answer}
    (hp : (s.taken dt { op := BitVec.ofNat 8 sp.op, cls := c, cmd := cmd }).perform sp
      { op := BitVec.ofNat 8 sp.op, cls := c, cmd := cmd } = some x) :
    hostRow dt sp c cmd s =
      (let p : Packet := { op := BitVec.ofNat 8 sp.op, cls := c, cmd := cmd }
       let b := s.taken dt p
       let t := b.deliver (b.signer sp p) p x
       finish (if x.status = .ok then sp.late t p.req else t).settle) := by
  have h0 : (s.advance dt).port.waiting.head? ≠ some (.good { op := BitVec.ofNat 8 sp.op, cls := c, cmd := cmd }) := by
    show s.port.waiting.head? ≠ _
    rw [h.2.2.1]; simp
  have h1 : (s.taken dt { op := BitVec.ofNat 8 sp.op, cls := c, cmd := cmd }).port.waiting.head? =
      some (.good { op := BitVec.ofNat 8 sp.op, cls := c, cmd := cmd }) := by
    rw [taken_frame h]; rfl
  have h2 := taken_ready h dt { op := BitVec.ofNat 8 sp.op, cls := c, cmd := cmd }
  unfold State.taken at h1 h2 hp ⊢
  simp only [hostRow, h0, if_false, h1, h2, and_self, if_true, hp]

/-- The request of a packet to one instance. -/
def Packet.reqOne (p : Packet) : Req := { p.req with all := [p.cmd.inst.toNat] }

/-- R49: a command to one instance passes every check. -/
structure Passes (b : State) (sp : CmdSpec) (p : Packet) : Prop where
  trailer : p.cmd.auth = none
  device  : b.power.dev ≠ .shutdown ∨ sp.op = 0 ∧ p.cls = .dev ∧ p.cmd.inst.toNat = 0
  single  : p.cmd.inst.toNat < 0x100
  target  : (instances p.cls).contains p.cmd.inst.toNat = true
  opcode  : sp.groupCmd = false
  accept  : sp.accepts p.cls p.cmd.inst.toNat = true
  state   : sp.avail b p.req = none
  level   : b.level sp p.reqOne = none
  count   : sp.count b p.reqOne = true
  params  : sp.bad b p.reqOne = none
  awake   : (sp.off && (sp.isl b p.req).any b.comingUp) = false
  unit    : b.unitCheck sp p.reqOne = none
  cond    : sp.cond b p.reqOne = none

/-- R49: such a command executes. -/
theorem perform_passes {b : State} {sp : CmdSpec} {p : Packet} (h : Passes b sp p) :
    b.perform sp p = some
      (let e := sp.act b p.reqOne
       { st := if e.status = .ok then sp.after e.st [p.cmd.inst.toNat] else e.st, status := e.status, pay := e.pay,
         silent := e.silent }) := by
  have hm : b.members p.cls p.cmd.inst.toNat = [p.cmd.inst.toNat] := by
    unfold State.members; rw [if_pos h.single, if_pos h.target]
  have ha : b.aims sp p.req = [p.cmd.inst.toNat] := by
    show (if sp.groupCmd then [p.cmd.inst.toNat] else (b.members p.cls p.cmd.inst.toNat).filter (sp.accepts p.cls)) = _
    rw [h.opcode, hm]; simp [h.accept]
  have he : b.early sp p.req = none := by
    show (if b.power.dev = .shutdown ∧ ¬(sp.op = 0 ∧ p.cls = .dev ∧ p.cmd.inst.toNat = 0) then some { status := .shutdown }
      else if b.members p.cls p.cmd.inst.toNat = [] ∧ !(sp.groupCmd && groupTarget p.cls p.cmd.inst.toNat) then
        some { status := .badTarget }
      else if sp.groupCmd && !groupTarget p.cls p.cmd.inst.toNat then some { status := .badTarget }
      else if !sp.groupCmd && (b.members p.cls p.cmd.inst.toNat).all (fun i => !sp.accepts p.cls i) then
        some { status := .badTarget }
      else match sp.avail b p.req with
        | some reason => some (b.devConflict reason)
        | none => none) = none
    have hd : ¬(b.power.dev = .shutdown ∧ ¬(sp.op = 0 ∧ p.cls = .dev ∧ p.cmd.inst.toNat = 0)) := by
      have := h.device; tauto
    simp only [hd, if_false]
    simp [hm, h.opcode, h.accept, h.state]
  have hw : b.waits sp p.req = false := by
    unfold State.waits
    rw [ha, Bool.and_assoc]
    have := h.awake
    have e2 : ([p.cmd.inst.toNat].any fun i => (sp.isl b { p.req with inst := i }).any b.comingUp) =
      (sp.isl b p.req).any b.comingUp := by simp [Packet.req]
    rw [e2, this, Bool.and_false]
  have hc : b.runChecked sp p.req p.cmd =
      (let e := sp.act b p.reqOne
       { st := if e.status = .ok then sp.after e.st [p.cmd.inst.toNat] else e.st, status := e.status, pay := e.pay,
         silent := e.silent }) := by
    have hs : b.shape sp p.reqOne [p.cmd.inst.toNat] = none := by
      unfold State.shape
      rw [h.count]
      have e1 : ({ p.reqOne with inst := p.cmd.inst.toNat } : Req) = p.reqOne := rfl
      simp [e1, h.params]
    have hl : b.lastChecks sp p.reqOne = none := by
      unfold State.lastChecks; rw [h.unit]; exact h.cond
    have hn : manyTarget p.cmd.inst.toNat = false := by
      have := h.single
      simp only [manyTarget, decide_eq_false_iff_not]; omega
    have hr : b.runOne sp p.reqOne p.cmd =
        (let e := sp.act b p.reqOne
         { st := if e.status = .ok then sp.after e.st [p.cmd.inst.toNat] else e.st, status := e.status, pay := e.pay,
           silent := e.silent }) := by
      unfold State.runOne
      rw [hl]
      rfl
    unfold State.runChecked
    rw [ha]
    change (match b.level sp p.reqOne with
      | some f => ({ st := b, status := f.status, pay := f.pay } : Answer)
      | none => match b.shape sp p.reqOne [p.cmd.inst.toNat] with
        | some f => { st := b, status := f.status, pay := f.pay }
        | none => if manyTarget p.cmd.inst.toNat && !sp.groupCmd then b.runMany sp p.reqOne else b.runOne sp p.reqOne p.cmd) = _
    rw [h.level]
    dsimp only
    rw [hs, hn]
    exact hr
  unfold State.perform
  simp only [he, h.trailer, hw, hc, Bool.false_eq_true, if_false]

theorem target_toNat (p : Packet) : p.target.toNat = p.cmd.inst.toNat + 4096 * clsCode p.cls := by
  have h1 := p.cmd.inst.isLt
  have h2 : clsCode p.cls < 16 := by cases p.cls <;> decide
  simp only [Packet.target, BitVec.toNat_ofNat]
  omega

/-- R42, R43: what `State.reply` forms without a reply key. -/
theorem reply_replyIs (s : State) (p : Packet) (status : Nat) (pay : List Word) :
    replyIs (s.reply none status p.target p.cmd.tag false pay) s.now p.cls p.cmd.inst.toNat p.cmd.tag status pay := by
  refine ⟨b2n (s.obs.queue != []), ?_, ?_⟩
  · unfold b2n; split <;> decide
  · simp [State.reply, target_toNat, b2n]

/-- The reply to a command that answered OK takes its slot, or the slot is free. -/
def State.answered (x : State) (c : Cls) (cmd : Cmd) (pay : List Word) : State :=
  { x with
    free := x.free + 1
    port := { x.port with
      waiting := []
      replies := if cmd.flags.getLsbD 1 then x.port.replies
        else x.port.replies ++ [x.reply none 0 (BitVec.ofNat 16 (cmd.inst.toNat + 4096 * clsCode c)) cmd.tag false pay] } }

/-- R46, R49: what a row answers whose command passes every check, exactly. -/
theorem hostRow_exact {s : State} (hs : s.takes) {dt : Nat} {sp : CmdSpec} {c : Cls} {cmd : Cmd} {b : State}
    (hb : b = s.taken dt { op := BitVec.ofNat 8 sp.op, cls := c, cmd := cmd })
    (hp : Passes b sp { op := BitVec.ofNat 8 sp.op, cls := c, cmd := cmd })
    (hst : (sp.act b (Packet.reqOne { op := BitVec.ofNat 8 sp.op, cls := c, cmd := cmd })).status = .ok)
    (hsil : (sp.act b (Packet.reqOne { op := BitVec.ofNat 8 sp.op, cls := c, cmd := cmd })).silent = false)
    (hlate : ∀ t r, sp.late t r = t) :
    hostRow dt sp c cmd s = finish
      ((sp.after (sp.act b (Packet.reqOne { op := BitVec.ofNat 8 sp.op, cls := c, cmd := cmd })).st [cmd.inst.toNat]).answered c cmd
        (sp.act b (Packet.reqOne { op := BitVec.ofNat 8 sp.op, cls := c, cmd := cmd })).pay) := by
  subst hb
  have hrow := hostRow_served hs dt sp c cmd (perform_passes hp)
  simp only [hst, if_true, hsil, hlate] at hrow
  have hport : (s.taken dt { op := BitVec.ofNat 8 sp.op, cls := c, cmd := cmd }).port =
      { s.port with waiting := [.good { op := BitVec.ofNat 8 sp.op, cls := c, cmd := cmd }] } := by
    rw [taken_frame hs]
  have hsig : (s.taken dt { op := BitVec.ofNat 8 sp.op, cls := c, cmd := cmd }).signer sp
      { op := BitVec.ofNat 8 sp.op, cls := c, cmd := cmd } = none := by
    have := hp.trailer
    simp only at this
    simp [State.signer, this]
  rw [hsig] at hrow
  rw [settle_empty (by simp [State.deliver, hport])] at hrow
  rw [hrow]
  congr 1
  simp [State.deliver, State.answered, hport, Packet.target, Status.code]
/-- R49, check 13: what a command asks of its islands. -/
def State.meets (s : State) (sp : CmdSpec) (isl : List Nat) : Prop :=
  ∀ i ∈ isl, (sp.off = true → s.islandOn i = true) ∧
    (sp.failed = true → s.islandFailed i = false ∧ s.islandHeld i = false) ∧ (sp.test = true → s.underTest i = false)

theorem meets_of_workable {s : State} {sp : CmdSpec} {isl : List Nat} (h : s.workable isl) : s.meets sp isl :=
  fun i hi => ⟨fun _ => h.1 i hi, fun _ => ⟨(h.2 i hi).1, (h.2 i hi).2.1⟩, fun _ => (h.2 i hi).2.2⟩

theorem meets_of_sound {s : State} {sp : CmdSpec} {isl : List Nat} (h : s.sound isl) (ho : sp.off = false) : s.meets sp isl :=
  fun i hi => ⟨fun h' => (by rw [ho] at h'; cases h'), fun _ => ⟨(h i hi).1, (h i hi).2.1⟩, fun _ => (h i hi).2.2⟩

theorem meets_any {s : State} {sp : CmdSpec} {isl : List Nat} (h : s.meets sp isl) :
    (sp.off && isl.any (fun i => !s.islandOn i)) = false ∧
      (sp.failed && isl.any (fun i => s.islandFailed i || s.islandHeld i)) = false ∧
      (sp.test && isl.any s.underTest) = false ∧ (sp.off && isl.any s.comingUp) = false := by
  refine ⟨?_, ?_, ?_, ?_⟩
  all_goals
    rw [Bool.and_eq_false_iff]
    first
    | cases ho : sp.off
      · exact .inl rfl
      · refine .inr (List.any_eq_false.2 fun i hi => ?_)
        have := (h i hi).1 ho
        simp [this, State.comingUp]
    | cases ho : sp.failed
      · exact .inl rfl
      · refine .inr (List.any_eq_false.2 fun i hi => ?_)
        have := (h i hi).2.1 ho
        simp [this]
    | cases ho : sp.test
      · exact .inl rfl
      · refine .inr (List.any_eq_false.2 fun i hi => ?_)
        have := (h i hi).2.2 ho
        simp [this]

theorem anyRun_dev {s : State} (h : s.anyRun = true) : s.power.dev ≠ .shutdown := by
  intro h'; simp [State.anyRun, h'] at h

/-- R55: a basic command passes checks 10 and 11. -/
theorem level_basic {s : State} {sp : CmdSpec} {r : Req} (ho : sp.op < 0x80) (hs : sp.secure s r = false)
    (hc : sp.counter = false) (hd : sp.denied s r = false) (hl : sp.locked s r = false) : s.level sp r = none := by
  have : ¬ 0x80 ≤ sp.op := by omega
  simp [State.level, hs, hc, hd, hl, this]

/-- R55: an EXPERT command. -/
theorem level_expert {s : State} {sp : CmdSpec} {r : Req} (ha : s.allows .expert) (hs : sp.secure s r = false)
    (hc : sp.counter = false) (hd : sp.denied s r = false) (hl : sp.locked s r = false) : s.level sp r = none := by
  obtain h | h := ha <;> simp [State.level, hs, hc, hd, hl, h]

/-- R325: a counter read. -/
theorem level_counter {s : State} {sp : CmdSpec} {r : Req} (ha : s.allows .counter) (ho : sp.op < 0x80)
    (hs : sp.secure s r = false) (hd : sp.denied s r = false) (hl : sp.locked s r = false) : s.level sp r = none := by
  have : ¬ 0x80 ≤ sp.op := by omega
  obtain h | h := ha <;> simp [State.level, hs, hd, hl, h, this]

/-- R232: a secure-class command before an owner is bound. -/
theorem level_secure {s : State} {sp : CmdSpec} {r : Req} (ha : s.allows .secure) (hd : sp.denied s r = false)
    (hl : sp.locked s r = false) : s.level sp r = none := by
  obtain ⟨h, h'⟩ := ha
  simp [State.level, hd, hl, h, h']

/-- R49: a command that the port takes passes every check, once its own checks pass. -/
theorem takes_passes {s : State} (ht : s.takes) {dt : Nat} {sp : CmdSpec} {c : Cls}
    {cmd : Cmd} (ha : cmd.auth = none) (hn : (instances c).contains cmd.inst.toNat = true) (hn' : cmd.inst.toNat < 0x100)
    {p : Packet} (hp : p = { op := BitVec.ofNat 8 sp.op, cls := c, cmd := cmd })
    (hdev : s.power.dev ≠ .shutdown ∨ sp.op = 0 ∧ c = .dev ∧ cmd.inst.toNat = 0)
    (hav : sp.avail (s.taken dt p) p.req = none) (hg : sp.groupCmd = false) (hacc : sp.accepts c cmd.inst.toNat = true)
    (hisl : sp.isl (s.taken dt p) p.req = sp.isl (s.taken dt p) p.reqOne)
    (hu : s.meets sp (sp.isl (s.taken dt p) p.reqOne))
    (hlev : (s.taken dt p).level sp p.reqOne = none)
    (hcount : sp.count (s.taken dt p) p.reqOne = true)
    (hbad : sp.bad (s.taken dt p) p.reqOne = none)
    (hbusy : sp.busy (s.taken dt p) p.reqOne = none)
    (hcond : sp.cond (s.taken dt p) p.reqOne = none) :
    Passes (s.taken dt p) sp p := by
  have hb := taken_frame ht dt p
  subst hp
  generalize hi : sp.isl (s.taken dt { op := BitVec.ofNat 8 sp.op, cls := c, cmd := cmd })
    (Packet.reqOne { op := BitVec.ofNat 8 sp.op, cls := c, cmd := cmd }) = isl at hisl hu
  have hw : (s.taken dt { op := BitVec.ofNat 8 sp.op, cls := c, cmd := cmd }).meets sp isl := by rw [hb]; exact hu
  obtain ⟨w1, w2, w3, w4⟩ := meets_any hw
  have hd : (s.taken dt { op := BitVec.ofNat 8 sp.op, cls := c, cmd := cmd }).power.dev ≠ .shutdown ∨
      sp.op = 0 ∧ c = .dev ∧ cmd.inst.toNat = 0 := by rw [hb]; exact hdev
  refine ⟨ha, hd, hn', hn, hg, hacc, hav, hlev, hcount, hbad, ?_, ?_, hcond⟩
  · rw [hisl, w4]
  · unfold State.unitCheck; simp only [hi, w1, w2, w3, Bool.false_eq_true, if_false, hbusy]

/-- The request of `cmdTo`. -/
theorem reqOne_cmdTo {c : Cls} {op : Byte} {i : Nat} {g f : Byte} {ps : List Word} (h : i < 4096) :
    Packet.reqOne { op := op, cls := c, cmd := cmdTo i g f ps } =
      { cls := c, inst := i, op := op.toNat, tag := g, params := ps, authed := false, all := [i] } := by
  have : (BitVec.ofNat 12 i).toNat = i := by simp; omega
  simp [Packet.reqOne, Packet.req, cmdTo, this]

theorem req_cmdTo {c : Cls} {op : Byte} {i : Nat} {g f : Byte} {ps : List Word} (h : i < 4096) :
    Packet.req { op := op, cls := c, cmd := cmdTo i g f ps } =
      { cls := c, inst := i, op := op.toNat, tag := g, params := ps, authed := false, all := [] } := by
  have : (BitVec.ofNat 12 i).toNat = i := by simp; omega
  simp [Packet.req, cmdTo, this]

/-- R46, R49: a command to one unit that the port takes and whose own checks pass, exactly. -/
theorem hostRow_runs {s : State} (hs : s.takes) {dt : Nat} {sp : CmdSpec} {c : Cls}
    {i : Nat} (hdev : s.power.dev ≠ .shutdown ∨ sp.op = 0 ∧ c = .dev ∧ i = 0) {g f : Byte} {ps : List Word} {b : State} {r q : Req}
    (hn : (instances c).contains i = true) (hn' : i < 0x100)
    (hb : b = s.taken dt { op := BitVec.ofNat 8 sp.op, cls := c, cmd := cmdTo i g f ps })
    (hr : r = { cls := c, inst := i, op := (BitVec.ofNat 8 sp.op).toNat, tag := g, params := ps, authed := false, all := [i] })
    (hq : q = { cls := c, inst := i, op := (BitVec.ofNat 8 sp.op).toNat, tag := g, params := ps, authed := false, all := [] })
    (hav : sp.avail b q = none) (hg : sp.groupCmd = false) (hacc : sp.accepts c i = true)
    (hisl : sp.isl b q = sp.isl b r) (hu : s.meets sp (sp.isl b r)) (hlev : b.level sp r = none)
    (hcount : sp.count b r = true) (hbad : sp.bad b r = none) (hbusy : sp.busy b r = none) (hcond : sp.cond b r = none)
    (hst : (sp.act b r).status = .ok) (hsil : (sp.act b r).silent = false) (hlate : ∀ t r, sp.late t r = t) :
    hostRow dt sp c (cmdTo i g f ps) s =
      finish ((sp.after (sp.act b r).st [i]).answered c (cmdTo i g f ps) (sp.act b r).pay) := by
  have hi : (cmdTo i g f ps).inst.toNat = i := by simp [cmdTo]; omega
  have h1 := @reqOne_cmdTo c (BitVec.ofNat 8 sp.op) i g f ps (by omega)
  have h2 := @req_cmdTo c (BitVec.ofNat 8 sp.op) i g f ps (by omega)
  rw [← h1] at hr; rw [← h2] at hq
  subst hb hr hq
  have := hostRow_exact hs rfl (takes_passes hs rfl (by rw [hi]; exact hn) (by omega) rfl (by rw [hi]; exact hdev) hav hg
    (by rw [hi]; exact hacc) hisl hu hlev hcount hbad hbusy hcond) hst hsil hlate
  rw [this, hi]

/-- R42, R47: what the answer leaves, and what it replies. -/
theorem answered_does {s x e : State} {c : Cls} {i : Nat} {g f : Byte} {ps pay : List Word}
    (hw : s.port.waiting = [])
    (h : ∃ o m k p w, x = { e with obs := o, mon := m, stats := k, port := { s.port with waiting := w }, free := p }) :
    Leaves 0 e (finish (x.answered c (cmdTo i g f ps) pay)) ∧
      Replies s (finish (x.answered c (cmdTo i g f ps) pay)) (cmdTo i g f ps) c 0 pay := by
  obtain ⟨o, m, k, p, w, rfl⟩ := h
  rw [finish_frame]
  refine ⟨rfl, ?_⟩
  have hpw : ({ s.port with waiting := [] } : Port) = s.port := by rw [← hw]
  unfold Replies
  have hf : (cmdTo i g f ps).flags = f := rfl
  by_cases hq : f.getLsbD 1 = true
  · simp only [hf, hq, and_self, if_true, State.answered]
    exact hpw
  · rw [if_neg fun h => hq h.2]
    refine ⟨_, reply_replyIs { e with obs := o, mon := m, stats := k, free := p }
      { op := 0, cls := c, cmd := cmdTo i g f ps } 0 pay, ?_⟩
    simp only [hf, hq, State.answered, Bool.false_eq_true, if_false]
    rw [hw]
    rfl

/-- R46, R49: such a command has its effect, and answers OK. -/
theorem hostRow_does {s : State} (hs : s.takes) {dt : Nat} {sp : CmdSpec} {c : Cls}
    {i : Nat} (hdev : s.power.dev ≠ .shutdown ∨ sp.op = 0 ∧ c = .dev ∧ i = 0) {g f : Byte} {ps : List Word} {b e : State}
    {r q : Req} {pay : List Word}
    (hn : (instances c).contains i = true) (hn' : i < 0x100)
    (hb : b = s.taken dt { op := BitVec.ofNat 8 sp.op, cls := c, cmd := cmdTo i g f ps })
    (hr : r = { cls := c, inst := i, op := (BitVec.ofNat 8 sp.op).toNat, tag := g, params := ps, authed := false, all := [i] })
    (hq : q = { cls := c, inst := i, op := (BitVec.ofNat 8 sp.op).toNat, tag := g, params := ps, authed := false, all := [] })
    (hav : sp.avail b q = none) (hg : sp.groupCmd = false) (hacc : sp.accepts c i = true)
    (hisl : sp.isl b q = sp.isl b r) (hu : s.meets sp (sp.isl b r)) (hlev : b.level sp r = none)
    (hcount : sp.count b r = true) (hbad : sp.bad b r = none) (hbusy : sp.busy b r = none) (hcond : sp.cond b r = none)
    (hst : (sp.act b r).status = .ok) (hsil : (sp.act b r).silent = false) (hpay : (sp.act b r).pay = pay)
    (hlate : ∀ t r, sp.late t r = t)
    (heff : ∃ o m k p w, sp.after (sp.act b r).st [i] =
      { e with obs := o, mon := m, stats := k, port := { s.port with waiting := w }, free := p }) :
    Leaves 0 e (hostRow dt sp c (cmdTo i g f ps) s) ∧
      Replies s (hostRow dt sp c (cmdTo i g f ps) s) (cmdTo i g f ps) c 0 pay := by
  rw [hostRow_runs hs hdev hn hn' hb hr hq hav hg hacc hisl hu hlev hcount hbad hbusy hcond hst hsil hlate, hpay]
  exact answered_does hs.2.2.1 heff

theorem adminIn_pass {l : List Admin} {s : State} {r : Req} (h : l.contains (s.admin r.cls r.inst) = true) :
    adminIn l s r = none := by simp only [adminIn, require, h, if_true]

@[simp] theorem hostLane_val (n : Fin 16) : hostLane n.val = n := Fin.ofNat_val_eq_self n

@[simp] theorem lineLane_val (l : Fin 8) : lineLane l.val = l := Fin.ofNat_val_eq_self l

end Sys2Proof.Machine
end

