-- ==== Sys2Proof/Laws/Events.lean ====
section
/-! SUPPORT. Events: what raising one does to the queue, that the queue only grows while a row runs, and what an event row
leaves unchanged. -/

namespace Sys2Proof.Machine

/-! ## The event queue only grows -/

theorem obs_raise_queue (o : Obs) (m : BitVec 256) (e : Entry) : o.queue <+: (o.raise m e).queue := by
  simp only [Obs.raise]; split <;> simp

/-- R70: the event stands in the queue, unless its code is masked or the queue is full. -/
theorem obs_raise_enters (o : Obs) (m : BitVec 256) (e : Entry) (h : m.getLsbD e.code = true) :
    e ∈ (o.raise m e).queue ∨ 256 ≤ (o.raise m e).queue.length := by
  simp only [Obs.raise, h, Bool.true_and]
  by_cases hl : 256 ≤ o.queue.length <;> simp [hl]

theorem raise_queue (s : State) (c : Cls) (i code : Nat) (arg : Word) :
    s.obs.queue <+: (s.raise c i code arg).obs.queue := by
  simp only [State.raise]; split
  · exact obs_raise_queue _ _ _
  · exact List.prefix_refl _

theorem raiseIf_queue (s : State) (b : Bool) (c : Cls) (i code : Nat) (arg : Word) :
    s.obs.queue <+: (s.raiseIf b c i code arg).obs.queue := by
  simp only [State.raiseIf]; split
  · exact raise_queue _ _ _ _ _
  · exact List.prefix_refl _

theorem foldl_queue {α : Type} (f : State → α → State) (h : ∀ s a, s.obs.queue <+: (f s a).obs.queue) (l : List α)
    (s : State) : s.obs.queue <+: (l.foldl f s).obs.queue := by
  induction l generalizing s with
  | nil => exact List.prefix_refl _
  | cons a l ih => exact (h s a).trans (ih _)

theorem perfMap_queue (s : State) (amt : Nat → PerfCtr → Nat) : s.obs.queue <+: (s.perfMap amt).queue := by
  unfold State.perfMap
  extract_lets f hits t
  change s.obs.queue <+: t.obs.queue
  exact foldl_queue _ (fun t (k : Fin 64) => raise_queue t .perf k.val _ _) hits s

theorem advance_queue (s : State) (dt : Nat) : s.obs.queue <+: (s.advance dt).obs.queue := by
  unfold State.advance; dsimp only; exact perfMap_queue { s with now := s.now + dt } _

theorem signal_queue (s : State) (c : Cls) (i sig n : Nat) : s.obs.queue <+: (s.signal c i sig n).obs.queue := by
  unfold State.signal; dsimp only; exact perfMap_queue s _

theorem foldl_obs_queue (g : Entry → BitVec 256) (l : List Entry) (o : Obs) :
    o.queue <+: (l.foldl (fun o e => o.raise (g e) e) o).queue := by
  induction l generalizing o with
  | nil => exact List.prefix_refl _
  | cons a l ih => exact (obs_raise_queue _ _ _).trans (ih _)

theorem noteAll_queue (s : State) : s.obs.queue <+: s.noteAll.obs.queue := by
  simp only [State.noteAll]
  exact foldl_obs_queue (fun e => (s.unit e.cls e.inst).mask) _ _

theorem triggerOne_queue (s : State) (seq at_ i : Nat) : s.obs.queue <+: (s.triggerOne seq at_ i).obs.queue := by
  unfold State.triggerOne
  dsimp only
  split
  · exact List.prefix_refl _
  · exact raise_queue _ _ _ _ _
  · exact raise_queue _ _ _ _ _
  all_goals exact List.prefix_refl _

theorem triggerAt_queue (s : State) (at_ : Nat) (x : CapSet) : s.obs.queue <+: (s.triggerAt at_ x).obs.queue := by
  unfold State.triggerAt
  exact foldl_queue _ (fun t i => triggerOne_queue t _ at_ i) x.members
    ({ s with mon := { s.mon with seq := (s.mon.seq + 1) % 2 ^ 32, trigOut := at_ } } : State)

theorem trigger_queue (s : State) (x : CapSet) : s.obs.queue <+: (s.trigger x).obs.queue := by
  unfold State.trigger
  split
  · exact triggerAt_queue _ _ _
  · exact List.prefix_refl _

theorem triggerSets_queue (s : State) (p : Vector Word 8 → Bool) : s.obs.queue <+: (s.triggerSets p).obs.queue := by
  unfold State.triggerSets
  refine foldl_queue _ (fun t x => ?_) _ _
  split
  · exact trigger_queue _ _
  · exact List.prefix_refl _

theorem immediates_queue (s : State) : s.obs.queue <+: s.immediates.obs.queue := by
  unfold State.immediates
  refine foldl_queue _ (fun t x => ?_) _ _
  unfold State.immediate
  split
  · exact triggerAt_queue _ _ _
  · exact List.prefix_refl _

theorem countFired_queue (s : State) : s.obs.queue <+: s.countFired.obs.queue := by
  have h : s.obs.queue = s.unfired.obs.queue := rfl
  unfold State.countFired
  dsimp only
  rw [h]
  exact perfMap_queue s.unfired _

theorem fireAll_queue (n : Nat) (sets : List CapSet) (s : State) : s.obs.queue <+: (State.fireAll n sets s).obs.queue := by
  induction n generalizing sets s with
  | zero => exact List.prefix_refl _
  | succ n ih =>
    unfold State.fireAll
    dsimp only
    split
    · exact List.prefix_refl _
    · refine List.IsPrefix.trans ?_ (ih _ _)
      exact (countFired_queue s).trans (foldl_queue State.trigger trigger_queue _ _)

/-- What follows a row removes no event. -/
theorem finish_queue (s : State) : s.obs.queue <+: (finish s).obs.queue := by
  have h1 : s.obs.queue <+: (if s.mcRuns then s.noteAll else s).obs.queue := by
    split
    · exact noteAll_queue s
    · exact List.prefix_refl _
  unfold finish
  extract_lets t u
  exact (h1.trans (immediates_queue _)).trans (fireAll_queue _ _ t)

/-- An event of the row stands in the queue after it. -/
theorem finish_enters {s : State} {e : Entry} (h : e ∈ s.obs.queue ∨ 256 ≤ s.obs.queue.length) :
    e ∈ (finish s).obs.queue ∨ 256 ≤ (finish s).obs.queue.length := by
  obtain h | h := h
  · exact .inl ((finish_queue s).subset h)
  · exact .inr (h.trans (finish_queue s).length_le)

theorem raise_enters {s : State} {c : Cls} {i code : Nat} {arg : Word} (hr : s.mcRuns = true)
    (hm : (s.unit c i).mask.getLsbD code = true) :
    { code := code, cls := c, inst := i, arg := arg, time := s.now } ∈ (s.raise c i code arg).obs.queue ∨
      256 ≤ (s.raise c i code arg).obs.queue.length := by
  simp only [State.raise, hr, if_true]
  exact obs_raise_enters _ _ _ hm

/-- What stands in the queue still stands there after the queue has grown. -/
theorem enters_mono {q r : List Entry} (h : q <+: r) {e : Entry} (he : e ∈ q ∨ 256 ≤ q.length) : e ∈ r ∨ 256 ≤ r.length := by
  obtain he | he := he
  · exact .inl (h.subset he)
  · exact .inr (he.trans h.length_le)

/-! ## Event rows -/

/-- What an event row leaves unchanged, from what its event leaves unchanged. -/
theorem eventRow_leaves {s e : State} {dt : Nat} {f : State → State}
    (h : ∃ o m k n, f (s.advance dt) = { e with now := e.now + dt, obs := o, mon := m, stats := k, free := n }) :
    Becomes dt e (eventRow dt f s) := by
  obtain ⟨o, m, k, n, h⟩ := h
  constructor
  · unfold eventRow; rw [h]; rfl
  · unfold eventRow; rw [h]; rfl

/-- An event row raises what its event raises. -/
theorem eventRow_raised {s : State} {dt : Nat} {f : State → State} {c : Cls} {i code : Nat} {arg : Word}
    (hn : (f (s.advance dt)).now = s.now + dt)
    (h : s.mcRuns = true → (s.unit c i).mask.getLsbD code = true →
      { code := code, cls := c, inst := i, arg := arg, time := s.now + dt } ∈ (f (s.advance dt)).obs.queue ∨
        256 ≤ (f (s.advance dt)).obs.queue.length) :
    Raised s (eventRow dt f s) c i code arg := by
  intro hr hm
  have e : (eventRow dt f s).now = s.now + dt := hn
  rw [e]
  exact finish_enters (h hr hm)

end Sys2Proof.Machine
end

