-- ==== Sys2Proof/Laws/Mem.lean ====
section
/-! SUPPORT. The scratchpad: every memory operation keeps the canonical form, a read after a write gives the byte written,
and a write leaves every other byte. -/

namespace Sys2Proof.Machine

theorem cellsOk_mono {m : List Host.Cell} {lo k : Nat} (h : cellsOk k m = true) (hl : lo ≤ k) : cellsOk lo m = true := by
  cases m with
  | nil => rfl
  | cons c r =>
    simp only [cellsOk, Bool.and_eq_true, decide_eq_true_eq] at h ⊢
    exact ⟨⟨⟨by omega, h.1.1.2⟩, h.1.2⟩, h.2⟩

/-- Below its first cell a canonical memory reads 0. -/
theorem readByte_below {m : List Host.Cell} {lo a : Nat} (h : cellsOk lo m = true) (ha : a < lo) : readByte m a = 0 := by
  cases m with
  | nil => rfl
  | cons c r =>
    simp only [cellsOk, Bool.and_eq_true, decide_eq_true_eq] at h
    have h1 : c.1 ≠ a := by omega
    have h2 : a < c.1 := by omega
    simp [readByte, h1, h2]

theorem writeByte_cellsOk {m : List Host.Cell} {lo a : Nat} {b : Byte} (h : cellsOk lo m = true) (hl : lo ≤ a)
    (ha : a < 0x60_0000) : cellsOk lo (writeByte m a b) = true := by
  induction m generalizing lo with
  | nil => by_cases hb : b = 0#8 <;> simp [writeByte, cellsOk, hb, hl, ha]
  | cons c r ih =>
    have h' := h
    simp only [cellsOk, Bool.and_eq_true, decide_eq_true_eq] at h
    by_cases h1 : a < c.1
    · by_cases hb : b = 0#8
      · simpa [writeByte, h1, hb] using h'
      · have : cellsOk (a + 1) (c :: r) = true := by
          simp only [cellsOk, Bool.and_eq_true, decide_eq_true_eq]; exact ⟨⟨⟨by omega, h.1.1.2⟩, h.1.2⟩, h.2⟩
        have e : writeByte (c :: r) a b = (a, b) :: c :: r := by simp [writeByte, h1, hb]
        have : cellsOk lo ((a, b) :: c :: r) = (decide (lo ≤ a) && decide (a < 0x60_0000) && b != 0 && cellsOk (a + 1) (c :: r)) :=
          rfl
        simp_all
    · by_cases h2 : a = c.1
      · by_cases hb : b = 0#8
        · simp only [writeByte, h2, hb, lt_self_iff_false, if_true, if_false]
          simpa using cellsOk_mono h.2 (by omega : lo ≤ c.1 + 1)
        · simp [writeByte, h2, cellsOk, h.2, hb, h.1.1]
      · simp only [writeByte, h1, h2, if_false, cellsOk, Bool.and_eq_true, decide_eq_true_eq]
        exact ⟨h.1, ih h.2 (by omega)⟩

theorem readByte_writeByte_same {m : List Host.Cell} {lo a : Nat} {b : Byte} (h : cellsOk lo m = true) :
    readByte (writeByte m a b) a = b := by
  induction m generalizing lo with
  | nil => by_cases hb : b = 0#8 <;> simp [writeByte, readByte, hb]
  | cons c r ih =>
    simp only [cellsOk, Bool.and_eq_true, decide_eq_true_eq] at h
    by_cases h1 : a < c.1
    · have h3 : c.1 ≠ a := by omega
      by_cases hb : b = 0#8 <;> simp [writeByte, readByte, h1, hb, h3]
    · by_cases h2 : a = c.1
      · by_cases hb : b = 0#8
        · have := readByte_below h.2 (by omega : a < c.1 + 1)
          simpa [writeByte, h1, h2, hb] using this
        · simp [writeByte, readByte, h2, hb]
      · have h3 : c.1 ≠ a := fun e => h2 e.symm
        simpa [writeByte, readByte, h1, h2, h3] using ih h.2

theorem readByte_writeByte_other {m : List Host.Cell} {lo a x : Nat} {b : Byte} (h : cellsOk lo m = true) (hx : x ≠ a) :
    readByte (writeByte m a b) x = readByte m x := by
  induction m generalizing lo with
  | nil => by_cases hb : b = 0#8 <;> simp [writeByte, readByte, hb, hx.symm]
  | cons c r ih =>
    simp only [cellsOk, Bool.and_eq_true, decide_eq_true_eq] at h
    by_cases h1 : a < c.1
    · by_cases hb : b = 0#8
      · simp [writeByte, h1, hb]
      · by_cases h4 : x < a
        · have h5 : c.1 ≠ x := by omega
          have h6 : x < c.1 := by omega
          simp [writeByte, readByte, h1, hb, hx.symm, h4, h5, h6]
        · simp [writeByte, readByte, h1, hb, hx.symm, h4]
    · by_cases h2 : a = c.1
      · have h3 : c.1 ≠ x := by omega
        by_cases hb : b = 0#8
        · by_cases h4 : x < c.1
          · have := readByte_below h.2 (by omega : x < c.1 + 1)
            simp [writeByte, readByte, h2, hb, h3, h4, this]
          · simp [writeByte, readByte, h2, hb, h3, h4]
        · simp [writeByte, readByte, h2, hb, h3]
      · by_cases h3 : c.1 = x
        · simp only [writeByte, h1, h2, if_false]
          simp [readByte, h3]
        · simp only [writeByte, h1, h2, if_false, readByte, h3, ih h.2]

/-! ## The named operations -/

theorem putByte_wf {m : List Host.Cell} (h : Memory.wf m = true) (a : Nat) (b : Byte) : Memory.wf (putByte m a b) = true := by
  unfold putByte; split
  · exact writeByte_cellsOk h (Nat.zero_le _) ‹_›
  · exact h

theorem readByte_putByte_same {m : List Host.Cell} (h : Memory.wf m = true) {a : Nat} (ha : a < 0x60_0000) (b : Byte) :
    readByte (putByte m a b) a = b := by
  simp only [putByte, ha, if_true]; exact readByte_writeByte_same h

theorem readByte_putByte_other {m : List Host.Cell} (h : Memory.wf m = true) {a x : Nat} (hx : x ≠ a) (b : Byte) :
    readByte (putByte m a b) x = readByte m x := by
  unfold putByte; split
  · exact readByte_writeByte_other h hx
  · rfl

theorem writeBytes_wf {m : List Host.Cell} (h : Memory.wf m = true) (a : Nat) (l : List Byte) :
    Memory.wf (writeBytes m a l) = true := by
  induction l generalizing m a with
  | nil => exact h
  | cons b r ih => exact ih (putByte_wf h a b) (a + 1)

/-- A write leaves every byte outside its range. -/
theorem readByte_writeBytes_other {m : List Host.Cell} (h : Memory.wf m = true) {a x : Nat} (l : List Byte)
    (hx : x < a ∨ a + l.length ≤ x) : readByte (writeBytes m a l) x = readByte m x := by
  induction l generalizing m a with
  | nil => rfl
  | cons b r ih =>
    simp only [List.length_cons] at hx
    rw [writeBytes, ih (putByte_wf h a b) (by omega), readByte_putByte_other h (by omega)]

/-- A read after a write gives the byte written. -/
theorem readByte_writeBytes_same {m : List Host.Cell} (h : Memory.wf m = true) {a k : Nat} (l : List Byte)
    (hk : k < l.length) (ha : a + k < 0x60_0000) : readByte (writeBytes m a l) (a + k) = l[k] := by
  induction l generalizing m a k with
  | nil => simp at hk
  | cons b r ih =>
    cases k with
    | zero =>
      rw [writeBytes, readByte_writeBytes_other (putByte_wf h a b) r (by omega)]
      simpa using readByte_putByte_same h ha b
    | succ k =>
      have := ih (putByte_wf h a b) (a := a + 1) (k := k) (by simpa using hk) (by omega)
      rw [writeBytes]
      simpa [Nat.add_assoc, Nat.add_comm 1 k] using this

theorem internalBytes_wf {c : List Host.Cell} (h : Memory.wf c = true) (m : Meet) : Memory.wf (internalBytes m c) = true := by
  unfold internalBytes
  generalize List.range 32 = l
  induction l generalizing c with
  | nil => exact h
  | cons i r ih =>
    rw [List.foldl_cons]
    apply ih
    split
    · exact putByte_wf h _ _
    · exact h

theorem ringBytes_wf {c : List Host.Cell} (h : Memory.wf c = true) (base size o : Nat) (l : List Byte) :
    Memory.wf (ringBytes c base size o l) = true := by
  induction l generalizing c o with
  | nil => exact h
  | cons b r ih => exact ih (putByte_wf h _ _) _

end Sys2Proof.Machine
end

