-- ==== Sys2Proof/Laws/Queue.lean ====
section
/-! SUPPORT. The command queue: what taking a packet in, answering and settling do to its slots (R46). -/

namespace Sys2Proof.Machine

/-- The packets and replies that fill slots. -/
def State.slots (s : State) : Nat := s.port.replies.length + s.port.waiting.length

/-- A packet is discarded, with nothing in the queue changed, or takes the last place of a free slot. -/
theorem takeIn_queue (s : State) (w : Waiting) :
    (s.takeIn w).port.replies = s.port.replies ∧
    ((s.takeIn w).port.waiting = s.port.waiting ∨
      (s.takeIn w).port.waiting = s.port.waiting ++ [w] ∧ s.slots < 4 ∧ s.ready = true ∧ s.scanHolds = false) := by
  unfold State.takeIn
  split
  · exact ⟨rfl, .inl rfl⟩
  · rename_i h
    simp only [Bool.or_eq_true, Bool.not_eq_true', not_or, Bool.not_eq_false, Bool.not_eq_true] at h
    split
    · exact ⟨rfl, .inl rfl⟩
    · rename_i hq
      refine ⟨rfl, .inr ⟨rfl, ?_, h.1, h.2⟩⟩
      unfold State.qfree at hq
      unfold State.slots
      omega

theorem takeIn_slots {s : State} (h : s.slots ≤ 4) (w : Waiting) : (s.takeIn w).slots ≤ 4 := by
  obtain ⟨hr, hw | ⟨hw, hl, -⟩⟩ := takeIn_queue s w <;> unfold State.slots at * <;> rw [hr, hw]
  · exact h
  · simp only [List.length_append, List.length_singleton]; omega

/-- The slot of a packet that executes is its reply's, or is free. -/
theorem deliver_slots {s : State} {key : Option (Key × Word)} {p : Packet} {x : Answer} (hw : s.port.waiting ≠ [])
    (hx : x.st.port.replies = s.port.replies) (hs : x.silent = false) :
    (s.deliver key p x).slots ≤ s.slots := by
  have hl : 0 < s.port.waiting.length := List.length_pos_of_ne_nil hw
  unfold State.deliver State.slots
  simp only [hs, Bool.false_eq_true, if_false, List.length_tail]
  split <;> simp only [List.length_append, List.length_singleton, hx] <;> omega

theorem settleOne_slots (s : State) : s.settleOne.slots = s.slots := by
  unfold State.settleOne
  split
  · rename_i h; simp [State.slots, h]; omega
  · rename_i h
    split
    · rfl
    · simp [State.slots, h]; omega
  · rfl

theorem settle_slots (s : State) : s.settle.slots = s.slots := by
  simp only [State.settle, settleOne_slots]

end Sys2Proof.Machine
end

