-- ==== Sys2Proof/WellFormed.lean ====
section
/-! DEFINITION. Which rows the outside can send: a packet that agrees with its own length and AUTH fields, and
measurements of the sizes that the spec gives them. -/

namespace Sys2Proof

/-- R41, R44: a packet that passes checks 1 to 4 of R49: at most 1,020 parameters, and FLAGS [0] says whether it carries
an AUTH trailer. -/
def Cmd.wf (c : Cmd) : Bool := decide (c.params.length ≤ 1020) && (c.flags.getLsbD 0 == c.auth.isSome)

/-- R44: the words of a command packet. -/
def Cmd.words (c : Cmd) : Nat := c.params.length + 3 + (if c.auth.isSome then 5 else 0)

/-- R349: a port word of the 6 MiB scratchpad. -/
def Meet.wf (m : Meet) : Bool := decide (m.portWord < 196608)

/-- R116: bad markers are among the markers. -/
def HmiMeasure.wf (m : HmiMeasure) : Bool := decide (m.bad ≤ m.markers)

/-- R168: uncorrectable codewords are among the codewords. -/
def LmiMeasure.wf (m : LmiMeasure) : Bool := decide (m.uncorr ≤ m.codewords)

/-- R198: words 0 to 159. -/
def MilestoneArrival.wf (m : MilestoneArrival) : Bool := decide (m.words.length = 160)

/-- R309: a window is 4,096 symbols. -/
def CheckCounts.wf (m : CheckCounts) : Bool := decide (m.bitErr ≤ m.bits) && decide (m.window ≤ 4096)

/-- R336: the instances of the sixteen channels. -/
def channelNumbers : List Nat :=
  [0x002, 0x003, 0x012, 0x013, 0x014, 0x020, 0x021, 0x023, 0x024, 0x030, 0x031, 0x032, 0x034, 0x041, 0x042, 0x043]

/-- The packet of a host command. -/
def Instr.cmd? : Instr → Option Cmd
  | .statusGet _ _ c | .infoGet _ _ c | .adminSet _ _ c | .stateGet _ _ c | .countersGet _ _ c | .countersClear _ _ c => some c
  | .eventMaskSet _ _ c | .presetApply _ _ c | .groupDefine _ _ c | .groupGet _ _ c => some c
  | .eventRead _ c | .eventConfig _ c | .regRead32 _ c | .regWrite32 _ c | .devReset _ c | .fwLoadBegin _ c | .fwLoadData _ c => some c
  | .fwLoadEnd _ c | .personalitySet _ c | .personalityList _ c | .configDone _ c | .devStateSet _ c | .latencyGet _ c => some c
  | .secStage _ c | .certLoad _ c | .policyLoad _ c | .sessionBegin _ c | .sessionOpen _ c | .sessionClose _ c => some c
  | .attestGet _ c | .zeroise _ c | .fuseRead _ c | .fuseStatusGet _ c | .boardTableLoad _ c | .boardTableInfo _ c => some c
  | .hrxMarginGet _ c | .hrxPolaritySet _ c | .hrxEqGet _ c | .hrxEqForce _ c | .hrxAdaptFreeze _ c | .hrxAmMode _ c => some c
  | .hrxSlip _ c | .htxFaultForce _ c | .htxPolaritySet _ c | .htxFirGet _ c | .htxFirSet _ c | .htxSquelch _ c => some c
  | .ltxSwingSet _ c | .ltxPolaritySet _ c | .ltxPrecodeSet _ c | .ltxSquelch _ c | .ltxConfigGet _ c | .ltxShapeGet _ c => some c
  | .ltxShapeSet _ c | .ltxPdGet _ c | .ltxPdSet _ c | .ltxSkewSet _ c | .lrxSetupSet _ c | .lrxPolicySet _ c => some c
  | .lrxConfigGet _ c | .lrxMarginGet _ c | .lrxRetrain _ c | .lrxAdaptStatusGet _ c | .lrxXtStatusGet _ c | .lrxAfeGet _ c => some c
  | .lrxAdaptSet _ c | .lrxBankRead _ c | .lrxBankWrite _ c | .lrxBankSwap _ c | .lrxFadeAbort _ c | .lrxShadowTrial _ c => some c
  | .lrxAfeForce _ c | .grpTilingSet _ c | .grpXbarSet _ c | .grpModeSet _ c | .grpConfigGet _ c | .grpFrameStatusGet _ c => some c
  | .fecHistGet _ c | .fecLaneGet _ c | .fecMarginSet _ c | .sealInfoGet _ c | .sealRehandshake _ c | .sealWaypostSend _ c => some c
  | .sealWaypostRead _ c | .sealEpochAdvance _ c | .sealTagCorrupt _ c | .calLaneGet _ c | .calLaneForeground _ c => some c
  | .calTrimRead _ c | .calTrimForce _ c | .calElementRetire _ c | .calFreeze _ c | .monTapSet _ c | .monRead _ c => some c
  | .monThresholdSet _ c | .monStreamSet _ c | .monHkConfig _ c | .monHkRead _ c | .monCaptureSet _ c | .monCaptureArm _ c => some c
  | .monCaptureStatusGet _ c | .monCaptureRead _ c | .monCaptureAbort _ c | .tstConfigSet _ c | .tstCheckGet _ c => some c
  | .tstUserPatternSet _ c | .tstLoopSet _ c | .tstInjectSet _ c | .tstSlip _ c | .perfSet _ c | .perfRead _ c => some c
  | .perfLoad _ c | .mbxSend _ c | .mbxReceive _ c | .mbxDoorbellGet _ c | .mbxHostReset _ c | .mbxLegacyWrite _ c => some c
  | .mbxLegacyRead _ c | .mbxPeek _ c | .memTestStatusGet _ c | .memTestSet _ c | .memTestRun _ c | .bistRun _ c => some c
  | .bistResultGet _ c | .bistAbort _ c | .bistOverride _ c | .thmRead _ c | .thmStageGet _ c | .thmDomainSet _ c => some c
  | .thmDomainGet _ c | .thmAvsSet _ c | .thmAvsGet _ c | .thmAvsForce _ c => some c
  | .ownerBind _ c _ | .ownerRevoke _ c _ | .fuseProgram _ c _ | .fuseRepairCommit _ c _ | .lifecycleSet _ c _ => some c
  | .memWinRead _ c _ | .memWinWrite _ c _ => some c
  | .powerOn _ | .powerRemoved _ | .deviceReset _ | .resetRelease _ | .bootRomComplete _ _ | .supplyReset _ _ => none
  | .supplyResetRelease _ | .tamperNLow _ _ | .trigInEdge _ _ | .fuseSupply _ _ | .analogShutdown _ | .packetWrite _ _ => none
  | .replyRead _ _ | .fastStatus _ _ | .unknownTransaction _ _ _ | .rollbackStep _ _ | .calForegroundDone _ _ _ => none
  | .challengeExpiry _ | .perfSat _ _ _ | .perfWrapped _ _ _ | .legacyMsg _ | .mailboxServiceAnswer _ _ _ | .memTestDone _ => none
  | .memSliceTest _ _ _ | .bistStarted _ _ | .bistPatternsEnd _ _ _ _ | .bistDone _ _ _ _ | .extest _ _ | .idcode _ => none
  | .samplePreload _ _ | .clamp _ | .highz _ | .extestPulse _ _ | .extestTrain _ _ | .debugAccess _ _ | .bypass _ _ => none
  | .testLogicReset _ | .islandHeartbeat _ | .islandSilent _ _ | .mcSilent _ | .stateMismatch _ _ _ | .signalDetected _ _ => none
  | .signalLost _ _ | .hrxAcquire _ _ _ | .hrxPolarityTry _ _ | .amLockLost _ _ _ | .hmiUpdate _ _ _ | .hmiLow _ _ => none
  | .hmiRestored _ _ | .txClipping _ _ _ | .txClipCleared _ _ _ | .agcUpdate _ _ _ | .laneOverdriven _ _ => none
  | .timingLockLost _ _ _ | .lmiUpdate _ _ _ | .lmiLow _ _ | .lmiRestored _ _ | .lrxAcquire _ _ _ | .lrxWarmAcquire _ _ _ => none
  | .lrxPolarityTry _ _ | .neighbourDropped _ _ _ _ _ | .adaptRoundStart _ _ | .adaptTrialStart _ _ _ | .adaptDecision _ _ _ => none
  | .hostTrialEnd _ _ _ | .fadeStep _ _ | .innerWindow _ _ _ | .innerLockLost _ _ | .periodStart _ _ _ => none
  | .hostCodewordReceived _ _ _ | .lineCodewordReceived _ _ _ | .milestoneReceived _ _ _ | .tagFailLimitReached _ _ => none
  | .milestoneMissed _ _ | .peerLost _ _ | .clockLocked _ _ _ | .freqRange _ _ _ | .rsMarginWindow _ _ | .rsMarginLow _ _ => none
  | .rsMarginRestored _ _ | .hello _ _ _ | .handshakeStart _ _ | .keyshareI _ _ _ | .keyshareR _ _ _ | .finishI _ _ _ => none
  | .confirm _ _ _ | .nack _ _ _ | .abort _ _ _ | .fragmentWaitExpiry _ _ | .handshakeTimeout _ _ | .handshakeRetry _ _ => none
  | .epochAnnounce _ _ | .epochKeyDerived _ _ | .epochWithdrawn _ _ | .epochTxSwitched _ _ | .calRoundCommit _ _ => none
  | .calOccupancyWindow _ _ _ | .calFed _ _ | .testSourceConnect _ _ | .calrefRestored _ | .captureFillComplete _ _ _ _ => none
  | .captureDone _ _ | .monitorOutput _ _ _ | .monitorRecordWrite _ _ | .chkLocked _ _ | .chkLockLost _ _ _ => none
  | .injection _ _ | .hkRound _ _ | .throttleStepDown _ | .sensorRestored _ _ | .digitalShutdown _ _ => none
  | .supplyWarningStart _ _ _ | .supplyWarn _ | .supplyEpisodeEnd _ | .supplyRecovered _ | .avsEvaluate _ _ _ => none
  | .avsHostChangeComplete _ | .domainPowered _ _ | .domainNeedEndOff _ _ | .peerFrequencyInRange _ _ _ => none
  | .collisionIndicationEnd _ | .avsReadback _ _ | .patternStart _ _ _ | .overRangeSample _ _ => none

/-- What a row brings besides its packet has the sizes that the spec gives it. -/
def Instr.sized : Instr → Bool
  | .mailboxServiceAnswer _ channel _ => channelNumbers.contains channel.toNat
  | .memWinRead _ _ meets | .memWinWrite _ _ meets => meets.all Meet.wf
  | .bistDone _ _ _ repairs => repairs.all fun w => w != 0
  | .stateMismatch _ _ inst => decide (inst.toNat < 256)
  | .hmiUpdate _ _ m | .lmiUpdate _ _ m | .milestoneReceived _ _ m | .chkLockLost _ _ m | .patternStart _ _ m => m.wf
  | .txClipping _ _ clips => decide (10 ≤ clips.length)
  | .txClipCleared _ _ clips => decide (100 ≤ clips.length)
  | .neighbourDropped _ _ _ cause _ => decide (cause < 8)
  | .captureFillComplete _ i samples _ =>
    samples.length % 1024 == 0 && decide (0 < samples.length) && decide (samples.length ≤ if i.val < 16 then 16384 else 32768)
  | .hkRound _ readings => decide (readings.length = 40)
  | .powerOn _ | .powerRemoved _ | .deviceReset _ | .resetRelease _ | .bootRomComplete _ _ | .supplyReset _ _ => true
  | .supplyResetRelease _ | .tamperNLow _ _ | .trigInEdge _ _ | .fuseSupply _ _ | .analogShutdown _ | .packetWrite _ _ => true
  | .replyRead _ _ | .fastStatus _ _ | .unknownTransaction _ _ _ | .statusGet _ _ _ | .infoGet _ _ _ | .adminSet _ _ _ => true
  | .stateGet _ _ _ | .countersGet _ _ _ | .countersClear _ _ _ | .eventMaskSet _ _ _ | .presetApply _ _ _ => true
  | .groupDefine _ _ _ | .groupGet _ _ _ | .eventRead _ _ | .eventConfig _ _ | .regRead32 _ _ | .regWrite32 _ _ => true
  | .devReset _ _ | .fwLoadBegin _ _ | .fwLoadData _ _ | .fwLoadEnd _ _ | .rollbackStep _ _ | .personalitySet _ _ => true
  | .personalityList _ _ | .configDone _ _ | .calForegroundDone _ _ _ | .devStateSet _ _ | .latencyGet _ _ | .secStage _ _ => true
  | .certLoad _ _ | .policyLoad _ _ | .sessionBegin _ _ | .challengeExpiry _ | .sessionOpen _ _ | .sessionClose _ _ => true
  | .attestGet _ _ | .ownerBind _ _ _ | .ownerRevoke _ _ _ | .zeroise _ _ | .fuseRead _ _ | .fuseStatusGet _ _ => true
  | .fuseProgram _ _ _ | .fuseRepairCommit _ _ _ | .lifecycleSet _ _ _ | .boardTableLoad _ _ | .boardTableInfo _ _ => true
  | .hrxMarginGet _ _ | .hrxPolaritySet _ _ | .hrxEqGet _ _ | .hrxEqForce _ _ | .hrxAdaptFreeze _ _ | .hrxAmMode _ _ => true
  | .hrxSlip _ _ | .htxFaultForce _ _ | .htxPolaritySet _ _ | .htxFirGet _ _ | .htxFirSet _ _ | .htxSquelch _ _ => true
  | .ltxSwingSet _ _ | .ltxPolaritySet _ _ | .ltxPrecodeSet _ _ | .ltxSquelch _ _ | .ltxConfigGet _ _ | .ltxShapeGet _ _ => true
  | .ltxShapeSet _ _ | .ltxPdGet _ _ | .ltxPdSet _ _ | .ltxSkewSet _ _ | .lrxSetupSet _ _ | .lrxPolicySet _ _ => true
  | .lrxConfigGet _ _ | .lrxMarginGet _ _ | .lrxRetrain _ _ | .lrxAdaptStatusGet _ _ | .lrxXtStatusGet _ _ | .lrxAfeGet _ _ => true
  | .lrxAdaptSet _ _ | .lrxBankRead _ _ | .lrxBankWrite _ _ | .lrxBankSwap _ _ | .lrxFadeAbort _ _ | .lrxShadowTrial _ _ => true
  | .lrxAfeForce _ _ | .grpTilingSet _ _ | .grpXbarSet _ _ | .grpModeSet _ _ | .grpConfigGet _ _ | .grpFrameStatusGet _ _ => true
  | .fecHistGet _ _ | .fecLaneGet _ _ | .fecMarginSet _ _ | .sealInfoGet _ _ | .sealRehandshake _ _ | .sealWaypostSend _ _ => true
  | .sealWaypostRead _ _ | .sealEpochAdvance _ _ | .sealTagCorrupt _ _ | .calLaneGet _ _ | .calLaneForeground _ _ => true
  | .calTrimRead _ _ | .calTrimForce _ _ | .calElementRetire _ _ | .calFreeze _ _ | .monTapSet _ _ | .monRead _ _ => true
  | .monThresholdSet _ _ | .monStreamSet _ _ | .monHkConfig _ _ | .monHkRead _ _ | .monCaptureSet _ _ | .monCaptureArm _ _ => true
  | .monCaptureStatusGet _ _ | .monCaptureRead _ _ | .monCaptureAbort _ _ | .tstConfigSet _ _ | .tstCheckGet _ _ => true
  | .tstUserPatternSet _ _ | .tstLoopSet _ _ | .tstInjectSet _ _ | .tstSlip _ _ | .perfSet _ _ | .perfRead _ _ => true
  | .perfLoad _ _ | .perfSat _ _ _ | .perfWrapped _ _ _ | .mbxSend _ _ | .mbxReceive _ _ | .mbxDoorbellGet _ _ => true
  | .mbxHostReset _ _ | .mbxLegacyWrite _ _ | .mbxLegacyRead _ _ | .mbxPeek _ _ | .legacyMsg _ | .memTestStatusGet _ _ => true
  | .memTestSet _ _ | .memTestRun _ _ | .memTestDone _ | .memSliceTest _ _ _ | .bistRun _ _ | .bistResultGet _ _ => true
  | .bistAbort _ _ | .bistOverride _ _ | .bistStarted _ _ | .bistPatternsEnd _ _ _ _ | .thmRead _ _ | .thmStageGet _ _ => true
  | .thmDomainSet _ _ | .thmDomainGet _ _ | .thmAvsSet _ _ | .thmAvsGet _ _ | .thmAvsForce _ _ | .extest _ _ | .idcode _ => true
  | .samplePreload _ _ | .clamp _ | .highz _ | .extestPulse _ _ | .extestTrain _ _ | .debugAccess _ _ | .bypass _ _ => true
  | .testLogicReset _ | .islandHeartbeat _ | .islandSilent _ _ | .mcSilent _ | .signalDetected _ _ | .signalLost _ _ => true
  | .hrxAcquire _ _ _ | .hrxPolarityTry _ _ | .amLockLost _ _ _ | .hmiLow _ _ | .hmiRestored _ _ | .agcUpdate _ _ _ => true
  | .laneOverdriven _ _ | .timingLockLost _ _ _ | .lmiLow _ _ | .lmiRestored _ _ | .lrxAcquire _ _ _ | .lrxWarmAcquire _ _ _ => true
  | .lrxPolarityTry _ _ | .adaptRoundStart _ _ | .adaptTrialStart _ _ _ | .adaptDecision _ _ _ | .hostTrialEnd _ _ _ => true
  | .fadeStep _ _ | .innerWindow _ _ _ | .innerLockLost _ _ | .periodStart _ _ _ | .hostCodewordReceived _ _ _ => true
  | .lineCodewordReceived _ _ _ | .tagFailLimitReached _ _ | .milestoneMissed _ _ | .peerLost _ _ | .clockLocked _ _ _ => true
  | .freqRange _ _ _ | .rsMarginWindow _ _ | .rsMarginLow _ _ | .rsMarginRestored _ _ | .hello _ _ _ | .handshakeStart _ _ => true
  | .keyshareI _ _ _ | .keyshareR _ _ _ | .finishI _ _ _ | .confirm _ _ _ | .nack _ _ _ | .abort _ _ _ => true
  | .fragmentWaitExpiry _ _ | .handshakeTimeout _ _ | .handshakeRetry _ _ | .epochAnnounce _ _ | .epochKeyDerived _ _ => true
  | .epochWithdrawn _ _ | .epochTxSwitched _ _ | .calRoundCommit _ _ | .calOccupancyWindow _ _ _ | .calFed _ _ => true
  | .testSourceConnect _ _ | .calrefRestored _ | .captureDone _ _ | .monitorOutput _ _ _ | .monitorRecordWrite _ _ => true
  | .chkLocked _ _ | .injection _ _ | .throttleStepDown _ | .sensorRestored _ _ | .digitalShutdown _ _ => true
  | .supplyWarningStart _ _ _ | .supplyWarn _ | .supplyEpisodeEnd _ | .supplyRecovered _ | .avsEvaluate _ _ _ => true
  | .avsHostChangeComplete _ | .domainPowered _ _ | .domainNeedEndOff _ _ | .peerFrequencyInRange _ _ _ => true
  | .collisionIndicationEnd _ | .avsReadback _ _ | .overRangeSample _ _ => true

/-- The row can occur: a sound packet where it brings one, and measurements of the right sizes. -/
def Instr.wf (i : Instr) : Bool := i.cmd?.all Cmd.wf && i.sized

end Sys2Proof
end

