-- ==== Sys2Proof/Tests/Slice0.lean ====
section
/-! SUPPORT. The model's own tests: ill-formed rows, the spec's worked values, single steps, and for every statement with
hypotheses states and operands that meet them. -/

set_option maxRecDepth 100000
set_option Elab.async false

namespace Sys2Proof.Tests

open Sys2Proof.Machine

/-! ## States -/

def active : State := { State.reset with power := { State.reset.power with dev := .active } }
def maint : State := { State.reset with power := { State.reset.power with dev := .maint } }
def config : State := { State.reset with power := { State.reset.power with dev := .config } }
def asleep : State := { State.reset with power := { State.reset.power with dev := .sleep } }
def off : State := { State.reset with power := { State.reset.power with dev := .off } }
def up (c : Cls) (i : Nat) : State := active.setAdmin c i .up
def test (c : Cls) (i : Nat) : State := active.setAdmin c i .test
def boardBody : List Word :=
  [0x4D424C31, 0x00C90101, 0, 0, 0, 0, 0, 0] ++
    (List.range 16).flatMap (fun _ => [0, 2, 0x00010000, 0, 0, 0, 0, 0]) ++ (List.range 16).flatMap (fun _ => [0x30000000, 0, 0, 0])
def boardTable : List Word := boardBody ++ [crcWords boardBody]
def code1 : CodewordResult := { bits := rsCode 5, marks := false }
def seen1 : CheckSeen := { symbols := bitSymbols (List.replicate 7 true ++ prbsRun (prbsTaps 0) (List.replicate 7 true) 1025) |>.map (BitVec.ofNat 2 ·), place := 0 }
def hrxAcq : HrxAcq := { inverted := false, hmi := 40, skew := 18000, eq := .replicate 5 0, markers := 1 }
def hmi1 : HmiMeasure := { locked := true, hmi := 0x7F0, eq := .replicate 5 1, blocks := 3, markers := 1, bad := 0 }
def lrxIn (f : Lrx → Lrx) : State := { up .lrx 4 with lrx := upd (up .lrx 4).lrx 4 f }
def lrxUp : State :=
  { lrxIn fun r => { r with sd := true, timing := true, acquired := true } with
    lfd := upd active.lfd 4 fun x => { x with inner := true } }
def lrxUpIn (f : Lrx → Lrx) : State := { lrxUp with lrx := upd lrxUp.lrx 4 f }
def fade1 : Fade := { step := 3, stepAt := 0, len := 2, cause := 1, profile := none }
def round1 : Round := { trial := false, avail := (false, false), move := none, afterDrop := false }
def lmiM : LmiMeasure := { locked := true, codewords := 100, errors := 4000, uncorr := 2, ber := 77, snr := 500, blocks := 1, freq := 9, phase := 3 }
def lrxAcq : LrxAcq := { found := true, inverted := false, bank := bankReset, agc := 50, ctle := 18, freq := 1, lmi := 0 }
/-- Eight groups of one lane; group 0 ADMIN UP in mode `m`. -/
def grpUp (m : Nat) : State :=
  let s := ((up .grp 0).setAdmin .lrx 0 .up).setAdmin .ltx 0 .up
  { s with tiling := (5, 5), grp := upd s.grp 0 fun p => { p with mode := m }
           lrx := upd s.lrx 0 fun r => { r with sd := true, timing := true, acquired := true }
           lfd := upd s.lfd 0 fun x => { x with inner := true } }
def grpIn (m : Nat) (f : Grp → Grp) : State := { grpUp m with grp := upd (grpUp m).grp 0 f }
def laneIn (m : Nat) (f : Lfd → Lfd) : State := { grpUp m with lfd := upd (grpUp m).lfd 0 f }
def msWords (m seq : Nat) (idle : Bool) : List Word := (grpUp m).milestone 0 0 seq 2 idle none (0, 0, [])
def arrival (m : Nat) (slots : Nat) : MilestoneArrival :=
  { rsOk := true, words := msWords m 8 false, slots := slots, lag := 20000, latency := some 900 }
def locked (m : Nat) : State := laneIn m fun x => { x with msLock := true, last := some (msWords m 7 false) }
def hostsLocked (s : State) : State :=
  { s with hrx := s.hrx.map fun h => { h with sd := true, timing := true, amLock := true, deskewed := true } }
def sending (m : Nat) : State := hostsLocked (grpIn m fun p => { p with running := true, txIdle := false, slot := 2047, seq := 2 ^ 40 - 1 })
def dir1 (n : Word) : DirKeys := { epoch := 1, chain := (1, .replicate 12 n), key := .replicate 8 n, next := none, old := none }
def keys1 : Keys := { initiator := true, tx := dir1 1, rx := dir1 2 }
def sealIn (f : Seal → Seal) : State :=
  let s := locked 3
  let s := s.setAdmin .seal 0 .up
  { s with seals := upd s.seals 0 f, sec := { s.sec with identity := true, cert := .replicate 2760 1 } }
def keyed : State := sealIn fun c => { c with keys := some keys1, peered := true, closed := .none }
def helloFrom (x : Word) : List Word := msgHeader 1 128 0 ++ List.replicate 24 x ++ [1, 0x3208, 3, 0]
def ready_ : State := sealIn fun c =>
  { c with peered := true, peerPeered := true, hello := helloFrom 9, sentHello := helloFrom 8, remembered := some (.replicate 12 9) }
def readyIn (f : Seal → Seal) : State := { ready_ with seals := upd ready_.seals 0 f }
def hs1 (p : HsPhase) : Handshake := { hsReset with phase := p, attempt := 3 }
def confirmMsg (role : Nat) : List Word :=
  msgHeader 5 64 3 ++ List.ofFn fun k : Fin 12 => (confirmOf (.replicate 12 1) (.replicate 12 2) role)[k]
theorem hashOf_words (h : Hash) : hashOf (List.ofFn fun k : Fin 12 => h[k]) = h := by
  apply Vector.ext
  intro i hi
  simp only [hashOf, Vector.getElem_ofFn, List.getD_eq_getElem?_getD, List.getElem?_ofFn, hi, dif_pos]
  rfl
def ann1 : Announce := { m := 5, epoch := 2, fresh := false, acked := false, drawn := false }
def next1 : Keys := { keys1 with tx := { keys1.tx with chain := (2, .replicate 12 4), next := some (2, .replicate 8 5) } }
def tstIn (i : Fin 24) (f : Tst → Tst) : State :=
  let s := (((active.setAdmin .lrx 4 .test).setAdmin .ltx 4 .test).setAdmin .hrx 3 .test).setAdmin .htx 3 .test
  { s with tst := upd s.tst i f
           hrx := upd s.hrx 3 fun h => { h with sd := true }
           lrx := upd s.lrx 4 fun r => { r with sd := true } }
def tstUp (i : Fin 24) (f : Tst → Tst) : State := (tstIn i f).setAdmin .tst i.val .up
def capCfg (dma : Bool) (trig : Nat) (avg : Nat) : Vector Word 8 :=
  #v[if dma then pk [(1, 16), (1, 18), (avg, 6)] else pk [(avg, 6)], pk [(1024, 0)], pk [(trig, 0), (if trig = 1 then 1 else 0, 4), (20, 8)], 0, 0, 0,
     if dma then 0x40000 else 0, if dma then 0x2000 else 0]
def capIn (i : Fin 24) (f : Capture → Capture) : State :=
  let s := active.setAdmin .mon i.val .up
  { s with mon := { s.mon with caps := upd s.mon.caps i f } }
def capSet (i : Fin 24) (trig : Nat) : State :=
  let s := capIn i fun c => { c with state := .armed, cfg := capCfg false trig 0 }
  { s with mon := { s.mon with sets := [{ members := [i.val], cfg := capCfg false trig 0 }] } }
def tapIn (i : Fin 24) (f : Tap → Tap) : State :=
  let s := active.setAdmin .mon i.val .up
  { s with mon := { s.mon with taps := upd s.mon.taps i f } }
def memIn (f : MemState → MemState) : State := { up .mem 0 with mem := f active.mem }
def msg1 : Msg := { service := 1, id := 9, data := [5, 6], sender := 0, epoch := 0, posted := 3 }
def chIn (ch : Nat) (q : List Msg) : State := { up .mbx ch with mbx := { active.mbx with ch := upd active.mbx.ch (chIx ch) fun _ => q } }
def imaged : Option (ImageHeader × Hash) :=
  some ({ version := 3, rollback := 4, advance := true, personalities := [0x3141, 7] }, .replicate 12 2)
def ready1 : State := { State.reset with power := { State.reset.power with dev := .ready } }
def loaded : State := { ready1 with fw := { declared := 16384, stage := List.replicate 16384 5, image := none } }
def config1 : State := { config with fw := { config.fw with image := imaged } }
def configured : State :=
  let s := config1.setAdmin .dev 0 .up
  { s with board := boardTable, tiling := (1, 5), grp := s.grp.map fun p => { p with mode := 2 } }
def secretive (s : State) : State :=
  { s with sec := { s.sec with identity := true, challenge := some { payload := [], secret := 4, since := 7 },
                               session := some { cmdKey := .replicate 8 1, rplKey := .replicate 8 2, last := 4 } } }
def railLow (s : State) (pin : Bool) : State := { s with power := { s.power with railsLow := 3, pinLow := pin, inReset := true, dev := .boot } }
def wire (p : Packet) : List Byte := p.words.flatMap wordBytes
def packet1 : Packet := { op := 0x00, cls := .dev, cmd := cmdTo 0 9 0 [] }
def fused (s : State) (a : Nat) (w : Word) : State :=
  { s with fuse := s.fuse.put a { data := w, committed := true, corrected := false, uncorrectable := false, blank := false } }
def life (n : Nat) (s : State) : State := fused s 0 (tagWord 1 n 0x3208)
def boundSlot (s : State) : State := (List.range 16).foldl (fun s j => fused s (0x20 + j) (tagWord 4 j 0)) s
def env0 : FuseEnv := { weak := [], stop := none }
def cert1 : List Word :=
  [0x57434552, 0x0101] ++ List.replicate 1378 0 ++ [0x57434552, 0x0201] ++ List.replicate 1378 0
def policy1 : List Word := [0x4F504C59, 1, 9, 0, 0x10010100, 0, 0] ++ List.replicate 1757 0
def staged (l : List Word) (s : State) : State := { s with sec := { s.sec with staging := l } }
def challenged (s : State) : State :=
  { s with sec := { s.sec with challenge := some { payload := List.replicate 428 1, secret := 4, since := 7 } } }
def volts (s : State) : State := { s with thm := { s.thm with fuseMv := 1800 } }
def admits (s : State) : State := { s with sec := { s.sec with policy := [0, 0, 0, 0, 4, 0, 1] } }
def waiting0 (f : Seal → Seal) : State := admits (readyIn fun c => f { c with hello := helloFrom 0 })
def ks (t n k : Nat) : List Word := msgHeader t n 3 ++ List.replicate 416 7 ++ cert1 ++ List.replicate k 0

/-! ## Ill-formed rows are refused, one for each check of WellFormed -/

theorem test_wf_too_many_parameters : Instr.wf (.zeroise 0 { (cmdTo 0 0 0 []) with params := List.replicate 1021 0 }) = false := by
  decide +kernel
theorem test_wf_auth_flag_without_trailer : Instr.wf (.eventRead 0 (cmdTo 0 0 1 [1])) = false := by decide
theorem test_wf_trailer_without_auth_flag :
    Instr.wf (.eventRead 0 { (cmdTo 0 0 0 [1]) with auth := some { seq := 1, cmac := 0 } }) = false := by decide
theorem test_wf_no_such_channel : Instr.wf (.mailboxServiceAnswer 0 0x022 []) = false := by decide
theorem test_wf_port_word_outside_read :
    Instr.wf (.memWinRead 0 (cmdTo 0 0 0 []) [{ portWord := 196608, write := true, bytes := 0, data := 0 }]) = false := by decide
theorem test_wf_port_word_outside_write :
    Instr.wf (.memWinWrite 0 (cmdTo 0 0 0 []) [{ portWord := 196608, write := true, bytes := 0, data := 0 }]) = false := by decide
theorem test_wf_no_repair : Instr.wf (.bistDone 0 3 true [1, 0]) = false := by decide
theorem test_wf_no_such_instance : Instr.wf (.stateMismatch 0 .lrx 256) = false := by decide
theorem test_wf_more_bad_markers : Instr.wf (.hmiUpdate 0 0 { hmi1 with bad := 2 }) = false := by decide
theorem test_wf_nine_milliseconds : Instr.wf (.txClipping 0 0 (List.replicate 9 300)) = false := by decide
theorem test_wf_ninety_nine_milliseconds : Instr.wf (.txClipCleared 0 0 (List.replicate 99 0)) = false := by decide
theorem test_wf_more_uncorrectable : Instr.wf (.lmiUpdate 0 0 { lmiM with uncorr := 101 }) = false := by decide
theorem test_wf_no_such_cause : Instr.wf (.neighbourDropped 0 0 true 8 0) = false := by decide
theorem test_wf_short_milestone :
    Instr.wf (.milestoneReceived 0 0 { rsOk := true, words := List.replicate 159 0, slots := 0, lag := 0, latency := none }) = false := by
  decide +kernel
theorem test_wf_no_samples : Instr.wf (.captureFillComplete 0 0 [] 0) = false := by decide
theorem test_wf_too_many_samples :
    Instr.wf (.captureFillComplete 0 0 (List.replicate 17408 0) 0) = false ∧
    Instr.wf (.captureFillComplete 0 16 (List.replicate 17408 0) 0) = true := by decide +kernel
theorem test_wf_more_errors_than_bits :
    Instr.wf (.chkLockLost 0 0 { bits := 1, bitErr := 2, symErr := 0, postErr := 0, window := 0 }) = false ∧
    Instr.wf (.patternStart 0 0 { bits := 1, bitErr := 2, symErr := 0, postErr := 0, window := 0 }) = false := by decide
theorem test_wf_more_symbols_than_a_window :
    Instr.wf (.chkLockLost 0 0 { bits := 9, bitErr := 2, symErr := 0, postErr := 0, window := 4097 }) = false := by decide
theorem test_wf_thirty_nine_channels :
    Instr.wf (.hkRound 0 (List.replicate 39 { sum := 0, value := 0, same := true })) = false := by decide +kernel

/-- The outcome is a next state, of which `P` holds. -/
def nextIs (o : Host.Outcome State Fault Refusal) (P : State → Bool) : Bool :=
  match o with
  | .next t => P t
  | _ => false

/-! ## The spec's worked values -/

/-- R43: the check value of the CRC. -/
theorem test_crc_check_value : crc32c [0x31, 0x32, 0x33, 0x34, 0x35, 0x36, 0x37, 0x38, 0x39] = 0xE3069283 := by decide +kernel

/-- 02, worked exchange: STATE_GET to G0 with tag 0x2A. -/
theorem test_worked_packet_words :
    Packet.head { op := 0x03, cls := .grp, cmd := cmdTo 0 0x2A 0 [] } = [0xC5035000, 0x2A000000] := by decide +kernel

/-- 02, worked exchange: 00, 61 04 on MISO as the packet goes in, and one slot fewer once it is in. -/
theorem test_worked_transaction :
    nextIs (exec (.packetWrite 5 (wire { op := 0x03, cls := .grp, cmd := cmdTo 0 0x2A 0 [] })) active) (fun t =>
      t.port.miso == [0x00, 0x61, 0x04] ++ List.replicate 10 0 && t.qfree == 3) = true := by decide +kernel

/-- 02, worked exchange: the record of G0, and 63 03 once its reply waits. -/
theorem test_worked_record :
    (let t := (grpUp 1).stateWord .grp 0 0
     bit t 0 = true ∧ fld t 16 8 = 0) ∧
    ({ active with port := { active.port with replies := [[1]] } } : State).fastStatus = 0x363 := by decide +kernel

/-- 01, worked example: tiling 1 below, the mirror of tiling 3 above. -/
theorem test_worked_tiling : (List.range 8).map (sizeIn (1, 4)) = [4, 0, 0, 0, 1, 1, 2, 0] := by decide

/-- 05, example: preset 3 is −2, −10, 100, −14, −2. -/
theorem test_worked_preset_3 : ltxPreset 3 = some (0xF264F6FE, 0x000000FE) := by decide

/-- 07, example: D of +0.47 gives two fill slots, +0.54 one (D in 1/256). -/
theorem test_worked_justification : fillOf 120 = 2 ∧ fillOf 138 = 1 ∧ fillOf (-100) = 2 := by decide

/-- R323: counters stop at their greatest value. -/
theorem test_saturation : sat64 (2 ^ 64) = 2 ^ 64 - 1 ∧ sat32 (2 ^ 32) = 0xFFFFFFFF := by decide

/-- R376: a sensor at 118.4 °C (1894 in 1/16 °C) makes stage 2. -/
theorem test_worked_stage :
    ((({ active with thm := { active.thm with
        sensors := upd active.thm.sensors 5 fun x => { x with cause := 0, reading := 1894 } } } : State).stageRound
      false).thm.stage) = 2 := by decide +kernel

/-- R306, code 0: PRBS7 from a register of ones begins with six zeros and repeats after 127 bits. -/
theorem test_prbs7 :
    (prbsRun (prbsTaps 0) (List.replicate 7 true) 8) = [false, false, false, false, false, false, true, false] ∧
    ((prbsRun (prbsTaps 0) (List.replicate 7 true) 134).drop 127 = (prbsRun (prbsTaps 0) (List.replicate 7 true) 7)) := by
  decide +kernel

/-- R191, R192: a codeword with fifteen wrong symbols is corrected, one with sixteen is not. -/
theorem test_rs_corrects_fifteen :
    (rsDecode (rsCode 5)).map (·.1) = some 0 ∧
    (rsDecode (rsCode 5 ^^^ BitVec.ofNat 5440 ((List.range 15).foldl (fun a i => a + 3 * 1024 ^ (37 * i)) 0)) = some (15, 5)) ∧
    rsDecode (rsCode 5 ^^^ BitVec.ofNat 5440 ((List.range 16).foldl (fun a i => a + 3 * 1024 ^ (33 * i)) 0)) = none := by
  decide +kernel

/-- R130: the symbols of the bit pairs, by the Gray code. -/
theorem test_gray_code :
    (bitSymbols [false, false, false, true, true, true, true, false] == [0, 1, 2, 3]) = true := by decide +kernel

/-! ## Single steps -/

theorem test_idle : step active = .next active := rfl
theorem test_step_takes_front :
    nextIs (step { active with pending := [.islandHeartbeat 5, .islandHeartbeat 6] }) (fun t =>
      t.pending == [.islandHeartbeat 6] && t.now == 5) = true := by decide +kernel

/-- R382, R384: an analog comparator sets the latch, and only a power cycle clears it. -/
theorem test_latch_stays :
    nextIs (exec (.analogShutdown 5) active) (fun t =>
      t.power.latch && t.power.dev == .shutdown && nextIs (exec (.deviceReset 5) t) fun u => u.power.latch) = true := by
  decide +kernel

/-- R364: MANUFACTURE stops on a debug instruction; any later lifecycle state has BYPASS in its place. -/
theorem test_debug_code :
    (match exec (.debugAccess 5 0x80) active with
     | .refused r => r == .debugInstruction 0x80
     | _ => false) = true ∧
    nextIs (exec (.debugAccess 5 0x80) (life 1 active)) (fun t => t.jtag.ir == .bypass) = true := by decide +kernel

/-- R49, check 12: an out-of-range parameter is BAD_PARAM, with its word index as the payload. -/
theorem test_bad_parameter :
    nextIs (exec (.memTestSet 5 (cmdTo 0 7 0 [9])) active) (fun t =>
      (t.port.replies.map fun r => r.take 1 ++ (r.drop 4).take 1) == [[0x5C23E000, 0]]) = true := by decide +kernel

/-! ## The hypotheses of the general statements are met -/

theorem meets_StepRunsFrontCommand :
    (∃ (c : Instr) (q : List Instr) (s : State), s.pending = c :: q) ∧ ∃ s : State, s.pending = [] :=
  ⟨⟨.islandHeartbeat 5, [], { active with pending := [.islandHeartbeat 5] }, rfl⟩, active, rfl⟩

theorem meets_EveryStepKeepsStatesWellKept : ∃ s t : State, s.kept ∧ step s = .next t :=
  ⟨{ memIn id with pending := [.islandHeartbeat 5] }, _, by decide +kernel, rfl⟩

theorem meets_OnlyAdminSetChangesAdmin :
    ∃ (s t : State) (i : Instr), (∀ d ∈ s.port.deferred, d.op ≠ 0x02) ∧ exec i s = .next t ∧ i = .configDone 5 (cmdTo 0 7 0 []) :=
  ⟨configured, _, .configDone 5 (cmdTo 0 7 0 []), by decide +kernel, rfl, rfl⟩

def squelch (i : Nat) (f : Byte) (ps : List Word) : Packet :=
  { op := BitVec.ofNat 8 specHtxSquelch.op, cls := .htx, cmd := cmdTo i 7 f ps }
def squelchReq (i : Nat) (ps : List Word) : Req :=
  { cls := .htx, inst := i, op := specHtxSquelch.op, tag := 7, params := ps, authed := false, all := [i] }

theorem meets_OnlyOkRepliesAreSuppressed :
    ∃ (s : State) (dt : Nat) (sp : CmdSpec) (p : Packet) (x : Answer), s.takes ∧ (∀ t r, sp.late t r = t) ∧
      (s.taken dt p).perform sp p = some x ∧ x.silent = false ∧ x.st.port.replies = s.port.replies ∧ x.status = .ok ∧
      p.cmd.flags.getLsbD 1 = true :=
  ⟨up .htx 3, 5, specHtxSquelch, squelch 3 2 [1],
    ((up .htx 3).taken 5 (squelch 3 2 [1])).perform specHtxSquelch (squelch 3 2 [1]) |>.get (by decide +kernel),
    by decide +kernel, fun _ _ => rfl, (Option.some_get _).symm, by decide +kernel, by decide +kernel, by decide +kernel,
    by decide +kernel⟩

theorem meets_RefusedCommandsChangeNothing_dropped :
    ∃ (s : State) (p : Packet), s.ready = true ∧ s.scanHolds = false ∧ s.port.replies.length + s.port.waiting.length = 4 ∧
      s.port.waiting.head? ≠ some (.good p) ∧
      ∀ q ∈ s.port.waiting.head?, ∃ p, q = .good p ∧ opDefined p.cls p.op.toNat = true :=
  ⟨{ active with port := { active.port with replies := [[1], [2], [3], [4]] } }, squelch 3 0 [1], by decide +kernel,
    by decide +kernel, by decide +kernel, by decide +kernel, fun q h => by cases (show q ∈ (none : Option Waiting) from h)⟩

/-- What the clauses of the statement ask of every command: a packet to one HTX unit, of HTX_SQUELCH. -/
abbrev asked (s : State) (i : Nat) (f : Byte) (ps : List Word) : Prop :=
  s.takes ∧ specHtxSquelch.op < 256 ∧ i < 0x100 ∧ specHtxSquelch.groupCmd = false ∧
  specHtxSquelch.isl (s.taken 5 (squelch i f ps)) { squelchReq i ps with all := [] } =
    specHtxSquelch.isl (s.taken 5 (squelch i f ps)) (squelchReq i ps) ∧
  (specHtxSquelch.isl (s.taken 5 (squelch i f ps)) (squelchReq i ps)).any s.comingUp = false

theorem meets_RefusedCommandsChangeNothing_avail :
    ∀ q, specHtxSquelch.avail (active.taken 5 (squelch 3 0 [1])) q =
      if active.anyRun then none else some (active.recOf .dev 0).reason := by
  intro q
  simp only [specHtxSquelch, availRun]
  decide +kernel

theorem meets_RefusedCommandsChangeNothing_early :
    (∃ s i f ps, asked s i f ps ∧ s.power.dev = .shutdown) ∧
    (∃ s i f ps, asked s i f ps ∧ s.power.dev ≠ .shutdown ∧ i ∉ instances .htx) ∧
    (∃ s i f ps, asked s i f ps ∧ s.power.dev ≠ .shutdown ∧ i ∈ instances .htx ∧ specHtxSquelch.accepts .htx i = true ∧
      s.anyRun = false) ∧
    (∃ s i f ps, asked s i f ps ∧ s.anyRun = true ∧ i ∈ instances .htx ∧ s.owned = true ∧ 0x80 ≤ specHtxSquelch.op ∧
      s.permit 1 = false) :=
  ⟨⟨{ State.reset with power := { State.reset.power with dev := .shutdown, latch := true } }, 3, 0, [1], by decide +kernel⟩,
   ⟨active, 30, 0, [1], by decide +kernel⟩, ⟨ready1, 15, 0, [1], by decide +kernel⟩, ⟨life 2 active, 0, 0, [1], by decide +kernel⟩⟩

theorem meets_RefusedCommandsChangeNothing_late :
    (∃ s i f ps, let v := s.taken 5 (squelch i f ps); let r := squelchReq i ps
      asked s i f ps ∧ s.anyRun = true ∧ v.level specHtxSquelch r = none ∧ specHtxSquelch.count v r = false) ∧
    (∃ s i f ps, let v := s.taken 5 (squelch i f ps); let r := squelchReq i ps
      asked s i f ps ∧ v.level specHtxSquelch r = none ∧ specHtxSquelch.count v r = true ∧ specHtxSquelch.bad v r = some 0) ∧
    (∃ s i f ps, let v := s.taken 5 (squelch i f ps); let r := squelchReq i ps
      asked s i f ps ∧ v.level specHtxSquelch r = none ∧ specHtxSquelch.count v r = true ∧ specHtxSquelch.bad v r = none ∧
      specHtxSquelch.off = true ∧ ∃ k ∈ specHtxSquelch.isl v r, s.islandOn k = false) ∧
    (∃ s i f ps, let v := s.taken 5 (squelch i f ps); let r := squelchReq i ps
      asked s i f ps ∧ specHtxSquelch.bad v r = none ∧ (∀ k ∈ specHtxSquelch.isl v r, s.islandOn k = true) ∧
      specHtxSquelch.failed = true ∧ ∃ k ∈ specHtxSquelch.isl v r, s.islandFailed k = true ∨ s.islandHeld k = true) ∧
    (∃ s i f ps, let v := s.taken 5 (squelch i f ps); let r := squelchReq i ps
      asked s i f ps ∧ specHtxSquelch.bad v r = none ∧
      (∀ k ∈ specHtxSquelch.isl v r, s.islandOn k = true ∧ s.islandFailed k = false ∧ s.islandHeld k = false) ∧
      specHtxSquelch.test = true ∧ (∃ k ∈ specHtxSquelch.isl v r, s.underTest k = true) ∧ f.getLsbD 2 = true ∧
      s.deferredOf .htx i < 4) ∧
    (∃ s i f ps, let v := s.taken 5 (squelch i f ps); let r := squelchReq i ps
      asked s i f ps ∧ specHtxSquelch.bad v r = none ∧ v.unitCheck specHtxSquelch r = none ∧
      (specHtxSquelch.cond v r).any (fun e => e.status != .ok && e.status != .busySelftest) = true) :=
  ⟨⟨active, 3, 0, [], by decide +kernel⟩, ⟨active, 3, 0, [2], by decide +kernel⟩,
   ⟨{ up .htx 3 with dom := { active.dom with powered := 0 } }, 3, 0, [1], by decide +kernel⟩,
   ⟨{ up .htx 3 with dom := { active.dom with failed := BitVec.allOnes _ } }, 3, 0, [1], by decide +kernel⟩,
   ⟨{ up .htx 3 with bist := .replicate 78 { bistReset with phase := .running } }, 3, 4, [1], by decide +kernel⟩,
   ⟨active, 3, 0, [1], by decide +kernel⟩⟩

theorem meets_RefusedCommandsChangeNothing_trailer :
    ∃ (s : State) (a : Auth), asked s 3 0 [1] ∧ s.anyRun = true ∧ 3 ∈ instances .htx ∧
      s.verifies { squelch 3 0 [1] with cmd := { (squelch 3 0 [1]).cmd with auth := some a } } a = false :=
  ⟨active, { seq := 3, cmac := 4 }, by decide +kernel⟩

/-! ## The hypotheses of the other statements are met: the number after a name tells its witnesses apart. A fact that rests on a
primitive of Config, of which nothing can be proved, is a premise. -/

theorem meets_HandshakesFailByTheirRules_idle :
    ∃ (s : State) (g : Fin 8) (m : List Word), msgOk 7 m = true ∧ s.seals[g].hs.phase = .idle :=
  ⟨keyed, 0, msgHeader 7 32 3 ++ [5, 0, 0, 0], by decide +kernel⟩

theorem meets_CalibrationProceeds_starved :
    ∃ (s : State) (n : Fin 24) (shares : Vector Byte 4),
      let lane : Fin 48 := ⟨n.val, by omega⟩
      (calIslands lane).all s.islandOn = true ∧ (calIslands lane).any s.underTest = false ∧
      (∃ i : Fin 4, shares[i].toNat < 20 ∧ ∀ j : Fin 4, j < i → 20 ≤ shares[j].toNat) ∧ s.cal.lanes[lane].starved = false :=
  ⟨up .cal 0, 3, #v[20, 20, 19, 4], by decide +kernel⟩

theorem meets_CheckersAndInjectorsRun_host :
    ∃ (s : State) (i : Fin 24) (n : Fin 16) (seen : CheckSeen), s.tstLive i = true ∧ s.tst[i].chk = true ∧
      s.tst[i].locked = false ∧ s.tst[i].locksOn seen = true ∧ i.val = n.val ∧ s.hrx[n].sd = true ∧
      s.laneFg (8 + n) = false ∧ s.tst[i].framed = false :=
  ⟨tstUp 3 fun t => { t with cfg := 2 }, 3, 3, seen1, by decide +kernel⟩

theorem meets_CheckersAndInjectorsRun_line :
    ∃ (s : State) (i : Fin 24) (l : Fin 8) (seen : CheckSeen), s.tstLive i = true ∧ s.tst[i].chk = true ∧
      s.tst[i].locked = false ∧ s.tst[i].locksOn seen = true ∧ i.val = 16 + l.val ∧ s.lrx[l].sd = true ∧ s.laneFg l = false :=
  ⟨tstUp 20 fun t => { t with cfg := 2 }, 20, 4, seen1, by decide +kernel⟩

theorem meets_TestCommandsTakeEffect_host :
    ∃ (s : State) (i : Fin 24) (n : Fin 16) (w : Word), s.takes ∧ s.anyRun = true ∧ s.workable (unitIslands .tst i) ∧
      s.allows .expert ∧ clear w 10 = true ∧ w ≠ 0 ∧ s.tst[i].manual = true ∧ i.val = n.val ∧ s.admin .hrx n = .test :=
  ⟨{ tstIn 3 (fun t => { t with cfg := 0x1000, slip := 65535 }) with power := maint.power }, 3, 3, 2, by decide +kernel⟩

theorem meets_PowerAndResetClearTheDevice_latched : ∃ s : State, s.power.latch = true :=
  ⟨{ State.reset with power := { State.reset.power with dev := .shutdown, latch := true } }, by decide +kernel⟩

theorem meets_HostTransmitterCommandsTakeEffect_1 :
  ∃ (s : State) (n : Fin 16) (w : Word), s.serves Level.basic (unitIslands Cls.htx n.val) ∧ clear w 2 = true ∧ s.isUp Cls.htx
    n.val = true ∧ s.allows Level.expert ∧ clear w 1 = true :=
  ⟨up .htx 3, 3, 1, by decide +kernel⟩

theorem meets_HostTransmitterCommandsTakeEffect_2 :
  ∃ (s : State) (n : Fin 16) (w : Word), s.serves Level.basic (unitIslands Cls.htx n.val) ∧ clear w 2 = true ∧ fld w 0 2 ≠ 3 ∧
    s.admin Cls.htx n.val ≠ Admin.up :=
  ⟨active, 15, 2, by decide +kernel⟩

theorem meets_HostTransmitterCommandsTakeEffect_3 :
  ∃ (s : State) (n : Fin 16) (w : Word) (w1 : Word) (w2 : Word), s.serves Level.basic (unitIslands Cls.htx n.val) ∧ s.allows
    Level.expert ∧ firstBad (firChecks w w1 w2 0) = none ∧ s.admin Cls.htx n.val = Admin.test :=
  ⟨test .htx 0, 0, 0x30000000, 0, 0, by decide +kernel⟩

theorem meets_HostReceiverCommandsTakeEffect_1 :
  ∃ (s : State) (n : Fin 16) (w : Word), s.serves Level.basic (unitIslands Cls.hrx n.val) ∧ clear w 1 = true ∧ clear w
    2 = true ∧ s.admin Cls.hrx n.val = Admin.test ∧ s.allows Level.expert ∧ s.admin Cls.hrx n.val ≠ Admin.up ∧ clear w
    10 = true ∧ w ≠ 0 :=
  ⟨test .hrx 0, 0, 1, by decide +kernel⟩

theorem meets_HostReceiverCommandsTakeEffect_2 :
  ∃ (s : State) (n : Fin 16) (w : Word), s.serves Level.basic (unitIslands Cls.hrx n.val) ∧ clear w 2 = true ∧ s.admin Cls.hrx
    n.val = Admin.down :=
  ⟨active, 15, 1, by decide +kernel⟩

theorem meets_HostReceiverCommandsTakeEffect_3 :
  ∃ (s : State) (n : Fin 16) (w : Word), s.serves Level.basic (unitIslands Cls.hrx n.val) ∧ s.allows Level.expert ∧ s.admin
    Cls.hrx n.val = Admin.test ∧ fld w 0 8 ≤ 20 ∧ fld w 8 8 ≤ 63 ∧ 2 ≤ fld w 24 4 ∧ fld w 24 4 ≤ 8 ∧ clear w 28 = true ∧
    (fld w 16 8 = 0 ∨ bit (s.hrxEntry s.hrx[n].profile n.val 0) 26 = true) :=
  ⟨test .hrx 5, 5, 0x08003F14, by decide +kernel⟩

theorem meets_BoardTableLoadsWhole_1 :
  ∃ (s : State) (tab : List Word), s.serves Level.basic [] ∧ 1 ≤ tab.length ∧ tab.length ≤ 1020 ∧ firstBad
    (boardChecks tab) = none ∧ s.power.dev ≠ DevState.config ∧
    (∀ (n : Fin 16), s.isUp Cls.hrx n.val = false ∧ s.isUp Cls.htx n.val = false) :=
  ⟨active, boardTable, by decide +kernel⟩

theorem meets_BoardTableLoadsWhole_2 :
  ∃ (s : State) (tab : List Word), s.serves Level.basic [] ∧ 1 ≤ tab.length ∧ tab.length ≤ 1020 ∧ firstBad
    (boardChecks tab) = none ∧ s.power.dev = DevState.config ∧ s.stepDone 1 = true ∧ s.stepDone 2 = true ∧ s.setup.step ≤ 4 :=
  ⟨config, boardTable, by decide +kernel⟩

theorem meets_HostReceiverEventsTakeEffect_1 :
  ∃ (s : State) (n : Fin 16) (m : HrxAcq) (u : HmiMeasure), s.hrxLive n = true ∧ s.isUp Cls.hrx n.val = true ∧
    s.hrx[n].sd = true ∧ s.laneFg (8 + n.val) = false ∧ s.symChk n.val = false ∧ (s.hrx[n].amLock && s.hrx[n].timing) = false ∧
    (m.inverted = s.startPol n ∨ s.searches n = true) ∧ s.hrx[n].amLock = false ∧ s.searches n = true ∧
    (s.hrx[n].timing = true ∨ u.locked = true ∧ s.hrx[n].sd = true ∧ s.laneFg (8 + n.val) = false) ∧ bit
    (s.hrxEntry s.hrx[n].profile n.val 0) 27 = false ∧ bit (s.hrxEntry s.hrx[n].profile n.val 0) 26 = false :=
  ⟨(up .hrx 4).setHrx 4 fun h => {h with sd := true, pol := 3}, 4, {hrxAcq with skew := 18001, inverted := true}, hmi1,
    by decide +kernel⟩

theorem meets_HostReceiverEventsTakeEffect_2 :
  ∃ (s : State) (n : Fin 16) (u : HmiMeasure), s.hrxLive n = true ∧ s.isUp Cls.hrx n.val = true ∧ s.hrx[n].timing = false ∧
    (u.locked = false ∨ s.hrx[n].sd = false ∨ s.laneFg (8 + n.val) = true) ∧ s.hrx[n].lowMargin = false ∧
    10 ≤ s.hrx[n].lowCount :=
  ⟨(up .hrx 4).setHrx 4 fun h => {h with lowCount := 10}, 4, hmi1, by decide +kernel⟩

theorem meets_HostReceiverEventsTakeEffect_3 :
  ∃ (s : State) (n : Fin 16) (bad : Nat), s.hrxLive n = true ∧ s.isUp Cls.hrx n.val = true ∧ s.hrx[n].amLock = true ∧
    4 ≤ bad :=
  ⟨(up .hrx 4).setHrx 4 fun h => {h with sd := true, timing := true, amLock := true}, 4, 4, by decide +kernel⟩

theorem meets_HostReceiverEventsTakeEffect_4 :
  ∃ (s : State) (n : Fin 16), s.hrxLive n = true ∧ s.isUp Cls.hrx n.val = true ∧ s.hrx[n].lowMargin = true ∧
    10 ≤ s.hrx[n].okCount :=
  ⟨(up .hrx 4).setHrx 4 fun h => {h with lowMargin := true, okCount := 10}, 4, by decide +kernel⟩

theorem meets_RecordsAreReadWithoutEffect_1 :
  ∃ (s : State) (c : Cls) (i : Nat), s.takes ∧ i ∈ instances c ∧ (c = Cls.dev ∨ s.anyRun = true) ∧
    (c = Cls.mbx → hostSide i = false) ∧ s.power.dev ≠ DevState.shutdown ∧ hostOpen c i = true :=
  ⟨up .lrx 7, .lrx, 7, by decide +kernel⟩

theorem meets_AdminSetChangesOneUnit_1 :
  ∃ (s : State) (c : Cls) (i : Nat) (a : Admin), s.takes ∧ i ∈ instances c ∧ adminTaken c a = true ∧
    (c = Cls.mbx → hostSide i = false) ∧ hostOpen c i = true ∧
    (s.power.dev = DevState.active ∨ s.power.dev = DevState.config ∧ (a = Admin.down ∨ carriesTraffic c = false) ∨ s.power.dev = DevState.sleep ∧ a = Admin.down ∧ c ≠ Cls.dev ∨ s.power.dev = DevState.maint ∧ (a = Admin.down ∨ c ≠ Cls.grp)) ∧
    (a = Admin.down ∨ c = Cls.thm ∨ s.sound (unitIslands c i) ∧ (adminPowers c = false → ∀ k ∈ unitIslands c i, s.islandOn k = true)) ∧
    (c = Cls.dev → if a = Admin.up then s.power.dev = DevState.config → s.missingStep 7 = none ∧ s.setup.step ≤ 7 else s.power.dev = DevState.config) ∧
    (c = Cls.grp → a ≠ Admin.down → s.gsize i ≠ 0 ∧ s.grp[lineLane i].mode ≠ 0) ∧
    (c = Cls.seal → a ≠ Admin.down → s.grp[lineLane i].mode = 3) ∧ (c = Cls.tst → a = Admin.up → s.tstUpRefused i = none) :=
  ⟨active, .hrx, 3, .up, by decide +kernel, by decide +kernel, by decide +kernel, by decide +kernel, by decide +kernel,
    by decide +kernel, by decide +kernel, by decide +kernel, by decide +kernel, by decide +kernel, by decide +kernel⟩

theorem meets_CountersAreReadAndCleared_1 :
  ∃ (s : State) (c : Cls) (i : Nat) (w : Word), s.takes ∧ i ∈ instances c ∧ s.anyRun = true ∧ s.allows Level.counter ∧
    (c = Cls.mbx → hostSide i = false) ∧
    (c = Cls.thm ∨ s.sound (unitIslands c i) ∧ (c ≠ Cls.ltx → ∀ k ∈ unitIslands c i, s.islandOn k = true)) ∧ clear w 1 = true ∧
    hostOpen c i = true :=
  ⟨active, .hrx, 3, 1, by decide +kernel⟩

theorem meets_MasksAndUserGroupsAreSet_1 :
  ∃ (s : State) (c : Cls) (i : Nat) (m : BitVec 128), s.takes ∧ s.anyRun = true ∧ i ∈ instances c ∧
    (c = Cls.mbx → hostSide i = false) ∧ hostOpen c i = true ∧ hasGroups c = true ∧
    (∀ (b : Fin 128), m.getLsbD b.val = true → ∃ i ∈ instances c, maskBit i = b.val) :=
  ⟨active, .ltx, 2, 0x81, by decide +kernel⟩

theorem meets_PresetApplyTakesEffect_1 :
  ∃ (s : State) (w : Word) (n : Fin 16) (l : Fin 8) (a : Word) (b : Word), s.takes ∧ s.anyRun = true ∧ clear w 8 = true ∧
    s.sound (unitIslands Cls.hrx n.val) ∧ (fld w 0 8 = 255 ∨ fld w 0 8 < 4 ∧ fld w 0 8 < s.profiles) ∧ s.board ≠ [] ∧ s.admin
    Cls.hrx n.val = Admin.down ∧ s.sound (unitIslands Cls.htx n.val) ∧ s.admin Cls.htx n.val = Admin.down ∧ s.sound
    (unitIslands Cls.ltx l.val) ∧ ltxPreset (fld w 0 8) = some (a, b) ∧ s.sound (unitIslands Cls.lrx l.val) ∧ fld w 0 8 < 4 ∧
    s.workable [75] :=
  ⟨{ active with board := boardTable }, 0, 4, 7, ((ltxPreset 0).getD (0,0)).1, ((ltxPreset 0).getD (0,0)).2, by decide +kernel⟩

theorem meets_PresetApplyTakesEffect_2 :
  ∃ (s : State) (w : Word) (n : Fin 16), s.takes ∧ s.anyRun = true ∧ clear w 8 = true ∧ s.sound (unitIslands Cls.hrx n.val) ∧
    (fld w 0 8 = 255 ∨ fld w 0 8 < 4 ∧ fld w 0 8 < s.profiles) ∧ s.board ≠ [] ∧ s.admin Cls.hrx n.val = Admin.test ∧ s.sound
    (unitIslands Cls.htx n.val) ∧ s.admin Cls.htx n.val = Admin.test :=
  ⟨{ active with board := boardTable, units := (active.units.map fun u => {u with admin := .test}) }, 0xFF, 4,
    by decide +kernel⟩

theorem meets_LineTransmitterChangesStageOrApply_1 :
  ∃ (s : State) (l : Fin 8) (w : Word) (a : Word) (b : Word) (c : Word) (ps : Vector Word 17), s.takes ∧ s.anyRun = true ∧
    s.sound (unitIslands Cls.ltx l.val) ∧ clear w 7 = true ∧ fld w 0 7 ≤ 100 ∧ s.allows Level.expert ∧ firstBad
    (shapeChecks a b c) = none ∧ clear ps[0] 1 = true ∧
    (∀ (k : Fin 17), k ≠ 0 → ∀ j < 4, -32 ≤ signed 8 (fld ps[k] (8 * j) 8) ∧ signed 8 (fld ps[k] (8 * j) 8) ≤ 31) :=
  ⟨active, 2, 100, 0x007F0000, 0, 0x1FE01FE0, .replicate 17 0, by decide +kernel⟩

theorem meets_LineTransmitterSettingsTakeEffect_1 :
  ∃ (s : State) (l : Fin 8) (w : Word), s.takes ∧ s.anyRun = true ∧ s.sound (unitIslands Cls.ltx l.val) ∧ clear w 1 = true ∧
    s.admin Cls.ltx l.val ≠ Admin.up ∧ s.allows Level.expert ∧ fld w 5 3 = 0 ∧ fld w 14 2 = 0 ∧ clear w 20 = true :=
  ⟨active, 2, 1, by decide +kernel⟩

theorem meets_LineTransmitterSettingsTakeEffect_2 :
  ∃ (s : State) (l : Fin 8) (ms : List Nat), (s.ltx[l].driving = true ∨ s.ltxContent l = 2) ∧ s.ltx[l].clipping = false ∧
    ms.length = 10 ∧ (∀ n ∈ ms, 227 < n) :=
  ⟨{ up .ltx 2 with ltx := upd active.ltx 2 fun x => { x with driving := true } }, 2, .replicate 10 228, by decide +kernel⟩

theorem meets_LineTransmitterSettingsTakeEffect_3 :
  ∃ (s : State) (l : Fin 8) (ms : List Nat), s.ltx[l].clipping = true ∧ ms.length = 100 ∧ (∀ n ∈ ms, n ≤ 227) :=
  ⟨{ up .ltx 2 with ltx := upd active.ltx 2 fun x => { x with driving := true, clipping := true } }, 2, .replicate 100 227,
    by decide +kernel⟩

theorem meets_SignalAndTimingLockComeAndGo_1 :
  ∃ (s : State) (n : Fin 16) (l : Fin 8), s.hrxLive n = true ∧ s.hrx[n].sd = true ∧ s.isUp Cls.hrx n.val = true ∧
    s.hrx[n].timing = true ∧ s.lrxLive l = true ∧ s.lrx[l].sd = false :=
  ⟨(up .hrx 3).setHrx 3 fun h => {h with sd := true, timing := true}, 3, 4, by decide +kernel⟩

theorem meets_SignalAndTimingLockComeAndGo_2 :
  ∃ (s : State) (n : Fin 16) (l : Fin 8), s.hrxLive n = true ∧ s.hrx[n].sd = false ∧ s.lrxLive l = true ∧ s.lrx[l].sd = true ∧
    s.isUp Cls.lrx l.val = true ∧ s.lrx[l].timing = true :=
  ⟨lrxUpIn fun r => {r with fade := some fade1}, 3, 4, by decide +kernel⟩

theorem meets_LineReceiverIsRead_1 :
  ∃ (s : State) (l : Fin 8) (w : Word), s.takes ∧ s.anyRun = true ∧ s.workable (unitIslands Cls.lrx l.val) ∧ clear w 1 = true ∧
    s.allows Level.expert :=
  ⟨lrxUpIn fun r => {r with fade := some fade1}, 4, 1, by decide +kernel⟩

theorem meets_LineReceiverCommandsTakeEffect_1 :
  ∃ (s : State) (l : Fin 8) (w : Word) (b : Bank), s.takes ∧ s.anyRun = true ∧ s.sound (unitIslands Cls.lrx l.val) ∧ -32 ≤ sfld
    w 0 12 ∧ sfld w 0 12 ≤ 96 ∧ fld w 14 2 ≠ 3 ∧ clear w 20 = true ∧ s.workable (unitIslands Cls.lrx l.val) ∧ clear w
    1 = true ∧ s.isUp Cls.lrx l.val = true ∧ s.allows Level.expert ∧ s.lrx[l].fade = none ∧ s.lrx[l].frozen = true ∧
    (s.operLrx l).1.carries = true ∧ firstBad (bankChecks (bankWord b)) = none ∧ fld w 0 1 ≠ s.lrx[l].active.val ∧ clear w
    2 = true ∧ clear w 8 = true ∧ w ≠ 0 :=
  ⟨lrxUpIn fun r => {r with frozen := true}, 4, 1, bankReset, by decide +kernel⟩

theorem meets_LineReceiverCommandsTakeEffect_2 :
  ∃ (s : State) (l : Fin 8) (w : Word), s.takes ∧ s.anyRun = true ∧ s.sound (unitIslands Cls.lrx l.val) ∧ fld w 0 5 ≤ 30 ∧ fld
    w 5 3 = 0 ∧ fld w 8 2 ≠ 3 ∧ clear w 11 = true ∧ s.admin Cls.lrx l.val = Admin.test ∧ s.workable
    (unitIslands Cls.lrx l.val) ∧ s.allows Level.expert ∧ fld w 0 8 ≤ 104 ∧ fld w 8 8 ≤ 36 ∧ clear w 17 = true :=
  ⟨{ lrxUp with units := (test .lrx 4).units }, 4, 0x41E, by decide +kernel⟩

theorem meets_LineReceiverCommandsTakeEffect_3 :
  ∃ (s : State) (l : Fin 8) (w : Word), s.takes ∧ s.anyRun = true ∧ s.sound (unitIslands Cls.lrx l.val) ∧ fld w 0 5 ≤ 30 ∧ fld
    w 5 3 = 0 ∧ fld w 8 2 ≠ 3 ∧ clear w 11 = true ∧ s.admin Cls.lrx l.val = Admin.down :=
  ⟨active, 4, 0x21E, by decide +kernel⟩

theorem meets_LineReceiverCommandsTakeEffect_4 :
  ∃ (s : State) (l : Fin 8) (w : Word) (d : Fade), s.takes ∧ s.anyRun = true ∧ s.workable (unitIslands Cls.lrx l.val) ∧
    s.allows Level.expert ∧ clear w 1 = true ∧ s.lrx[l].fade = some d :=
  ⟨lrxUpIn fun r => {r with round := some round1, fade := some fade1, hostTrial := some 4}, 4, 1, fade1, by decide +kernel⟩

theorem meets_LineReceiverMeasuresAndAcquires_1 :
  ∃ (s : State) (l : Fin 8) (m : LmiMeasure), s.lrxLive l = true ∧ s.lrx[l].afe.driven = false ∧ 100 ≤ s.lrx[l].afe.hotRun ∧
    s.isUp Cls.lrx l.val = true ∧ (s.lrx[l].timing = true ∨ m.locked = true ∧ s.lrx[l].sd = true ∧ s.laneFg l.val = false) ∧
    (BitVec.toInt m.freq).natAbs ≤ 30000 ∧ s.lrx[l].lmi.lowMargin = false ∧ 10 ≤ s.lrx[l].lmi.lowCount :=
  ⟨lrxUpIn fun r => {r with afe := {r.afe with hotRun := 100}, lmi := {r.lmi with lowCount := 10}}, 4, lmiM, by decide +kernel⟩

theorem meets_LineReceiverMeasuresAndAcquires_2 :
  ∃ (s : State) (l : Fin 8) (m : LmiMeasure), s.lrxLive l = true ∧ s.isUp Cls.lrx l.val = true ∧ s.lrx[l].timing = false ∧
    (m.locked = false ∨ s.lrx[l].sd = false ∨ s.laneFg l.val = true ∨ (BitVec.toInt m.freq).natAbs > 30000) ∧
    s.lrx[l].sd = true ∧ s.laneFg l.val = false ∧ s.lrx[l].acquired = false ∧ s.lineLock l = false ∧ s.lrx[l].polSet = 2 :=
  ⟨lrxIn fun r => {r with sd := true}, 4, {lmiM with locked := false}, by decide +kernel⟩

theorem meets_LineReceiverMeasuresAndAcquires_3 :
  ∃ (s : State) (l : Fin 8) (q : LrxAcq), s.lrxLive l = true ∧ s.isUp Cls.lrx l.val = true ∧ s.lrx[l].sd = true ∧ s.laneFg
    l.val = false ∧ s.lrx[l].acquired = false ∧ s.lineLock l = true ∧ q.found = true ∧ q.inverted = s.lrx[l].inverted ∧
    (BitVec.toInt q.freq).natAbs ≤ 30000 ∧ s.lrx[l].warm = false ∧ 100 ≤ s.lrx[l].confirm ∧ firstBad
    (bankChecks (bankWord q.bank)) = none ∧
    (s.lrx[l].afe.held = true ∨ 1 ≤ s.lrx[l].preset ∧ s.lrx[l].preset ≤ 3 ∨ q.ctle ∈ [9, 18, 27, 36]) :=
  ⟨{lrxUpIn (fun r => {r with acquired := false, confirm := 100}) with now := 100000}, 4, lrxAcq, by decide +kernel⟩

theorem meets_LineReceiverMeasuresAndAcquires_4 :
  ∃ (s : State) (l : Fin 8) (q : LrxAcq), s.lrxLive l = true ∧ s.isUp Cls.lrx l.val = true ∧ s.lrx[l].sd = true ∧ s.laneFg
    l.val = false ∧ s.lrx[l].acquired = false ∧ s.lineLock l = true ∧ q.found = true ∧ q.inverted = s.lrx[l].inverted ∧
    (BitVec.toInt q.freq).natAbs ≤ 30000 ∧ s.lrx[l].warm = true ∧ 10 ≤ s.lrx[l].confirm ∧ s.lrx[l].warn - 16 ≤ Max.max (-128)
    (Min.min 256 q.lmi) :=
  ⟨{lrxUpIn (fun r => {r with acquired := false, confirm := 10, warm := true}) with now := 100000}, 4, lrxAcq,
    by decide +kernel⟩

theorem meets_LineReceiverMeasuresAndAcquires_5 :
  ∃ (s : State) (l : Fin 8) (q : LrxAcq), s.lrxLive l = true ∧ s.isUp Cls.lrx l.val = true ∧ s.lrx[l].sd = true ∧ s.laneFg
    l.val = false ∧ s.lrx[l].acquired = false ∧ s.lrx[l].warm = true ∧
    (q.found = false ∨ 10 ≤ s.lrx[l].confirm ∧ Max.max (-128) (Min.min 256 q.lmi) < s.lrx[l].warn - 16) :=
  ⟨{lrxUpIn (fun r => {r with acquired := false, confirm := 10, warm := true}) with now := 100000}, 4, {lrxAcq with lmi := -1},
    by decide +kernel⟩

theorem meets_LineReceiverMeasuresAndAcquires_6 :
  ∃ (s : State) (l : Fin 8), s.lrxLive l = true ∧ s.isUp Cls.lrx l.val = true ∧ s.lrx[l].lmi.lowMargin = true ∧
    10 ≤ s.lrx[l].lmi.okCount :=
  ⟨lrxUpIn fun r => {r with lmi := {r.lmi with okCount := 10, lowMargin := true}}, 4, by decide +kernel⟩

theorem meets_LineReceiverMeasuresAndAcquires_7 :
  ∃ (s : State) (l : Fin 8) (m : LmiMeasure), s.lrxLive l = true ∧ s.isUp Cls.lrx l.val = true ∧ s.lrx[l].timing = true ∧
    s.lrx[l].sd = true ∧ 30000 < (BitVec.toInt m.freq).natAbs :=
  ⟨lrxUp, 4, {lmiM with freq := 30001}, by decide +kernel⟩

theorem meets_AdaptationAndFadesRun_1 :
  ∃ (s : State) (l : Fin 8) (hi : Bool) (o : BitVec 16) (b : Bank) (n : Fin 8) (cause : Nat) (x : Round), s.lrxLive l = true ∧
    neighbour l hi = some n ∧ s.lrx[l].sides[sideIx hi].gated = false ∧ cause ≠ 0 ∧ cause ≠ 4 ∧ s.sideCause l hi = cause ∧
    (o.toInt < -25000 ∨ 25000 < o.toInt) ∧ s.ccRuns = true ∧ s.lrx[l].round = some x ∧ x.trial = false ∧ firstBad
    (bankChecks (bankWord (Vector.set b 0 (bankWord s.lrx[l].standby 0) (by decide)))) = none :=
  ⟨lrxUpIn fun r => {r with sides := r.sides.map fun x => {x with gated := false}, round := some round1}, 4, true, 25001,
    bankReset, 5, 1, round1, by decide +kernel⟩

theorem meets_AdaptationAndFadesRun_2 :
  ∃ (s : State) (dt : Nat) (l : Fin 8) (e : Nat) (d : Fade), s.lrxLive l = true ∧ s.ccRuns = true ∧ s.lrx[l].hostTrial = some
    e ∧ e ≤ s.now + dt ∧ s.lrx[l].fade = some d ∧ d.step < 255 :=
  ⟨lrxUpIn fun r => {r with hostTrial := some 5, fade := some fade1}, 5, 4, 5, fade1, by decide +kernel⟩

theorem meets_AdaptationAndFadesRun_3 :
  ∃ (s : State) (l : Fin 8), s.lrxLive l = true ∧ s.ccRuns = true ∧ (s.operLrx l).1.carries = true ∧ s.lrx[l].frozen = false ∧
    s.lrx[l].fade = none ∧ s.lrx[l].round = none ∧ s.lrx[l].hostTrial = none :=
  ⟨lrxUp, 4, by decide +kernel⟩

theorem meets_AdaptationAndFadesRun_4 :
  ∃ (s : State) (l : Fin 8) (x : Round), s.lrxLive l = true ∧ s.ccRuns = true ∧ s.lrx[l].round = some x ∧ x.trial = true ∧
    s.sideOk l false = x.avail.1 ∧ s.sideOk l true = x.avail.2 ∧ x.move = none :=
  ⟨lrxUpIn fun r => {r with round := some {round1 with trial := true}}, 4, {round1 with trial := true}, by decide +kernel⟩

theorem meets_AdaptationAndFadesRun_5 :
  ∃ (s : State) (l : Fin 8) (d : Fade), s.lrxLive l = true ∧ s.lrx[l].fade = some d ∧ 255 ≤ d.step :=
  ⟨lrxUpIn fun r => {r with fade := some {fade1 with step := 255}}, 4, {fade1 with step := 255}, by decide +kernel⟩

theorem meets_AdaptationAndFadesRun_6 :
  ∃ (s : State) (l : Fin 8) (hi : Bool) (x : Round), s.lrxLive l = true ∧ s.ccRuns = true ∧ s.lrx[l].round = some x ∧
    x.trial = true ∧ s.lrx[l].sides[sideIx hi].gated = true ∧ s.sideOk l hi = true ∧
    ((if hi = true then x.avail.2 else x.avail.1) = false) :=
  ⟨{lrxUpIn (fun r => {r with round := some {round1 with trial := true}, sides := r.sides.map fun x => {x with gated := true}}) with units := ((up .lrx 4).setAdmin .lrx 5 .up).units, lrx := upd (lrxUpIn (fun r => {r with round := some {round1 with trial := true}, sides := r.sides.map fun x => {x with gated := true}})).lrx 5 fun r => {r with sd := true, timing := true, acquired := true}},
    4, true, {round1 with trial := true}, by decide +kernel⟩

theorem meets_PowerAndResetClearTheDevice_1 :
  ∃ (s : State) (rails : BitVec 12), s.power.powered = true ∧ s.power.latch = false ∧ rails ≠ 0 ∧ s.power.pinLow = true ∧
    s.power.railsLow ≠ 0 :=
  ⟨railLow active true, 3, by decide +kernel⟩

theorem meets_PowerAndResetClearTheDevice_2 :
  ∃ (s : State), s.takes ∧ s.power.dev ≠ DevState.shutdown :=
  ⟨secretive active, by decide +kernel⟩

theorem meets_PowerAndResetClearTheDevice_3 :
  ∃ (s : State), s.power.powered = true ∧ s.power.latch = false ∧ s.power.pinLow = false ∧ s.power.railsLow ≠ 0 :=
  ⟨railLow active false, by decide +kernel⟩

theorem meets_PowerAndResetClearTheDevice_4 :
  ∃ (s : State), s.power.powered = true ∧ s.power.latch = false ∧ s.power.pinLow = true ∧ s.power.railsLow = 0 :=
  ⟨{railLow active true with power := {(railLow active true).power with railsLow := 0}}, by decide +kernel⟩

theorem meets_FirmwareIsLoadedAndStarted_1 :
  ∃ (s : State) (w : Word), s.takes ∧ s.power.dev = DevState.ready ∧ 65536 ≤ BitVec.toNat w ∧ BitVec.toNat w ≤ 2097152 ∧
    BitVec.toNat w % 4 = 0 ∧ (∀ i ∈ [71, 72, 73, 74], s.boot.islands.getLsbD i = false) ∧
    (s.fw.declared = 0 ∨ s.fw.stage.length < s.fw.declared) :=
  ⟨ready1, 65536, by decide +kernel⟩

theorem meets_FirmwareIsLoadedAndStarted_2 :
  ∃ (s : State), s.power.powered = true ∧ s.power.inReset = false ∧ s.power.dev = DevState.boot :=
  ⟨State.reset, by decide +kernel⟩

theorem meets_FirmwareIsLoadedAndStarted_3 :
  ∃ (s : State) (w : Word) (ws : List Word), s.takes ∧ s.power.dev = DevState.ready ∧ 1 ≤ ws.length ∧ ws.length ≤ 1019 ∧
    BitVec.toNat w = s.fw.stage.length ∧ s.fw.stage.length + ws.length ≤ s.fw.declared :=
  ⟨{loaded with fw := {loaded.fw with declared := 16390}}, 16384, [1,2], by decide +kernel⟩

theorem meets_FirmwareIsLoadedAndStarted_4
    (h0 : Config.imageHeader (loaded : State).fw.stage = some ({ version := 3, rollback := 4, advance := true, personalities := [0x3141, 7] } : ImageHeader))
    (h1 : Config.imageSigned (loaded : State).fw.stage = true) :
  ∃ (s : State) (h : ImageHeader), Config.imageHeader s.fw.stage = some h ∧ Config.imageSigned s.fw.stage = true ∧ s.takes ∧
    s.power.dev = DevState.ready ∧ s.fw.declared ≠ 0 ∧ s.fw.declared ≤ s.fw.stage.length ∧ h.rollback ≤ 256 ∧
    s.fuse.counter ≤ h.rollback ∧ 12609 ∈ h.personalities :=
  ⟨loaded, { version := 3, rollback := 4, advance := true, personalities := [0x3141, 7] }, h0, h1, by decide +kernel⟩

theorem meets_DeviceStatesChange_1 :
  ∃ (s : State), s.takes ∧ s.anyRun = true ∧ s.power.dev = DevState.active ∧ s.throttled = false ∧
    (∀ (j : Fin 8), s.isUp Cls.grp j.val = false) ∧
    (∀ (i : Fin 78), i.val < 71 → s.bist[i].phase ≠ Phase.queued ∧ s.bist[i].phase ≠ Phase.running) :=
  ⟨active, by decide +kernel⟩

theorem meets_DeviceStatesChange_2 :
  ∃ (s : State) (w : Word), s.takes ∧ s.power.dev = DevState.config ∧ (s.persLock = 0 ∨ w = s.persLock) ∧ w ∈ offeredBy
    s.header ∧ s.missingStep 3 = none ∧ s.setup.step ≤ 3 ∧ (∀ k < 8, s.stepDone k = true) :=
  ⟨configured, 0x3141, by decide +kernel⟩

theorem meets_DeviceStatesChange_3 :
  ∃ (s : State), s.takes ∧ s.power.dev = DevState.sleep :=
  ⟨{asleep with dom := {active.dom with powered := 1 <<< 77, hostOff := 15}}, by decide +kernel⟩

theorem meets_DeviceStatesChange_4 :
  ∃ (s : State), s.takes ∧ s.power.dev = DevState.maint ∧ (∀ (i : Fin 78), s.bist[i].phase = Phase.idle) :=
  ⟨maint, by decide +kernel⟩

theorem meets_EventsAndRegistersAreAccessed_1 :
  ∃ (s : State) (w : Word) (a : Word) (n : Nat), s.takes ∧ s.anyRun = true ∧ 1 ≤ BitVec.toNat w ∧ BitVec.toNat w ≤ 16 ∧ clear w
    4 = true ∧ s.allows Level.expert ∧ w = w32 n ∧ 1 ≤ n ∧ n ≤ 16 ∧ BitVec.toNat a + 4 * n ≤ 2 ^ 32 ∧
    (∀ k < n, (s.rawWord (BitVec.toNat a + 4 * k)).isSome = true ∧ keyRange (BitVec.toNat a + 4 * k) = false) ∧
    (∀ j ∈ rawIsl (BitVec.toNat a) n, s.islandOn j = true ∧ s.underTest j = false) :=
  ⟨active, 2, 0x40030010, 2, by decide +kernel⟩

theorem meets_EventsAndRegistersAreAccessed_2 :
  ∃ (s : State) (a : Word) (e : Word) (i : Fin 78), s.takes ∧ s.anyRun = true ∧ s.allows Level.expert ∧ BitVec.toNat
    a = 1073741848 + 65536 * i.val ∧ 1 ≤ BitVec.toNat e ∧ BitVec.toNat e < 16 ∧ s.islandOn i.val = true ∧ s.underTest
    i.val = false :=
  ⟨active, 0x40030018, 5, 3, by decide +kernel⟩

theorem meets_TransactionsDriveAndDeliver_1 :
  ∃ (s : State) (code : Byte) (r : List Word) (rest : List (List Word)), code ∉ [1, 2, 3] ∧ s.port.replies = r :: rest :=
  ⟨{active with port := {active.port with replies := [[1,2,3],[4]]}}, 9, [1,2,3], [[4]], by decide +kernel⟩

theorem meets_TransactionsDriveAndDeliver_2 :
  ∃ (s : State) (bytes : List Byte) (p : Packet), s.takes ∧ parsePacket bytes = Waiting.good p ∧ opDefined p.cls
    (BitVec.toNat p.op) = true :=
  ⟨active, wire packet1, packet1, by decide +kernel⟩

theorem meets_TransactionsDriveAndDeliver_3 :
  ∃ (s : State) (bytes : List Byte) (st : Nat) (target : BitVec 16) (tag : Byte), s.takes ∧ parsePacket bytes = Waiting.bad st
    target tag :=
  ⟨active, [1,2,3], 0x24, 0x0201, 0, by decide +kernel⟩

theorem meets_FuseWordsAreReadAndProgrammed_1 :
  ∃ (s : State) (w : Word), s.takes ∧ s.power.dev ≠ DevState.shutdown ∧ s.workable [71] ∧ s.allows Level.secure ∧ fld w 11
    5 = 0 ∧ clear w 25 = true ∧ 1 ≤ fld w 16 9 ∧ fld w 16 9 ≤ 500 ∧ fld w 0 11 + fld w 16 9 ≤ 2048 ∧
    (32 ≤ fld w 0 11 ∨ fld w 0 11 + fld w 16 9 ≤ 16) :=
  ⟨volts active, 0x00100000, by decide +kernel⟩

theorem meets_FuseWordsAreReadAndProgrammed_2 :
  ∃ (s : State) (w : Word) (env : FuseEnv), s.takes ∧ s.power.dev ≠ DevState.shutdown ∧ s.workable [71] ∧ s.allows
    Level.secure ∧ s.anyRun = true ∧ s.fuseHold = none ∧ clear w 11 = true ∧ 2032 ≤ fld w 0 11 ∧
    (s.fuse.at (fld w 0 11)).blank = true ∧ env.stop = none ∧ fld w 0 11 ∉ env.weak :=
  ⟨volts active, 0x7F0, env0, by decide +kernel⟩

theorem meets_FuseWordsAreReadAndProgrammed_3 :
  ∃ (s : State) (w : Word) (env : FuseEnv), s.takes ∧ s.power.dev ≠ DevState.shutdown ∧ s.workable [71] ∧ s.allows
    Level.secure ∧ s.anyRun = true ∧ s.fuseHold = none ∧ clear w 11 = true ∧ 2032 ≤ fld w 0 11 ∧
    (s.fuse.at (fld w 0 11)).blank = true ∧ env.stop = none ∧ fld w 0 11 ∈ env.weak :=
  ⟨volts active, 0x7FF, {weak := [0x7FF], stop := none}, by decide +kernel⟩

theorem meets_TaggedWordsAreCommitted_1 :
  ∃ (s : State) (k : Fin 4) (h : List Word) (env : FuseEnv), env.stop = none ∧ env.weak = [] ∧ s.fuseHold = none ∧
    s.anyRun = true ∧ s.takes ∧ s.workable [71] ∧ s.allows Level.secure ∧
    (s.roomFor (List.map (fun w => (6, w)) s.repairsPending) = true) ∧
    (s.allows Level.secure ∨ s.allRevoked = true ∧ s.lifecycle = 2) ∧ s.fuse.unused 0 ≠ [] ∧ s.lifecycle = 1 ∧ h.length = 12 ∧
    s.fuse.ownerSlot k.val ≠ 2 ∧ s.partDiffers k.val h = none ∧ s.roomFor (s.bindWords k.val h) = true ∧ s.fuse.ownerSlot
    k.val = 1 ∧ s.fuse.unused 2 ≠ [] :=
  ⟨volts (boundSlot (life 1 active)), 0, List.replicate 12 0, env0, by decide +kernel⟩

theorem meets_TaggedWordsAreCommitted_2 :
  ∃ (s : State) (env : FuseEnv), env.stop = none ∧ env.weak = [] ∧ s.fuseHold = none ∧ s.anyRun = true ∧ s.takes ∧ s.workable
    [71] ∧ s.lifecycle = 0 ∧ s.fuse.unused 0 ≠ [] ∧ s.power.mcSilent = false ∧ s.islandOn 71 = true ∧ s.underTest 71 = false ∧
    s.header.advance = true ∧ s.fuse.counter < s.header.rollback ∧ s.header.rollback ≤ 256 ∧ s.fuse.rollbackStop = false ∧
    s.fuse.rollbackWait = false ∧ s.fuse.unused 4 ≠ [] :=
  ⟨volts {active with fw := {active.fw with image := imaged}}, env0, by decide +kernel⟩

theorem meets_StagedObjectsAreLoaded_1
    (h0 : (boundSlot (life 2 (staged policy1 active)) : State).policyResult (boundSlot (life 2 (staged policy1 active)) : State).sec.staging = 0)
    :
  ∃ (s : State) (o : Word) (ws : List Word), s.policyResult s.sec.staging = 0 ∧ s.takes ∧ s.anyRun = true ∧ s.workable [71] ∧
    1 ≤ ws.length ∧ ws.length ≤ 1019 ∧ (o = 0 ∨ BitVec.toNat o = s.sec.staging.length) ∧ BitVec.toNat o + ws.length ≤ 4096 ∧
    s.stepRefused 1 = none ∧ s.owned = true ∧ s.stepRefused 2 = none ∧ s.sec.challenge = none :=
  ⟨boundSlot (life 2 (staged policy1 active)), 0, [4,5], h0, by decide +kernel⟩

theorem meets_StagedObjectsAreLoaded_2 :
  ∃ (s : State), s.takes ∧ s.anyRun = true ∧ s.workable [71] ∧ s.owned = true ∧ s.stepRefused 2 = none ∧ s.policyResult
    s.sec.staging ≠ 0 ∧ s.sec.identity = true ∧ s.sec.zeroised = false :=
  ⟨secretive (boundSlot (life 2 (staged [4] active))), by decide +kernel⟩

theorem meets_StagedObjectsAreLoaded_3 :
  ∃ (s : State) (dt : Nat) (c : Challenge), s.takes ∧ s.anyRun = true ∧ s.workable [71] ∧ s.owned = true ∧
    s.sec.challenge = some c ∧ s.now + dt < c.since + 10000000000 ∧ s.sec.staging.length = 1268 ∧ s.sec.policy ≠ [] :=
  ⟨challenged (boundSlot (life 2 (staged (List.replicate 1268 0) {active with sec := {active.sec with policy := policy1}}))),
    5, { payload := List.replicate 428 1, secret := 4, since := 7 }, by decide +kernel⟩

theorem meets_SecretsAreErasedAndAttested_1 :
  ∃ (s : State) (dt : Nat) (g : Byte) (f : Byte) (nonce : List Word) (width : Nat) (c : Challenge) (a : Auth) (k : Session),
    Config.cmac k.cmdKey
    (({ op := 37, cls := Cls.dev, cmd := { cmdTo 0 g f [] with auth := some a } } : Packet).head ++ [a.seq]) = a.cmac ∧
    s.sec.challenge = some c ∧ c.since + 10000000000 ≤ s.now + dt ∧ s.power.powered = true ∧ s.power.dev ≠ DevState.off ∧
    200 ≤ width ∧ s.takes ∧ s.anyRun = true ∧ s.workable [71] ∧ s.lifecycle ≠ 3 ∧ nonce.length = 12 ∧ s.sec.identity = true ∧
    s.allows Level.secure ∧ s.sec.session = some k ∧ k.last < BitVec.toNat a.seq :=
  ⟨secretive keyed, 10000000007, 7, 0, List.replicate 12 6, 200, { payload := [], secret := 4, since := 7 },
    {seq := 5, cmac := Config.cmac (.replicate 8 1) (({ op := 0x25, cls := .dev, cmd := cmdTo 0 7 0 [] } : Packet).head ++ [5])},
    { cmdKey := .replicate 8 1, rplKey := .replicate 8 2, last := 4 }, rfl, by decide +kernel⟩

theorem meets_SilenceAndMismatchAreNoticed_1 :
  ∃ (s : State) (dt : Nat) (i : Fin 78) (c : Cls) (j : BitVec 12) (t0 : Nat), s.mcRuns = true ∧ i ≠ 72 ∧ s.islandOn
    i.val = true ∧ s.underTest i.val = false ∧ s.islandFailed i.val = false ∧ j.toNat ∈ instances c ∧
    (s.recOf c j.toNat).misSince = some t0 ∧ (s.recOf c j.toNat).misRaised = false ∧ t0 + 100000000 < s.now + dt ∧
    (s.later dt).mismatch c j.toNat ((s.later dt).operOf c j.toNat).1 = true :=
  ⟨{up .lrx 4 with obs := {active.obs with recs := active.obs.recs.map fun r => {r with misSince := some 3}}}, 100000004, 32,
    .lrx, 4, 3, by decide +kernel⟩

theorem meets_ScanInstructionsTakeEffect_1 :
  ∃ (s : State) (code : BitVec 8), s.power.powered = true ∧ 7 ≤ code.toNat ∧
    (code.toNat < 128 ∨ code = 255 ∨ s.lifecycle ≠ 0) :=
  ⟨active, 8, by decide +kernel⟩

theorem meets_ScanInstructionsTakeEffect_2 :
  ∃ (s : State) (code : BitVec 8), s.power.powered = true ∧ 128 ≤ code.toNat ∧ code ≠ 255 ∧ s.lifecycle = 0 :=
  ⟨active, 0x80, by decide +kernel⟩

theorem meets_ProgrammableCountersCount_1 :
  ∃ (s : State) (i : Fin 64) (w : Word) (v : Word) (n : Nat), s.takes ∧ s.anyRun = true ∧ s.allows Level.counter ∧ clear w
    1 = true ∧ s.allows Level.expert ∧ clear v 16 = true ∧
    (have p := s.obs.perf[i]; s.admin Cls.perf i.val = Admin.up ∧ s.live (clsOf (fld p.cfg 12 4)) (fld p.cfg 0 12) = true ∧ (p.cfg ≠ 0 ∨ p.code ≠ 0) ∧ 1 ≤ n ∧ 2 ^ 48 ≤ p.val + n ∧ p.val < 2 ^ 48) ∧
    bit s.obs.perf[i].cfg 24 = false :=
  ⟨{up .perf 63 with obs := {active.obs with perf := active.obs.perf.map fun p => {p with cfg := 0x02000000, code := 3, val := 2^48-4}}},
    63, 1, 7, 4, by decide +kernel⟩

theorem meets_ProgrammableCountersCount_2 :
  ∃ (s : State) (w : Word) (v : Word), s.takes ∧ s.anyRun = true ∧ s.allows Level.counter ∧
    (have c := clsOf (fld w 12 4); fld w 0 12 ∈ instances c ∧ fld w 16 8 ≤ topSignal c ∧ clear w 26 = true ∧ clear v 8 = true ∧ (fld w 16 8 = 0 ∨ v = 0)) :=
  ⟨active, 0x03015000, 0, by decide +kernel⟩

theorem meets_ProgrammableCountersCount_3 :
  ∃ (s : State) (i : Fin 64) (n : Nat),
    (have p := s.obs.perf[i]; s.admin Cls.perf i.val = Admin.up ∧ s.live (clsOf (fld p.cfg 12 4)) (fld p.cfg 0 12) = true ∧ (p.cfg ≠ 0 ∨ p.code ≠ 0) ∧ 1 ≤ n ∧ 2 ^ 48 ≤ p.val + n ∧ p.val < 2 ^ 48) ∧
    bit s.obs.perf[i].cfg 24 = true :=
  ⟨{up .perf 63 with obs := {active.obs with perf := active.obs.perf.map fun p => {p with cfg := 0x03000000, code := 3, val := 2^48-4}}},
    63, 4, by decide +kernel⟩

theorem meets_MailboxesCarryMessages_1 :
  ∃ (s : State) (ch : Nat) (w : Word) (ws : List Word), s.takes ∧ s.anyRun = true ∧ ch ∈ channels ∧ 2 ≤ senderOf ch ∧
    2 ≤ receiverOf ch ∧ senderOf ch ≠ 4 ∧ receiverOf ch ≠ 4 ∧ s.allows Level.expert ∧ 1 ≤ ws.length ∧ ws.length ≤ 16 ∧ w = w32
    ws.length :=
  ⟨chIn 0x23 [msg1, msg1], 0x23, 2, [4,5], by decide +kernel⟩

theorem meets_MailboxesCarryMessages_2 :
  ∃ (s : State) (dt : Nat) (ch : Nat) (w : Word), s.takes ∧ s.anyRun = true ∧ ch ∈ channels ∧ senderOf ch = 1 ∧ hostSide
    ch = true ∧ s.power.mcSilent = false ∧ s.mbx.legacy.again = [] ∧ s.mbx.legacy.request = some w ∧ (s.later dt).nearWrite
    s.mbx.legacy.hostAt = false :=
  ⟨{active with mbx := {active.mbx with legacy := {active.mbx.legacy with request := some 0x10}}}, 5, 0x12, 0x10,
    by decide +kernel⟩

theorem meets_MailboxesCarryMessages_3 :
  ∃ (s : State) (ch : Nat) (w : Word) (ws : List Word), s.takes ∧ s.anyRun = true ∧ ch ∈ channels ∧ senderOf ch = 0 ∧
    receiverOf ch ≠ 1 ∧ bit w 15 = false ∧ fld w 8 7 = ws.length ∧ ws.length ≤ 64 ∧ s.mbx.ch[chIx ch].length < 8 ∧ s.isUp
    Cls.mbx ch = true :=
  ⟨chIn 0x02 [], 0x02, 0x00090201, [4,5], by decide +kernel⟩

theorem meets_MailboxesCarryMessages_4 :
  ∃ (s : State) (ch : Nat) (w : Word) (ws : List Word), s.takes ∧ s.anyRun = true ∧ ch ∈ channels ∧ senderOf ch = 0 ∧
    receiverOf ch ≠ 1 ∧ bit w 15 = false ∧ fld w 8 7 = ws.length ∧ ws.length ≤ 64 ∧ 8 ≤ s.mbx.ch[chIx ch].length :=
  ⟨chIn 0x02 (List.replicate 8 msg1), 0x02, 0x00090201, [4,5], by decide +kernel⟩

theorem meets_MailboxesCarryMessages_5 :
  ∃ (s : State) (ch : Nat), s.takes ∧ s.anyRun = true ∧ ch ∈ channels ∧ receiverOf ch = 0 ∧ senderOf ch ≠ 1 :=
  ⟨chIn 0x20 [msg1, msg1], 0x20, by decide +kernel⟩

theorem meets_MailboxesCarryMessages_6 :
  ∃ (s : State) (ch : Nat) (m : Msg) (rest : List Msg), ch ∈ channels ∧ senderOf ch < 2 ∧ 2 ≤ receiverOf ch ∧
    s.mbx.ch[chIx ch] = m :: rest ∧ s.anyRun = true ∧
    (∀ (k : ℕ), partyIsland (receiverOf ch) = some k → s.islandOn k = true ∧ s.underTest k = false ∧ s.islandFailed k = false) ∧
    s.mbx.ch[chIx (receiverOf ch * 16 + senderOf ch)].length < 8 ∧ s.isUp Cls.mbx (receiverOf ch * 16 + senderOf ch) = true :=
  ⟨{chIn 0x02 [msg1, msg1] with units := (up .mbx 0x20).units}, 0x02, msg1, [msg1], by decide +kernel⟩

theorem meets_ScratchpadIsReadWrittenAndTested_1 :
  ∃ (s : State) (dt : Nat) (a : Nat) (n : Nat) (ws : List Word) (w : Word), s.takes ∧ s.workable [74] ∧ s.anyRun = true ∧
    s.isUp Cls.mem 0 = true ∧ 1 ≤ n ∧ n ≤ 4064 ∧ a + n ≤ 6291456 ∧ (s.later dt).windowRetry a n = false ∧
    (262144 ≤ a ∨ s.owned = false ∨ s.permit 1 = true) ∧ s.allows Level.expert ∧ ws.length = (n + 3) / 4 ∧ 262144 ≤ a ∧
    Memory.wf s.mem.cells = true ∧ s.workable [76] ∧ s.mem.run = none ∧ fld w 11 5 = 0 ∧ clear w 27 = true ∧ 1 ≤ fld w 16 11 ∧
    fld w 0 11 + fld w 16 11 ≤ 1536 ∧ (64 ≤ fld w 0 11 ∨ s.power.dev = DevState.maint) ∧ (s.later dt).bstFree = true ∧
    s.mem.interval ≠ 0 ∧ (∀ t0 ∈ s.mem.sliceAt, t0 + 1000000 * s.mem.interval ≤ s.now + dt) :=
  ⟨memIn fun m => m, 5, 0x40FFF, 2, [7], 0x00400040, by decide +kernel⟩

theorem meets_ScratchpadIsReadWrittenAndTested_2 :
  ∃ (s : State) (dt : Nat) (a : Nat) (n : Nat) (w : Word), s.takes ∧ s.workable [74] ∧ s.anyRun = true ∧ s.isUp Cls.mem
    0 = true ∧ 1 ≤ n ∧ n ≤ 4064 ∧ a + n ≤ 6291456 ∧ (s.later dt).windowRetry a n = true ∧ s.allows Level.expert ∧
    (w = 0 ∨ 10 ≤ BitVec.toNat w ∧ BitVec.toNat w ≤ 10000) :=
  ⟨memIn fun m => {m with borrow := some (64, 1000)}, 5, 0x40FFF, 2, 10, by decide +kernel⟩

theorem meets_ScratchpadIsReadWrittenAndTested_3 :
  ∃ (s : State) (dt : Nat) (x : TestRun), s.mem.run = some x ∧ x.count ≤ x.done ∧ (s.later dt).borrowed = none :=
  ⟨memIn fun m => {m with run := some {first := 64, count := 2, done := 2, repaired := 4, failed := 5}}, 5,
    {first := 64, count := 2, done := 2, repaired := 4, failed := 5}, by decide +kernel⟩

theorem meets_ScratchpadIsReadWrittenAndTested_4 :
  ∃ (s : State) (dt : Nat) (x : TestRun), (s.later dt).bstFree = true ∧ s.mem.run = some x ∧ x.done < x.count ∧
    (64 ≤ x.first + x.done ∨ s.power.dev = DevState.maint) :=
  ⟨memIn fun m => {m with run := some {first := 64, count := 2, done := 1, repaired := 4, failed := 5}, spares := 1}, 5,
    {first := 64, count := 2, done := 1, repaired := 4, failed := 5}, by decide +kernel⟩

theorem meets_CalibrationCommandsTakeEffect_1 :
  ∃ (s : State) (k : Fin 48) (w : Word) (v : Word) (x : Word), s.takes ∧ s.anyRun = true ∧ s.workable
    (73 :: calIslands k.val) ∧ s.fgRuns = false ∧ (∀ (j : Fin 48), s.cal.lanes[j].foreground = none) ∧ s.throttled = false ∧
    s.supplyHeld = false ∧ s.admin (calUnit k.val).1 (calUnit k.val).2 ≠ Admin.up ∧ s.allows Level.expert ∧ calLane
    (fld w 0 8) = some k ∧ elemOk w = true ∧ (∀ i ∈ 73 :: calIslands k.val, s.underTest i = false) ∧ fld v 0 5 < trimCount
    (fld w 8 2) ∧ fld v 5 3 = 0 ∧ clear v 9 = true ∧ clear x 16 = true ∧ bit v 8 = false ∧
    (trimRange (fld w 8 2) (fld v 0 5)).1 ≤ trimValue (fld w 8 2) (fld v 0 5) (BitVec.ofNat 16 (fld x 0 16)) ∧ trimValue
    (fld w 8 2) (fld v 0 5) (BitVec.ofNat 16 (fld x 0 16)) ≤ (trimRange (fld w 8 2) (fld v 0 5)).2 ∧ fld w 8 2 < 2 ∧
    s.isRetired k (fld w 8 2) (fld w 16 11) = false ∧ (2 ≤ s.calFree k (if k.val < 24 then 0 else fld w 16 11 / 260)) :=
  ⟨active, 0, 0x00000000, 3, 1, by decide +kernel⟩

theorem meets_CalibrationCommandsTakeEffect_2 :
  ∃ (s : State) (k : Fin 48) (w : Word), s.takes ∧ s.anyRun = true ∧ s.allows Level.expert ∧ calLane (fld w 0 8) = some k ∧
    elemOk w = true ∧ (∀ i ∈ 73 :: calIslands k.val, s.underTest i = false) ∧ fld w 8 2 < 2 ∧ s.isRetired k (fld w 8 2)
    (fld w 16 11) = true :=
  ⟨{active with cal := {active.cal with lanes := upd active.cal.lanes 3 fun c => {c with retired := [(0, 3)]}}}, 3, 0x00030003,
    by decide +kernel⟩

theorem meets_CalibrationCommandsTakeEffect_3 :
  ∃ (s : State) (k : Fin 48) (w : Word) (v : Word) (x : Word), s.takes ∧ s.anyRun = true ∧ s.allows Level.expert ∧ calLane
    (fld w 0 8) = some k ∧ elemOk w = true ∧ (∀ i ∈ 73 :: calIslands k.val, s.underTest i = false) ∧ fld v 0 5 < trimCount
    (fld w 8 2) ∧ fld v 5 3 = 0 ∧ clear v 9 = true ∧ clear x 16 = true ∧ bit v 8 = true :=
  ⟨active, 47, 0x0103013F, 0x101, 1, by decide +kernel⟩

theorem meets_LinesAreFramed_1 :
  ∃ (s : State) (l : Fin 8) (m : MilestoneArrival) (g : Fin 8), s.usable [66] = true ∧ s.lfd[l].inner = true ∧ s.groupOf
    l.val = some g.val ∧ 4 ≤ s.lfd[l].badWin ∧ msValid m.rsOk m.words = true ∧ s.lfd[l].msLock = true ∧ s.lfd[l].expects
    m.slots = true ∧ s.lfd[l].misses = 0 :=
  ⟨laneIn 2 fun x => {x with badWin := 4, msLock := true, last := some (msWords 2 7 false)}, 0, arrival 2 2051, 0,
    by decide +kernel⟩

theorem meets_LinesAreFramed_2 :
  ∃ (s : State) (l : Fin 8) (m : MilestoneArrival) (g : Fin 8), s.groupOf l.val = some g.val ∧ s.lfd[l].inner = true ∧ s.usable
    [66] = true ∧ msValid m.rsOk m.words = true ∧ s.lfd[l].msLock = false ∧
    (Option.all (fun c => m.slots != 2049 + c) s.lfd[l].cand = true) :=
  ⟨laneIn 2 fun x => {x with inner := true, offset := 5}, 0, arrival 2 2051, 0, by decide +kernel⟩

theorem meets_LinesAreFramed_3 :
  ∃ (s : State) (l : Fin 8) (count : Nat), s.usable [66] = true ∧ s.lfd[l].inner = false ∧ s.isUp Cls.lrx l.val = true ∧
    s.lrx[l].sd = true ∧ s.laneFg l.val = false ∧ 192 < count :=
  ⟨laneIn 2 fun x => {x with inner := false}, 0, 193, by decide +kernel⟩

theorem meets_LinesAreFramed_4 :
  ∃ (s : State) (l : Fin 8) (count : Nat), s.usable [66] = true ∧ s.lfd[l].inner = false ∧ s.isUp Cls.lrx l.val = true ∧
    s.lrx[l].sd = true ∧ s.laneFg l.val = false ∧ count ≤ 192 :=
  ⟨laneIn 2 fun x => {x with inner := false}, 0, 192, by decide +kernel⟩

theorem meets_LinesAreFramed_5 :
  ∃ (s : State) (l : Fin 8) (m : MilestoneArrival) (g : Fin 8), s.groupOf l.val = some g.val ∧ s.lfd[l].inner = true ∧ s.usable
    [66] = true ∧ msValid m.rsOk m.words = true ∧ s.lfd[l].msLock = false ∧ s.lfd[l].cand = some (m.slots - 2049) ∧
    2049 ≤ m.slots :=
  ⟨laneIn 2 fun x => {x with cand := some 2}, 0, arrival 2 2051, 0, by decide +kernel⟩

theorem meets_LinesAreFramed_6 :
  ∃ (s : State) (l : Fin 8) (g : Fin 8), s.groupOf l.val = some g.val ∧ s.lfd[l].msLock = true ∧ s.lfd[l].misses ≠ 0 :=
  ⟨laneIn 2 fun x => {x with msLock := true, misses := 1}, 0, 0, by decide +kernel⟩

theorem meets_TestCommandsTakeEffect_1 :
  ∃ (s : State) (i : Fin 24) (w : Word), s.takes ∧ s.anyRun = true ∧ s.admin Cls.tst i.val = Admin.down ∧ s.tstSealed
    i.val = none ∧ patternOk (bit w 2) (fld w 4 4) = true ∧ patternOk (bit w 2) (fld w 8 4) = true ∧ fld w 13 3 = 0 ∧ clear w
    22 = true ∧ (fld w 4 4 = 12 ∨ fld w 8 4 = 12 → 1 ≤ fld w 16 6 ∧ fld w 16 6 ≤ 32) ∧
    (bit w 0 = true → s.tst[i].loopSel ≠ 3) ∧ (bit w 2 = true → 16 ≤ i.val ∧ s.groupOf (i.val - 16) = some (i.val - 16)) ∧
    s.allows Level.expert ∧ clear w 2 = true ∧ (fld w 0 2 = 3 → s.tst[i].gen = false) ∧ s.workable
    (unitIslands Cls.tst i.val) ∧ clear w 10 = true ∧ w ≠ 0 ∧ s.tst[i].manual = true ∧ 16 ≤ i.val :=
  ⟨{tstIn 20 (fun t => {t with cfg := 0x1000, slip := 65535}) with power := maint.power}, 20, 2, by decide +kernel⟩

theorem meets_TestCommandsTakeEffect_2 :
  ∃ (s : State) (i : Fin 24) (g : Byte) (w : Word) (v : Word), s.takes ∧ s.anyRun = true ∧ s.workable
    (unitIslands Cls.tst i.val) ∧ clear w 1 = true ∧ s.allows Level.expert ∧ s.tstSealed i.val = none ∧ s.admin Cls.tst
    i.val = Admin.up ∧ injectBad s
    { cls := Cls.tst, inst := i.val, op := 129, tag := g, params := [w, v], authed := false } = none ∧
    (fld w 0 3 ≠ 0 → s.tstBlocked i.val s.tst[i] true = none) ∧ (fld w 0 3 = 4 → s.hasSlots i.val = true) :=
  ⟨{(tstUp 20 (fun t => {t with cfg := 3, locked := true})) with power := maint.power}, 20, 7, 0, 77, by decide +kernel⟩

theorem meets_TestCommandsTakeEffect_3 :
  ∃ (s : State) (i : Fin 24) (w : Word) (ws : List Word), s.takes ∧ s.anyRun = true ∧ s.admin Cls.tst i.val = Admin.down ∧
    clear w 11 = true ∧ 16 ≤ fld w 0 11 ∧ fld w 0 11 ≤ 1024 ∧ fld w 0 11 % 16 = 0 ∧ ws.length = fld w 0 11 / 16 :=
  ⟨active, 3, 32, [1,2], by decide +kernel⟩

theorem meets_ThermalCommandsTakeEffect_1 :
  ∃ (s : State) (i : Nat) (w : Word) (m : BitVec 80), s.takes ∧ s.anyRun = true ∧ i ∈ instances Cls.thm ∧ i ≠ 96 ∧
    (∀ d < 80, m.getLsbD d = true → neverSet d = false ∧ (d < 77 → s.underTest d = false)) ∧
    (∀ d < 80, m.getLsbD d = true → s.offBlocker d = none) ∧ clear w 1 = true ∧ s.allows Level.expert ∧
    (w = 0 ∨ 620 ≤ BitVec.toNat w ∧ BitVec.toNat w ≤ 780) :=
  ⟨active, 0x4B, 0, 0x200, by decide +kernel⟩

theorem meets_CheckersAndInjectorsRun_1 :
  ∃ (s : State) (i : Fin 24) (m : CheckCounts), s.tstLive i = true ∧ s.tst[i].locked = true ∧ 1024 < m.window ∧
    s.tst[i].injects = true :=
  ⟨tstUp 20 fun t => {t with cfg := 2, locked := true, inject := 0x05100101, count := 3, left := 1}, 20,
    {bits := 1, bitErr := 1, symErr := 3, postErr := 4, window := 1025}, by decide +kernel⟩

theorem meets_MonitorCommandsTakeEffect_1 :
  ∃ (s : State) (w : Word), s.takes ∧ s.anyRun = true ∧ s.workable [75] ∧ fld w 0 3 < 6 ∧ fld w 3 5 = 0 ∧ 4 ≤ fld w 8 4 ∧ fld w
    12 4 = 0 ∧ clear w 20 = true ∧
    (have ch := fld w 0 6; ch < 40 ∧ fld w 6 2 = 0 ∧ fld w 17 3 = 0 ∧ clear w 24 = true ∧ fld w 20 4 ≤ 8 ∧ if ch < 24 then 4 ≤ fld w 8 9 ∧ fld w 8 9 ≤ 64 else 2 ≤ fld w 8 9 ∧ fld w 8 9 ≤ 256) ∧
    fld w 0 6 < 40 ∧ fld w 6 2 = 0 ∧ 1 ≤ fld w 8 6 ∧ fld w 0 6 + fld w 8 6 ≤ 40 ∧ clear w 14 = true :=
  ⟨active, 0x0401, by decide +kernel⟩

theorem meets_MonitorCommandsTakeEffect_2 :
  ∃ (s : State) (i : Fin 24) (w : Word) (v : Word) (e : Word), s.takes ∧ s.anyRun = true ∧ s.workable [75] ∧ clear w
    25 = true ∧ clear v 24 = true ∧ sfld v 0 24 ≤ sfld w 0 24 ∧ ringBase (s.rings false [i.val]) (BitVec.toNat w)
    (BitVec.toNat v) = true ∧ ringSize (s.rings false [i.val]) (BitVec.toNat w) (BitVec.toNat v) = true ∧ clear e 1 = true ∧
    w ≠ 0 :=
  ⟨active, 20, 0x40000, 0x1000, 1, by decide +kernel⟩

theorem meets_CaptureCommandsTakeEffect_1 :
  ∃ (s : State) (i : Fin 24) (g : Byte) (cfg : Vector Word 8), s.takes ∧ s.anyRun = true ∧ s.workable
    (unitIslands Cls.mon i.val) ∧ s.allows Level.expert ∧
    (s.mon.caps[i].state = CapState.idle ∨ s.mon.caps[i].state = CapState.held ∨ s.mon.caps[i].state = CapState.aborted) ∧
    captureBad s
    { cls := Cls.mon, inst := i.val, op := 128, tag := g, params := cfg.toList, authed := false, all := [i.val] } = none ∧
    s.admin Cls.mon i.val = Admin.up :=
  ⟨{capIn 3 (fun c => {c with cfg := capCfg true 1 0}) with power := maint.power}, 3, 7, capCfg false 1 2, by decide +kernel⟩

theorem meets_CaptureCommandsTakeEffect_2 :
  ∃ (s : State) (i : Fin 24) (w : Word), s.takes ∧ s.anyRun = true ∧ s.workable (unitIslands Cls.mon i.val) ∧ s.allows
    Level.expert ∧ s.mon.caps[i].state = CapState.held ∧ clear w 26 = true ∧ 1 ≤ fld w 16 10 ∧ fld w 16 10 ≤ 1016 ∧ fld w 0 16
    + fld w 16 10 ≤ s.mon.caps[i].sram.length :=
  ⟨{capIn 3 (fun c => {c with state := .held, sram := [1,2,3]}) with power := maint.power}, 3, 0x00020001, by decide +kernel⟩

theorem meets_CapturesAndOutputsProceed_1 :
  ∃ (s : State) (dt : Nat) (i : Fin 24) (q : Nat × Nat × Int) (rest : List (Nat × Nat × Int)), s.monRuns i = true ∧ fld
    s.mon.taps[i].word 0 3 ≠ 0 ∧ s.mon.taps[i].since + groupDelay i.val s.mon.taps[i].preset ≤ s.now + dt ∧ s.tapLock
    i = false ∧ s.mon.taps[i].queue = q :: rest ∧ s.mon.taps[i].base ≠ 0 ∧ s.capRuns = true ∧ s.ccRuns = true ∧
    (s.later dt).dmaMay
    (match s.mon.taps[i].queue[255]? with | some x => Min.min x.2.1 (q.2.1 + 100000000) | none => q.2.1 + 100000000) = true ∧
    (s.later dt).ringStalls s.mon.taps[i].base s.mon.taps[i].size
    (32 + 4 * (runOf 256 q.1 s.mon.taps[i].queue).length) = false :=
  ⟨tapIn 3 fun c => {c with word := 0x401, since := 0, queue := [(7, 3, 4),(8,3,4),(10,3,4)], base := 0x40000, size := 0x1000},
    100000004, 3, (7,3,4), [(8,3,4),(10,3,4)], by decide +kernel⟩

theorem meets_CapturesAndOutputsProceed_2 :
  ∃ (s : State) (i : Fin 24) (ws : List Word), s.mon.caps[i].state = CapState.filling ∧ ws.length = capLength s.mon.caps[i] ∧
    s.monRuns i = true ∧ (capAvg s.mon.caps[i] = 0 ∨ 2 ^ capAvg s.mon.caps[i] ≤ s.mon.caps[i].acq + 1) :=
  ⟨capIn 3 fun c => {c with state := .filling, cfg := capCfg false 0 0}, 3, List.replicate 1024 7, by decide +kernel⟩

theorem meets_CapturesAndOutputsProceed_3 :
  ∃ (s : State) (i : Fin 24) (ws : List Word), s.mon.caps[i].state = CapState.filling ∧ ws.length = capLength s.mon.caps[i] ∧
    s.monRuns i = true ∧ capAvg s.mon.caps[i] ≠ 0 ∧ s.mon.caps[i].acq + 1 < 2 ^ capAvg s.mon.caps[i] :=
  ⟨capIn 3 fun c => {c with state := .filling, cfg := capCfg true 0 2}, 3, List.replicate 1024 7, by decide +kernel⟩

theorem meets_CapturesAndOutputsProceed_4 :
  ∃ (s : State) (dt : Nat) (i : Fin 24), s.mon.caps[i].state = CapState.moving ∧ s.dmaBehind i = false ∧ s.monRuns i = true ∧
    (s.later dt).dmaMay s.mon.caps[i].filledAt = true ∧ (s.later dt).ringStalls (BitVec.toNat s.mon.caps[i].cfg[6])
    (BitVec.toNat s.mon.caps[i].cfg[7]) (32 + 4 * s.mon.caps[i].sram.length) = false :=
  ⟨capIn 3 fun c =>
    {c with state := .moving, cfg := capCfg true 0 0, sram := List.replicate 512 7, record := List.replicate 8 9}, 5, 3,
    by decide +kernel⟩

theorem meets_CapturesAndOutputsProceed_5 :
  ∃ (s : State) (dt : Nat) (i : Fin 24), s.monRuns i = true ∧ fld s.mon.taps[i].word 0 3 ≠ 0 ∧ s.mon.taps[i].since + groupDelay
    i.val s.mon.taps[i].preset ≤ s.now + dt ∧ s.tapLock i = true :=
  ⟨{tapIn 3 (fun c => {c with word := 0x401}) with hrx := active.hrx.map fun h => {h with timing := true}}, 500000000, 3,
    by decide +kernel⟩

theorem meets_CapturesAndOutputsProceed_6 :
  ∃ (s : State) (dt : Nat) (rising : Bool) (x : CapSet), x ∈ s.mon.sets ∧
    (∀ z ∈ s.mon.sets, z ≠ x → ∀ k ∈ z.members, k ∉ x.members) ∧ (s.later dt).setReady x = true ∧ fld x.cfg[2] 0 4 = 1 ∧ bit
    x.cfg[2] 4 = rising :=
  ⟨capSet 3 1, 50000, true, { members := [3], cfg := capCfg false 1 0 }, by decide +kernel⟩

theorem meets_CapturesAndOutputsProceed_7 :
  ∃ (s : State) (dt : Nat) (i : Fin 24) (x : CapSet), x ∈ s.mon.sets ∧
    (∀ z ∈ s.mon.sets, z ≠ x → ∀ k ∈ z.members, k ∉ x.members) ∧ (s.later dt).setReady x = true ∧ fld x.cfg[2] 0 4 = 5 ∧ fld
    x.cfg[2] 8 8 = i.val :=
  ⟨capSet 3 5, 50000, 20, { members := [3], cfg := capCfg false 5 0 }, by decide +kernel⟩

theorem meets_CalibrationProceeds_1 :
  ∃ (s : State) (dt : Nat) (n : Fin 24) (k : Fin 48) (t0 : Nat), s.supplyHeld = false ∧ s.cal.lanes[k].foreground = some t0 ∧
    s.cal.lanes[Fin.ofNat 48 n].starved = true ∧ 10 ≤ s.cal.lanes[Fin.ofNat 48 n].fed ∧ (calIslands n.val).all
    s.islandOn = true ∧ s.fgRuns = false ∧ (s.later dt).wantsSource (Fin.ofNat 48 n) = true ∧ s.cal.refInUse = false ∧
    16 ≤ s.cal.refGood :=
  ⟨{up .cal 0 with cal := {active.cal with fgDone := true, refInUse := false, refGood := 16, lanes := active.cal.lanes.map fun c => {c with foreground := some 3, starved := true, fed := 10}}, now := 99},
    5, 23, 7, 3, by decide +kernel⟩

theorem meets_CalibrationProceeds_2 :
  ∃ (s : State) (dt : Nat) (n : Fin 24) (shares : Vector Byte 4) (t0 : Nat), s.calRuns = true ∧
    (s.later dt).roundOpens.cal.live = true ∧ (s.later dt).roundOpens.cal.round = some t0 ∧ t0 + 4000000 ≤ s.now + dt ∧
    (calIslands n.val).all s.islandOn = true ∧ (calIslands n.val).any s.underTest = false ∧
    (∀ (i : Fin 4), 20 ≤ BitVec.toNat shares[i]) :=
  ⟨{up .cal 0 with cal := {active.cal with fgDone := true, round := some 0}, now := 99}, 4000000, 3, .replicate 4 20, 0,
    by decide +kernel⟩

theorem meets_CalibrationProceeds_3 :
  ∃ (s : State) (t0 : Nat), s.supplyHeld = false ∧ s.cal.fgStart = some t0 :=
  ⟨{up .cal 0 with cal := {active.cal with fgDone := true, fgStart := some 3, lanes := upd active.cal.lanes 7 fun c => {c with foreground := some 3}}, now := 99},
    3, by decide +kernel⟩

theorem meets_TemperatureIsManaged_1 :
  ∃ (s : State) (i : Fin 24), s.power.powered = true ∧ s.power.inReset = false ∧ s.power.latch = false ∧ 16 ≤ s.thm.exit ∧
    s.power.blind = false ∧ 1 ≤ s.thm.stage ∧ s.thm.stage ≤ 2 ∧ s.thm.sensors[i].cause ≠ 0 ∧ 256 ≤ s.thm.sensors[i].good ∧
    s.power.dev ≠ DevState.off ∧ 2 ≤ s.thm.sensors[i].hot :=
  ⟨{active with thm := {active.thm with stage := 2, exit := 16, sensors := active.thm.sensors.map fun x => {x with cause := 1, good := 256, hot := 2}}},
    3, by decide +kernel⟩

theorem meets_SupplyEpisodesRun_1 :
  ∃ (s : State) (dt : Nat) (st : Nat) (first : Nat) (w : Bool), s.thm.supply = Supply.episode st false first ∧ st +
    1000000 ≤ s.now + dt ∧ s.thm.supply = Supply.episode st w first :=
  ⟨{active with thm := {active.thm with supply := .episode 3 false 5}}, 1000003, 3, 5, false, by decide +kernel⟩

theorem meets_SupplyEpisodesRun_2 :
  ∃ (s : State) (r : Fin 12) (v : Nat), s.power.powered = true ∧ s.power.inReset = false ∧ s.power.latch = false ∧ s.belowWarn
    r.val v = true ∧ s.thm.supply = Supply.none :=
  ⟨{active with lrx := active.lrx.map fun r => {r with round := some round1}, bist := upd active.bist 63 fun b => {b with phase := .running}},
    0, 1, by decide +kernel⟩

theorem meets_SupplyEpisodesRun_3 :
  ∃ (s : State) (dt : Nat) (st : Nat) (e : Nat) (first : Nat) (w : Bool), s.thm.supply = Supply.recovering st e w first ∧ e +
    1000000 ≤ s.now + dt :=
  ⟨{active with thm := {active.thm with supply := .recovering 3 4 false 5}}, 1000004, 3, 4, 5, false, by decide +kernel⟩

theorem meets_VoltageAndDomainsFollowNeed_1 :
  ∃ (s : State) (dt : Nat) (d : Fin 80), s.anyRun = true ∧ 620 ≤ s.thm.avs.target ∧ s.thm.avs.target ≤ 780 ∧
    (s.later dt).avsDue = true ∧ s.thm.avs.host = false ∧ s.needs d.val = false ∧
    (s.dom.hostOff.getLsbD d.val = true ∨ d = 70) ∧ (d.val < 77 → s.underTest d.val = false) :=
  ⟨active, 1000004, 70, by decide +kernel⟩

theorem meets_VoltageAndDomainsFollowNeed_2 :
  ∃ (s : State) (dt : Nat), s.anyRun = true ∧ s.thm.avs.host = true ∧ s.thm.avs.changing = true ∧ s.thm.avs.since +
    100000000 ≤ s.now + dt :=
  ⟨{active with thm := {active.thm with avs := {active.thm.avs with host := true, changing := true, target := 780, forced := 620}}},
    100000000, by decide +kernel⟩

theorem meets_VoltageAndDomainsFollowNeed_3 :
  ∃ (s : State) (d : Fin 80), s.anyRun = true ∧ s.needs d.val = true ∧ (s.dom.hostOff.getLsbD d.val = true ∨ d = 70) :=
  ⟨{up .htx 2 with dom := {active.dom with powered := BitVec.allOnes 80 &&& ~~~((1 <<< 50 : BitVec 80)), hostOff := (1 <<< 50 : BitVec 80)}},
    50, by decide +kernel⟩

theorem meets_GroupCommandsTakeEffect_1 :
  ∃ (s : State) (i : Fin 8) (w : Word), s.takes ∧ s.anyRun = true ∧ s.allows Level.secure ∧ clear w 2 = true ∧ fld w 0 2 ≠ 0 ∧
    (fld w 0 2 = 3 → s.owned = true) ∧ s.stepRefused 6 = none ∧ s.gsize i.val ≠ 0 ∧ s.admin Cls.grp i.val = Admin.down ∧
    (s.grp[i].mode = 3 → fld w 0 2 ≠ 3 → s.admin Cls.seal i.val = Admin.down) ∧
    (fld w 0 2 = 3 → ∀ l ∈ s.glanes i.val, s.isUp Cls.tst (16 + l.val) = false) ∧ clear w 3 = true ∧ s.gsize (fld w 0 3) ≠ 0 ∧
    s.workable [64, 65, 66, 67] ∧ s.allows Level.counter ∧ (bit w 0 = true → s.grp[i].mode ≠ 1) :=
  ⟨{grpUp 1 with units := active.units}, 0, 2, by decide +kernel⟩

theorem meets_GroupCommandsTakeEffect_2 :
  ∃ (s : State) (w : Word), s.takes ∧ s.anyRun = true ∧ 1 ≤ fld w 0 3 ∧ fld w 0 3 ≤ 5 ∧ 1 ≤ fld w 4 3 ∧ fld w 4 3 ≤ 5 ∧ bit w
    3 = false ∧ clear w 7 = true ∧ s.stepRefused 5 = none ∧
    (∀ h ∈ s.tilingHits (fld w 0 3, fld w 4 3), s.isUp Cls.grp h.val = false ∧ (s.grp[h].mode = 3 → sizeIn (fld w 0 3, fld w 4 3) h.val ≠ sizeIn s.tiling h.val → s.isUp Cls.seal h.val = false)) :=
  ⟨active, 0x55, by decide +kernel⟩

theorem meets_GroupCommandsTakeEffect_3 :
  ∃ (s : State) (w : Word) (w1 : Word), s.takes ∧ s.anyRun = true ∧ xbarClash (vec [w, w1] rfl) = none ∧ s.stepRefused
    5 = none ∧ (∀ h ∈ s.xbarHits (vec [w, w1] rfl), s.isUp Cls.grp h.val = false) :=
  ⟨active, 0x67452301, 0xFEDCBA98, by decide +kernel⟩

theorem meets_GroupCommandsTakeEffect_4 :
  ∃ (s : State) (w : Word), s.takes ∧ s.anyRun = true ∧ fld w 0 4 ≠ 0 ∧ fld w 4 12 = 0 ∧ fld w 16 16 ≠ 0 :=
  ⟨locked 2, 0x0001000F, by decide +kernel⟩

theorem meets_CodewordsAreCarried_1 :
  ∃ (s : State) (g : Fin 8), s.sends g = true ∧ s.usable [64] = true ∧ s.hostLocked g = true ∧ s.scanHolds = false ∧
    s.framedGen g.val = false ∧ s.grp[g].running = true ∧ s.grp[g].slot < 2048 * s.gsize g.val :=
  ⟨sending 2, 0, by decide +kernel⟩

theorem meets_CodewordsAreCarried_2 :
  ∃ (s : State) (g : Fin 8) (l : Fin 8) (x : List Word) (q : Nat), s.groupOf l.val = some g.val ∧ s.lfd[l].msLock = true ∧
    s.usable [66, 67] = true ∧ s.lfd[l].slot < 2048 ∧ s.lfd[l].last = some x ∧ msType x ≠ 2 ∧ s.grp[g].mode ≠ 0 ∧ s.joined g
    l = some q ∧ (s.grp[g].mode ≠ 3 ∨ s.seals[g].stream = true) :=
  ⟨{locked 2 with grp := upd (locked 2).grp 0 fun p => {p with deskewed := true}}, 0, 0, msWords 2 7 false, 0,
    by decide +kernel⟩

theorem meets_CodewordsAreCarried_3 :
  ∃ (s : State) (g : Fin 8) (l : Fin 8) (x : List Word) (q : Nat), s.groupOf l.val = some g.val ∧ s.lfd[l].msLock = true ∧
    s.usable [66, 67] = true ∧ s.lfd[l].slot < 2048 ∧ s.lfd[l].last = some x ∧ msType x ≠ 2 ∧ s.grp[g].mode ≠ 0 ∧ s.joined g
    l = some q ∧ s.grp[g].mode = 3 ∧ s.seals[g].stream = false ∧ s.seals[g].keys ≠ none :=
  ⟨keyed, 0, 0, msWords 3 7 false, 0, by decide +kernel⟩

theorem meets_ClocksAndMarginsAreWatched_1 :
  ∃ (s : State) (g : Fin 8) (w : Word), s.gsize g.val ≠ 0 ∧ s.grp[g].deskewed = true ∧ s.grp[g].locked = false ∧
    s.grp[g].outRange = false ∧ (BitVec.toInt w).natAbs ≤ 250000 ∧ (25000 < BitVec.toInt w ∨ BitVec.toInt w < -25000) :=
  ⟨grpIn 2 fun p => {p with deskewed := true}, 0, 25001, by decide +kernel⟩

theorem meets_ClocksAndMarginsAreWatched_2 :
  ∃ (s : State) (g : Fin 8) (w : Word), s.grp[g].outRange = true ∧ -25000 ≤ BitVec.toInt w ∧ BitVec.toInt w ≤ 25000 :=
  ⟨grpIn 2 fun p => {p with outRange := true}, 0, -25000, by decide +kernel⟩

theorem meets_ClocksAndMarginsAreWatched_3 :
  ∃ (s : State) (g : Fin 8), s.fec[g].alarm = false ∧ 10 ≤ s.fec[g].low :=
  ⟨{grpUp 2 with fec := .replicate 8 {fecReset with low := 10, lastN := 4}}, 0, by decide +kernel⟩

theorem meets_ClocksAndMarginsAreWatched_4 :
  ∃ (s : State) (g : Fin 8), s.fec[g].alarm = true ∧ 10 ≤ s.fec[g].ok :=
  ⟨{grpUp 2 with fec := .replicate 8 {fecReset with ok := 10, alarm := true}}, 0, by decide +kernel⟩

theorem meets_SealCommandsTakeEffect_1 :
  ∃ (s : State) (i : Fin 8) (w : Word) (d : List Word), s.takes ∧ s.anyRun = true ∧ s.seals[i].hs.phase = HsPhase.idle ∧
    s.seals[i].ann = none ∧ s.workable [68, 69] ∧ s.allows Level.secure ∧
    ((s.operSeal i).1 = Oper.up ∨ s.seals[i].closed = Closed.refused ∧ (s.operSeal i).2 = 11) ∧ (s.operSeal i).1 = Oper.up ∧
    s.admin Cls.seal i.val = Admin.test ∧ clear w 8 = true ∧ w ≠ 0 ∧ (s.owned = false ∨ s.permit 2 = true) ∧ clear w 9 = true ∧
    1 ≤ fld w 0 9 ∧ fld w 0 9 ≤ 504 ∧ d.length = (fld w 0 9 + 3) / 4 ∧ s.gsize i.val ≠ 0 ∧ s.seals[i].wpOut.length < 4 :=
  ⟨{keyed with units := (grpUp 3).setAdmin .seal 0 .test |>.units, seals := upd keyed.seals 0 fun c => {c with wpIn := [{len := 4, verified := true, seq := 2^33, position := 1, data := [7]},{len := 4, verified := true, seq := 2^33, position := 1, data := [7]}], lost := 3}},
    0, 255, .replicate 64 3, by decide +kernel⟩

theorem meets_HandshakesEndInKeys_1 (h0 : (readyIn fun c => {c with retryAt := some 5} : State).initiates (0 : Fin 8) = true) :
  ∃ (s : State) (dt : Nat) (g : Fin 8) (m : List Word), s.initiates g = true ∧ s.gsize g.val ≠ 0 ∧ s.grp[g].mode ≠ 0 ∧ msgOk 1
    m = true ∧ s.canHandshake g = true ∧ (s.later dt).handshakeDue g = true ∧ s.seals[g].hs.phase = HsPhase.idle ∧
    s.seals[g].retryAt ≠ none :=
  ⟨readyIn fun c => {c with retryAt := some 5}, 5, 0, helloFrom 10, h0, by decide +kernel⟩

theorem meets_HandshakesEndInKeys_2 :
  ∃ (s : State) (dt : Nat) (g : Fin 8), s.grp[g].lastValid + eightPeriods ≤ s.now + dt ∧
    (s.seals[g].peered = true ∨ s.grp[g].remote ≠ 14) :=
  ⟨{keyed with grp := upd keyed.grp 0 fun p => {p with remote := 3}}, eightPeriods, 0, by decide +kernel⟩

theorem meets_HandshakesEndInKeys_3
    (h0 : (readyIn fun c => {c with hello := helloFrom 0} : State).initiates (0 : Fin 8) = false) :
  ∃ (s : State) (dt : Nat) (g : Fin 8), s.initiates g = false ∧ s.canHandshake g = true ∧ (s.later dt).handshakeDue g = true ∧
    s.seals[g].hs.phase = HsPhase.idle ∧ s.seals[g].keys = none :=
  ⟨readyIn fun c => {c with hello := helloFrom 0}, 5, 0, h0, by decide +kernel⟩

theorem meets_HandshakesEndInKeys_4 :
  ∃ (s : State) (g : Fin 8) (m : List Word) (prk : Hash) (h3 : Hash), hashOf (List.drop 4 m) = confirmOf prk h3 0 ∧
    s.seals[g].hs.prk = some prk ∧ s.seals[g].hs.h3 = some h3 ∧ msgOk 5 m = true ∧ msgAttempt m = s.seals[g].hs.attempt ∧
    s.seals[g].hs.phase = HsPhase.gotFinish :=
  ⟨readyIn fun c => {c with hs := {hs1 .gotFinish with prk := some (.replicate 12 1), h3 := some (.replicate 12 2)}}, 0,
    confirmMsg 0, .replicate 12 1, .replicate 12 2, hashOf_words _, by decide +kernel⟩

theorem meets_HandshakesEndInKeys_5 :
  ∃ (s : State) (g : Fin 8) (m : List Word) (prk : Hash) (h3 : Hash), hashOf (List.drop 4 m) = confirmOf prk h3 1 ∧
    s.seals[g].hs.prk = some prk ∧ s.seals[g].hs.h3 = some h3 ∧ msgOk 5 m = true ∧ msgAttempt m = s.seals[g].hs.attempt ∧
    s.seals[g].hs.phase = HsPhase.sentFinish :=
  ⟨readyIn fun c =>
    {c with keys := some keys1, hs := {hs1 .sentFinish with prk := some (.replicate 12 1), h3 := some (.replicate 12 2)}}, 0,
    confirmMsg 1, .replicate 12 1, .replicate 12 2, hashOf_words _, by decide +kernel⟩

theorem meets_HandshakesEndInKeys_6 (h0 : (waiting0 fun c => {c with hs := hs1 .waitI} : State).initiates (0 : Fin 8) = false)
    (h1 : (waiting0 fun c => {c with hs := hs1 .waitI} : State).chainGood (0 : Fin 8) (List.drop 420 (ks 2 12720 0 : List Word)) = true)
    (h2 : (waiting0 fun c => {c with hs := hs1 .waitI} : State).chainAdmitted (0 : Fin 8) (List.drop 420 (ks 2 12720 0 : List Word)) = true)
    :
  ∃ (s : State) (g : Fin 8) (m : List Word), s.initiates g = false ∧ s.chainGood g (List.drop 420 m) = true ∧ s.chainAdmitted g
    (List.drop 420 m) = true ∧ s.canHandshake g = true ∧
    (s.seals[g].hs.phase = HsPhase.waitI ∨ s.seals[g].hs.phase = HsPhase.idle) ∧ msgOk 2 m = true :=
  ⟨waiting0 fun c => {c with hs := hs1 .waitI}, 0, ks 2 12720 0, h0, h1, h2, by decide +kernel⟩

theorem meets_HandshakesEndInKeys_7
    (h0 : (waiting0 fun c => {c with hs := hs1 .sentI} : State).chainGood (0 : Fin 8) (List.take 2760 (List.drop 420 (ks 3 16128 852 : List Word))) = true)
    (h1 : Config.hybridValid (certKey (List.take 2760 (List.drop 420 (ks 3 16128 852 : List Word)))) (Vector.toList (transcript (waiting0 fun c => {c with hs := hs1 .sentI} : State).seals[(0 : Fin 8)].sentHello (waiting0 fun c => {c with hs := hs1 .sentI} : State).seals[(0 : Fin 8)].hello (waiting0 fun c => {c with hs := hs1 .sentI} : State).seals[(0 : Fin 8)].hs.ksI (List.take 3180 (ks 3 16128 852 : List Word)))) (List.drop 3180 (ks 3 16128 852 : List Word)) = true)
    (h2 : (waiting0 fun c => {c with hs := hs1 .sentI} : State).chainAdmitted (0 : Fin 8) (List.take 2760 (List.drop 420 (ks 3 16128 852 : List Word))) = true)
    :
  ∃ (s : State) (g : Fin 8) (m : List Word), s.chainGood g (List.take 2760 (List.drop 420 m)) = true ∧ Config.hybridValid
    (certKey (List.take 2760 (List.drop 420 m)))
    (Vector.toList (transcript s.seals[g].sentHello s.seals[g].hello s.seals[g].hs.ksI (List.take 3180 m)))
    (List.drop 3180 m) = true ∧ s.chainAdmitted g (List.take 2760 (List.drop 420 m)) = true ∧
    s.seals[g].hs.phase = HsPhase.sentI ∧ msgOk 3 m = true ∧ msgAttempt m = s.seals[g].hs.attempt :=
  ⟨waiting0 fun c => {c with hs := hs1 .sentI}, 0, ks 3 16128 852, h0, h1, h2, by decide +kernel⟩

theorem meets_HandshakesEndInKeys_8
    (h0 : Config.hybridValid (certKey (List.drop 420 (waiting0 fun c => {c with hs := hs1 .sentR} : State).seals[(0 : Fin 8)].hs.ksI)) (Vector.toList ((waiting0 fun c => {c with hs := hs1 .sentR} : State).seals[(0 : Fin 8)].hs.h2.getD (hashOf []))) (List.drop 4 (msgHeader 4 3424 3 ++ List.replicate 852 0 : List Word)) = true)
    :
  ∃ (s : State) (g : Fin 8) (m : List Word), Config.hybridValid (certKey (List.drop 420 s.seals[g].hs.ksI))
    (Vector.toList (s.seals[g].hs.h2.getD (hashOf []))) (List.drop 4 m) = true ∧ s.seals[g].hs.phase = HsPhase.sentR ∧ msgOk 4
    m = true ∧ msgAttempt m = s.seals[g].hs.attempt :=
  ⟨waiting0 fun c => {c with hs := hs1 .sentR}, 0, msgHeader 4 3424 3 ++ List.replicate 852 0, h0, by decide +kernel⟩

theorem meets_HandshakesFailByTheirRules_1 :
  ∃ (s : State) (dt : Nat) (g : Fin 8) (m : List Word) (x : List Word) (r : Reassembly), msgOk 6 m = true ∧
    (List.find? (fun x => msgType x == BitVec.toNat (m.getD 4 0)) s.seals[g].msgs = some x) ∧ s.seals[g].inbox = some r ∧
    r.missing ≠ 0 ∧ r.at_ + fourPeriods ≤ s.now + dt ∧ s.seals[g].hs.nacks < 8 ∧ s.seals[g].hs.phase ≠ HsPhase.idle ∧
    (8 ≤ s.seals[g].hs.nacks ∨ s.seals[g].hs.step + 20000000 ≤ s.now + dt) :=
  ⟨readyIn fun c =>
    {c with msgs := [helloFrom 3], hs := {hs1 .sentI with nacks := 7}, inbox := some {type := 2, attempt := 3, total := 26, got := [(25, [4])], at_ := 0}},
    20000000, 0, msgHeader 6 32 3 ++ [1, 1, 0, 0], helloFrom 3,
    {type := 2, attempt := 3, total := 26, got := [(25, [4])], at_ := 0}, by decide +kernel⟩

theorem meets_HandshakesFailByTheirRules_2 :
  ∃ (s : State) (g : Fin 8) (m : List Word), msgOk 7 m = true ∧ s.seals[g].hs.phase ≠ HsPhase.idle :=
  ⟨{keyed with seals := upd keyed.seals 0 fun c => {c with hs := {hs1 .sentI with nacks := 7}}}, 0, msgHeader 7 32 3 ++
    [4, 0, 0, 0], by decide +kernel⟩

theorem meets_EpochsAdvance_1 :
  ∃ (s : State) (g : Fin 8) (k : Keys) (e : Nat) (seq : Nat), s.seals[g].keys = some k ∧ s.announceDue g (s.nextSeq g) = true ∧
    s.seals[g].pend = none ∧ s.seals[g].heard = some (e, false, seq) ∧ s.seals[g].ackFor ≠ some e ∧ 1 ≤ fld s.seals[g].limits 8
    8 ∧ fld s.seals[g].limits 8 8 ≤ s.seals[g].fails ∧ bit (s.sec.policy.getD 4 0) 2 = true :=
  ⟨{keyed with seals := upd keyed.seals 0 fun c => {c with annNext := some 0, limits := 0x00000100, fails := 1, heard := some (2, false, 4)}, sec := {keyed.sec with policy := [0,0,0,0,4]}},
    0, keys1, 2, 4, by decide +kernel⟩

theorem meets_EpochsAdvance_2 :
  ∃ (s : State) (g : Fin 8) (k : Keys) (p : Pending) (prk : Hash) (e : Nat) (seq : Nat), s.seals[g].keys = some k ∧
    s.announceDue g (s.nextSeq g) = true ∧ s.seals[g].pend = some p ∧ p.prk = some prk ∧ p.tx = FirstKey.due ∧
    s.seals[g].heard = some (e, true, seq) ∧ s.seals[g].ackFor ≠ some e ∧ p.rx = FirstKey.due :=
  ⟨{keyed with seals := upd keyed.seals 0 fun c => {c with annNext := some 0, pend := some {initiator := true, prk := some (.replicate 12 7), tx := .due, rx := .due}, heard := some (2, true, 4)}, sec := {keyed.sec with policy := [0,0,0,0,4]}},
    0, keys1, {initiator := true, prk := some (.replicate 12 7), tx := .due, rx := .due}, .replicate 12 7, 2, 4,
    by decide +kernel⟩

theorem meets_EpochsAdvance_3 :
  ∃ (s : State) (g : Fin 8) (k : Keys) (a : Announce), s.seals[g].keys = some k ∧ s.seals[g].ann = some a ∧ s.withdrawDue g
    (s.nextSeq g) = true ∧ s.seals[g].withdrawn + 1 < 8 :=
  ⟨{keyed with grp := upd keyed.grp 0 fun p => {p with running := true, seq := 53}, seals := upd keyed.seals 0 fun c => {c with ann := some ann1, withdrawn := 6}},
    0, keys1, ann1, by decide +kernel⟩

theorem meets_EpochsAdvance_4 :
  ∃ (s : State) (g : Fin 8) (k : Keys) (a : Announce), s.seals[g].keys = some k ∧ s.seals[g].ann = some a ∧ s.withdrawDue g
    (s.nextSeq g) = true ∧ 8 ≤ s.seals[g].withdrawn + 1 :=
  ⟨{keyed with grp := upd keyed.grp 0 fun p => {p with running := true, seq := 53}, seals := upd keyed.seals 0 fun c => {c with ann := some ann1, withdrawn := 7}},
    0, keys1, ann1, by decide +kernel⟩

theorem meets_EpochsAdvance_5 :
  ∃ (s : State) (g : Fin 8) (k : Keys) (a : Announce) (e : Nat) (ky : Key), s.seals[g].keys = some k ∧ s.seals[g].ann = some
    a ∧ k.tx.next = some (e, ky) ∧ s.switchDue g (s.nextSeq g) = true ∧ a.fresh = false ∧ s.seals[g].since + 1 < 2 * fld
    (s.sec.policy.getD 4 0) 16 8 :=
  ⟨{keyed with grp := upd keyed.grp 0 fun p => {p with running := true, seq := 68}, seals := upd keyed.seals 0 fun c => {c with keys := some next1, ann := some {ann1 with acked := true}, withdrawn := 7}, sec := {keyed.sec with policy := [0,0,0,0,0x00010000]}},
    0, next1, {ann1 with acked := true}, 2, .replicate 8 5, by decide +kernel⟩

theorem meets_SelfTestCommandsTakeEffect_1 :
  ∃ (s : State) (i : Fin 78), s.takes ∧ s.anyRun = true ∧ s.bist[i].phase = Phase.running ∧ s.bist[i].held = true :=
  ⟨{active with bist := .replicate 78 {bistReset with phase := .running, held := true}}, 31, by decide +kernel⟩

theorem meets_SelfTestCommandsTakeEffect_2 :
  ∃ (s : State) (i : Fin 78), s.takes ∧ s.anyRun = true ∧ s.islandOn i.val = true ∧ s.underTest i.val = false ∧
    s.supplyHeld = false ∧ s.bistBlocked i.val = none :=
  ⟨active, 0, by decide +kernel⟩

theorem meets_SelfTestCommandsTakeEffect_3 :
  ∃ (s : State) (i : Fin 78), s.takes ∧ s.anyRun = true ∧ s.bist[i].phase = Phase.queued ∧
    (∀ d ∈ s.port.deferred, i.val ∉ d.isl) :=
  ⟨{active with bist := .replicate 78 {bistReset with phase := .queued}}, 31, by decide +kernel⟩

theorem meets_SelfTestRunsToItsResult_1 :
  ∃ (s : State) (dt : Nat) (i : Fin 78), (s.later dt).mayStart i = true :=
  ⟨{active with bist := upd active.bist 63 fun b => {b with phase := .queued}}, 5, 63, by decide +kernel⟩

theorem meets_SelfTestRunsToItsResult_2 :
  ∃ (s : State) (dt : Nat) (i : Fin 78) (applied : Nat), s.mcRuns = true ∧ s.bist[i].phase = Phase.running ∧
    (s.later dt).bistPaused i applied = true ∧ applied = (bistLoad i.val).1 ∧ s.bist[i].supply = false ∧
    s.bist[i].abort = false :=
  ⟨{active with bist := upd active.bist 63 fun b => {b with phase := .running}}, 5, 63, 65536, by decide +kernel⟩

theorem meets_SelfTestRunsToItsResult_3 :
  ∃ (s : State) (dt : Nat) (i : Fin 78) (applied : Nat), s.mcRuns = true ∧ s.bist[i].phase = Phase.running ∧
    (s.later dt).bistPaused i applied = true ∧ applied ≤ (bistLoad i.val).1 ∧
    (s.bist[i].supply = true ∨ s.bist[i].abort = true) :=
  ⟨{active with bist := upd active.bist 63 fun b => {b with phase := .running, abort := true}}, 5, 63, 4096, by decide +kernel⟩

theorem meets_SelfTestRunsToItsResult_4 :
  ∃ (s : State) (i : Fin 78), s.mcRuns = true ∧ s.bist[i].phase = Phase.reinit ∧ (∀ d ∈ s.port.deferred, i.val ∉ d.isl) :=
  ⟨{active with bist := upd active.bist 63 fun b => {b with phase := .reinit, next := {b.next with result := 1}}}, 63,
    by decide +kernel⟩

theorem meets_PacketsSurviveTheWire_1 :
  ∃ (p : Packet), p.cmd.params.length ≤ 1020 ∧ BitVec.getLsbD p.cmd.flags 0 = p.cmd.auth.isSome :=
  ⟨packet1, by decide +kernel⟩

theorem meets_PacketAndReplyLengthsFollowTheirCounts_1 :
  ∃ (p : Packet) (bs : List Byte) (pay : List Word), parsePacket bs = Waiting.good p ∧ pay.length ≤ 1020 :=
  ⟨packet1, wire packet1, [1,2], by decide +kernel⟩

theorem meets_RecordsFollowTheUnits_1 :
  ∃ (s : State), s.mon.sets = [] ∧ s.mcRuns = false :=
  ⟨off, by decide +kernel⟩
end Sys2Proof.Tests
end

/-! ## The command interface: the lengths of packets and replies (R44), and NO_REPLY (R47) -/

namespace Sys2Proof.Machine

/-! ### Lengths of packets and replies (R44) -/

/-- R4: where no part of a word is left over, four bytes make a word. -/
theorem length_eq_four_mul_bytesWords {bs : List Byte} (h : bs.length % 4 = 0) :
    bs.length = 4 * (bytesWords bs).length := by
  induction bs using bytesWords.induct with
  | case1 a b c d r ih =>
    have hr : r.length % 4 = 0 := by simpa [Nat.add_assoc] using h
    have hlen := ih hr
    simp only [bytesWords, List.length_cons]
    omega
  | case2 | case3 | case4 => simp at h
  | case5 => rfl

theorem packet_head_length (p : Packet) : p.head.length = p.cmd.params.length + 2 := rfl

theorem packet_words_length (p : Packet) :
    p.words.length = p.cmd.params.length + 3 + (if p.cmd.auth.isSome then 5 else 0) := by
  unfold Packet.words
  cases p.cmd.auth <;> simp [packet_head_length]

/-- R49: a packet that passes checks 1 to 4 is made of whole words, as many as its N and its AUTH say. -/
theorem parsePacket_good_length {bs : List Byte} {p : Packet} (h : parsePacket bs = .good p) :
    bs.length % 4 = 0 ∧ p.cmd.params.length ≤ 1020 ∧
    (bytesWords bs).length = p.cmd.params.length + 3 + (if p.cmd.auth.isSome then 5 else 0) := by
  unfold parsePacket at h
  extract_lets ws w0 w1 target tag n auth len at h
  by_cases hwhole : bs.length % 4 ≠ 0 ∨ len < 3
  · rw [if_pos hwhole] at h; cases h
  by_cases hcrc : crcWords ws.dropLast ≠ ws.getLastD 0
  · rw [if_neg hwhole, if_pos hcrc] at h; cases h
  by_cases hmark : fld w0 24 8 ≠ 0xC5
  · rw [if_neg hwhole, if_neg hcrc, if_pos hmark] at h; cases h
  by_cases hcount : 1020 < n ∨ len ≠ n + 3 + (if auth then 5 else 0)
  · rw [if_neg hwhole, if_neg hcrc, if_neg hmark, if_pos hcount] at h; cases h
  rw [if_neg hwhole, if_neg hcrc, if_neg hmark, if_neg hcount] at h
  cases h
  simp only [not_or, not_not, not_lt] at hwhole hcount
  obtain ⟨hn, hlen⟩ := hcount
  have hparams : ((ws.drop 2).take n).length = n := by
    rw [List.length_take, List.length_drop]
    change min n (len - 2) = n
    omega
  refine ⟨hwhole.1, hparams.trans_le hn, ?_⟩
  rw [hparams]
  cases hauth : auth <;> simpa [hauth] using hlen

theorem reply_length (s : State) (key : Option (Key × Word)) (status : Nat) (target : BitVec 16) (tag : Byte)
    (bitmap : Bool) (pay : List Word) :
    (s.reply key status target tag bitmap pay).length = pay.length + 5 + (if key.isSome then 5 else 0) := by
  cases key <;> simp [State.reply, lohi]

/-- Settles O6, from the length of each of the three: a packet as it is sent, the bytes that are taken for a packet, and a
reply. The bounds are those of 1,020 parameter or payload words. -/
theorem packetAndReplyLengthsFollowTheirCounts : Obligations.PacketAndReplyLengthsFollowTheirCounts := by
  refine ⟨packet_words_length, fun bs p h => ?_, fun s key st tgt tag bm pay => ⟨reply_length .., fun hpay => ?_⟩⟩
  · obtain ⟨hwhole, hmax, hwords⟩ := parsePacket_good_length h
    have hbytes := length_eq_four_mul_bytesWords hwhole
    rw [hwords] at hbytes
    refine ⟨hbytes, ?_⟩
    split at hbytes <;> omega
  · rw [reply_length]
    split <;> omega

/-! ### NO_REPLY (R47) -/

theorem deliver_waiting (s : State) (key : Option (Key × Word)) (p : Packet) {x : Answer} (hx : x.silent = false) :
    (s.deliver key p x).port.waiting = s.port.waiting.tail := by
  simp [State.deliver, hx]

theorem deliver_replies (s : State) (key : Option (Key × Word)) (p : Packet) {x : Answer} (hx : x.silent = false) :
    (s.deliver key p x).port.replies =
      if x.status = .ok ∧ p.cmd.flags.getLsbD 1 = true then x.st.port.replies
      else x.st.port.replies ++ [x.st.reply key x.status.code p.target p.cmd.tag x.bitmap x.pay] := by
  simp [State.deliver, hx]

/-- R46: the replies after the row of a command that the port takes are those its delivery leaves: its packet was the only
one to wait, so there is no other to answer. -/
theorem hostRow_replies {s : State} (hs : s.takes) (dt : Nat) {sp : CmdSpec} (hlate : ∀ t r, sp.late t r = t) {c : Cls}
    {cmd : Cmd} {p : Packet} (hpk : p = { op := BitVec.ofNat 8 sp.op, cls := c, cmd := cmd }) {x : Answer}
    (hp : (s.taken dt p).perform sp p = some x) (hx : x.silent = false) :
    (hostRow dt sp c cmd s).port.replies =
      ((s.taken dt p).deliver ((s.taken dt p).signer sp p) p x).port.replies := by
  subst hpk
  have hwait : ∀ p key, ((s.taken dt p).deliver key p x).port.waiting = [] := fun p key => by
    rw [deliver_waiting _ _ _ hx, taken_frame hs]; rfl
  rw [hostRow_served hs dt sp c cmd hp]
  simp only [hlate, ite_self]
  rw [finish_port, settle_empty (hwait _ _)]

/-- Settles O7, by the two cases in which a delivery adds a reply or none. -/
theorem onlyOkRepliesAreSuppressed : Obligations.OnlyOkRepliesAreSuppressed := by
  intro s dt sp c cmd x hs hlate p hp hx hkeeps
  have hrow := hostRow_replies hs dt hlate rfl hp hx
  rw [deliver_replies _ _ _ hx, hkeeps] at hrow
  split
  next hquiet => rw [hrow, if_pos hquiet]
  next hspoken => exact ⟨_, by rw [hrow, if_neg hspoken]⟩

end Sys2Proof.Machine

/-! The proofs that follow are elaborated one after another: side by side they need more memory than the check allows. -/
section
set_option Elab.async false

/-! ## Packets on the wire (R36, R41, R43, R49), the step, and the device after a reset -/

namespace Sys2Proof.Machine

/-! ### Words and bytes (R4) -/

/-- R4: the four bytes of a word give the word. -/
theorem bytesWords_wordBytes_append (w : Word) (bs : List Byte) :
    bytesWords (wordBytes w ++ bs) = w :: bytesWords bs := by
  have hw := w.isLt
  simp only [wordBytes, List.cons_append, List.nil_append, bytesWords, BitVec.toNat_ofNat]
  congr 1
  apply BitVec.eq_of_toNat_eq
  simp only [w32, BitVec.toNat_ofNat]
  omega

/-- R4: words that are sent as bytes are read back. -/
theorem bytesWords_flatMap_wordBytes (ws : List Word) : bytesWords (ws.flatMap wordBytes) = ws := by
  induction ws with
  | nil => rfl
  | cons w ws ih => rw [List.flatMap_cons, bytesWords_wordBytes_append, ih]

theorem length_flatMap_wordBytes (ws : List Word) : (ws.flatMap wordBytes).length = 4 * ws.length := by
  induction ws with
  | nil => rfl
  | cons w ws ih => rw [List.flatMap_cons, List.length_append, ih]; simp [wordBytes]; omega

/-! ### Word 0 and word 1 of a packet (R41) -/

theorem clsOf_clsCode (c : Cls) : clsOf (clsCode c) = c := by cases c <;> rfl

theorem clsCode_lt (c : Cls) : clsCode c < 16 := by cases c <;> decide

/-- R4: a word of three fields is their sum; the fields are variables here, so that no power of 2 is unfolded. -/
theorem pk_three_toNat (x y z : Nat × Nat) : (pk [x, y, z]).toNat =
    (x.1 * 2 ^ x.2 + (y.1 * 2 ^ y.2 + (z.1 * 2 ^ z.2 + 0))) % 2 ^ 32 :=
  BitVec.toNat_ofNat _ _

theorem pk_four_toNat (x y z w : Nat × Nat) : (pk [x, y, z, w]).toNat =
    (x.1 * 2 ^ x.2 + (y.1 * 2 ^ y.2 + (z.1 * 2 ^ z.2 + (w.1 * 2 ^ w.2 + 0)))) % 2 ^ 32 :=
  BitVec.toNat_ofNat _ _

/-- R41: word 0. -/
def Packet.word0 (p : Packet) : Word :=
  pk [(p.cmd.inst.toNat, 0), (clsCode p.cls, 12), (p.op.toNat, 16), (0xC5, 24)]

/-- R41: word 1. -/
def Packet.word1 (p : Packet) : Word :=
  pk [(p.cmd.params.length, 0), (p.cmd.flags.toNat, 16), (p.cmd.tag.toNat, 24)]

theorem head_words (p : Packet) : p.head = p.word0 :: p.word1 :: p.cmd.params := rfl

theorem word0_toNat (p : Packet) :
    p.word0.toNat = p.cmd.inst.toNat + 4096 * clsCode p.cls + 65536 * p.op.toNat + 16777216 * 0xC5 := by
  have h1 := p.cmd.inst.isLt
  have h2 := clsCode_lt p.cls
  have h3 := p.op.isLt
  rw [Packet.word0, pk_four_toNat]
  norm_num only
  omega

theorem word1_toNat (p : Packet) (h : p.cmd.params.length ≤ 1020) : p.word1.toNat =
    p.cmd.params.length + 65536 * p.cmd.flags.toNat + 16777216 * p.cmd.tag.toNat := by
  have h1 := p.cmd.flags.isLt
  have h2 := p.cmd.tag.isLt
  rw [Packet.word1, pk_three_toNat]
  norm_num only
  omega

/-! ### The trailer (R41, R56) -/

/-- R41: the words of an AUTH trailer. -/
def trailerWords (a : Auth) : List Word := a.seq :: (List.range 4).map fun k => a.cmac.extractLsb' (32 * k) 32

/-- R41: a packet without its CRC word. -/
def Packet.body (p : Packet) : List Word := p.head ++ (p.cmd.auth.map trailerWords).getD []

theorem packet_words_body (p : Packet) : p.words = p.body ++ [crcWords p.body] := by
  unfold Packet.words Packet.body
  cases p.cmd.auth <;> rfl

theorem cmac_words (c : BitVec 128) :
    c.extractLsb' 96 32 ++ c.extractLsb' 64 32 ++ c.extractLsb' 32 32 ++ c.extractLsb' 0 32 = c := by
  have h := c.isLt
  apply BitVec.eq_of_toNat_eq
  have low (k : Nat) : c.toNat >>> k % 2 ^ 32 < 2 ^ 32 := Nat.mod_lt _ (by norm_num)
  simp only [BitVec.toNat_append, BitVec.extractLsb'_toNat]
  rw [← Nat.shiftLeft_add_eq_or_of_lt (low _), ← Nat.shiftLeft_add_eq_or_of_lt (low _),
    ← Nat.shiftLeft_add_eq_or_of_lt (low _)]
  norm_num only [Nat.shiftLeft_eq, Nat.shiftRight_eq_div_pow] at h ⊢
  omega

/-! ### A packet that is sent is read back -/

theorem trailerWords_length (a : Auth) : (trailerWords a).length = 5 := by simp [trailerWords]

theorem fld_of_toNat {w : Word} {n : Nat} (h : w.toNat = n) (lo len : Nat) : fld w lo len = n / 2 ^ lo % 2 ^ len := by
  rw [fld, h]

theorem bit_of_toNat {w : Word} {n : Nat} (h : w.toNat = n) (i : Nat) : bit w i = n.testBit i := by
  rw [bit, ← h]; rfl

/-- R41: the fields of word 0. -/
theorem word0_fields (p : Packet) :
    fld p.word0 24 8 = 0xC5 ∧ fld p.word0 16 8 = p.op.toNat ∧ fld p.word0 12 4 = clsCode p.cls ∧
      fld p.word0 0 12 = p.cmd.inst.toNat := by
  have h1 := p.cmd.inst.isLt
  have h2 := clsCode_lt p.cls
  have h3 := p.op.isLt
  simp only [fld_of_toNat (word0_toNat p)]
  norm_num only
  omega

/-- R41: the fields of word 1. -/
theorem word1_fields (p : Packet) (h : p.cmd.params.length ≤ 1020) :
    fld p.word1 0 16 = p.cmd.params.length ∧ fld p.word1 16 8 = p.cmd.flags.toNat ∧ fld p.word1 24 8 = p.cmd.tag.toNat := by
  have h1 := p.cmd.flags.isLt
  have h2 := p.cmd.tag.isLt
  simp only [fld_of_toNat (word1_toNat p h)]
  norm_num only
  omega

/-- R41: FLAGS [0] is bit 16 of word 1. -/
theorem word1_auth (p : Packet) (h : p.cmd.params.length ≤ 1020) : bit p.word1 16 = p.cmd.flags.getLsbD 0 := by
  have h1 := p.cmd.flags.isLt
  have h2 := p.cmd.tag.isLt
  rw [bit_of_toNat (word1_toNat p h), Nat.testBit_eq_decide_div_mod_eq, BitVec.getLsbD, Nat.testBit_zero]
  norm_num only
  congr 1
  simp only [eq_iff_iff]
  omega

theorem words_getD_trailer (p : Packet) (k : Nat) : p.words.getD (p.cmd.params.length + 2 + k) 0 =
    ((p.cmd.auth.map trailerWords).getD [] ++ [crcWords p.body]).getD k 0 := by
  have h : p.cmd.params.length + 2 + k - p.head.length = k := by rw [packet_head_length]; omega
  rw [packet_words_body, Packet.body, List.append_assoc, List.getD_append_right _ _ _ _ (by rw [packet_head_length]; omega), h]

/-- Settles O5: the words are read back whole, the CRC word agrees with them, and each field stands where it is read. -/
theorem packetsSurviveTheWire : Obligations.PacketsSurviveTheWire := by
  intro p hn hauth
  obtain ⟨hmark, hop, hcls, hinst⟩ := word0_fields p
  obtain ⟨hcount, hflags, htag⟩ := word1_fields p hn
  have hbit := word1_auth p hn
  have hwords : p.words = p.word0 :: p.word1 :: (p.cmd.params ++ (p.cmd.auth.map trailerWords).getD [] ++ [crcWords p.body]) := by
    rw [packet_words_body, Packet.body, head_words]; rfl
  have hlen := packet_words_length p
  have hcrc : crcWords p.words.dropLast = p.words.getLastD 0 := by
    rw [packet_words_body]; simp
  have hbytes := length_flatMap_wordBytes p.words
  have hparams : ((p.words.drop 2).take p.cmd.params.length) = p.cmd.params := by simp [hwords]
  have hread := words_getD_trailer p
  have h0 : p.words.getD 0 0 = p.word0 := by rw [hwords]; rfl
  have h1 : p.words.getD 1 0 = p.word1 := by rw [hwords]; rfl
  unfold parsePacket
  simp only [bytesWords_flatMap_wordBytes, hbytes]
  rw [h0, h1, hcount, hflags, htag, hmark, hop, hcls, hinst, hbit, hauth, hparams, clsOf_clsCode, if_neg, if_neg, if_neg,
    if_neg, if_pos]
  · obtain ⟨op, cls, inst, tag, flags, params, auth⟩ := p
    cases auth with
    | none => simp
    | some a =>
      have h2 := hread 0
      have h3 := hread 1
      have h4 := hread 2
      have h5 := hread 3
      have h6 := hread 4
      simp only [Nat.add_zero, Nat.add_assoc, Nat.reduceAdd] at h2 h3 h4 h5 h6
      simp only [h2, h3, h4, h5, h6]
      simp [trailerWords, List.range_succ, cmac_words]
  · omega
  · rw [hlen]; omega
  · decide
  · exact not_not.2 hcrc
  · rw [hlen]; omega

/-! ### Steps and the reset -/

/-- Settles O1: `step` takes the queue apart in the two ways that the statement names. -/
theorem stepRunsFrontCommand : Obligations.StepRunsFrontCommand :=
  ⟨fun _ _ _ h => by unfold step; rw [h], fun _ h => by unfold step; rw [h]⟩

theorem reset_admin : ∀ u ∈ unitTable, State.reset.admin u.1 u.2 =
    if u.1 = .bist ∨ (u.1 = .mbx ∧ u.2 ∈ channels) ∨ u.1 = .thm ∨ u.1 = .mem ∨ (u.1 = .mon ∧ u.2 = 0xFE) then .up
    else .down := by
  decide +kernel

/-- Settles O2: every field of the reset state is written out; of the units, each is looked up. -/
theorem resetLeavesWhatTheSpecSays : Obligations.ResetLeavesWhatTheSpecSays :=
  ⟨⟨rfl, by decide⟩, rfl, rfl, rfl, rfl, rfl, rfl, rfl, rfl, rfl, rfl, rfl, rfl, rfl, rfl, fun g => by decide +revert, rfl, rfl,
    reset_admin⟩

end Sys2Proof.Machine

/-! ## Rows: how a command to one unit and an event are run, once for all -/

namespace Sys2Proof.Machine

/-! ### Commands to one unit -/

/-- R62, R70, R328: what goes on while a row arrives: events are queued and counters count; no record, no Local Fault and no
setting of a counter changes. -/
structure Obs.GoesOn (a b : Obs) : Prop where
  recs   : b.recs = a.recs
  lf     : b.lf = a.lf
  missed : b.missed = a.missed
  adapt  : b.adapt = a.adapt
  carry  : b.carry = a.carry
  held   : b.held = a.held
  cfg    : ∀ k : Fin 64, b.perf[k].cfg = a.perf[k].cfg
  code   : ∀ k : Fin 64, b.perf[k].code = a.perf[k].code
  queue  : a.queue <+: b.queue

/-- The state in which a command executes: `dt` ns have passed, its packet is in its slot, and counted. -/
abbrev State.heard (s : State) (dt : Nat) (o : Obs) (k : Vector Stats 321) (w : List Waiting) : State :=
  { s with now := s.now + dt, obs := o, stats := k, port := { s.port with waiting := w } }

/-- The request of a command to one unit, as its checks see it. -/
abbrev unitReq (c : Cls) (i op : Nat) (g : Byte) (ps : List Word) : Req :=
  { cls := c, inst := i, op := op, tag := g, params := ps, authed := false, all := [i] }

theorem goesOn_refl (a : Obs) : a.GoesOn a :=
  ⟨rfl, rfl, rfl, rfl, rfl, rfl, fun _ => rfl, fun _ => rfl, List.prefix_refl _⟩

theorem Obs.GoesOn.trans {a b c : Obs} (h : a.GoesOn b) (h' : b.GoesOn c) : a.GoesOn c :=
  ⟨h'.recs.trans h.recs, h'.lf.trans h.lf, h'.missed.trans h.missed, h'.adapt.trans h.adapt, h'.carry.trans h.carry,
    h'.held.trans h.held, fun k => (h'.cfg k).trans (h.cfg k), fun k => (h'.code k).trans (h.code k), h.queue.trans h'.queue⟩

theorem raise_goesOn (s : State) (c : Cls) (i code : Nat) (arg : Word) : s.obs.GoesOn (s.raise c i code arg).obs := by
  have hq := raise_queue s c i code arg
  unfold State.raise at hq ⊢
  dsimp only at hq ⊢
  split at hq
  next h => rw [if_pos h]; exact ⟨rfl, rfl, rfl, rfl, rfl, rfl, fun _ => rfl, fun _ => rfl, hq⟩
  next h => rw [if_neg h]; exact ⟨rfl, rfl, rfl, rfl, rfl, rfl, fun _ => rfl, fun _ => rfl, hq⟩

theorem raiseIf_goesOn (s : State) (b : Bool) (c : Cls) (i code : Nat) (arg : Word) :
    s.obs.GoesOn (s.raiseIf b c i code arg).obs := by
  cases b
  · exact goesOn_refl _
  · exact raise_goesOn s c i code arg

theorem foldl_goesOn {α : Type} {f : State → α → State} (h : ∀ (s : State) a, s.obs.GoesOn (f s a).obs) (l : List α) (s : State) :
    s.obs.GoesOn (l.foldl f s).obs := by
  induction l generalizing s with
  | nil => exact goesOn_refl _
  | cons a l ih => exact (h s a).trans (ih _)

theorem mapIxGo_get {α : Type} (f : Nat → α → α) : ∀ (l : List α) (k j : Nat) (h : j < l.length),
    (mapIxGo f k l)[j]'(by rw [mapIxGo_length]; exact h) = f (k + j) l[j]
  | _ :: _, _, 0, _ => rfl
  | _ :: r, k, j + 1, h => by
    have ih := mapIxGo_get f r (k + 1) j (by simpa using h)
    simp only [mapIxGo, List.getElem_cons_succ, ih]
    congr 1
    omega

/-- Each element of a vector is changed by the function of its index. -/
theorem vmapIx_get {α : Type} {n : Nat} (f : Nat → α → α) (v : Vector α n) (k : Fin n) : (vmapIx f v)[k] = f k.val v[k] := by
  have h := mapIxGo_get f v.toArray.toList 0 k.val (by simp)
  simpa [vmapIx] using h

theorem perfAdd_cfg (p : PerfCtr) (n : Nat) : (p.add n).1.cfg = p.cfg ∧ (p.add n).1.code = p.code := by
  unfold PerfCtr.add
  split
  · exact ⟨rfl, rfl⟩
  · split <;> exact ⟨rfl, rfl⟩

theorem perfMap_goesOn (s : State) (amt : Nat → PerfCtr → Nat) : s.obs.GoesOn (s.perfMap amt) := by
  unfold State.perfMap
  extract_lets f hits t
  have hf (k : Nat) (p : PerfCtr) : (f k p).1.cfg = p.cfg ∧ (f k p).1.code = p.code := by
    simp only [f]
    split
    · exact ⟨rfl, rfl⟩
    · split
      · exact ⟨rfl, rfl⟩
      · exact perfAdd_cfg _ _
  have h : s.obs.GoesOn t.obs := foldl_goesOn (fun t (k : Fin 64) => raise_goesOn t .perf k.val _ _) hits s
  exact ⟨h.recs, h.lf, h.missed, h.adapt, h.carry, h.held, fun k => by rw [vmapIx_get]; exact (hf _ _).1,
    fun k => by rw [vmapIx_get]; exact (hf _ _).2, h.queue⟩

theorem advance_goesOn (s : State) (dt : Nat) : s.obs.GoesOn (s.advance dt).obs := by
  unfold State.advance; dsimp only; exact perfMap_goesOn { s with now := s.now + dt } _

theorem signal_goesOn (s : State) (c : Cls) (i sig n : Nat) : s.obs.GoesOn (s.signal c i sig n).obs := by
  unfold State.signal; dsimp only; exact perfMap_goesOn s _

/-- R36: the state in which a command that the port takes executes. -/
theorem taken_heard {s : State} (h : s.takes) (dt : Nat) (p : Packet) :
    ∃ o k, s.taken dt p = s.heard dt o k [.good p] ∧ s.obs.GoesOn o := by
  refine ⟨(s.taken dt p).obs, (s.taken dt p).stats, taken_frame h dt p, ?_⟩
  obtain ⟨hr, hj, hw, hq⟩ := h
  have hfree : (s.advance dt).qfree ≠ 0 := by
    change 4 - (s.port.replies.length + s.port.waiting.length) ≠ 0
    rw [hw, List.length_nil]; omega
  have hready : (s.advance dt).ready = true := hr
  have hscan : (s.advance dt).scanHolds = false := hj
  unfold State.taken State.takeIn
  simp only [hready, hscan, hfree, Bool.not_true, Bool.or_self, Bool.false_eq_true, if_false]
  refine (advance_goesOn s dt).trans ?_
  generalize s.advance dt = a
  exact signal_goesOn ({ a with port := { a.port with waiting := a.port.waiting ++ [Waiting.good p] } } |>.count .dev 0 0) _ _ _ _

/-- R55: the level of a command, as its opcode and its specification give it. -/
def CmdSpec.hasLevel (sp : CmdSpec) : Level → Prop
  | .basic => decide (sp.op < 0x80) = true ∧ sp.counter = false ∧ sp.secure = fun _ _ => false
  | .expert => sp.counter = false ∧ sp.secure = fun _ _ => false
  | .counter => decide (sp.op < 0x80) = true ∧ sp.secure = fun _ _ => false
  | .secure => True

theorem level_allowed {s b : State} {sp : CmdSpec} {k : Level} {r : Req} (hf : b.fuse = s.fuse) (hc : b.sec = s.sec)
    (ha : s.allows k) (hk : sp.hasLevel k) (hd : sp.denied b r = false) (hl : sp.locked b r = false) : b.level sp r = none := by
  have hown : b.owned = s.owned := by simp only [State.owned, State.lifecycle, hf]
  have hlife : b.lifecycle = s.lifecycle := by simp only [State.lifecycle, hf]
  have hper (j : Nat) : b.permit j = s.permit j := by simp only [State.permit, hc]
  cases k with
  | basic => exact level_basic (of_decide_eq_true hk.1) (by rw [hk.2.2]) hk.2.1 hd hl
  | expert => exact level_expert (by simpa only [State.allows, hown, hper] using ha) (by rw [hk.2]) hk.1 hd hl
  | counter => exact level_counter (by simpa only [State.allows, hown, hper] using ha) (of_decide_eq_true hk.1) (by rw [hk.2]) hd hl
  | secure => exact level_secure (by simpa only [State.allows, hown, hlife] using ha) hd hl

/-- R49: the checks that a command's own chapter makes, in the state `b`, and that it then ends OK with a reply. -/
structure Served (sp : CmdSpec) (b : State) (r : Req) : Prop where
  count  : sp.count b r = true := by rfl
  bad    : sp.bad b r = none := by rfl
  busy   : sp.busy b r = none := by rfl
  cond   : sp.cond b r = none := by rfl
  status : (sp.act b r).status = .ok := by rfl
  silent : (sp.act b r).silent = false := by rfl

/-- R46, R49: a command to one unit that every check passes has its effect in the state in which it is heard. -/
theorem unit_command {s : State} {dt : Nat} {sp : CmdSpec} {c : Cls} {i : Nat} {g f : Byte} {ps : List Word}
    (ht : s.takes) (hdev : s.power.dev ≠ .shutdown ∨ sp.op = 0 ∧ c = .dev ∧ i = 0) (hi : i ∈ instances c)
    (hlev : ∀ o m w, (s.heard dt o m w).level sp (unitReq c i sp.op g ps) = none)
    (hu : ∀ o m w, s.meets sp (sp.isl (s.heard dt o m w) (unitReq c i sp.op g ps)))
    (h : ∀ o m w, s.obs.GoesOn o → Served sp (s.heard dt o m w) (unitReq c i sp.op g ps))
    (hav : ∀ o m w, s.obs.GoesOn o → sp.avail (s.heard dt o m w) { unitReq c i sp.op g ps with all := [] } = none)
    (hacc : sp.accepts c i = true := by rfl)
    (hop : (BitVec.ofNat 8 sp.op).toNat = sp.op := by rfl) (hg : sp.groupCmd = false := by rfl)
    (hisl : ∀ b : State, sp.isl b { unitReq c i sp.op g ps with all := [] } = sp.isl b (unitReq c i sp.op g ps) := by
      intros; rfl)
    (hlate : sp.late = fun t _ => t := by rfl) :
    ∃ o m w, s.obs.GoesOn o ∧
      hostRow dt sp c (cmdTo i g f ps) s = finish ((sp.after (sp.act (s.heard dt o m w) (unitReq c i sp.op g ps)).st
        [i]).answered c (cmdTo i g f ps) (sp.act (s.heard dt o m w) (unitReq c i sp.op g ps)).pay) := by
  obtain ⟨o, m, hb, hkeep⟩ := taken_heard ht dt { op := BitVec.ofNat 8 sp.op, cls := c, cmd := cmdTo i g f ps }
  refine ⟨o, m, [.good { op := BitVec.ofNat 8 sp.op, cls := c, cmd := cmdTo i g f ps }], hkeep, ?_⟩
  obtain ⟨hcount, hbad, hbusy, hcond, hst, hsil⟩ := h o m [.good { op := BitVec.ofNat 8 sp.op, cls := c, cmd := cmdTo i g f ps }] hkeep
  have hsmall : i < 0x100 := by
    have hall : ∀ c, ∀ j ∈ instances c, j < 0x100 := by intro c; cases c <;> decide
    exact hall c i hi
  exact hostRow_runs ht hdev (by simpa using hi) hsmall hb.symm (by rw [hop]) (by rw [hop])
    (hav _ _ _ hkeep) hg hacc (hisl _) (hu _ _ _) (hlev _ _ _) hcount hbad hbusy hcond hst
    hsil (by intro t r; rw [hlate])

/-! ### What an answered command leaves, replies and raises -/

/-- What a command has made of the state: `e`, but for what `Leaves` and `Replies` speak of apart. -/
def Effects (s e x : State) : Prop :=
  x = { e with
    obs := x.obs, mon := x.mon, stats := x.stats, free := x.free, port := { s.port with waiting := x.port.waiting } }

theorem answered_effects {s e x : State} {c : Cls} {i : Nat} {g f : Byte} {ps pay : List Word} (hw : s.port.waiting = [])
    (h : Effects s e x) : Leaves 0 e (finish (x.answered c (cmdTo i g f ps) pay)) ∧
      Replies s (finish (x.answered c (cmdTo i g f ps) pay)) (cmdTo i g f ps) c 0 pay :=
  answered_does hw ⟨_, _, _, _, _, h⟩

/-- A command to one unit that passes check 10, run to what it leaves: `P` need only hold of the state that its effect ends in. -/
theorem unit_gives_leveled {instr : Instr} {s : State} {dt : Nat} (sp : CmdSpec) {c : Cls} {i : Nat} {g f : Byte} {ps : List Word}
    {P : State → Prop} (ht : s.takes) (hrun : s.anyRun = true) (hi : i ∈ instances c)
    (hlev : ∀ o m w, (s.heard dt o m w).level sp (unitReq c i sp.op g ps) = none)
    (hu : ∀ o m w, s.meets sp (sp.isl (s.heard dt o m w) (unitReq c i sp.op g ps)))
    (h : ∀ o m w, s.obs.GoesOn o → Served sp (s.heard dt o m w) (unitReq c i sp.op g ps))
    (hP : ∀ o m w, s.obs.GoesOn o → P (finish ((sp.after (sp.act (s.heard dt o m w) (unitReq c i sp.op g ps)).st
        [i]).answered c (cmdTo i g f ps) (sp.act (s.heard dt o m w) (unitReq c i sp.op g ps)).pay)))
    (hrow : exec instr s = .next (hostRow dt sp c (cmdTo i g f ps) s) := by rfl)
    (hav : sp.avail = availRun := by rfl)
    (hacc : sp.accepts c i = true := by rfl)
    (hop : (BitVec.ofNat 8 sp.op).toNat = sp.op := by rfl) (hg : sp.groupCmd = false := by rfl)
    (hisl : ∀ b : State, sp.isl b { unitReq c i sp.op g ps with all := [] } = sp.isl b (unitReq c i sp.op g ps) := by
      intros; rfl)
    (hlate : sp.late = fun t _ => t := by rfl) : Gives instr s P := by
  obtain ⟨o, m, w, hkeep, ht'⟩ := unit_command (f := f) ht (.inl (anyRun_dev hrun)) hi hlev hu h
    (fun o m w _ => by rw [hav]; exact if_pos hrun) hacc hop hg hisl hlate
  exact ⟨_, hrow, ht' ▸ hP o m w hkeep⟩

/-- A command to one unit, run to what it leaves: `P` need only hold of the state that its effect ends in. -/
theorem unit_gives_of {instr : Instr} {s : State} {dt : Nat} (sp : CmdSpec) {c : Cls} {i : Nat} {g f : Byte} {ps : List Word}
    {k : Level} {P : State → Prop} (ht : s.takes) (hrun : s.anyRun = true) (hi : i ∈ instances c) (ha : s.allows k)
    (hu : ∀ o m w, s.meets sp (sp.isl (s.heard dt o m w) (unitReq c i sp.op g ps)))
    (h : ∀ o m w, s.obs.GoesOn o → Served sp (s.heard dt o m w) (unitReq c i sp.op g ps))
    (hP : ∀ o m w, s.obs.GoesOn o → P (finish ((sp.after (sp.act (s.heard dt o m w) (unitReq c i sp.op g ps)).st
        [i]).answered c (cmdTo i g f ps) (sp.act (s.heard dt o m w) (unitReq c i sp.op g ps)).pay)))
    (hrow : exec instr s = .next (hostRow dt sp c (cmdTo i g f ps) s) := by rfl)
    (hav : sp.avail = availRun := by rfl)
    (hk : sp.hasLevel k := by simp only [CmdSpec.hasLevel] <;> constructorm* _ ∧ _ <;> rfl)
    (hd : ∀ b : State, sp.denied b (unitReq c i sp.op g ps) = false := by intros; rfl)
    (hl : ∀ b : State, sp.locked b (unitReq c i sp.op g ps) = false := by intros; rfl)
    (hacc : sp.accepts c i = true := by rfl)
    (hop : (BitVec.ofNat 8 sp.op).toNat = sp.op := by rfl) (hg : sp.groupCmd = false := by rfl)
    (hisl : ∀ b : State, sp.isl b { unitReq c i sp.op g ps with all := [] } = sp.isl b (unitReq c i sp.op g ps) := by
      intros; rfl)
    (hlate : sp.late = fun t _ => t := by rfl) : Gives instr s P :=
  unit_gives_leveled sp ht hrun hi (fun _ _ _ => level_allowed rfl rfl ha hk (hd _) (hl _)) hu h hP hrow hav hacc hop hg hisl hlate

/-- A command to one unit, run to its effect and its reply. -/
theorem unit_gives {instr : Instr} {s : State} {dt : Nat} (sp : CmdSpec) {c : Cls} {i : Nat} {g f : Byte} {ps : List Word}
    {k : Level} {e : State} {pay : List Word} (ht : s.takes) (hrun : s.anyRun = true) (hi : i ∈ instances c) (ha : s.allows k)
    (hu : ∀ o m w, s.meets sp (sp.isl (s.heard dt o m w) (unitReq c i sp.op g ps)))
    (h : ∀ o m w, s.obs.GoesOn o → Served sp (s.heard dt o m w) (unitReq c i sp.op g ps))
    (hx : ∀ o m w, s.obs.GoesOn o → (sp.act (s.heard dt o m w) (unitReq c i sp.op g ps)).pay = pay ∧
      Effects s { e with now := e.now + dt } (sp.after (sp.act (s.heard dt o m w) (unitReq c i sp.op g ps)).st [i]))
    (hrow : exec instr s = .next (hostRow dt sp c (cmdTo i g f ps) s) := by rfl)
    (hav : sp.avail = availRun := by rfl)
    (hk : sp.hasLevel k := by simp only [CmdSpec.hasLevel] <;> constructorm* _ ∧ _ <;> rfl)
    (hd : ∀ b : State, sp.denied b (unitReq c i sp.op g ps) = false := by intros; rfl)
    (hl : ∀ b : State, sp.locked b (unitReq c i sp.op g ps) = false := by intros; rfl)
    (hacc : sp.accepts c i = true := by rfl)
    (hop : (BitVec.ofNat 8 sp.op).toNat = sp.op := by rfl) (hg : sp.groupCmd = false := by rfl)
    (hisl : ∀ b : State, sp.isl b { unitReq c i sp.op g ps with all := [] } = sp.isl b (unitReq c i sp.op g ps) := by
      intros; rfl)
    (hlate : sp.late = fun t _ => t := by rfl) :
    Gives instr s fun t => Leaves dt e t ∧ Replies s t (cmdTo i g f ps) c 0 pay := by
  refine unit_gives_of sp ht hrun hi ha hu h (fun o m w hkeep => ?_) hrow hav hk hd hl hacc hop hg hisl hlate
  obtain ⟨hpay, heff⟩ := hx o m w hkeep
  rw [hpay]
  exact answered_effects ht.2.2.1 heff

/-- The same where effect and reply are stated as functions of the state in which the row's time has passed. -/
theorem unit_does {row : Nat → Cmd → Instr} {s : State} {dt : Nat} (sp : CmdSpec) {c : Cls} {i : Nat} {g f : Byte}
    {ps : List Word} {k : Level} {e : State → State} {pay : State → List Word} (ht : s.takes) (hrun : s.anyRun = true)
    (hi : i ∈ instances c) (ha : s.allows k)
    (hu : ∀ o m w, s.meets sp (sp.isl (s.heard dt o m w) (unitReq c i sp.op g ps)))
    (h : ∀ o m w, s.obs.GoesOn o → Served sp (s.heard dt o m w) (unitReq c i sp.op g ps))
    (hx : ∀ o m w, s.obs.GoesOn o → (sp.act (s.heard dt o m w) (unitReq c i sp.op g ps)).pay = pay (s.later dt) ∧
      Effects s (e (s.later dt)) (sp.after (sp.act (s.heard dt o m w) (unitReq c i sp.op g ps)).st [i]))
    (hrow : exec (row dt (cmdTo i g f ps)) s = .next (hostRow dt sp c (cmdTo i g f ps) s) := by rfl)
    (hav : sp.avail = availRun := by rfl)
    (hk : sp.hasLevel k := by simp only [CmdSpec.hasLevel] <;> constructorm* _ ∧ _ <;> rfl)
    (hd : ∀ b : State, sp.denied b (unitReq c i sp.op g ps) = false := by intros; rfl)
    (hl : ∀ b : State, sp.locked b (unitReq c i sp.op g ps) = false := by intros; rfl)
    (hacc : sp.accepts c i = true := by rfl)
    (hop : (BitVec.ofNat 8 sp.op).toNat = sp.op := by rfl) (hg : sp.groupCmd = false := by rfl)
    (hisl : ∀ b : State, sp.isl b { unitReq c i sp.op g ps with all := [] } = sp.isl b (unitReq c i sp.op g ps) := by
      intros; rfl)
    (hlate : sp.late = fun t _ => t := by rfl) : Does row c s dt (cmdTo i g f ps) e pay := by
  refine unit_gives_of sp ht hrun hi ha hu h (fun o m w hkeep => ?_) hrow hav hk hd hl hacc hop hg hisl hlate
  obtain ⟨hpay, heff⟩ := hx o m w hkeep
  rw [hpay]
  exact answered_effects ht.2.2.1 heff

/-! ### Events -/

/-- An event row, run to what its event does: `P` need only hold after what follows the row. -/
theorem event_gives {instr : Instr} {s : State} {dt : Nat} (f : State → State) {P : State → Prop}
    (h : ∀ o, s.obs.GoesOn o → P (finish (f { s.later dt with obs := o })))
    (hrow : exec instr s = .next (eventRow dt f s) := by rfl) : Gives instr s P :=
  ⟨_, hrow, h _ (advance_goesOn s dt)⟩

/-- What an event has made of the state: `e`, but for what MC and the counting hardware keep. -/
def Turns (e x : State) : Prop := x = { e with obs := x.obs, mon := x.mon, stats := x.stats, free := x.free }

section
variable {e x : State} {c : Cls} {i code sig n : Nat} {k : Fin 9} {arg : Word} {b : Bool}

theorem turns_iff : Turns e x ↔ ∃ o m k n, x = { e with obs := o, mon := m, stats := k, free := n } :=
  ⟨fun h => ⟨_, _, _, _, h⟩, fun ⟨o, m, k, n, h⟩ => by subst h; rfl⟩

theorem Turns.withStats (h : Turns e x) {k : Vector Stats 321} : Turns e { x with stats := k } := by
  obtain ⟨o, m, k, n, rfl⟩ := turns_iff.1 h; rfl

theorem Turns.withObs (h : Turns e x) {o : Obs} : Turns e { x with obs := o } := by
  obtain ⟨o, m, k, n, rfl⟩ := turns_iff.1 h; rfl

theorem Turns.count (h : Turns e x) : Turns e (x.count c i k n) := h.withStats

theorem Turns.signal (h : Turns e x) : Turns e (x.signal c i sig n) := h.withObs

theorem Turns.raise (h : Turns e x) : Turns e (x.raise c i code arg) := h.withObs

theorem Turns.raiseIf (h : Turns e x) : Turns e (x.raiseIf b c i code arg) := h.withObs

end

theorem turns_becomes {dt : Nat} {e x : State} (h : Turns { e with now := e.now + dt } x) : Becomes dt e (finish x) := by
  unfold Turns at h
  constructor
  · rw [h]; rfl
  · rw [h]; rfl

/-- R70, R71: on the way from `s` to `x` the event is raised, at the time of `s`. -/
def Raises (s x : State) (c : Cls) (i code : Nat) (arg : Word) : Prop :=
  s.mcRuns = true → (s.unit c i).mask.getLsbD code = true →
    { code := code, cls := c, inst := i, arg := arg, time := s.now } ∈ x.obs.queue ∨ 256 ≤ x.obs.queue.length

/-- What is raised on the way, in a state `u` that has the masks and the time of `s`, stands in the queue. -/
theorem raises_raise (u : State) {s : State} {c : Cls} {i code : Nat} {arg : Word} (hp : u.power = s.power := by simp)
    (hu : u.units = s.units := by simp) (hn : u.now = s.now := by simp) : Raises s (u.raise c i code arg) c i code arg := by
  intro hr hm
  rw [← hn]
  refine raise_enters ?_ ?_
  · unfold State.mcRuns at hr ⊢; rw [hp]; exact hr
  · unfold State.unit at hm ⊢; rw [hu]; exact hm

theorem raises_raiseIf (u : State) {s : State} {c : Cls} {i code : Nat} {arg : Word} {b : Bool} (hb : b = true)
    (hp : u.power = s.power := by simp) (hu : u.units = s.units := by simp) (hn : u.now = s.now := by simp) :
    Raises s (u.raiseIf b c i code arg) c i code arg := by
  subst hb; exact raises_raise u hp hu hn

section
variable {s x : State} {c : Cls} {i code : Nat} {arg : Word}

theorem Raises.mono {y : State} (h : Raises s x c i code arg) (hq : x.obs.queue <+: y.obs.queue) : Raises s y c i code arg :=
  fun hr hm => enters_mono hq (h hr hm)

variable {c' : Cls} {i' code' sig m : Nat} {j : Fin 9} {arg' : Word} {b : Bool}

theorem Raises.raise (h : Raises s x c i code arg) :
    Raises s (x.raise c' i' code' arg') c i code arg := h.mono (raise_queue ..)

theorem Raises.raiseIf (h : Raises s x c i code arg) :
    Raises s (x.raiseIf b c' i' code' arg') c i code arg := h.mono (raiseIf_queue ..)

theorem Raises.signal (h : Raises s x c i code arg) :
    Raises s (x.signal c' i' sig m) c i code arg := h.mono (signal_queue ..)

theorem Raises.count (h : Raises s x c i code arg) : Raises s (x.count c' i' j m) c i code arg := h

end

theorem finish_raised {s s' x : State} {c : Cls} {i code : Nat} {arg : Word} (h : Raises s' x c i code arg)
    (hnow : x.now = s'.now) (hp : s'.power = s.power := by rfl) (hu : s'.units = s.units := by rfl) :
    Raised s (finish x) c i code arg := by
  intro hr hm
  have hx := h (by unfold State.mcRuns at hr ⊢; rw [hp]; exact hr) (by unfold State.unit at hm ⊢; rw [hu]; exact hm)
  rw [← hnow] at hx
  exact finish_enters hx

/-- An event that leaves `e` and raises: in the words of the statements. -/
theorem turns_raised {s s' e x : State} {dt : Nat} {c : Cls} {i code : Nat} {arg : Word}
    (ht : Turns { e with now := e.now + dt } x) (hr : Raises s' x c i code arg) (hnow : e.now + dt = s'.now := by rfl)
    (hp : s'.power = s.power := by rfl) (hu : s'.units = s.units := by rfl) :
    Becomes dt e (finish x) ∧ Raised s (finish x) c i code arg := by
  refine ⟨turns_becomes ht, finish_raised hr ?_ hp hu⟩
  unfold Turns at ht
  rw [ht]
  exact hnow

theorem answered_raised {s s' x : State} {c c' : Cls} {i code : Nat} {arg : Word} {cmd : Cmd} {pay : List Word}
    (h : Raises s' x c i code arg) (hnow : x.now = s'.now := by rfl) (hp : s'.power = s.power := by rfl)
    (hu : s'.units = s.units := by rfl) : Raised s (finish (x.answered c' cmd pay)) c i code arg :=
  finish_raised (x := x.answered c' cmd pay) h hnow hp hu

section
variable {s e x : State} {c : Cls} {i code sig n : Nat} {k : Fin 9} {arg : Word} {b : Bool}

theorem effects_iff : Effects s e x ↔ ∃ o m k p w,
    x = { e with obs := o, mon := m, stats := k, free := p, port := { s.port with waiting := w } } :=
  ⟨fun h => ⟨_, _, _, _, _, h⟩, fun ⟨o, m, k, p, w, h⟩ => by subst h; rfl⟩

theorem Effects.withStats (h : Effects s e x) {k : Vector Stats 321} : Effects s e { x with stats := k } := by
  obtain ⟨o, m, k, p, w, rfl⟩ := effects_iff.1 h; rfl

theorem Effects.withObs (h : Effects s e x) {o : Obs} : Effects s e { x with obs := o } := by
  obtain ⟨o, m, k, p, w, rfl⟩ := effects_iff.1 h; rfl

theorem Effects.count (h : Effects s e x) : Effects s e (x.count c i k n) := h.withStats

theorem Effects.signal (h : Effects s e x) : Effects s e (x.signal c i sig n) := h.withObs

theorem Effects.raise (h : Effects s e x) : Effects s e (x.raise c i code arg) := h.withObs

theorem Effects.raiseIf (h : Effects s e x) : Effects s e (x.raiseIf b c i code arg) := h.withObs

end

/-! ### Changes of one element -/

theorem upd_congr {α : Type} {n : Nat} {v : Vector α n} {i : Fin n} {f g : α → α} (h : f v[i] = g v[i]) :
    upd v i f = upd v i g := by
  unfold upd; rw [h]

/-- R49: a command without islands asks nothing of any. -/
theorem meets_of_nil {s : State} {sp : CmdSpec} : s.meets sp [] := fun _ h => nomatch h

/-! ### ADMIN as check 14 asks for it -/

theorem upOrTest_of_isUp {s : State} {c : Cls} {i : Nat} (h : s.isUp c i = true) :
    [Admin.up, .test].contains (s.admin c i) = true := by
  unfold State.isUp at h
  cases ha : s.admin c i <;> simp_all

theorem downOrTest_of_ne_up {s : State} {c : Cls} {i : Nat} (h : s.admin c i ≠ .up) :
    [Admin.down, .test].contains (s.admin c i) = true := by
  cases ha : s.admin c i <;> simp_all

theorem test_of_eq {s : State} {c : Cls} {i : Nat} (h : s.admin c i = .test) : [Admin.test].contains (s.admin c i) = true := by
  rw [h]; rfl

/-- R59: no check names a bad parameter where all of them hold. -/
theorem firstBad_none_iff {l : List (Bool × Nat)} : firstBad l = none ↔ ∀ p ∈ l, p.1 = true := by
  simp [firstBad, List.find?_eq_none]

/-- One check on the parameters, which holds. -/
theorem firstBad_one {b : Bool} {k : Nat} (h : b = true) : firstBad [(b, k)] = none := by rw [h]; rfl

/-! ### The units of the classes -/

theorem instances_hrx (n : Fin 16) : n.val ∈ instances .hrx := List.mem_range.2 n.isLt

theorem instances_htx (n : Fin 16) : n.val ∈ instances .htx := List.mem_range.2 n.isLt

theorem instances_ltx (l : Fin 8) : l.val ∈ instances .ltx := List.mem_range.2 l.isLt

theorem instances_lrx (l : Fin 8) : l.val ∈ instances .lrx := List.mem_range.2 l.isLt

end Sys2Proof.Machine

/-! ## Host transmitters (R111, R112, R124 to R127) -/

namespace Sys2Proof.Machine

/-- Settles O15, command by command: each passes its checks, and its effect on the lane is that of its specification. -/
theorem hostTransmitterCommandsTakeEffect : Obligations.HostTransmitterCommandsTakeEffect := by
  intro s dt n g f w w1 w2 ⟨ht, hrun, ha, hu⟩
  have hn := instances_htx n
  have hisl {sp : CmdSpec} := meets_of_workable (sp := sp) hu
  refine ⟨fun hw hup => ?_, fun hw h3 hadm => ?_, fun hx => ?_, fun hx hchk hadm => ?_, fun hx hw hup => ?_⟩
  · exact unit_gives specHtxFaultForce ht hrun hn ha (fun _ _ _ => hisl)
      (fun _ _ _ _ => ⟨rfl, firstBad_one hw, rfl, adminIn_pass (upOrTest_of_isUp hup), rfl, rfl⟩)
      (fun _ _ _ _ => ⟨rfl, by simp only [specHtxFaultForce, change, hostLane_val]; rfl⟩)
  · exact unit_gives specHtxPolaritySet ht hrun hn ha (fun _ _ _ => hisl)
      (fun _ _ _ _ => ⟨rfl, firstBad_one (by simpa using ⟨hw, h3⟩), rfl, adminIn_pass (downOrTest_of_ne_up hadm), rfl, rfl⟩)
      (fun _ _ _ _ => ⟨rfl, by simp only [specHtxPolaritySet, change, hostLane_val]; rfl⟩)
  · exact unit_gives specHtxFirGet ht hrun hn hx (fun _ _ _ => hisl) (fun _ _ _ _ => ⟨rfl, rfl, rfl, rfl, rfl, rfl⟩)
      (fun _ _ _ _ => ⟨by simp only [specHtxFirGet, answer, hostLane_val], rfl⟩)
  · exact unit_gives specHtxFirSet ht hrun hn hx (fun _ _ _ => hisl)
      (fun _ _ _ _ => ⟨rfl, hchk, rfl, adminIn_pass (test_of_eq hadm), rfl, rfl⟩)
      (fun _ _ _ _ => ⟨rfl, by simp only [specHtxFirSet, change, hostLane_val]; rfl⟩)
  · exact unit_gives specHtxSquelch ht hrun hn hx (fun _ _ _ => hisl)
      (fun _ _ _ _ => ⟨rfl, firstBad_one hw, rfl, adminIn_pass (upOrTest_of_isUp hup), rfl, rfl⟩)
      (fun _ _ _ _ => ⟨rfl, by simp only [specHtxSquelch, change, hostLane_val]; rfl⟩)

/-! ## Host receivers: their commands (R106, R119, R124, R125) -/

theorem hrxPolarity_of_ne_test {s : State} {n : Fin 16} (h : s.admin .hrx n ≠ .test) (mode : Nat) :
    s.hrxPolarity n mode = s.setHrx n fun h => { h with pol := mode, kept := none } := if_neg h

/-- R115, R124: in TEST the new setting applies at once: the marker search starts afresh from the polarity that it gives. -/
theorem hrxPolarity_of_test {s : State} {n : Fin 16} (h : s.admin .hrx n = .test) (mode : Nat) :
    s.hrxPolarity n mode = s.setHrx n fun h =>
      { (if h.timing then { h with amLock := false, deskewed := false, range := false } else h) with
        pol := mode, kept := none, searched := false
        inverted := if mode = 1 then false else if mode = 2 then true else bit (s.hrxEntry h.profile n 0) 24 } := by
  have hbase : (s.setHrx n fun h => { h with pol := mode, kept := none }).basePol n =
      if mode = 1 then false else if mode = 2 then true else bit (s.hrxEntry s.hrx[n].profile n 0) 24 := by
    simp only [State.basePol, State.setHrx, Fin.getElem_fin, upd_get]
    split
    · rfl
    · rfl
    next h1 h2 => rw [if_neg h1, if_neg h2]; rfl
  unfold State.hrxPolarity
  rw [if_pos h, hbase]
  simp only [State.setHrx, upd_upd]
  congr 1
  refine upd_congr ?_
  split <;> rfl

/-- Settles O16, command by command. -/
theorem hostReceiverCommandsTakeEffect : Obligations.HostReceiverCommandsTakeEffect := by
  intro s dt n g f w a b c d ⟨ht, hrun, ha, hu⟩
  have hn := instances_hrx n
  have hisl {sp : CmdSpec} := meets_of_workable (sp := sp) hu
  refine ⟨fun hw => ?_, fun hw hadm => ?_, fun hw hadm => ?_, fun hx => ?_, fun hx hadm h1 h2 h3 h4 h5 h6 => ?_, fun hx hw => ?_,
    fun hx hw hadm => ?_, fun hx hw h0 hadm => ?_⟩
  · exact unit_gives specHrxMarginGet ht hrun hn ha (fun _ _ _ => hisl)
      (fun _ _ _ _ => ⟨rfl, firstBad_one hw, rfl, rfl, rfl, rfl⟩)
      (fun _ _ _ _ => ⟨by simp only [specHrxMarginGet, hostLane_val], by simp only [specHrxMarginGet, hostLane_val]; rfl⟩)
  · have hne : s.admin .hrx n ≠ .up := by rw [hadm]; decide
    have hnt : ¬ s.admin .hrx n = .test := by rw [hadm]; decide
    exact unit_gives specHrxPolaritySet ht hrun hn ha (fun _ _ _ => hisl)
      (fun _ _ _ _ => ⟨rfl, firstBad_one hw, rfl, adminIn_pass (downOrTest_of_ne_up hne), rfl, rfl⟩)
      (fun _ _ _ _ => ⟨rfl, by
        simp only [specHrxPolaritySet, change, hostLane_val]
        rw [hrxPolarity_of_ne_test]
        · rfl
        · exact hnt⟩)
  · have hne : s.admin .hrx n ≠ .up := by rw [hadm]; decide
    exact unit_gives specHrxPolaritySet ht hrun hn ha (fun _ _ _ => hisl)
      (fun _ _ _ _ => ⟨rfl, firstBad_one hw, rfl, adminIn_pass (downOrTest_of_ne_up hne), rfl, rfl⟩)
      (fun _ _ _ _ => ⟨rfl, by
        simp only [specHrxPolaritySet, change, hostLane_val]
        rw [hrxPolarity_of_test]
        · rfl
        · exact hadm⟩)
  · exact unit_gives specHrxEqGet ht hrun hn hx (fun _ _ _ => hisl) (fun _ _ _ _ => ⟨rfl, rfl, rfl, rfl, rfl, rfl⟩)
      (fun _ _ _ _ => ⟨by simp only [specHrxEqGet, answer, hostLane_val], rfl⟩)
  · have hchk : (decide (fld w 0 8 ≤ 20) && decide (fld w 8 8 ≤ 63) && decide (2 ≤ fld w 24 4) && decide (fld w 24 4 ≤ 8) &&
        (bit (s.hrxEntry s.hrx[n].profile n 0) 26 || fld w 16 8 == 0) && clear w 28) = true := by
      simpa [h1, h2, h3, h4, h5] using h6.symm
    exact unit_gives specHrxEqForce ht hrun hn hx (fun _ _ _ => hisl)
      (fun _ _ _ _ => ⟨rfl, firstBad_one (by simp only [hostLane_val]; exact hchk), rfl, adminIn_pass (test_of_eq hadm), rfl, rfl⟩)
      (fun _ _ _ _ => ⟨rfl, by simp only [specHrxEqForce, change, hostLane_val]; rfl⟩)
  · exact unit_gives specHrxAdaptFreeze ht hrun hn hx (fun _ _ _ => hisl)
      (fun _ _ _ _ => ⟨rfl, firstBad_one hw, rfl, rfl, rfl, rfl⟩)
      (fun _ _ _ _ => ⟨rfl, by simp only [specHrxAdaptFreeze, change, hostLane_val]; rfl⟩)
  · exact unit_gives specHrxAmMode ht hrun hn hx (fun _ _ _ => hisl)
      (fun _ _ _ _ => ⟨rfl, firstBad_one hw, rfl, adminIn_pass (downOrTest_of_ne_up hadm), rfl, rfl⟩)
      (fun _ _ _ _ => ⟨rfl, by simp only [specHrxAmMode, change, hostLane_val]; rfl⟩)
  · exact unit_gives specHrxSlip ht hrun hn hx (fun _ _ _ => hisl)
      (fun _ _ _ _ => ⟨rfl, firstBad_one (by simpa using ⟨hw, h0⟩), rfl, adminIn_pass (test_of_eq hadm), rfl, rfl⟩)
      (fun _ _ _ _ => ⟨by simp only [specHrxSlip, hostLane_val]; rfl, by simp only [specHrxSlip, hostLane_val]; rfl⟩)

/-! ## The board table (R110, R111, R125) -/

/-- R91: outside CONFIG no step is refused. -/
theorem stepRefused_outside {s : State} (h : s.power.dev ≠ .config) (k : Nat) : s.stepRefused k = none := if_pos h

/-- R91: in CONFIG a step is taken once those before it are done, and none after it has begun. -/
theorem stepRefused_inOrder {s : State} {k : Nat} (hdone : s.missingStep k = none) (hstep : s.setup.step ≤ k) :
    s.stepRefused k = none := by
  unfold State.stepRefused
  rw [hdone, if_neg (by omega : ¬ k < s.setup.step), ite_self]

theorem beginStep_outside {s : State} (h : s.power.dev ≠ .config) (k : Nat) : s.beginStep k = s := by
  unfold State.beginStep; rw [if_neg h]

theorem beginStep_config {s : State} (h : s.power.dev = .config) (k : Nat) :
    s.beginStep k = { s with setup := { s.setup with step := k } } := by
  unfold State.beginStep; rw [if_pos h]

theorem missingStep_four {s : State} (h1 : s.stepDone 1 = true) (h2 : s.stepDone 2 = true) : s.missingStep 4 = none := by
  have h3 : s.stepDone 3 = true := rfl
  simp [State.missingStep, List.range_succ, h1, h2, h3]

/-- R111: with every host lane DOWN none stands in the way of a load. -/
theorem hostUp_none {s : State} (h : ∀ n : Fin 16, s.isUp .hrx n = false ∧ s.isUp .htx n = false) : s.hostUp = none := by
  have hr : (List.range 16).find? (fun n => s.isUp .hrx n) = none :=
    List.find?_eq_none.2 fun n hn => by simp [(h ⟨n, List.mem_range.1 hn⟩).1]
  have ht : (List.range 16).find? (fun n => s.isUp .htx n) = none :=
    List.find?_eq_none.2 fun n hn => by simp [(h ⟨n, List.mem_range.1 hn⟩).2]
  simp only [State.hostUp, hr, ht, Option.map_none]

/-- Settles O17: a load is the same outside CONFIG and as its step 4, but for what check 14 asks. -/
theorem boardTableLoadsWhole : Obligations.BoardTableLoadsWhole := by
  intro s dt g f tab ⟨ht, hrun, ha, hu⟩ loaded
  have hn : 0 ∈ instances .hrx := by decide
  have hisl {sp : CmdSpec} := meets_of_workable (sp := sp) hu
  refine ⟨fun h1 h2 hchk hdev hdown => ?_, fun h1 h2 hchk hdev hd1 hd2 hstep => ?_, ?_⟩
  · refine unit_gives specBoardTableLoad ht hrun hn ha (fun _ _ _ => hisl)
      (fun o m w _ => ⟨by simp [specBoardTableLoad, h1, h2], hchk, rfl, ?_, rfl, rfl⟩)
      (fun o m w _ => ⟨rfl, ?_⟩)
    · have hup : (s.heard dt o m w).hostUp = none := hostUp_none hdown
      simp only [specBoardTableLoad, hup]
      exact if_neg hdev
    · have hbegin := beginStep_outside (s := (s.heard dt o m w).loadBoard tab) hdev 4
      simp only [specBoardTableLoad, change, hbegin]
      rfl
  · refine unit_gives specBoardTableLoad ht hrun hn ha (fun _ _ _ => hisl)
      (fun o m w _ => ⟨by simp [specBoardTableLoad, h1, h2], hchk, rfl, ?_, rfl, rfl⟩)
      (fun o m w _ => ⟨rfl, ?_⟩)
    · have hpass := stepRefused_inOrder (s := s.heard dt o m w) (missingStep_four hd1 hd2) hstep
      simp only [specBoardTableLoad, hpass]
      exact if_pos hdev
    · have hbegin := beginStep_config (s := (s.heard dt o m w).loadBoard tab) hdev 4
      simp only [specBoardTableLoad, change, hbegin]
      rfl
  · exact unit_gives specBoardTableInfo ht hrun hn ha (fun _ _ _ => hisl)
      (fun _ _ _ _ => ⟨rfl, rfl, rfl, rfl, rfl, rfl⟩) (fun _ _ _ _ => ⟨rfl, rfl⟩)

/-! ## Host receivers: their events (R105, R106, R114 to R118, R129) -/

section
variable {s : State} {n : Fin 16}

/-- R114, R117, R129: an acquisition that ends by marker lock. -/
theorem hrxAcquired_turns {m : HrxAcq} (hlive : s.hrxLive n = true) (hup : s.isUp .hrx n = true) (hsd : s.hrx[n].sd = true)
    (hfg : s.laneFg (8 + n.val) = false) (hchk : s.symChk n = false) (hlock : (s.hrx[n].amLock && s.hrx[n].timing) = false)
    (hpol : m.inverted = s.startPol n ∨ s.searches n = true) :
    Turns { s with hrx := upd s.hrx n fun h =>
      { h with timing := true, amLock := true, deskewed := decide (m.skew.toNat ≤ 18000)
               range := !decide (m.skew.toNat ≤ 18000), inverted := m.inverted, kept := some m.inverted
               searched := h.searched || (m.inverted != s.startPol n), skew := m.skew, hmi := m.hmi, lastHmi := m.hmi
               eq := if h.frozen then h.eq else s.adaptedEq n m.eq } } (s.hrxAcquired n m) ∧
    Raises s (s.hrxAcquired n m) .hrx n 0x13 (w32 (sat32 ((s.now - s.hrx[n].acqStart) / 1000))) := by
  have hflip : (!(m.inverted != s.startPol n) || s.searches n) = true := by
    obtain h | h := hpol <;> simp [h]
  unfold State.hrxAcquired
  simp only [hlive, hup, hsd, hfg, hchk, hlock, hflip, Bool.not_false, Bool.and_self, Bool.true_or, Bool.false_or, if_true]
  refine ⟨.raiseIf (.raiseIf (.withStats (.raiseIf (.signal (.count ?_))))), .raiseIf (.raiseIf (raises_raiseIf _ rfl))⟩
  rfl

/-- R115: no marker lock on the polarity in use: the other one is tried. -/
theorem hrxTry_turns (hlive : s.hrxLive n = true) (hup : s.isUp .hrx n = true) (hsd : s.hrx[n].sd = true)
    (hfg : s.laneFg (8 + n.val) = false) (hchk : s.symChk n = false) (hlock : s.hrx[n].amLock = false)
    (hsearch : s.searches n = true) :
    Turns { s with hrx := upd s.hrx n fun h => { h with timing := true, inverted := !h.inverted, searched := true } }
      (s.hrxTry n) := by
  unfold State.hrxTry
  simp only [hlive, hup, hsd, hfg, hchk, hlock, hsearch, Bool.not_false, Bool.and_self, Bool.false_eq_true, if_false, if_true]
  rfl

/-- R116, R129: marker lock ends after four bad markers. -/
theorem amLost_turns {bad : Nat} (hlive : s.hrxLive n = true) (hlock : s.hrx[n].amLock = true) (hbad : 4 ≤ bad) :
    Turns { s with hrx := upd s.hrx n fun h =>
      { h with amLock := false, deskewed := false, range := false, searched := false } } (s.amLost n bad) ∧
    Raises s (s.amLost n bad) .hrx n 0x12 (w32 (sat32 bad)) := by
  unfold State.amLost
  simp only [hlive, hlock, hbad, decide_true, Bool.and_self, if_true]
  refine ⟨.raise (.signal (.signal (.count (.count (.count ?_))))), raises_raise _⟩
  rfl

/-- R105, R118: a millisecond of a lane with timing lock. -/
theorem hrxMs_locked {u : HmiMeasure} (hlive : s.hrxLive n = true) (hup : s.isUp .hrx n = true)
    (hlock : s.hrx[n].timing = true ∨ (u.locked = true ∧ s.hrx[n].sd = true ∧ s.laneFg (8 + n.val) = false)) :
    Turns { s with hrx := upd s.hrx n fun h =>
      { h with timing := true, hmi := u.hmi, lastHmi := u.hmi, eq := if h.frozen then h.eq else s.adaptedEq n u.eq
               window := h.window.add (some u.hmi.toInt)
               lowCount := if u.hmi.toInt < s.hmiWarn then h.lowCount + 1 else 0
               okCount := if s.hmiWarn + 8 ≤ u.hmi.toInt then h.okCount + 1 else 0 } } (s.hrxMs n u) := by
  have hl : (s.hrx[n].timing || (u.locked && s.hrx[n].sd && !s.laneFg (8 + n.val))) = true := by
    obtain h | ⟨h1, h2, h3⟩ := hlock
    · rw [h, Bool.true_or]
    · simp only [h1, h2, h3, Bool.and_self, Bool.not_false, Bool.or_true]
  unfold State.hrxMs
  simp only [hlive, hup, hl, Bool.and_self, if_true]
  refine .signal (.signal (.count (.count (.count ?_))))
  rfl

/-- R105: a millisecond of a lane without. -/
theorem hrxMs_unlocked {u : HmiMeasure} (hlive : s.hrxLive n = true) (hup : s.isUp .hrx n = true)
    (htime : s.hrx[n].timing = false) (hlock : u.locked = false ∨ s.hrx[n].sd = false ∨ s.laneFg (8 + n.val) = true) :
    Turns { s with hrx := upd s.hrx n fun h =>
      { h with hmi := 0x800, window := h.window.add none, lowCount := 0, okCount := 0 } } (s.hrxMs n u) := by
  have hl : (s.hrx[n].timing || (u.locked && s.hrx[n].sd && !s.laneFg (8 + n.val))) = false := by
    rw [htime, Bool.false_or]
    obtain h | h | h := hlock <;> simp only [h, Bool.false_and, Bool.and_false, Bool.not_true]
  unfold State.hrxMs
  simp only [hlive, hup, hl, Bool.and_self, Bool.false_eq_true, if_true, if_false]
  rfl

theorem hrxLow_turns (hup : s.isUp .hrx n = true) (hlow : s.hrx[n].lowMargin = false) (hcount : 10 ≤ s.hrx[n].lowCount) :
    Turns { s with hrx := upd s.hrx n fun h => { h with lowMargin := true } } (s.hrxLow n) ∧
    Raises s (s.hrxLow n) .hrx n 0x15 (w32 s.hrx[n].hmi.toNat) := by
  unfold State.hrxLow
  simp only [hup, hlow, hcount, decide_true, Bool.not_false, Bool.and_self, if_true]
  refine ⟨.raise ?_, raises_raise _⟩
  rfl

theorem hrxOk_turns (hup : s.isUp .hrx n = true) (hlow : s.hrx[n].lowMargin = true) (hcount : 10 ≤ s.hrx[n].okCount) :
    Turns { s with hrx := upd s.hrx n fun h => { h with lowMargin := false } } (s.hrxOk n) ∧
    Raises s (s.hrxOk n) .hrx n 0x16 (w32 s.hrx[n].hmi.toNat) := by
  unfold State.hrxOk
  simp only [hup, hlow, hcount, decide_true, Bool.and_self, if_true]
  refine ⟨.raise ?_, raises_raise _⟩
  rfl

end

theorem fld_lt (w : Word) (lo len : Nat) : fld w lo len < 2 ^ len := Nat.mod_lt _ (Nat.two_pow_pos len)

/-- R125: the CTLE and DFE bytes of word 0 of an EQ block. -/
theorem eqWord_fields {a b c d : Nat} (ha : a < 256) (hb : b < 256) (hc : c < 256) :
    fld (pk [(a, 0), (b, 8), (c, 16), (d, 24)]) 0 8 = a ∧ fld (pk [(a, 0), (b, 8), (c, 16), (d, 24)]) 16 8 = c := by
  simp only [fld, pk_four_toNat]
  norm_num only
  omega

/-- R106: what adaptation leaves of the CTLE and of the DFE tap. -/
theorem adaptedEq_fields (s : State) (n : Fin 16) (m : Vector Word 5) :
    let e := s.hrxEntry s.hrx[n].profile n 0
    fld (s.adaptedEq n m)[0] 0 8 =
        (if bit e 27 then max (fld e 0 8 - 2) (min (min 20 (fld e 0 8 + 2)) (fld m[0] 0 8)) else fld e 0 8) ∧
      fld (s.adaptedEq n m)[0] 16 8 = if bit e 26 then fld m[0] 16 8 else 0 := by
  intro e
  have hc : fld e 0 8 < 256 := fld_lt e 0 8
  have hd : fld m[0] 16 8 < 256 := fld_lt m[0] 16 8
  have hctle : (if bit e 27 then max (fld e 0 8 - 2) (min (min 20 (fld e 0 8 + 2)) (fld m[0] 0 8)) else fld e 0 8) < 256 := by
    split <;> omega
  have hdfe : (if bit e 26 then fld m[0] 16 8 else 0) < 256 := by split <;> omega
  simp only [State.adaptedEq, Vector.getElem_set_self]
  exact eqWord_fields hctle (by omega : min 63 (fld m[0] 8 8) < 256) hdfe

/-- R106: the CTLE stays within two codes of its table value, and no DFE tap stands without DFE_EN. -/
theorem adaptedEq_bounds (s : State) (n : Fin 16) (m : Vector Word 5) :
    let e := s.hrxEntry s.hrx[n].profile n 0
    let q := fld (s.adaptedEq n m)[0] 0 8
    q ≤ fld e 0 8 + 2 ∧ fld e 0 8 ≤ q + 2 ∧ (bit e 27 = false → q = fld e 0 8) ∧
      (bit e 26 = false → fld (s.adaptedEq n m)[0] 16 8 = 0) := by
  obtain ⟨hq, hdfe⟩ := adaptedEq_fields s n m
  generalize s.hrxEntry s.hrx[n].profile n 0 = e at hq hdfe ⊢
  dsimp only
  rw [hq, hdfe]
  refine ⟨?_, ?_, fun h => by rw [h]; rfl, fun h => by rw [h]; rfl⟩
  all_goals split <;> omega

/-- Settles O18: each event has its effect, and raises what it raises, in the state in which the row's time has passed. -/
theorem hostReceiverEventsTakeEffect : Obligations.HostReceiverEventsTakeEffect := by
  intro s dt n m u bad hlive hup
  refine ⟨fun hsd hfg hchk hlock hpol => ?_, fun hsd hfg hchk hlock hsearch => ?_, fun hlock hbad => ?_, fun hlock => ?_, ?_,
    fun htime hlock => ?_, fun hlow hcount => ?_, fun hlow hcount => ?_⟩
  · refine event_gives (·.hrxAcquired n m) fun o _ => ?_
    obtain ⟨ht, hr⟩ := hrxAcquired_turns (s := { s.later dt with obs := o }) hlive hup hsd hfg hchk hlock hpol
    exact turns_raised ht hr
  · refine event_gives (·.hrxTry n) fun o _ => ?_
    exact turns_becomes (hrxTry_turns (s := { s.later dt with obs := o }) hlive hup hsd hfg hchk hlock hsearch)
  · refine event_gives (·.amLost n bad) fun o _ => ?_
    obtain ⟨ht, hr⟩ := amLost_turns (s := { s.later dt with obs := o }) hlive hlock hbad
    exact turns_raised ht hr
  · refine event_gives (·.hrxMs n u) fun o _ => ?_
    exact turns_becomes (hrxMs_locked (s := { s.later dt with obs := o }) hlive hup hlock)
  · exact adaptedEq_bounds s n u.eq
  · refine event_gives (·.hrxMs n u) fun o _ => ?_
    exact turns_becomes (hrxMs_unlocked (s := { s.later dt with obs := o }) hlive hup htime hlock)
  · refine event_gives (·.hrxLow n) fun o _ => ?_
    obtain ⟨ht, hr⟩ := hrxLow_turns (s := { s.later dt with obs := o }) hup hlow hcount
    exact turns_raised ht hr
  · refine event_gives (·.hrxOk n) fun o _ => ?_
    obtain ⟨ht, hr⟩ := hrxOk_turns (s := { s.later dt with obs := o }) hup hlow hcount
    exact turns_raised ht hr

end Sys2Proof.Machine

/-! ## Line transmitters (R130 to R149) -/

namespace Sys2Proof.Machine

theorem stages_iff {s : State} {l : Fin 8} : s.stages l = true ↔ s.ltx[l].driving = true ∧ s.admin .ltx l = .up := by
  simp [State.stages]

theorem vector_ofFn_getD {n : Nat} (v : Vector Word n) : (Vector.ofFn fun k : Fin n => v.toList.getD k.val 0) = v := by
  ext k hk
  simp

theorem within_iff {lo hi v : Int} : within lo hi v = true ↔ lo ≤ v ∧ v ≤ hi := by simp [within]

/-- R136: the checks of a PD block hold where each of its bytes is in range. -/
theorem pdChecks_pass {r : Req} {ps : Vector Word 17} (hr : r.params = ps.toList) (h0 : clear ps[0] 1 = true)
    (h : ∀ k : Fin 17, k ≠ 0 → ∀ j < 4, -32 ≤ signed 8 (fld ps[k] (8 * j) 8) ∧ signed 8 (fld ps[k] (8 * j) 8) ≤ 31) :
    firstBad (pdChecks r) = none := by
  have hp (k : Fin 17) : r.p k.val = ps[k] := by simp [Req.p, hr]
  refine firstBad_none_iff.2 fun p hpm => ?_
  obtain rfl | hpm := List.mem_cons.1 hpm
  · exact (congrArg (clear · 1) (hp 0)).trans h0
  · obtain ⟨k, hk, rfl⟩ := List.mem_map.1 hpm
    have hk' : 1 + k < 17 := by have := List.mem_range.1 hk; omega
    refine List.all_eq_true.2 fun j hj => within_iff.2 ?_
    rw [sbyte, sfld, hp ⟨1 + k, hk'⟩]
    exact h ⟨1 + k, hk'⟩ (by simp [Fin.ext_iff]) j (List.mem_range.1 hj)

/-- Settles O19: all three commands are one change of what they stage. -/
theorem lineTransmitterChangesStageOrApply : Obligations.LineTransmitterChangesStageOrApply := by
  intro s dt l g f w a b c ps ht hrun hu put now
  have hl := instances_ltx l
  refine ⟨fun hw hmax => ?_, fun hx hchk => ?_, fun hx h0 hps => ?_⟩
  · exact unit_gives specLtxSwingSet (k := .basic) ht hrun hl trivial (fun _ _ _ => meets_of_sound hu rfl)
      (fun _ _ _ _ => ⟨rfl, firstBad_one (by simpa using ⟨hw, hmax⟩), rfl, rfl, rfl, rfl⟩)
      (fun _ _ _ _ => ⟨rfl, by simp only [specLtxSwingSet, change, lineLane_val, State.ltxChange, stages_iff]; rfl⟩)
  · exact unit_gives specLtxShapeSet ht hrun hl hx (fun _ _ _ => meets_of_sound hu rfl)
      (fun _ _ _ _ => ⟨rfl, hchk, rfl, rfl, rfl, rfl⟩)
      (fun _ _ _ _ => ⟨rfl, by simp only [specLtxShapeSet, change, lineLane_val, State.ltxChange, stages_iff]; rfl⟩)
  · refine unit_gives specLtxPdSet ht hrun hl hx (fun _ _ _ => meets_of_sound hu rfl)
      (fun _ _ _ _ => ⟨by simp [specLtxPdSet, exactly], pdChecks_pass rfl h0 hps, rfl, rfl, rfl, rfl⟩)
      (fun _ _ _ _ => ⟨rfl, ?_⟩)
    simp only [specLtxPdSet, change, lineLane_val, State.ltxChange, stages_iff, Req.p, vector_ofFn_getD]
    rfl

theorem lastAll_exactly {n : Nat} {p : Nat → Bool} {ms : List Nat} (hl : ms.length = n) (h : ∀ m ∈ ms, p m = true) :
    lastAll n p ms = true := by
  simpa [lastAll, hl] using h

section
variable {s : State} {l : Fin 8} {ms : List Nat}

/-- R137: ten milliseconds above the clip limit. -/
theorem ltxClips_turns (hsend : s.ltx[l].driving = true ∨ s.ltxContent l = 2) (hclip : s.ltx[l].clipping = false)
    (hlen : ms.length = 10) (hms : ∀ n ∈ ms, 227 < n) :
    Turns { s with ltx := upd s.ltx l fun x =>
      { x with clipping := true, clipSince := s.now, clipsMs := ms.getLastD 0, clipsAt := s.now } } (s.ltxClips l ms) ∧
    Raises s (s.ltxClips l ms) .ltx l 0x10 (w32 (min (ms.getLastD 0) 0xFFFF)) := by
  have hsends : s.ltxSends l = true := by simpa [State.ltxSends] using hsend
  have hall : lastAll 10 (fun n => decide (clipLimit < n)) ms = true :=
    lastAll_exactly hlen fun m hm => decide_eq_true (hms m hm)
  unfold State.ltxClips
  simp only [hsends, hclip, hall, Bool.not_false, Bool.and_self, if_true]
  refine ⟨.raise ?_, raises_raise _ (by simp [State.addClips]) (by simp [State.addClips]) (by simp [State.addClips])⟩
  simp only [Turns, State.addClips, State.setLtx, signal_ltx, count_ltx, upd_upd]
  rfl

/-- R137: a hundred at or below it. -/
theorem ltxClipsEnd_turns (hclip : s.ltx[l].clipping = true) (hlen : ms.length = 100) (hms : ∀ n ∈ ms, n ≤ 227) :
    Turns { s with ltx := upd s.ltx l fun x =>
      { x with clipping := false, clipsMs := ms.getLastD 0, clipsAt := s.now } } (s.ltxClipsEnd l ms) ∧
    Raises s (s.ltxClipsEnd l ms) .ltx l 0x11 (w32 (min ((s.now - s.ltx[l].clipSince) / 1000000) 0xFFFFFFFF)) := by
  have hall : lastAll 100 (fun n => decide (n ≤ clipLimit)) ms = true :=
    lastAll_exactly hlen fun m hm => decide_eq_true (hms m hm)
  unfold State.ltxClipsEnd
  simp only [hclip, hall, Bool.and_self, if_true]
  refine ⟨.raise ?_, raises_raise _ (by simp [State.addClips]) (by simp [State.addClips]) (by simp [State.addClips])⟩
  simp only [Turns, State.addClips, State.setLtx, signal_ltx, count_ltx, upd_upd]
  rfl

end

/-- Settles O20. -/
theorem lineTransmitterSettingsTakeEffect : Obligations.LineTransmitterSettingsTakeEffect := by
  intro s dt l g f w ms
  have hl := instances_ltx l
  refine ⟨fun ht hrun hu hw hadm => ⟨?_, ?_⟩, fun ht hrun hu hw => ?_, fun ht hrun hu hx h1 h2 h3 hadm => ?_, fun ht hrun => ?_,
    fun ht hrun hx => ⟨?_, ?_⟩, fun hsend hclip hlen hms => ?_, fun hclip hlen hms => ?_⟩
  · exact unit_does specLtxPolaritySet (k := .basic) ht hrun hl trivial (fun _ _ _ => meets_of_sound hu rfl)
      (fun _ _ _ _ => ⟨rfl, firstBad_one hw, rfl, adminIn_pass (downOrTest_of_ne_up hadm), rfl, rfl⟩)
      (fun _ _ _ _ => ⟨rfl, by simp only [specLtxPolaritySet, change, lineLane_val]; rfl⟩)
  · exact unit_does specLtxPrecodeSet (k := .basic) ht hrun hl trivial (fun _ _ _ => meets_of_sound hu rfl)
      (fun _ _ _ _ => ⟨rfl, firstBad_one hw, rfl, adminIn_pass (downOrTest_of_ne_up hadm), rfl, rfl⟩)
      (fun _ _ _ _ => ⟨rfl, by simp only [specLtxPrecodeSet, change, lineLane_val]; rfl⟩)
  · refine unit_gives_of specLtxSquelch (g := g) (f := f) (ps := [w]) (k := .basic) ht hrun hl trivial (fun _ _ _ => meets_of_sound hu rfl)
      (fun _ _ _ _ => ⟨rfl, firstBad_one hw, rfl, rfl, rfl, rfl⟩) (fun o m v _ => ?_)
    simp only [specLtxSquelch, change, lineLane_val]
    have heff : Effects s { s.later dt with ltx := upd s.ltx l fun x => { x with squelch := bit w 0 } }
        (((s.heard dt o m v).setLtx l fun x => { x with squelch := bit w 0 }).raiseIf (bit w 0 != s.ltx[l].squelch) .ltx l 0x13
          (w32 (b2n (bit w 0)))) := by
      refine .raiseIf ?_
      rfl
    obtain ⟨hleaves, hreplies⟩ := answered_effects (i := l) (g := g) (f := f) (ps := [w]) ht.2.2.1 heff
    exact ⟨hleaves, fun hne => answered_raised (s' := s.heard dt o m v) (raises_raiseIf _ (bne_iff_ne.2 hne)), hreplies⟩
  · exact unit_does specLtxSkewSet ht hrun hl hx (fun _ _ _ => meets_of_sound hu rfl)
      (fun _ _ _ _ => ⟨rfl, firstBad_one (by simpa using ⟨⟨h1, h2⟩, h3⟩), rfl, adminIn_pass (downOrTest_of_ne_up hadm), rfl, rfl⟩)
      (fun _ _ _ _ => ⟨rfl, by simp only [specLtxSkewSet, change, lineLane_val]; rfl⟩)
  · exact unit_does specLtxConfigGet (k := .basic) ht hrun hl trivial (fun _ _ _ => meets_of_nil)
      (fun _ _ _ _ => ⟨rfl, rfl, rfl, rfl, rfl, rfl⟩)
      (fun _ _ _ _ => ⟨by simp only [specLtxConfigGet, answer, lineLane_val]; rfl, rfl⟩)
  · exact unit_does specLtxShapeGet ht hrun hl hx (fun _ _ _ => meets_of_nil)
      (fun _ _ _ _ => ⟨rfl, rfl, rfl, rfl, rfl, rfl⟩)
      (fun _ _ _ _ => ⟨by simp only [specLtxShapeGet, answer, lineLane_val]; rfl, rfl⟩)
  · exact unit_does specLtxPdGet ht hrun hl hx (fun _ _ _ => meets_of_nil)
      (fun _ _ _ _ => ⟨rfl, rfl, rfl, rfl, rfl, rfl⟩)
      (fun _ _ _ _ => ⟨by simp only [specLtxPdGet, answer, lineLane_val]; rfl, rfl⟩)
  · refine event_gives (·.ltxClips l ms) fun o _ => ?_
    obtain ⟨ht, hr⟩ := ltxClips_turns (s := { s.later dt with obs := o }) hsend hclip hlen hms
    exact turns_raised ht hr
  · refine event_gives (·.ltxClipsEnd l ms) fun o _ => ?_
    obtain ⟨ht, hr⟩ := ltxClipsEnd_turns (s := { s.later dt with obs := o }) hclip hlen hms
    exact turns_raised ht hr

end Sys2Proof.Machine

/-! ## Line receivers: what reads them (R185, R186) -/

namespace Sys2Proof.Machine

/-- R185: bit 0 of an operand names one of the two banks. -/
theorem bank_of_bit {α : Type} (v : Vector α 2) (w : Word) : v[Fin.ofNat 2 (fld w 0 1)] = if bit w 0 then v[1] else v[0] := by
  have hf : fld w 0 1 = w.toNat % 2 := by unfold fld; omega
  have hb : bit w 0 = decide (w.toNat % 2 = 1) := by unfold bit; rw [BitVec.getLsbD, Nat.testBit_zero]
  rcases Nat.mod_two_eq_zero_or_one w.toNat with h | h
  · have hk : Fin.ofNat 2 (fld w 0 1) = 0 := Fin.ext (by rw [hf, h]; rfl)
    simp only [hk, hb, h]; rfl
  · have hk : Fin.ofNat 2 (fld w 0 1) = 1 := Fin.ext (by rw [hf, h]; rfl)
    simp only [hk, hb, h]; rfl

/-- Settles O22. -/
theorem lineReceiverIsRead : Obligations.LineReceiverIsRead := by
  intro s dt l g f w ht hrun
  have hl := instances_lrx l
  refine ⟨?_, fun hu => ⟨fun hw => ?_, ?_, ?_, ?_, fun hx hw => ?_⟩⟩
  · exact unit_does specLrxConfigGet (k := .basic) ht hrun hl trivial (fun _ _ _ => meets_of_nil)
      (fun _ _ _ _ => ⟨rfl, rfl, rfl, rfl, rfl, rfl⟩)
      (fun _ _ _ _ => ⟨by simp only [specLrxConfigGet, answer, lineLane_val]; rfl, rfl⟩)
  · exact unit_does specLrxMarginGet (k := .basic) ht hrun hl trivial (fun _ _ _ => meets_of_workable hu)
      (fun _ _ _ _ => ⟨rfl, firstBad_one hw, rfl, rfl, rfl, rfl⟩)
      (fun _ _ _ _ => ⟨by simp only [specLrxMarginGet, lineLane_val]; rfl, by simp only [specLrxMarginGet, lineLane_val]; rfl⟩)
  · refine unit_does specLrxAdaptStatusGet (k := .basic) ht hrun hl trivial (fun _ _ _ => meets_of_workable hu)
      (fun _ _ _ _ => ⟨rfl, rfl, rfl, rfl, rfl, rfl⟩) (fun _ _ _ ho => ⟨?_, rfl⟩)
    simp only [specLrxAdaptStatusGet, answer, lineLane_val, ho.adapt]
    rfl
  · exact unit_does specLrxXtStatusGet (k := .basic) ht hrun hl trivial (fun _ _ _ => meets_of_workable hu)
      (fun _ _ _ _ => ⟨rfl, rfl, rfl, rfl, rfl, rfl⟩)
      (fun _ _ _ _ => ⟨by simp only [specLrxXtStatusGet, answer, lineLane_val]; rfl, rfl⟩)
  · exact unit_does specLrxAfeGet (k := .basic) ht hrun hl trivial (fun _ _ _ => meets_of_workable hu)
      (fun _ _ _ _ => ⟨rfl, rfl, rfl, rfl, rfl, rfl⟩)
      (fun _ _ _ _ => ⟨by simp only [specLrxAfeGet, answer, lineLane_val]; rfl, rfl⟩)
  · refine unit_does specLrxBankRead ht hrun hl hx (fun _ _ _ => meets_of_workable hu)
      (fun _ _ _ _ => ⟨rfl, firstBad_one hw, rfl, rfl, rfl, rfl⟩) (fun _ _ _ _ => ⟨?_, rfl⟩)
    simp only [specLrxBankRead, answer, lineLane_val, bank_of_bit]
    rfl

end Sys2Proof.Machine

/-! ## Line receivers and calibration: what their operations change (R161, R171 to R177, R267, R274, R277) -/

namespace Sys2Proof.Machine

theorem upd_at {α : Type} {n : Nat} (v : Vector α n) (i : Fin n) (f : α → α) : (upd v i f)[i] = f v[i] := upd_get v i f

theorem upd_self {α : Type} {n : Nat} (v : Vector α n) (i : Fin n) : upd v i (fun _ => v[i]) = v := by simp [upd]

/-! ### Calibration -/

/-- Beside what MC and the counting hardware keep, only calibration moves. -/
def CalMoves (s x : State) : Prop := Turns { s with cal := x.cal } x

section
variable {s x y : State}

theorem calMoves_iff : CalMoves s x ↔ ∃ c o m k n, x = { s with cal := c, obs := o, mon := m, stats := k, free := n } :=
  ⟨fun h => ⟨_, _, _, _, _, h⟩, fun ⟨c, o, m, k, n, h⟩ => by subst h; rfl⟩

theorem calMoves_refl (s : State) : CalMoves s s := rfl

theorem CalMoves.trans (h : CalMoves s x) (h' : CalMoves x y) : CalMoves s y := by
  obtain ⟨c, o, m, k, n, rfl⟩ := calMoves_iff.1 h
  obtain ⟨c', o', m', k', n', rfl⟩ := calMoves_iff.1 h'
  rfl

theorem CalMoves.lrx (h : CalMoves s x) : x.lrx = s.lrx := by
  obtain ⟨c, o, m, k, n, rfl⟩ := calMoves_iff.1 h; rfl
theorem CalMoves.now (h : CalMoves s x) : x.now = s.now := by
  obtain ⟨c, o, m, k, n, rfl⟩ := calMoves_iff.1 h; rfl
theorem CalMoves.power (h : CalMoves s x) : x.power = s.power := by
  obtain ⟨c, o, m, k, n, rfl⟩ := calMoves_iff.1 h; rfl
theorem CalMoves.units (h : CalMoves s x) : x.units = s.units := by
  obtain ⟨c, o, m, k, n, rfl⟩ := calMoves_iff.1 h; rfl

end

theorem setCal_moves (s : State) (k : Fin 48) (f : CalLane → CalLane) : CalMoves s (s.setCal k f) := rfl

theorem roundOpens_moves (s : State) : CalMoves s s.roundOpens :=
  calMoves_iff.2 ⟨_, s.obs, s.mon, s.stats, s.free, roundOpens_frame s⟩

theorem raise_moves (s : State) (c : Cls) (i code : Nat) (arg : Word) : CalMoves s (s.raise c i code arg) :=
  Turns.raise (e := { s with cal := s.cal }) (x := s) rfl

theorem raiseIf_moves (s : State) (b : Bool) (c : Cls) (i code : Nat) (arg : Word) : CalMoves s (s.raiseIf b c i code arg) := by
  cases b
  · exact calMoves_refl s
  · exact raise_moves s c i code arg

theorem count_moves (s : State) (c : Cls) (i : Nat) (j : Fin 9) (n : Nat) : CalMoves s (s.count c i j n) := rfl

theorem signal_moves (s : State) (c : Cls) (i sig n : Nat) : CalMoves s (s.signal c i sig n) :=
  Turns.signal (e := { s with cal := s.cal }) (x := s) rfl

theorem foldl_moves {α : Type} {f : State → α → State} (h : ∀ s a, CalMoves s (f s a)) (l : List α) (s : State) :
    CalMoves s (l.foldl f s) := by
  induction l generalizing s with
  | nil => exact calMoves_refl s
  | cons a l ih => exact (h s a).trans (ih _)

theorem swap_moves (s : State) (k : Fin 48) : CalMoves s (s.swap k) := by
  unfold State.swap
  dsimp only
  refine .trans (.trans (.trans ?_ (foldl_moves (fun t e => setCal_moves t k _) _ _)) (count_moves _ _ _ _ _)) (signal_moves _ _ _ _ _)
  exact .trans (x := s.applyForcedAt k _) rfl (setCal_moves _ k _)

theorem fadeOver_moves (s : State) (l : Fin 8) : CalMoves s (s.fadeOver l) := by
  unfold State.fadeOver
  dsimp only
  split
  · exact swap_moves s _
  · exact calMoves_refl s

theorem voidLane_moves (s : State) (k : Fin 48) (cause : Nat) : CalMoves s (s.voidLane k cause) := by
  unfold State.voidLane
  dsimp only
  split
  · exact .trans (.trans (roundOpens_moves s) (setCal_moves _ k _)) (raise_moves _ _ _ _ _)
  · exact roundOpens_moves s

theorem sourceCheck_moves (s : State) (k : Fin 48) : CalMoves s (s.sourceCheck k) := by
  unfold State.sourceCheck
  dsimp only
  split
  · exact calMoves_refl s
  · split
    · exact .trans (voidLane_moves s k 5) (setCal_moves _ k _)
    · split
      · exact setCal_moves s k _
      · exact calMoves_refl s

/-! ### One line receiver -/

/-- Beside what MC and the counting hardware keep, only the lane `l` and calibration move. -/
def LaneMoves (l : Fin 8) (s x : State) : Prop := Turns { s with lrx := upd s.lrx l fun _ => x.lrx[l], cal := x.cal } x

section
variable {l : Fin 8} {s x y : State}

theorem laneMoves_iff : LaneMoves l s x ↔ ∃ r c o m k n,
    x = { s with lrx := upd s.lrx l fun _ => r, cal := c, obs := o, mon := m, stats := k, free := n } := by
  constructor
  · intro h; exact ⟨_, _, _, _, _, _, h⟩
  · rintro ⟨r, c, o, m, k, n, rfl⟩
    unfold LaneMoves
    simp only [upd_at]
    rfl

theorem CalMoves.lane (h : CalMoves s x) : LaneMoves l s x := by
  obtain ⟨c, o, m, k, n, rfl⟩ := calMoves_iff.1 h
  exact laneMoves_iff.2 ⟨s.lrx[l], c, o, m, k, n, by rw [upd_self]⟩

theorem laneMoves_refl (l : Fin 8) (s : State) : LaneMoves l s s := (calMoves_refl s).lane

theorem LaneMoves.trans (h : LaneMoves l s x) (h' : LaneMoves l x y) : LaneMoves l s y := by
  obtain ⟨r, c, o, m, k, n, rfl⟩ := laneMoves_iff.1 h
  obtain ⟨r', c', o', m', k', n', rfl⟩ := laneMoves_iff.1 h'
  exact laneMoves_iff.2 ⟨r', c', o', m', k', n', by simp only [upd_upd]⟩

theorem LaneMoves.cal (h : LaneMoves l s x) (h' : CalMoves x y) : LaneMoves l s y := h.trans h'.lane

theorem LaneMoves.put (h : LaneMoves l s x) {f : Lrx → Lrx} : LaneMoves l s (x.setLrx l f) :=
  h.trans (laneMoves_iff.2 ⟨f x.lrx[l], _, _, _, _, _, by unfold State.setLrx; congr 1⟩)

theorem LaneMoves.now (h : LaneMoves l s x) : x.now = s.now := by
  obtain ⟨r, c, o, m, k, n, rfl⟩ := laneMoves_iff.1 h; rfl
theorem LaneMoves.power (h : LaneMoves l s x) : x.power = s.power := by
  obtain ⟨r, c, o, m, k, n, rfl⟩ := laneMoves_iff.1 h; rfl
theorem LaneMoves.units (h : LaneMoves l s x) : x.units = s.units := by
  obtain ⟨r, c, o, m, k, n, rfl⟩ := laneMoves_iff.1 h; rfl

theorem LaneMoves.raise (h : LaneMoves l s x) {c : Cls} {i code : Nat} {arg : Word} : LaneMoves l s (x.raise c i code arg) :=
  h.cal (raise_moves ..)
theorem LaneMoves.raiseIf (h : LaneMoves l s x) {b : Bool} {c : Cls} {i code : Nat} {arg : Word} :
    LaneMoves l s (x.raiseIf b c i code arg) := h.cal (raiseIf_moves ..)
theorem LaneMoves.count (h : LaneMoves l s x) {c : Cls} {i n : Nat} {j : Fin 9} : LaneMoves l s (x.count c i j n) :=
  h.cal (count_moves ..)
theorem LaneMoves.signal (h : LaneMoves l s x) {c : Cls} {i sig n : Nat} : LaneMoves l s (x.signal c i sig n) :=
  h.cal (signal_moves ..)

/-- Where calibration has stayed as it is, the lane alone has changed. -/
theorem LaneMoves.only (h : LaneMoves l s x) (hc : x.cal = s.cal) : Turns { s with lrx := upd s.lrx l fun _ => x.lrx[l] } x := by
  unfold LaneMoves at h; rw [hc] at h; exact h

end

variable (s : State) (l : Fin 8)

/-! ### Rounds and sides of a lane (R161, R162, R177) -/

/-- R177: a lane whose round, if it has one, is voided. -/
def Lrx.voidedRound (r : Lrx) : Lrx :=
  if r.round.isSome then
    { r with round := none, voided := r.voided + 1, sides := r.sides.map fun x => { x with training := false } }
  else r

theorem voidRound_lrx : (s.voidRound l).lrx = upd s.lrx l Lrx.voidedRound := by
  unfold State.voidRound
  split
  next h =>
    rw [count_lrx, setLrx_lrx]
    exact upd_congr (if_pos h).symm
  next h => exact (upd_self s.lrx l).symm.trans (upd_congr (if_neg h).symm)

theorem voidRound_moves : LaneMoves l s (s.voidRound l) := by
  unfold State.voidRound
  split
  · exact (laneMoves_refl l s).put.count
  · exact laneMoves_refl l s

theorem voidRound_cal : (s.voidRound l).cal = s.cal := by unfold State.voidRound; split <;> rfl

/-- R161: a lane that has dropped a side. -/
def Lrx.gatedSide (r : Lrx) (hi : Bool) (cause : Nat) (offset : BitVec 16) : Lrx :=
  { r.voidedRound with
    dropped := true
    sides := upd r.voidedRound.sides (sideIx hi) fun _ => { gated := true, cause := cause, offset := offset, training := false } }

variable {l} in
theorem gateSide_lrx {hi : Bool} {n : Fin 8} (h : neighbour l hi = some n) (cause : Nat) (o : BitVec 16) :
    (s.gateSide l hi cause o).lrx = upd s.lrx l (Lrx.gatedSide · hi cause o) := by
  unfold State.gateSide
  simp only [h]
  split
  all_goals
    simp only [raise_lrx, count_lrx, setLrx_lrx, voidRound_lrx, upd_upd]
    rfl

theorem gateSide_moves (hi : Bool) (cause : Nat) (o : BitVec 16) : LaneMoves l s (s.gateSide l hi cause o) := by
  unfold State.gateSide
  split
  · exact laneMoves_refl l s
  · dsimp only
    split <;> exact (voidRound_moves s l).put.count.raise

theorem gateSide_cal (hi : Bool) (cause : Nat) (o : BitVec 16) : (s.gateSide l hi cause o).cal = s.cal := by
  unfold State.gateSide
  split
  · rfl
  · dsimp only
    split <;> simp only [raise_cal, count_cal, setLrx_cal, voidRound_cal]

/-! ### Fades (R171 to R174) -/

theorem startFade_moves (len cause : Nat) (prof : Option Nat) : LaneMoves l s (s.startFade l len cause prof) :=
  (roundOpens_moves s).lane.put.raise

theorem startFade_lrx (len cause : Nat) (prof : Option Nat) : (s.startFade l len cause prof).lrx = upd s.lrx l fun r =>
    { r with fade := some { step := 0, stepAt := s.now, len := len, cause := cause, profile := prof }, lastCause := cause } := by
  unfold State.startFade
  rw [raise_lrx, setLrx_lrx, (roundOpens_moves s).lrx]

theorem startFade_cal (len cause : Nat) (prof : Option Nat) : (s.startFade l len cause prof).cal = s.roundOpens.cal := rfl

/-- R162: a lane whose trained sides have come into use. -/
def Lrx.inUseNow (r : Lrx) : Lrx :=
  { r with sides := r.sides.map fun x => if x.training then { x with gated := false, training := false } else x }

theorem inForce_lrx (p : Option Nat) : (s.inForce l p).lrx = upd s.lrx l Lrx.inUseNow := by
  unfold State.inForce
  dsimp only
  split <;> rfl

theorem inForce_moves (p : Option Nat) : LaneMoves l s (s.inForce l p) := by
  unfold State.inForce
  dsimp only
  split
  · exact (laneMoves_refl l s).put.raiseIf.raiseIf.raise
  · exact (laneMoves_refl l s).put.raiseIf.raiseIf

theorem inForce_queue (p : Option Nat) : s.obs.queue <+: (s.inForce l p).obs.queue := by
  unfold State.inForce
  dsimp only
  have h (t : State) (a b : Bool) (x y : Word) :
      t.obs.queue <+: ((t.raiseIf a .lrx l 0x1B x).raiseIf b .lrx l 0x1B y).obs.queue :=
    (raiseIf_queue ..).trans (raiseIf_queue ..)
  split
  · exact (h ..).trans (raise_queue ..)
  · exact h ..

/-- R173, R174: a lane whose fade, if one runs, has snapped. -/
def Lrx.snapped (r : Lrx) (toTarget : Bool) : Lrx :=
  if r.fade.isNone then r
  else if toTarget then ({ r with fade := none, active := otherBank r.active } : Lrx).inUseNow
  else { r with fade := none, sides := r.sides.map fun x => { x with training := false } }

theorem snapFade_none {s : State} {l : Fin 8} (h : s.lrx[l].fade = none) (b : Bool) (k : Nat) : s.snapFade l b k = s := by
  unfold State.snapFade; rw [h]

theorem snapFade_lrx (b : Bool) (k : Nat) : (s.snapFade l b k).lrx = upd s.lrx l (·.snapped b) := by
  cases hf : s.lrx[l].fade with
  | none =>
    rw [snapFade_none hf]
    refine (upd_self s.lrx l).symm.trans (upd_congr ?_)
    simp only [Lrx.snapped, hf, Option.isNone_none, if_true]
  | some d =>
    unfold State.snapFade
    simp only [hf]
    cases b
    · simp only [Bool.false_eq_true, if_false, raise_lrx, count_lrx, (fadeOver_moves _ l).lrx, setLrx_lrx, (roundOpens_moves s).lrx]
      refine upd_congr ?_
      simp only [Lrx.snapped, hf, Option.isNone_some, Bool.false_eq_true, if_false]
    · simp only [if_true, inForce_lrx, raise_lrx, count_lrx, (fadeOver_moves _ l).lrx, setLrx_lrx, (roundOpens_moves s).lrx, upd_upd]
      refine upd_congr ?_
      simp only [Lrx.snapped, hf, Option.isNone_some, Bool.false_eq_true, if_false, if_true]

theorem snapFade_moves (b : Bool) (k : Nat) : LaneMoves l s (s.snapFade l b k) := by
  unfold State.snapFade
  split
  · exact laneMoves_refl l s
  · dsimp only
    cases b
    · exact ((roundOpens_moves s).lane.put.cal (fadeOver_moves _ l)).count.raise
    · exact ((roundOpens_moves s).lane.put.cal (fadeOver_moves _ l)).count.raise.trans (inForce_moves _ l _)

/-! ### Timing lock ends (R173, R177, R182) -/

/-- R182: a lane that acquires again, warm or cold. -/
def Lrx.relocked (r : Lrx) (warm : Bool) (now : Nat) : Lrx :=
  { ((r.snapped false).voidedRound.acquire warm now) with hostTrial := none }

theorem relock_moves (warm : Bool) (k : Nat) : LaneMoves l s (s.relock l warm k) :=
  ((snapFade_moves s l false k).trans (voidRound_moves _ l)).put

theorem relock_lrx (warm : Bool) (k : Nat) : (s.relock l warm k).lrx = upd s.lrx l (·.relocked warm s.now) := by
  unfold State.relock
  rw [setLrx_lrx, voidRound_lrx, snapFade_lrx, upd_upd, upd_upd]
  rfl

theorem relock_cal {s : State} {l : Fin 8} (h : s.lrx[l].fade = none) (warm : Bool) (k : Nat) :
    (s.relock l warm k).cal = s.cal := by
  unfold State.relock
  rw [setLrx_cal, voidRound_cal, snapFade_none h]

end Sys2Proof.Machine

/-! ## Lanes that gain and lose signal and timing lock (R113, R114, R116, R153, R156, R173, R190) -/

namespace Sys2Proof.Machine

theorem Turns.now {e x : State} (h : Turns e x) : x.now = e.now := by
  obtain ⟨o, m, k, n, rfl⟩ := turns_iff.1 h; rfl

theorem Turns.calMoves {e x y : State} (h : Turns { e with cal := x.cal } x) (h' : CalMoves x y)
    (hc : e.cal = y.cal := by rfl) : Turns e y := by
  obtain ⟨o, m, k, n, hx⟩ := turns_iff.1 h
  obtain ⟨c', o', m', k', n', rfl⟩ := calMoves_iff.1 h'
  dsimp only at hc
  subst hc
  rw [hx]
  rfl

theorem sourceCheck_queue (s : State) (k : Fin 48) : s.obs.queue <+: (s.sourceCheck k).obs.queue := by
  have h0 : (s.roundOpens).obs = s.obs := by rw [roundOpens_frame]
  have hv : s.obs.queue <+: (s.voidLane k 5).obs.queue := by
    unfold State.voidLane
    dsimp only
    split
    · rw [← h0]; exact raise_queue _ _ _ _ _
    · rw [h0]
  unfold State.sourceCheck
  dsimp only
  split
  · exact List.prefix_refl _
  · split
    · exact hv
    · split <;> exact List.prefix_refl _

section
variable {s : State} {n : Fin 16}

theorem acquireHrx_detected (s : State) (n : Fin 16) :
    (s.setHrx n fun h => { h with sd := true }).acquireHrx n = s.setHrx n fun h =>
      { h.unlock with sd := true, inverted := s.startPol n, searched := false, acqStart := s.now
                      eq := s.seedEq h.profile n } := by
  have hp : (s.setHrx n fun h => { h with sd := true }).startPol n = s.startPol n := by
    simp only [State.startPol, State.basePol, setHrx_hrx, upd_at]
    rfl
  unfold State.acquireHrx
  rw [hp]
  simp only [State.setHrx, upd_upd]
  rfl

theorem hostDetected_of_down (hlive : s.hrxLive n = true) (hsd : s.hrx[n].sd = false) (hup : s.isUp .hrx n = false) :
    s.hostDetected n = s.setHrx n fun h => { h with sd := true } := by
  unfold State.hostDetected
  simp only [hlive, hsd, hup, Bool.not_false, Bool.and_self, Bool.false_eq_true, if_true, if_false]

/-- R113, R114: a host lane in ADMIN UP that detects a signal begins an acquisition. -/
theorem hostDetected_of_up (hlive : s.hrxLive n = true) (hsd : s.hrx[n].sd = false) (hup : s.isUp .hrx n = true) :
    Turns { s with
      cal := (s.hostDetected n).cal
      hrx := upd s.hrx n fun h => { h.unlock with sd := true, inverted := s.startPol n, searched := false, acqStart := s.now
                                                  eq := s.seedEq h.profile n } } (s.hostDetected n) ∧
    Raises s (s.hostDetected n) .hrx n 0x11 (w32 (s.sdThresh n)) := by
  unfold State.hostDetected
  simp only [hlive, hsd, hup, Bool.not_false, Bool.and_self, if_true]
  rw [acquireHrx_detected]
  refine ⟨.calMoves (.raise ?_) (sourceCheck_moves _ _), .mono (raises_raise _) (sourceCheck_queue _ _)⟩
  rfl

theorem hostLost_turns (hlive : s.hrxLive n = true) (hsd : s.hrx[n].sd = true) :
    Turns { s with hrx := upd s.hrx n fun h => { h.unlock with sd := false }
                   cal := { s.cal with lanes := upd s.cal.lanes (Fin.ofNat 48 (8 + n.val)) fun c =>
                     { c with sdOffAt := s.now } } } (s.hostLost n) ∧
    (s.isUp .hrx n = true → Raises s (s.hostLost n) .hrx n 0x10 (w32 s.hrx[n].lastHmi.toNat)) := by
  unfold State.hostLost
  simp only [hlive, hsd, Bool.and_self, if_true]
  refine ⟨.raiseIf ?_, fun hup => raises_raiseIf _ hup⟩
  rfl

theorem hostUnlocked_turns (hlive : s.hrxLive n = true) (hup : s.isUp .hrx n = true) (htime : s.hrx[n].timing = true) :
    Turns { s with hrx := upd s.hrx n fun h =>
      { h.unlock with inverted := s.startPol n, searched := false, acqStart := s.now, eq := s.seedEq h.profile n } }
      (s.hostUnlocked n) := by
  unfold State.hostUnlocked
  simp only [hlive, hup, htime, Bool.and_self, if_true]
  rfl

end

section
variable {s : State} {l : Fin 8}

theorem lineDetected_turns (hlive : s.lrxLive l = true) (hsd : s.lrx[l].sd = false) :
    Turns { s with cal := (s.lineDetected l).cal
                   lrx := upd s.lrx l fun r => ({ r with sd := true } : Lrx).acquire r.warm s.now } (s.lineDetected l) ∧
    (s.isUp .lrx l = true → Raises s (s.lineDetected l) .lrx l 0x11 (w32 s.lrx[l].sdCode)) := by
  unfold State.lineDetected
  simp only [hlive, hsd, Bool.not_false, Bool.and_self, if_true]
  refine ⟨.calMoves (.raiseIf ?_) (sourceCheck_moves _ _), fun hup => .mono (raises_raiseIf _ hup) (sourceCheck_queue _ _)⟩
  rfl

theorem lineLost_moves (hlive : s.lrxLive l = true) (hsd : s.lrx[l].sd = true) : LaneMoves l s (s.lineLost l) ∧
    (s.lineLost l).lrx[l] = { s.lrx[l].relocked (s.lrx[l].acquired || s.lrx[l].warm) s.now with sd := false } ∧
    (s.lineLost l).cal.lanes[Fin.ofNat 48 l.val].sdOffAt = s.now ∧
    (s.lrx[l].fade = none → (s.lineLost l).cal = { s.cal with lanes := upd s.cal.lanes (Fin.ofNat 48 l.val) fun c =>
      { c with sdOffAt := s.now } }) ∧
    (s.isUp .lrx l = true → Raises s (s.lineLost l) .lrx l 0x10 (w32 s.lrx[l].lmi.last.toNat)) := by
  unfold State.lineLost
  simp only [hlive, hsd, Bool.and_self, if_true]
  have hm := relock_moves s l (s.lrx[l].acquired || s.lrx[l].warm) 1
  have hu := ((hm.put (f := fun r => { r with sd := false })).count (c := .lrx) (i := l.val) (j := 8) (n := 1)).cal
    (setCal_moves _ (Fin.ofNat 48 l.val) fun c => { c with sdOffAt := s.now })
  refine ⟨hu.raiseIf, ?_, ?_, fun hf => ?_, fun hup => raises_raiseIf _ hup hu.power hu.units hu.now⟩
  · simp only [raiseIf_lrx, setCal_lrx, count_lrx, setLrx_lrx, relock_lrx, upd_upd, upd_at]
  · simp only [raiseIf_cal, State.setCal, upd_at]
  · simp only [raiseIf_cal, State.setCal, count_cal, setLrx_cal, relock_cal hf]

theorem lineUnlocked_moves {range : Bool} (hlive : s.lrxLive l = true) (hup : s.isUp .lrx l = true) (hsd : s.lrx[l].sd = true)
    (htime : s.lrx[l].timing = true) : LaneMoves l s (s.lineUnlocked l range) ∧
    (s.lineUnlocked l range).lrx[l] = s.lrx[l].relocked (s.lrx[l].acquired || s.lrx[l].warm) s.now ∧
    (s.lrx[l].fade = none → (s.lineUnlocked l range).cal = s.cal) ∧
    Raises s (s.lineUnlocked l range) .lrx l 0x12 (w32 (b2n range)) := by
  unfold State.lineUnlocked
  simp only [hlive, hup, hsd, htime, Bool.and_self, if_true]
  have hm := relock_moves s l (s.lrx[l].acquired || s.lrx[l].warm) 1
  refine ⟨hm.count.raise, ?_, fun hf => ?_, raises_raise _ hm.power hm.units hm.now⟩
  · simp only [raise_lrx, count_lrx, relock_lrx, upd_at]
  · simp only [raise_cal, count_cal, relock_cal hf]

end

/-! ### A lane that acquires again -/

theorem voidedRound_round (r : Lrx) : r.voidedRound.round = none := by
  unfold Lrx.voidedRound
  split
  · rfl
  next h => exact Option.not_isSome_iff_eq_none.1 h

/-- R177: beside the round and its count, voiding a round ends the training of the sides alone. -/
theorem voidedRound_keeps (r : Lrx) :
    r.voidedRound = { r with round := none, voided := r.voidedRound.voided, sides := r.voidedRound.sides } := by
  rw [← voidedRound_round r]
  unfold Lrx.voidedRound
  split <;> rfl

theorem snapped_fade (r : Lrx) (b : Bool) : (r.snapped b).fade = none := by
  unfold Lrx.snapped
  split
  next h => exact Option.isNone_iff_eq_none.1 h
  next => cases b <;> rfl

/-- R173: a fade that snaps to its source ends, with the training of the sides. -/
theorem snapped_keeps (r : Lrx) : r.snapped false = { r with fade := none, sides := (r.snapped false).sides } := by
  rw [← snapped_fade r false]
  unfold Lrx.snapped
  split <;> rfl

/-- R181, R182: what a lane that acquires again keeps, and what it starts from. -/
theorem acquire_keeps (r : Lrx) (warm : Bool) (now : Nat) : ∃ a, r.acquire warm now = { r.unlock warm now with afe := a } := by
  unfold Lrx.acquire Lrx.ctleSet
  split
  · exact ⟨r.afe, rfl⟩
  · exact ⟨_, rfl⟩

theorem relocked_keeps (r : Lrx) (warm : Bool) (now : Nat) : ∃ x v a, r.relocked warm now =
    { r.unlock warm now with fade := none, round := none, hostTrial := none, sides := x, voided := v, afe := a } := by
  obtain ⟨a, ha⟩ := acquire_keeps (r.snapped false).voidedRound warm now
  refine ⟨(r.snapped false).voidedRound.sides, (r.snapped false).voidedRound.voided, a, ?_⟩
  unfold Lrx.relocked
  rw [ha, voidedRound_keeps, snapped_keeps]
  rfl

/-! ### What a row leaves of one lane -/

section
variable {s x : State} {dt : Nat} {o : Obs}

theorem hostLane_becomes {n : Fin 16} {f : Hrx → Hrx}
    (h : Turns { s with now := s.now + dt, hrx := upd s.hrx n f, cal := x.cal } x) :
    Becomes dt { s with hrx := upd s.hrx n fun _ => (finish x).hrx[n], cal := (finish x).cal } (finish x) ∧
      (finish x).hrx[n] = f s.hrx[n] := by
  obtain ⟨o, m, k, p, hx⟩ := turns_iff.1 h
  have hn : x.hrx[n] = f s.hrx[n] := by rw [hx]; exact upd_at ..
  have hu : upd s.hrx n (fun _ => x.hrx[n]) = upd s.hrx n f := upd_congr hn
  exact ⟨turns_becomes (e := { s with hrx := upd s.hrx n fun _ => x.hrx[n], cal := x.cal }) (by rw [hu]; exact h), hn⟩

theorem line_becomes {l : Fin 8} (h : LaneMoves l { s.later dt with obs := o } x) :
    Becomes dt { s with lrx := upd s.lrx l fun _ => (finish x).lrx[l], cal := (finish x).cal } (finish x) :=
  turns_becomes h

end

/-- Settles O21. -/
theorem signalAndTimingLockComeAndGo : Obligations.SignalAndTimingLockComeAndGo := by
  intro s dt range
  refine ⟨fun n hlive hsd => ?_, fun n hlive hsd => ?_, fun n hlive hup htime => ?_, fun l hlive hsd => ?_,
    fun l hlive hsd => ?_, fun l hlive hup hsd htime => ?_⟩
  · refine event_gives (·.hostDetected n) fun o _ => ?_
    cases hup : s.isUp .hrx n with
    | false =>
      have hx := hostDetected_of_down (s := { s.later dt with obs := o }) hlive hsd hup
      generalize State.hostDetected _ n = x at hx ⊢
      obtain ⟨hb, hn⟩ := hostLane_becomes (s := s) (dt := dt) (x := x) (n := n) (f := fun h => { h with sd := true })
        (by rw [hx]; rfl)
      exact ⟨hb, by rw [hn], fun _ => ⟨hn, by rw [hx]; rfl⟩, nofun⟩
    | true =>
      obtain ⟨ht, hr⟩ := hostDetected_of_up (s := { s.later dt with obs := o }) hlive hsd hup
      generalize State.hostDetected _ n = x at ht hr ⊢
      obtain ⟨hb, hn⟩ := hostLane_becomes (s := s) ht
      refine ⟨hb, by rw [hn], nofun, fun _ => ?_⟩
      rw [hn]
      exact ⟨rfl, rfl, rfl, rfl, rfl, ht.now.symm, finish_raised hr ht.now⟩
  · refine event_gives (·.hostLost n) fun o _ => ?_
    obtain ⟨ht, hr⟩ := hostLost_turns (s := { s.later dt with obs := o }) hlive hsd
    exact ⟨turns_becomes ht, fun hup => finish_raised (hr hup) ht.now⟩
  · refine event_gives (·.hostUnlocked n) fun o _ => ?_
    exact turns_becomes (hostUnlocked_turns (s := { s.later dt with obs := o }) hlive hup htime)
  · refine event_gives (·.lineDetected l) fun o _ => ?_
    obtain ⟨ht, hr⟩ := lineDetected_turns (s := { s.later dt with obs := o }) hlive hsd
    generalize State.lineDetected _ l = x at ht hr ⊢
    exact ⟨turns_becomes ht, fun hup => finish_raised (hr hup) ht.now⟩
  · refine event_gives (·.lineLost l) fun o _ => ?_
    obtain ⟨hm, hl, hoff, hcal, hr⟩ := lineLost_moves (s := { s.later dt with obs := o }) hlive hsd
    generalize State.lineLost _ l = x at hm hl hoff hcal hr ⊢
    obtain ⟨y, v, a, hk⟩ := relocked_keeps s.lrx[l] (s.lrx[l].acquired || s.lrx[l].warm) (s.now + dt)
    replace hl : (finish x).lrx[l] = { s.lrx[l].relocked (s.lrx[l].acquired || s.lrx[l].warm) (s.now + dt) with sd := false } := hl
    refine ⟨line_becomes hm, ?_⟩
    rw [hl, hk]
    exact ⟨rfl, rfl, rfl, rfl, rfl, rfl, hoff.trans hm.now.symm, hcal, fun hup => finish_raised (hr hup) hm.now⟩
  · refine event_gives (·.lineUnlocked l range) fun o _ => ?_
    obtain ⟨hm, hl, hcal, hr⟩ := lineUnlocked_moves (s := { s.later dt with obs := o }) (range := range) hlive hup hsd htime
    generalize State.lineUnlocked _ l range = x at hm hl hcal hr ⊢
    obtain ⟨y, v, a, hk⟩ := relocked_keeps s.lrx[l] (s.lrx[l].acquired || s.lrx[l].warm) (s.now + dt)
    replace hl : (finish x).lrx[l] = s.lrx[l].relocked (s.lrx[l].acquired || s.lrx[l].warm) (s.now + dt) := hl
    refine ⟨line_becomes hm, hcal, ?_⟩
    rw [hl, hk]
    exact ⟨hsd, rfl, rfl, rfl, rfl, rfl, finish_raised hr hm.now⟩

end Sys2Proof.Machine

/-! ## The commands that act on a line receiver (R161, R173, R174, R177, R182, R185) -/

namespace Sys2Proof.Machine

/-- A command that moves one lane: what it leaves, and its reply. -/
theorem answered_lane {s x : State} {dt : Nat} {o : Obs} {m : Vector Stats 321} {v : List Waiting} {l : Fin 8} {c : Cls} {i : Nat}
    {g f : Byte} {ps pay : List Word} (hw : s.port.waiting = []) (h : LaneMoves l (s.heard dt o m v) x) :
    let t := finish (x.answered c (cmdTo i g f ps) pay)
    Leaves dt { s with lrx := upd s.lrx l fun _ => t.lrx[l], cal := t.cal } t ∧ Replies s t (cmdTo i g f ps) c 0 pay := by
  obtain ⟨r, cal, o', m', k', n', rfl⟩ := laneMoves_iff.1 h
  have hr (a : Lrx) : (upd s.lrx l fun _ => r) = upd s.lrx l fun _ => (upd s.lrx l fun _ => r)[l] := by rw [upd_at]
  refine answered_effects (e := { s with now := s.now + dt, lrx := upd s.lrx l fun _ => (upd s.lrx l fun _ => r)[l], cal := cal }) hw ?_
  rw [← hr r]
  rfl

/-- The same where calibration stays as it is. -/
theorem answered_laneOnly {s x : State} {dt : Nat} {o : Obs} {m : Vector Stats 321} {v : List Waiting} {l : Fin 8} {c : Cls} {i : Nat}
    {g f : Byte} {ps pay : List Word} (hw : s.port.waiting = []) (h : LaneMoves l (s.heard dt o m v) x) (hc : x.cal = s.cal) :
    let t := finish (x.answered c (cmdTo i g f ps) pay)
    Leaves dt { s with lrx := upd s.lrx l fun _ => t.lrx[l] } t ∧ Replies s t (cmdTo i g f ps) c 0 pay := by
  obtain ⟨hleaves, hreplies⟩ := answered_lane (c := c) (i := i) (g := g) (f := f) (ps := ps) (pay := pay) hw h
  refine ⟨?_, hreplies⟩
  have ht : (finish (x.answered c (cmdTo i g f ps) pay)).cal = s.cal := hc
  rw [ht] at hleaves
  exact hleaves

theorem LaneMoves.effects {s x : State} {dt : Nat} {o : Obs} {m : Vector Stats 321} {v : List Waiting} {l : Fin 8} {f : Lrx → Lrx}
    {c : Cal} (h : LaneMoves l (s.heard dt o m v) x) (hc : x.cal = c) (hl : x.lrx = upd s.lrx l f) :
    Effects s { s.later dt with lrx := upd s.lrx l f, cal := c } x := by
  obtain ⟨r, cal, o', m', k', n', rfl⟩ := laneMoves_iff.1 h
  dsimp only at hc hl
  rw [← hl, hc]
  rfl

/-- A command to one unit, run to the state `x` that its effect ends in. -/
theorem unit_gives_to {instr : Instr} {s : State} {dt : Nat} (sp : CmdSpec) {c : Cls} {i : Nat} {g f : Byte} {ps : List Word}
    {k : Level} {P : State → Prop} (ht : s.takes) (hrun : s.anyRun = true) (hi : i ∈ instances c) (ha : s.allows k)
    (hu : ∀ o m w, s.meets sp (sp.isl (s.heard dt o m w) (unitReq c i sp.op g ps)))
    (h : ∀ o m w, s.obs.GoesOn o → Served sp (s.heard dt o m w) (unitReq c i sp.op g ps))
    (hP : ∀ o m w, s.obs.GoesOn o → ∃ x pay, sp.after (sp.act (s.heard dt o m w) (unitReq c i sp.op g ps)).st [i] = x ∧
      (sp.act (s.heard dt o m w) (unitReq c i sp.op g ps)).pay = pay ∧ P (finish (x.answered c (cmdTo i g f ps) pay)))
    (hrow : exec instr s = .next (hostRow dt sp c (cmdTo i g f ps) s) := by rfl)
    (hav : sp.avail = availRun := by rfl)
    (hk : sp.hasLevel k := by simp only [CmdSpec.hasLevel] <;> constructorm* _ ∧ _ <;> rfl)
    (hd : ∀ b : State, sp.denied b (unitReq c i sp.op g ps) = false := by intros; rfl)
    (hl : ∀ b : State, sp.locked b (unitReq c i sp.op g ps) = false := by intros; rfl)
    (hacc : sp.accepts c i = true := by rfl)
    (hop : (BitVec.ofNat 8 sp.op).toNat = sp.op := by rfl) (hg : sp.groupCmd = false := by rfl)
    (hisl : ∀ b : State, sp.isl b { unitReq c i sp.op g ps with all := [] } = sp.isl b (unitReq c i sp.op g ps) := by
      intros; rfl)
    (hlate : sp.late = fun t _ => t := by rfl) : Gives instr s P := by
  refine unit_gives_of sp ht hrun hi ha hu h (fun o m w hkeep => ?_) hrow hav hk hd hl hacc hop hg hisl hlate
  obtain ⟨x, pay, rfl, rfl, hp⟩ := hP o m w hkeep
  exact hp

/-- A field of a word holds its bits. -/
theorem bit_eq_fld (w : Word) (lo len k : Nat) (h : k < len) : bit w (lo + k) = (fld w lo len).testBit k := by
  simp [bit, fld, BitVec.getLsbD, Nat.testBit_mod_two_pow, Nat.testBit_div_two_pow, h, Nat.add_comm]

theorem unitReq_p (c : Cls) (i op : Nat) (g : Byte) (w : Word) (ps : List Word) : (unitReq c i op g (w :: ps)).p 0 = w := rfl

section
variable {s : State} {l : Fin 8} {w : Word}

/-! ### LRX_SETUP_SET -/

theorem lrxSetup_of_ne_test (h : s.admin .lrx l ≠ .test) (w : Word) :
    s.lrxSetup l w = s.setLrx l fun r => { r with setup := w, kept := none } := if_neg h

theorem startPol_setup (r : Lrx) (w : Word) : ({ r with setup := w, kept := none } : Lrx).startPol = decide (fld w 8 2 = 1) := by
  simp only [Lrx.startPol, Lrx.polSet]
  split
  next h => rw [h]; rfl
  next h => rw [h]; rfl
  next h0 h1 => simp only [Option.getD_none]; exact (decide_eq_false h1).symm

/-- R182, R185: in TEST a new setting is in use at once; a new polarity or precoding ends timing lock. -/
theorem lrxSetup_of_test (h : s.admin .lrx l = .test) (w : Word) :
    LaneMoves l s (s.lrxSetup l w) ∧ (s.lrx[l].fade = none → (s.lrxSetup l w).cal = s.cal) ∧
    (s.lrxSetup l w).lrx[l].setup = w ∧ (s.lrxSetup l w).lrx[l].kept = none ∧
    (s.lrxSetup l w).lrx[l].inverted = decide (fld w 8 2 = 1) ∧
    (s.lrx[l].timing = true → fld w 8 2 ≠ s.lrx[l].polSet ∨ bit w 10 ≠ s.lrx[l].precode →
      (s.lrxSetup l w).lrx[l].timing = false ∧ (s.lrxSetup l w).lrx[l].warm = true) := by
  have hset := startPol_setup s.lrx[l] w
  unfold State.lrxSetup
  simp only [h, if_true]
  split
  next hc =>
    obtain ⟨x, v, a, hk⟩ := relocked_keeps { s.lrx[l] with setup := w, kept := none } true s.now
    have hl : ((s.setLrx l fun r => { r with setup := w, kept := none }).relock l true 1).lrx[l] =
        ({ s.lrx[l] with setup := w, kept := none } : Lrx).relocked true s.now := by
      rw [relock_lrx, setLrx_lrx, upd_upd, upd_at, setLrx_now]
    refine ⟨(laneMoves_refl l s).put.trans (relock_moves _ l true 1), fun hf => ?_, ?_⟩
    · refine relock_cal ?_ true 1
      rw [setLrx_lrx, upd_at]
      exact hf
    · rw [hl, hk]
      exact ⟨rfl, rfl, hset, fun _ _ => ⟨rfl, rfl⟩⟩
  next hc =>
    refine ⟨(laneMoves_refl l s).put.put, fun _ => rfl, ?_⟩
    simp only [setLrx_lrx, upd_upd, upd_at]
    refine ⟨trivial, trivial, hset, fun ht hne => absurd ⟨?_, ht⟩ hc⟩
    simpa only [Bool.or_eq_true, decide_eq_true_eq, bne_iff_ne] using hne

/-! ### LRX_POLICY_SET -/

theorem voidedRound_gated (r : Lrx) (k : Fin 2) : r.voidedRound.sides[k].gated = r.sides[k].gated := by
  unfold Lrx.voidedRound
  split
  · simp
  · rfl

theorem voidedRound_policy (r : Lrx) : r.voidedRound.policy = r.policy := by rw [voidedRound_keeps]

theorem gatedSide_keeps (r : Lrx) (hi : Bool) (cause : Nat) (o : BitVec 16) :
    r.gatedSide hi cause o = { r with
      round := none, dropped := true, voided := (r.gatedSide hi cause o).voided, sides := (r.gatedSide hi cause o).sides } := by
  unfold Lrx.gatedSide
  rw [voidedRound_keeps]

theorem gatedSide_gated (r : Lrx) (hi : Bool) (cause : Nat) (o : BitVec 16) (k : Fin 2) :
    (r.gatedSide hi cause o).sides[k].gated = (decide (k = sideIx hi) || r.sides[k].gated) := by
  unfold Lrx.gatedSide
  by_cases hk : k = sideIx hi
  · subst hk
    simp only [upd_at, decide_true, Bool.true_or]
  · dsimp only
    rw [upd_get_ne _ _ (Ne.symm hk), voidedRound_gated]
    simp only [hk, decide_false, Bool.false_or]

/-- R161, R186: a side is gated where its bit of the policy is clear and it is not gated yet. -/
def State.gateOff (s : State) (l : Fin 8) (hi on : Bool) (o : BitVec 16) : State :=
  if !on && !s.lrx[l].sides[sideIx hi].gated then s.gateSide l hi 5 o else s

theorem gateOff_moves (s : State) (l : Fin 8) (hi on : Bool) (o : BitVec 16) :
    LaneMoves l s (s.gateOff l hi on o) ∧ (s.gateOff l hi on o).cal = s.cal := by
  unfold State.gateOff
  split
  · exact ⟨gateSide_moves s l hi 5 o, gateSide_cal s l hi 5 o⟩
  · exact ⟨laneMoves_refl l s, rfl⟩

theorem gateOff_lane (s : State) (l : Fin 8) (hi on : Bool) (o : BitVec 16) :
    let r := (s.gateOff l hi on o).lrx[l]
    r.policy = s.lrx[l].policy ∧ (s.lrx[l].round = none → r.round = none) ∧
    (∀ k : Fin 2, s.lrx[l].sides[k].gated = true → r.sides[k].gated = true) ∧
    (on = false → (neighbour l hi).isSome = true → r.sides[sideIx hi].gated = true) ∧ (on = true → r = s.lrx[l]) := by
  intro r
  by_cases hc : on = false ∧ s.lrx[l].sides[sideIx hi].gated = false
  · have hgate : s.gateOff l hi on o = s.gateSide l hi 5 o := if_pos (by rw [hc.1, hc.2]; rfl)
    cases hn : neighbour l hi with
    | none =>
      have hr : r = s.lrx[l] := by
        simp only [r, hgate, State.gateSide, hn]
      rw [hr, hc.1]
      exact ⟨rfl, id, fun _ => id, fun _ h => (Bool.false_ne_true h).elim, fun h => (Bool.false_ne_true h).elim⟩
    | some n =>
      have hr : r = s.lrx[l].gatedSide hi 5 o := by
        simp only [r, hgate, gateSide_lrx s hn, upd_at]
      refine ⟨?_, fun _ => ?_, fun k hk => ?_, fun _ _ => ?_, fun h => ?_⟩
      · rw [hr, gatedSide_keeps]
      · rw [hr, gatedSide_keeps]
      · rw [hr, gatedSide_gated, hk, Bool.or_true]
      · rw [hr, gatedSide_gated, decide_eq_true rfl, Bool.true_or]
      · rw [hc.1] at h; exact (Bool.false_ne_true h).elim
  · have hr : s.gateOff l hi on o = s := if_neg (by simpa using hc)
    simp only [r, hr]
    refine ⟨trivial, id, fun _ => id, fun h _ => ?_, fun _ => trivial⟩
    exact Bool.not_eq_false _ ▸ fun h' => hc ⟨h, h'⟩

/-- R186: what LRX_POLICY_SET makes of the lane. -/
theorem lrxPolicy_lane (s : State) (l : Fin 8) (w : Word) :
    LaneMoves l s (s.lrxPolicy l w) ∧ (s.lrxPolicy l w).cal = s.cal ∧ (s.lrxPolicy l w).lrx[l].policy = w ∧
    (0 < l.val → bit w 16 = false → (s.lrxPolicy l w).lrx[l].sides[0].gated = true) ∧
    (l.val < 7 → bit w 17 = false → (s.lrxPolicy l w).lrx[l].sides[1].gated = true) ∧
    (fld w 14 2 ≠ s.lrx[l].profile ∨ fld w 16 2 ≠ fld s.lrx[l].policy 16 2 → (s.lrxPolicy l w).lrx[l].round = none) ∧
    (fld w 14 2 = s.lrx[l].profile → fld w 16 2 = 3 → fld s.lrx[l].policy 16 2 = 3 →
      (s.lrxPolicy l w).lrx[l] = { s.lrx[l] with policy := w }) := by
  obtain ⟨t, ht⟩ : ∃ t, t = (if decide (fld w 14 2 ≠ s.lrx[l].profile) || decide (fld w 16 2 ≠ fld s.lrx[l].policy 16 2)
    then s.voidRound l else s).setLrx l fun r => { r with policy := w } := ⟨_, rfl⟩
  obtain ⟨a, ha⟩ : ∃ a, a = t.gateOff l false (bit w 16) (match neighbour l false with
    | some n => BitVec.ofInt 16 (s.xtOffset l n)
    | none => 0) := ⟨_, rfl⟩
  obtain ⟨b, hb⟩ : ∃ b, b = a.gateOff l true (bit w 17) (match neighbour l true with
    | some n => BitVec.ofInt 16 (s.xtOffset l n)
    | none => 0) := ⟨_, rfl⟩
  have hpol : s.lrxPolicy l w = b := by rw [hb, ha, ht]; rfl
  have htm : LaneMoves l s t ∧ t.cal = s.cal ∧ t.lrx[l].policy = w ∧
      (fld w 14 2 ≠ s.lrx[l].profile ∨ fld w 16 2 ≠ fld s.lrx[l].policy 16 2 → t.lrx[l].round = none) ∧
      (fld w 14 2 = s.lrx[l].profile → fld w 16 2 = fld s.lrx[l].policy 16 2 → t.lrx[l] = { s.lrx[l] with policy := w }) := by
    split at ht
    next hc =>
      have hl : t.lrx[l] = { s.lrx[l].voidedRound with policy := w } := by
        simp only [ht, setLrx_lrx, voidRound_lrx, upd_upd, upd_at]
      rw [hl]
      refine ⟨ht ▸ (voidRound_moves s l).put, ht ▸ voidRound_cal s l, rfl, fun _ => voidedRound_round _, fun h1 h2 => ?_⟩
      simp only [h1, h2, ne_eq, not_true_eq_false, decide_false, Bool.or_self, Bool.false_eq_true] at hc
    next hc =>
      have hl : t.lrx[l] = { s.lrx[l] with policy := w } := by
        simp only [ht, setLrx_lrx, upd_at]
      rw [hl]
      refine ⟨ht ▸ (laneMoves_refl l s).put, ht ▸ rfl, rfl, fun h => absurd ?_ hc, fun _ _ => rfl⟩
      simpa only [Bool.or_eq_true, decide_eq_true_eq] using h
  obtain ⟨htm, htc, htp, htr, hte⟩ := htm
  obtain ⟨ham, hac⟩ := gateOff_moves t l false (bit w 16) (match neighbour l false with
    | some n => BitVec.ofInt 16 (s.xtOffset l n)
    | none => 0)
  obtain ⟨hap, har, hak, hag, hae⟩ := gateOff_lane t l false (bit w 16) (match neighbour l false with
    | some n => BitVec.ofInt 16 (s.xtOffset l n)
    | none => 0)
  rw [← ha] at ham hac hap har hak hag hae
  obtain ⟨hbm, hbc⟩ := gateOff_moves a l true (bit w 17) (match neighbour l true with
    | some n => BitVec.ofInt 16 (s.xtOffset l n)
    | none => 0)
  obtain ⟨hbp, hbr, hbk, hbg, hbe⟩ := gateOff_lane a l true (bit w 17) (match neighbour l true with
    | some n => BitVec.ofInt 16 (s.xtOffset l n)
    | none => 0)
  rw [← hb] at hbm hbc hbp hbr hbk hbg hbe
  simp only [hpol]
  refine ⟨(htm.trans ham).trans hbm, hbc.trans (hac.trans htc), hbp.trans (hap.trans htp), fun hl h => hbk 0 (hag h ?_),
    fun hl h => hbg h ?_, fun h => hbr (har (htr h)), fun h1 h2 h3 => ?_⟩
  · simp only [neighbour, Bool.false_eq_true, if_false, hl, if_true, Option.isSome_some]
  · have hl' : l.val + 1 < 8 := by omega
    simp only [neighbour, if_true, hl', dif_pos, Option.isSome_some]
  · have h16 : bit w 16 = true := by rw [bit_eq_fld w 16 2 0 (by omega), h2]; rfl
    have h17 : bit w 17 = true := by rw [show 17 = 16 + 1 from rfl, bit_eq_fld w 16 2 1 (by omega), h2]; rfl
    exact (hbe h17).trans ((hae h16).trans (hte h1 (h2.trans h3.symm)))

end

/-! ### LRX_FADE_ABORT, LRX_ADAPT_SET and LRX_AFE_FORCE -/

theorem snapped_some {r : Lrx} {d : Fade} (h : r.fade = some d) (b : Bool) :
    r.snapped b = { r with
      fade := none, active := if b then otherBank r.active else r.active, sides := (r.snapped b).sides } := by
  unfold Lrx.snapped Lrx.inUseNow
  rw [h]
  cases b <;> rfl

theorem snapFade_raises {s : State} {l : Fin 8} {d : Fade} (h : s.lrx[l].fade = some d) (b : Bool) (k : Nat) :
    Raises s (s.snapFade l b k) .lrx l 0x18 (pk [(d.remaining s.now - 4096, 0), (b2n b, 27), (k, 28)]) := by
  unfold State.snapFade
  simp only [h, Lrx.abortRemaining]
  have hm {f : Lrx → Lrx} := ((roundOpens_moves s).lane.put (l := l) (f := f).cal (fadeOver_moves _ l)).count (c := .lrx) (i := l.val)
    (j := 7) (n := 1)
  cases b
  · exact raises_raise _ hm.power hm.units hm.now
  · exact .mono (raises_raise _ hm.power hm.units hm.now) (inForce_queue _ l _)

/-- R267: a round opens without regard to what a command waits with, is counted with, or raises. -/
theorem roundOpens_heard (s : State) (dt : Nat) (o : Obs) (m : Vector Stats 321) (v : List Waiting) :
    (s.heard dt o m v).roundOpens.cal = (s.later dt).roundOpens.cal := by
  unfold State.roundOpens State.later
  dsimp only
  cases s.cal.round with
  | none => rfl
  | some t =>
    dsimp only
    refine (apply_ite State.cal _ _ _).trans (.trans ?_ (apply_ite State.cal _ _ _).symm)
    rfl

theorem startFade_raises (s : State) (l : Fin 8) (len cause : Nat) (prof : Option Nat) :
    Raises s (s.startFade l len cause prof) .lrx l 0x16 (pk [(cause, 0), (len, 2)]) :=
  raises_raise _ (roundOpens_moves s).power (roundOpens_moves s).units (roundOpens_moves s).now

section
variable {s : State} {l : Fin 8} {op : Nat} {g : Byte} {ps : List Word} {w : Word} {b : Bank}

theorem busyFade_none (h : s.lrx[l].fade = none) : busyFade s (unitReq .lrx l op g ps) = none := by
  simp only [busyFade, lineLane_val, h]

theorem frozenUp_pass (hz : s.lrx[l].frozen = true) (hc : (s.operLrx l).1.carries = true) :
    frozenUp s (unitReq .lrx l op g ps) = none := by
  simp only [frozenUp, lineLane_val, hz, hc, require, Bool.and_self, if_true]

theorem bankWrite_block : (Vector.ofFn fun k : Fin 70 => (unitReq .lrx l op g (w :: b.toList)).p (1 + k.val)) = b := by
  have hk (k : Fin 70) : (unitReq .lrx l op g (w :: b.toList)).p (1 + k.val) = b.toList.getD k.val 0 := by
    rw [Nat.add_comm]
    rfl
  simp only [hk]
  exact vector_ofFn_getD b

/-- R187: a bank block whose checks hold passes as the parameters of LRX_BANK_WRITE. -/
theorem bankWrite_good (hw : clear w 1 = true) (hb : firstBad (bankChecks (bankWord b)) = none) :
    specLrxBankWrite.bad s (unitReq .lrx l 0x82 g (w :: b.toList)) = none := by
  refine firstBad_none_iff.2 fun p hp => ?_
  obtain rfl | hp := List.mem_cons.1 hp
  · exact hw
  · obtain ⟨q, hq, rfl⟩ := List.mem_map.1 hp
    have hk : (fun k => (unitReq .lrx l 0x82 g (w :: b.toList)).p (1 + k)) = bankWord b := by
      funext k
      rw [Nat.add_comm]
      rfl
    rw [hk] at hq
    exact firstBad_none_iff.1 hb q hq

end

/-- Settles O23. -/
theorem lineReceiverCommandsTakeEffect : Obligations.LineReceiverCommandsTakeEffect := by
  intro s dt l g f w b ht hrun
  have hl := instances_lrx l
  have hq := ht.2.2.1
  refine ⟨fun hu h1 h2 h3 h4 => ⟨fun hadm => ?_, fun hadm => ?_⟩, fun hu h1 h2 h3 h4 => ?_, fun hu => ⟨fun hw hup => ?_,
    fun hx => ⟨fun hw => ?_, fun h1 h2 hw hadm => ?_, fun hw d hd => ?_, fun hf hz hc => ⟨fun hw hb hne => ?_, fun hw => ?_,
      fun hw hne => ?_⟩⟩⟩⟩
  · have hne : s.admin .lrx l ≠ .test := by rw [hadm]; decide
    have hdown : s.admin .lrx l ≠ .up := by rw [hadm]; decide
    refine unit_does specLrxSetupSet (k := .basic) ht hrun hl trivial (fun _ _ _ => meets_of_sound hu rfl)
      (fun _ _ _ _ => ⟨rfl, firstBad_one (by simpa using ⟨⟨⟨h1, h2⟩, h3⟩, h4⟩), rfl,
        adminIn_pass (downOrTest_of_ne_up hdown), rfl, rfl⟩) (fun o m v _ => ⟨rfl, ?_⟩)
    simp only [specLrxSetupSet, change, lineLane_val]
    rw [lrxSetup_of_ne_test (s := s.heard dt o m v) hne]
    rfl
  · have hdown : s.admin .lrx l ≠ .up := by rw [hadm]; decide
    refine unit_gives_to specLrxSetupSet (g := g) (f := f) (ps := [w]) (k := .basic) ht hrun hl trivial
      (fun _ _ _ => meets_of_sound hu rfl)
      (fun _ _ _ _ => ⟨rfl, firstBad_one (by simpa using ⟨⟨⟨h1, h2⟩, h3⟩, h4⟩), rfl,
        adminIn_pass (downOrTest_of_ne_up hdown), rfl, rfl⟩) (fun o m v _ => ?_)
    have hfacts := lrxSetup_of_test (s := s.heard dt o m v) hadm w
    generalize hx : State.lrxSetup _ l w = x at hfacts
    obtain ⟨hm, hcal, h1, h2, h3, h4⟩ := hfacts
    refine ⟨x, [], by simp only [specLrxSetupSet, change, lineLane_val, unitReq_p, hx], rfl, ?_⟩
    obtain ⟨hleaves, hreplies⟩ := answered_lane (c := .lrx) (i := l) (g := g) (f := f) (ps := [w]) (pay := []) hq hm
    exact ⟨hleaves, hcal, h1, h2, h3, h4, hreplies⟩
  · refine unit_gives_to specLrxPolicySet (g := g) (f := f) (ps := [w]) (k := .basic) ht hrun hl trivial
      (fun _ _ _ => meets_of_sound hu rfl)
      (fun _ _ _ _ => ⟨rfl, firstBad_one (by simpa [within] using ⟨⟨⟨h1, h2⟩, h3⟩, h4⟩), rfl, rfl, rfl, rfl⟩) (fun o m v _ => ?_)
    have hfacts := lrxPolicy_lane (s.heard dt o m v) l w
    generalize hx : State.lrxPolicy _ l w = x at hfacts
    obtain ⟨hm, hcal, hpol, hlo, hhi, hround, hsame⟩ := hfacts
    refine ⟨x, [], by simp only [specLrxPolicySet, change, lineLane_val, unitReq_p, hx], rfl, ?_⟩
    obtain ⟨hleaves, hreplies⟩ := answered_laneOnly (c := .lrx) (i := l) (g := g) (f := f) (ps := [w]) (pay := []) hq hm hcal
    exact ⟨hleaves, hpol, hlo, hhi, hround, hsame, hreplies⟩
  · refine unit_gives_to specLrxRetrain (g := g) (f := f) (ps := [w]) (k := .basic) ht hrun hl trivial
      (fun _ _ _ => meets_of_workable hu)
      (fun _ _ _ _ => ⟨rfl, firstBad_one hw, rfl, adminIn_pass (upOrTest_of_isUp hup), rfl, rfl⟩) (fun o m v _ => ?_)
    have hm := relock_moves (s.heard dt o m v) l (!bit w 0) 2
    have hlane : ((s.heard dt o m v).relock l (!bit w 0) 2).lrx[l] = s.lrx[l].relocked (!bit w 0) (s.now + dt) := by
      rw [relock_lrx, upd_at]
    have hcal (hf : s.lrx[l].fade = none) := relock_cal (s := s.heard dt o m v) hf (!bit w 0) 2
    generalize hx : State.relock _ l _ _ = x at hm hlane hcal
    refine ⟨x, [], by simp only [specLrxRetrain, change, lineLane_val, unitReq_p, hx], rfl, ?_⟩
    obtain ⟨hleaves, hreplies⟩ := answered_lane (c := .lrx) (i := l) (g := g) (f := f) (ps := [w]) (pay := []) hq hm
    obtain ⟨y, z, a, hk⟩ := relocked_keeps s.lrx[l] (!bit w 0) (s.now + dt)
    replace hlane := hlane.trans hk
    replace hlane : (finish (x.answered .lrx (cmdTo l g f [w]) [])).lrx[l] = _ := hlane
    refine ⟨hleaves, hcal, ?_⟩
    rw [hlane]
    exact ⟨rfl, rfl, rfl, rfl, rfl, rfl, rfl, rfl, hreplies⟩
  · refine unit_does specLrxAdaptSet ht hrun hl hx (fun _ _ _ => meets_of_workable hu)
      (fun _ _ _ _ => ⟨rfl, firstBad_one hw, rfl, rfl, rfl, rfl⟩) (fun o m v _ => ⟨rfl, ?_⟩)
    simp only [specLrxAdaptSet, change, lineLane_val, unitReq_p]
    cases bit w 0 with
    | false => rfl
    | true =>
      refine LaneMoves.effects (s := s) (o := o) (m := m) (v := v) (voidRound_moves _ l).put (voidRound_cal _ l) ?_
      rw [setLrx_lrx]
      exact (congrArg (upd · l _) (voidRound_lrx _ l)).trans (upd_upd ..)
  · refine unit_gives_to specLrxAfeForce (g := g) (f := f) (ps := [w]) ht hrun hl hx
      (fun _ _ _ => meets_of_workable hu)
      (fun _ _ _ _ => ⟨rfl, firstBad_one (by simpa using ⟨⟨h1, h2⟩, hw⟩), rfl, adminIn_pass (test_of_eq hadm), rfl, rfl⟩)
      (fun o m v _ => ?_)
    have hm := (voidRound_moves (s.heard dt o m v) l).put (f := fun x =>
      { x with afe := { x.afe with agc := fld w 0 8, ctle := fld w 8 8, held := bit w 16 } })
    have hcal := voidRound_cal (s.heard dt o m v) l
    have hlane : ((State.voidRound (s.heard dt o m v) l).setLrx l fun x =>
      { x with afe := { x.afe with agc := fld w 0 8, ctle := fld w 8 8, held := bit w 16 } }).lrx[l] =
        { s.lrx[l].voidedRound with
          afe := { s.lrx[l].voidedRound.afe with agc := fld w 0 8, ctle := fld w 8 8, held := bit w 16 } } := by
      simp only [setLrx_lrx, voidRound_lrx, upd_upd, upd_at]
    rw [← setLrx_cal] at hcal
    generalize hx : State.setLrx _ l _ = x at hm hlane hcal
    refine ⟨x, [], by simp only [specLrxAfeForce, change, lineLane_val, unitReq_p, hx], rfl, ?_⟩
    obtain ⟨hleaves, hreplies⟩ := answered_laneOnly (c := .lrx) (i := l) (g := g) (f := f) (ps := [w]) (pay := []) hq hm hcal
    replace hlane : (finish (x.answered .lrx (cmdTo l g f [w]) [])).lrx[l] = _ := hlane
    rw [voidedRound_keeps] at hlane
    refine ⟨hleaves, ?_⟩
    rw [hlane]
    exact ⟨rfl, rfl, rfl, hreplies⟩
  · refine unit_gives_to specLrxFadeAbort (g := g) (f := f) (ps := [w]) ht hrun hl hx (fun _ _ _ => meets_of_workable hu)
      (fun o m v _ => ⟨rfl, firstBad_one hw, rfl, ?_, rfl, rfl⟩) (fun o m v _ => ?_)
    · simp only [specLrxFadeAbort, lineLane_val, hd, require, Option.isSome_some, if_true]
    have hm := snapFade_moves (s.heard dt o m v) l (bit w 0) 0
    have hlane : (State.snapFade (s.heard dt o m v) l (bit w 0) 0).lrx[l] = s.lrx[l].snapped (bit w 0) := by
      rw [snapFade_lrx, upd_at]
    have hr := snapFade_raises (s := s.heard dt o m v) hd (bit w 0) 0
    generalize hx : State.snapFade _ l _ _ = x at hm hlane hr
    refine ⟨x, [w32 (d.remaining (s.now + dt) - 4096)], by simp only [specLrxFadeAbort, lineLane_val, unitReq_p, hx],
      by simp only [specLrxFadeAbort, lineLane_val, Lrx.abortRemaining, hd], ?_⟩
    rw [snapped_some hd] at hlane
    obtain ⟨hleaves, hreplies⟩ := answered_lane (c := .lrx) (i := l) (g := g) (f := f) (ps := [w])
      (pay := [w32 (d.remaining (s.now + dt) - 4096)]) hq hm
    replace hlane : (finish (x.answered .lrx (cmdTo l g f [w]) [w32 (d.remaining (s.now + dt) - 4096)])).lrx[l] = _ := hlane
    have hnow : (finish (x.answered .lrx (cmdTo l g f [w]) [w32 (d.remaining (s.now + dt) - 4096)])).now = s.now + dt := hm.now
    refine ⟨hleaves, ?_⟩
    rw [hlane, hnow]
    exact ⟨rfl, rfl, rfl, answered_raised hr hm.now, hreplies⟩
  · refine unit_does specLrxBankWrite (ps := w :: b.toList) ht hrun hl hx (fun _ _ _ => meets_of_workable hu)
      (fun o m v _ => ⟨by simp [specLrxBankWrite, exactly], bankWrite_good hw hb, ?_, ?_, rfl, rfl⟩) (fun o m v _ => ⟨rfl, ?_⟩)
    · exact busyFade_none (s := s.heard dt o m v) hf
    · simp only [specLrxBankWrite, unitReq_p, lineLane_val]
      rw [frozenUp_pass (s := s.heard dt o m v) hz hc]
      exact if_pos (decide_eq_true hne)
    · simp only [specLrxBankWrite, change, lineLane_val, bankWrite_block]
      rfl
  · refine unit_gives_to specLrxBankSwap (g := g) (f := f) (ps := [w]) ht hrun hl hx (fun _ _ _ => meets_of_workable hu)
      (fun o m v _ => ⟨rfl, firstBad_one hw, busyFade_none (s := s.heard dt o m v) hf,
        frozenUp_pass (s := s.heard dt o m v) hz hc, rfl, rfl⟩) (fun o m v _ => ?_)
    let p := if bankLean s.lrx[l].live != bankLean s.lrx[l].standby then some 0 else none
    have hm := startFade_moves (s.heard dt o m v) l (fld w 0 2) 1 p
    have hlane := startFade_lrx (s.heard dt o m v) l (fld w 0 2) 1 p
    have hcal := startFade_cal (s.heard dt o m v) l (fld w 0 2) 1 p
    have hr := startFade_raises (s.heard dt o m v) l (fld w 0 2) 1 p
    rw [roundOpens_heard] at hcal
    replace hlane := hlane.trans (upd_congr (g := fun r =>
      { r with lastCause := 1
               fade := some { step := 0, stepAt := s.now + dt, len := fld w 0 2, cause := 1
                              profile := if bankLean r.live != bankLean r.standby then some 0 else none } }) rfl)
    generalize hx : State.startFade _ l _ 1 p = x at hm hlane hcal hr
    refine ⟨x, [], by simp only [specLrxBankSwap, change, lineLane_val, unitReq_p]; exact hx, rfl, ?_⟩
    obtain ⟨hleaves, hreplies⟩ := answered_effects (i := l) (g := g) (f := f) (ps := [w]) (pay := []) (c := .lrx) hq
      (hm.effects hcal hlane)
    exact ⟨hleaves, answered_raised hr hm.now, hreplies⟩
  · refine unit_does specLrxShadowTrial ht hrun hl hx (fun _ _ _ => meets_of_workable hu)
      (fun o m v _ => ⟨rfl, firstBad_one (by simpa using ⟨hw, hne⟩), busyFade_none (s := s.heard dt o m v) hf,
        frozenUp_pass (s := s.heard dt o m v) hz hc, rfl, rfl⟩) (fun o m v _ => ⟨rfl, ?_⟩)
    simp only [specLrxShadowTrial, change, lineLane_val, unitReq_p]
    rfl

end Sys2Proof.Machine

/-! ## Adaptation rounds, trials, fades and neighbour drops (R161, R171, R175 to R180) -/

namespace Sys2Proof.Machine

theorem line_becomesOnly {s x : State} {dt : Nat} {o : Obs} {l : Fin 8} (h : LaneMoves l { s.later dt with obs := o } x)
    (hc : x.cal = s.cal) : Becomes dt { s with lrx := upd s.lrx l fun _ => (finish x).lrx[l] } (finish x) :=
  turns_becomes (h.only hc)

theorem otherBank_ne (b : Fin 2) : otherBank b ≠ b := by revert b; decide

theorem setStandby_live (r : Lrx) (b : Bank) : (r.setStandby b).live = r.live := by
  unfold Lrx.setStandby Lrx.live
  have h : (otherBank r.active).val ≠ r.active.val := fun h => otherBank_ne _ (Fin.ext h)
  simp [h]

section
variable {s : State} {l : Fin 8}

/-! ### Sides that are dropped -/

theorem gateSide_raises {hi : Bool} {n : Fin 8} (hn : neighbour l hi = some n) (cause : Nat) (o : BitVec 16) :
    if cause = 4 then Raises s (s.gateSide l hi cause o) .lrx l 0x1C (pk [(b2n hi, 0), (o.toNat, 16)])
    else Raises s (s.gateSide l hi cause o) .lrx l 0x1A (pk [(b2n hi, 0), (n.val, 4), (cause, 8)]) := by
  have hm := ((voidRound_moves s l).put (f := fun r => { r with
    dropped := true
    sides := upd r.sides (sideIx hi) fun _ => { gated := true, cause := cause, offset := o, training := false } })).count
      (c := .lrx) (i := l.val) (j := 4) (n := 1)
  unfold State.gateSide
  simp only [hn]
  split <;> exact raises_raise _ hm.power hm.units hm.now

/-- R161: a lane that drops a side keeps its banks and ends its round. -/
theorem gatedSide_side (r : Lrx) (hi : Bool) (cause : Nat) (o : BitVec 16) :
    (r.gatedSide hi cause o).sides[sideIx hi] = { gated := true, cause := cause, offset := o, training := false } := by
  unfold Lrx.gatedSide
  exact upd_at ..

theorem dropSide_gates {hi : Bool} {cause : Nat} {o : BitVec 16} (hlive : s.lrxLive l = true)
    (hg : s.lrx[l].sides[sideIx hi].gated = false)
    (hc : if cause = 4 then o.toInt < -25000 ∨ 25000 < o.toInt else cause ≠ 0 ∧ s.sideCause l hi = cause) :
    s.dropSide l hi cause o = s.gateSide l hi cause o := by
  refine if_pos ?_
  simp only [hlive, hg, Bool.not_false, Bool.true_and]
  split at hc
  next h =>
    rw [if_pos h, Bool.not_eq_true', Bool.eq_false_iff]
    intro hw
    have := within_iff.1 hw
    omega
  next h => rw [if_neg h, hc.2, bne_iff_ne.2 hc.1, beq_self_eq_true, Bool.and_self]

theorem dropSide_lane {hi : Bool} {n : Fin 8} {cause : Nat} {o : BitVec 16} (hn : neighbour l hi = some n)
    (hlive : s.lrxLive l = true) (hg : s.lrx[l].sides[sideIx hi].gated = false)
    (hc : if cause = 4 then o.toInt < -25000 ∨ 25000 < o.toInt else cause ≠ 0 ∧ s.sideCause l hi = cause) :
    LaneMoves l s (s.dropSide l hi cause o) ∧ (s.dropSide l hi cause o).cal = s.cal ∧
    (s.dropSide l hi cause o).lrx[l] = s.lrx[l].gatedSide hi cause o ∧
    if cause = 4 then Raises s (s.dropSide l hi cause o) .lrx l 0x1C (pk [(b2n hi, 0), (o.toNat, 16)])
    else Raises s (s.dropSide l hi cause o) .lrx l 0x1A (pk [(b2n hi, 0), (n.val, 4), (cause, 8)]) := by
  rw [dropSide_gates hlive hg hc]
  refine ⟨gateSide_moves s l hi cause o, gateSide_cal s l hi cause o, ?_, gateSide_raises hn cause o⟩
  rw [gateSide_lrx s hn, upd_at]

/-! ### Rounds -/

theorem roundStart_lane (hcc : s.ccRuns = true) (hup : (s.operLrx l).1.carries = true) (hz : s.lrx[l].frozen = false)
    (hf : s.lrx[l].fade = none) (hr : s.lrx[l].round = none) (hh : s.lrx[l].hostTrial = none) :
    LaneMoves l s (s.roundStart l) ∧ (s.roundStart l).cal = s.cal ∧
    (∃ x, (s.roundStart l).lrx[l].round = some x ∧ x.trial = false ∧ x.afterDrop = s.lrx[l].dropped) ∧
    (s.roundStart l).lrx[l].active = s.lrx[l].active ∧ (s.roundStart l).lrx[l].live = s.lrx[l].live := by
  obtain ⟨b, v, y, hs⟩ : ∃ (b : Bank) (v : Option (Bool × Nat)) (y : Lrx → Vector Side 2), s.roundStart l = s.setLrx l fun r =>
      { r.setStandby b with
        round := some { trial := false, avail := (s.sideOk l false, s.sideOk l true), move := v, afterDrop := r.dropped }
        dropped := false, sides := y r } := by
    unfold State.roundStart
    simp only [hcc, hup, hz, hf, hr, hh, Bool.not_false, Option.isNone_none, Bool.and_self, if_true]
    exact ⟨_, _, _, rfl⟩
  rw [hs]
  refine ⟨(laneMoves_refl l s).put, rfl, ?_⟩
  simp only [setLrx_lrx, upd_at]
  exact ⟨⟨_, rfl, rfl, rfl⟩, rfl, setStandby_live _ _⟩

theorem trialStart_turns {x : Round} {b : Bank} (hcc : s.ccRuns = true) (hlive : s.lrxLive l = true)
    (hr : s.lrx[l].round = some x) (hx : x.trial = false)
    (hb : firstBad (bankChecks (bankWord (b.set 0 (bankWord s.lrx[l].standby 0)))) = none) :
    s.trialStart l b = s.setLrx l fun r =>
      { r with round := some { x with trial := true }
               banks := r.banks.set (otherBank r.active) (b.set 0 (bankWord s.lrx[l].standby 0)) } := by
  unfold State.trialStart
  simp only [hr, hcc, hlive, hx, hb, Bool.not_false, Option.isNone_none, Bool.and_self, if_true]
  rfl

/-- R176, R177: a side that has come back voids the round. -/
theorem roundEnds_voids {x : Round} {m : TrialMeasure} {hi : Bool} (hcc : s.ccRuns = true) (hlive : s.lrxLive l = true)
    (hr : s.lrx[l].round = some x) (hx : x.trial = true) (hg : s.lrx[l].sides[sideIx hi].gated = true)
    (hok : s.sideOk l hi = true) (hwas : (if hi then x.avail.2 else x.avail.1) = false) :
    s.roundEnds l m = s.voidRound l := by
  unfold State.roundEnds
  simp only [hr, hcc, hlive, hx, Bool.not_true, Bool.or_self, Bool.false_eq_true, if_false]
  refine if_pos ?_
  cases hi
  · simp only [Bool.false_eq_true, if_false] at hwas
    rw [hg, hok, hwas]; rfl
  · simp only [if_true] at hwas
    rw [hg, hok, hwas, Bool.or_eq_true]; exact .inr rfl

/-- R267: a round opens without regard to what the receivers are but for their fades. -/
theorem roundOpens_lanes (s : State) (v : Vector Lrx 8) (o : Obs) (k : Vector Stats 321)
    (h : ∀ j : Fin 8, v[j].fade = s.lrx[j].fade) :
    ({ s with lrx := v, obs := o, stats := k } : State).roundOpens.cal = s.roundOpens.cal := by
  have hf : ({ s with lrx := v, obs := o, stats := k } : State).fadeOn = s.fadeOn := by
    funext j
    simp only [State.fadeOn, h]
  unfold State.roundOpens
  simp only [hf]
  cases s.cal.round with
  | none => rfl
  | some t =>
    dsimp only
    refine (apply_ite State.cal _ _ _).trans (.trans ?_ (apply_ite State.cal _ _ _).symm)
    rfl

/-- R176: what a decision leaves of the lane: `commit` says whether the candidate is taken. -/
def Lrx.decided (r : Lrx) (m : TrialMeasure) (commit : Bool) : Lrx :=
  { r with
    round := none, rounds := r.rounds + 1, commits := if commit then r.commits + 1 else r.commits
    delta := trialDelta m, cand := trialCand m, committed := commit
    sides := if commit then r.sides else r.sides.map fun y => { y with training := false } }

/-- R176: a round without a change of profile ends by its trial, or by the drop that it follows. -/
theorem roundEnds_decides {x : Round} {m : TrialMeasure} (hcc : s.ccRuns = true) (hlive : s.lrxLive l = true)
    (hr : s.lrx[l].round = some x) (hx : x.trial = true) (hlo : s.sideOk l false = x.avail.1) (hhi : s.sideOk l true = x.avail.2)
    (hmove : x.move = none) : s.roundEnds l m =
      let commit := x.afterDrop || decide (2 ≤ trialDelta m)
      let t := (s.setLrx l (·.decided m commit)).raise .lrx l 0x19
        (pk [(twos 12 (trialDelta m), 0), (b2n commit, 12), (twos 12 (trialCand m), 16)])
      if commit then (t.count .lrx l 6).startFade l s.lrx[l].fadeLen (if x.afterDrop then 3 else 0) none else t := by
  have hback (g a : Bool) : (g && a && !a) = false := by cases g <;> cases a <;> rfl
  unfold State.roundEnds
  simp only [hr, hcc, hlive, hx, hlo, hhi, hmove, hback, Bool.not_true, Bool.or_self, Bool.false_eq_true, if_false,
    Option.isSome_none, Option.map_none]
  rfl

theorem startFade_queue (s : State) (l : Fin 8) (len cause : Nat) (prof : Option Nat) :
    s.obs.queue <+: (s.startFade l len cause prof).obs.queue := by
  unfold State.startFade
  refine List.IsPrefix.trans ?_ (raise_queue ..)
  rw [setLrx_obs, roundOpens_frame]

/-- R171, R176: the decision of such a round; a candidate that is taken fades in. -/
theorem roundEnds_lane {x : Round} {m : TrialMeasure} (hcc : s.ccRuns = true) (hlive : s.lrxLive l = true)
    (hr : s.lrx[l].round = some x) (hx : x.trial = true) (hlo : s.sideOk l false = x.avail.1) (hhi : s.sideOk l true = x.avail.2)
    (hmove : x.move = none) (commit : Bool) (hcommit : (x.afterDrop || decide (2 ≤ trialDelta m)) = commit) :
    LaneMoves l s (s.roundEnds l m) ∧ (s.roundEnds l m).cal = (if commit then s.roundOpens.cal else s.cal) ∧
    (s.roundEnds l m).lrx[l] = (if commit then
      { s.lrx[l].decided m true with
        fade := some { step := 0, stepAt := s.now, len := s.lrx[l].fadeLen, cause := if x.afterDrop then 3 else 0, profile := none }
        lastCause := if x.afterDrop then 3 else 0 }
      else s.lrx[l].decided m false) ∧
    Raises s (s.roundEnds l m) .lrx l 0x19 (pk [(twos 12 (trialDelta m), 0), (b2n commit, 12), (twos 12 (trialCand m), 16)]) := by
  rw [roundEnds_decides hcc hlive hr hx hlo hhi hmove, hcommit]
  dsimp only
  have hm := (laneMoves_refl l s).put (f := (·.decided m commit)) |>.raise (c := .lrx) (i := l.val) (code := 0x19)
    (arg := pk [(twos 12 (trialDelta m), 0), (b2n commit, 12), (twos 12 (trialCand m), 16)])
  have hr : Raises s ((s.setLrx l (·.decided m commit)).raise .lrx l 0x19
      (pk [(twos 12 (trialDelta m), 0), (b2n commit, 12), (twos 12 (trialCand m), 16)])) .lrx l 0x19
      (pk [(twos 12 (trialDelta m), 0), (b2n commit, 12), (twos 12 (trialCand m), 16)]) := raises_raise _
  cases commit with
  | false =>
    simp only [Bool.false_eq_true, if_false]
    refine ⟨hm, by rw [raise_cal, setLrx_cal], ?_, hr⟩
    simp only [raise_lrx, setLrx_lrx, upd_at]
  | true =>
    simp only [if_true]
    refine ⟨hm.count.trans (startFade_moves _ l _ _ _), ?_, ?_, ?_⟩
    · rw [startFade_cal]
      refine roundOpens_lanes s (upd s.lrx l (·.decided m true)) _ _ fun j => ?_
      by_cases hj : l = j
      · subst hj; rw [upd_at]; rfl
      · rw [upd_get_ne _ _ hj]
    · simp only [startFade_lrx, count_lrx, raise_lrx, setLrx_lrx, upd_upd, upd_at, count_now, raise_now, setLrx_now]
    · exact (hr.count (c' := .lrx) (i' := l) (j := 6) (m := 1)).mono (startFade_queue _ l _ _ _)

theorem hostTrialEnds_turns {m : TrialMeasure} {e : Nat} (hcc : s.ccRuns = true) (hlive : s.lrxLive l = true)
    (he : s.lrx[l].hostTrial = some e) (hnow : e ≤ s.now) :
    Turns { s with lrx := upd s.lrx l fun r =>
      { r with hostTrial := none, delta := trialDelta m, cand := trialCand m, committed := false } } (s.hostTrialEnds l m) ∧
    Raises s (s.hostTrialEnds l m) .lrx l 0x19 (pk [(twos 12 (trialDelta m), 0), (1, 13), (twos 12 (trialCand m), 16)]) := by
  have hs : s.hostTrialEnds l m = (s.setLrx l fun r =>
      { r with hostTrial := none, delta := trialDelta m, cand := trialCand m, committed := false }).raise .lrx l 0x19
        (pk [(twos 12 (trialDelta m), 0), (1, 13), (twos 12 (trialCand m), 16)]) := by
    unfold State.hostTrialEnds
    simp only [he, hnow, hcc, hlive, and_self, if_true]
  rw [hs]
  refine ⟨.raise ?_, raises_raise _⟩
  rfl

/-! ### Fades -/

theorem fadeStepped_steps {d : Fade} (hlive : s.lrxLive l = true) (hd : s.lrx[l].fade = some d) (hlt : d.step < 255) :
    s.fadeStepped l = s.setLrx l fun r => { r with fade := some { d with step := d.step + 1, stepAt := s.now } } := by
  have hlt' : d.step + 1 < 256 := by omega
  unfold State.fadeStepped
  simp only [hd, hlive, hlt', Bool.not_true, Bool.false_eq_true, if_true, if_false]

/-- R171: after step 256 the target is the active bank. -/
theorem fadeStepped_ends {d : Fade} (hlive : s.lrxLive l = true) (hd : s.lrx[l].fade = some d) (hge : 255 ≤ d.step) :
    LaneMoves l s (s.fadeStepped l) ∧
    (s.fadeStepped l).lrx[l] =
      ({ s.lrx[l] with fade := none, active := otherBank s.lrx[l].active, lastFade := s.now } : Lrx).inUseNow ∧
    Raises s (s.fadeStepped l) .lrx l 0x17 (pk [((otherBank s.lrx[l].active).val, 0), (d.cause, 1)]) := by
  have hge' : ¬ d.step + 1 < 256 := by omega
  have hm := (roundOpens_moves s).lane.put (l := l) (f := fun r =>
    { r with fade := none, active := otherBank r.active, lastFade := s.now }) |>.cal (fadeOver_moves _ l)
  have hs : s.fadeStepped l = (((s.roundOpens.setLrx l fun r =>
      { r with fade := none, active := otherBank r.active, lastFade := s.now }).fadeOver l).raise .lrx l 0x17
        (pk [((otherBank s.lrx[l].active).val, 0), (d.cause, 1)])).inForce l d.profile := by
    unfold State.fadeStepped
    simp only [hd, hlive, hge', Bool.not_true, Bool.false_eq_true, if_false]
  rw [hs]
  refine ⟨hm.raise.trans (inForce_moves _ l _), ?_, .mono (raises_raise _ hm.power hm.units hm.now) (inForce_queue _ l _)⟩
  simp only [inForce_lrx, raise_lrx, (fadeOver_moves _ l).lrx, setLrx_lrx, (roundOpens_moves s).lrx, upd_upd, upd_at]

end

/-- Settles O25. -/
theorem adaptationAndFadesRun : Obligations.AdaptationAndFadesRun := by
  intro s dt l hi o b m hlive put r mean delta cand
  refine ⟨fun n hn hg => ⟨fun cause h0 h4 hc => ?_, fun hfar => ?_⟩, fun hcc => ⟨fun hup hz hf hr hh => ?_, fun x hr =>
    ⟨fun hx hb => ?_, fun hx hlo hhi hmove => ?_, fun hx hg hok hwas => ?_⟩, fun e he hnow => ?_⟩, fun d hd => ⟨fun hlt => ?_,
    fun hge => ?_⟩⟩
  · refine event_gives (·.dropSide l hi cause o) fun ob _ => ?_
    have hfacts := dropSide_lane (s := { s.later dt with obs := ob }) (cause := cause) (o := o) hn hlive hg
      (by rw [if_neg h4]; exact ⟨h0, hc⟩)
    generalize State.dropSide _ l hi cause o = x at hfacts ⊢
    obtain ⟨hm, hcal, hlane, hr⟩ := hfacts
    rw [if_neg h4] at hr
    replace hlane : (finish x).lrx[l] = r.gatedSide hi cause o := hlane
    refine ⟨line_becomesOnly hm hcal, ?_⟩
    rw [hlane]
    refine ⟨gatedSide_side r hi cause o, ?_⟩
    rw [gatedSide_keeps]
    exact ⟨rfl, rfl, rfl, finish_raised hr hm.now⟩
  · refine event_gives (·.dropSide l hi 4 o) fun ob _ => ?_
    have hfacts := dropSide_lane (s := { s.later dt with obs := ob }) (cause := 4) (o := o) hn hlive hg hfar
    generalize State.dropSide _ l hi 4 o = x at hfacts ⊢
    obtain ⟨hm, hcal, hlane, hr⟩ := hfacts
    rw [if_pos rfl] at hr
    replace hlane : (finish x).lrx[l] = r.gatedSide hi 4 o := hlane
    refine ⟨line_becomesOnly hm hcal, ?_⟩
    rw [hlane]
    refine ⟨gatedSide_side r hi 4 o, ?_⟩
    rw [gatedSide_keeps]
    exact ⟨rfl, rfl, rfl, finish_raised hr hm.now⟩
  · refine event_gives (·.roundStart l) fun ob _ => ?_
    have hfacts := roundStart_lane (s := { s.later dt with obs := ob }) hcc hup hz hf hr hh
    generalize State.roundStart _ l = x at hfacts ⊢
    obtain ⟨hm, hcal, hround, hact, hlive⟩ := hfacts
    exact ⟨line_becomesOnly hm hcal, hround, hact, hlive⟩
  · refine event_gives (·.trialStart l b) fun ob _ => ?_
    rw [trialStart_turns (s := { s.later dt with obs := ob }) hcc hlive hr hx hb]
    refine turns_becomes ?_
    unfold State.setLrx
    refine congrArg (fun v => ({ s.later dt with obs := ob, lrx := v } : State)) (upd_congr rfl)
  · obtain ⟨commit, hcommit⟩ : ∃ commit, (x.afterDrop || decide (2 ≤ delta)) = commit := ⟨_, rfl⟩
    rw [hcommit]
    refine event_gives (·.roundEnds l m) fun ob _ => ?_
    have hfacts := roundEnds_lane (s := { s.later dt with obs := ob }) (m := m) hcc hlive hr hx hlo hhi hmove commit hcommit
    have hopens := roundOpens_lanes (s.later dt) s.lrx ob s.stats fun _ => rfl
    replace hopens : ({ s.later dt with obs := ob } : State).roundOpens.cal = (s.later dt).roundOpens.cal := hopens
    rw [hopens] at hfacts
    generalize State.roundEnds _ l m = y at hfacts ⊢
    obtain ⟨hm, hcal, hlane, hr⟩ := hfacts
    have hb := line_becomes hm
    replace hcal : (finish y).cal = if commit then (s.later dt).roundOpens.cal else s.cal := hcal
    rw [hcal] at hb
    replace hr := finish_raised (s := s) hr hm.now
    refine ⟨hb, ?_⟩
    have hnow : (finish y).now = s.now + dt := hm.now
    cases hcm : commit with
    | false =>
      rw [hcm] at hlane hr
      replace hlane : (finish y).lrx[l] = r.decided m false := hlane
      rw [hlane]
      exact ⟨rfl, rfl, rfl, rfl, rfl, rfl, nofun, fun _ => rfl, hr⟩
    | true =>
      rw [hcm] at hlane hr
      replace hlane : (finish y).lrx[l] = { r.decided m true with
          fade := some { step := 0, stepAt := s.now + dt, len := r.fadeLen, cause := if x.afterDrop then 3 else 0, profile := none }
          lastCause := if x.afterDrop then 3 else 0 } := hlane
      rw [hlane, hnow]
      exact ⟨rfl, rfl, rfl, rfl, rfl, rfl, fun _ => rfl, nofun, hr⟩
  · refine event_gives (·.roundEnds l m) fun ob _ => ?_
    rw [roundEnds_voids (s := { s.later dt with obs := ob }) hcc hlive hr hx hg hok hwas]
    refine turns_becomes ?_
    have hs := (voidRound_moves { s.later dt with obs := ob } l).only (voidRound_cal _ l)
    have hv : ({ s.later dt with obs := ob } : State).lrx[l].voidedRound = { r with
        round := none, voided := r.voided + 1, sides := r.sides.map fun y => { y with training := false } } :=
      if_pos (Option.isSome_iff_exists.2 ⟨x, hr⟩)
    have hl : (State.voidRound { s.later dt with obs := ob } l).lrx[l] = ({ s.later dt with obs := ob } : State).lrx[l].voidedRound := by
      simp only [voidRound_lrx, upd_at]
    rw [hl, hv] at hs
    exact hs
  · refine event_gives (·.hostTrialEnds l m) fun ob _ => ?_
    obtain ⟨ht, hr⟩ := hostTrialEnds_turns (s := { s.later dt with obs := ob }) (m := m) hcc hlive he hnow
    exact turns_raised ht hr
  · refine event_gives (·.fadeStepped l) fun ob _ => ?_
    rw [fadeStepped_steps (s := { s.later dt with obs := ob }) hlive hd hlt]
    exact turns_becomes rfl
  · refine event_gives (·.fadeStepped l) fun ob _ => ?_
    have hfacts := fadeStepped_ends (s := { s.later dt with obs := ob }) hlive hd hge
    generalize State.fadeStepped _ l = x at hfacts ⊢
    obtain ⟨hm, hlane, hr⟩ := hfacts
    replace hlane : (finish x).lrx[l] = ({ r with
      fade := none, active := otherBank r.active, lastFade := s.now + dt } : Lrx).inUseNow := hlane
    refine ⟨line_becomes hm, ?_⟩
    rw [hlane]
    exact ⟨rfl, rfl, rfl, hm.now.symm, finish_raised hr hm.now⟩

end Sys2Proof.Machine

/-! ## A line receiver acquires, measures and judges its margin (R153 to R156, R166 to R169, R177, R181 to R183) -/

namespace Sys2Proof.Machine

/-! ### Rounds that a side's return voids (R177) -/

theorem voidedRound_idem (r : Lrx) : r.voidedRound.voidedRound = r.voidedRound :=
  if_neg (by rw [voidedRound_round]; decide)

/-- R177: a gated side of lane `l` has become available from `s` to `t`. -/
def State.restores (s t : State) (l : Fin 8) : Bool :=
  [false, true].any fun hi => t.lrx[l].sides[sideIx hi].gated && !s.sideOk l hi && t.sideOk l hi

theorem foldl_void_lane (p : Fin 8 → Bool) (L : List (Fin 8)) (u : State) (k : Fin 8) :
    (L.foldl (fun u l => if p l then u.voidRound l else u) u).lrx[k] =
      if k ∈ L ∧ p k = true then u.lrx[k].voidedRound else u.lrx[k] := by
  induction L generalizing u with
  | nil => simp
  | cons l L ih =>
    rw [List.foldl_cons, ih]
    by_cases hp : p l = true
    · by_cases hk : l = k
      · subst hk
        have hl : (if p l then u.voidRound l else u).lrx[l] = u.lrx[l].voidedRound := by
          simp only [hp, if_true, voidRound_lrx, upd_at]
        rw [hl, voidedRound_idem, ite_self, if_pos ⟨List.mem_cons_self, hp⟩]
      · have hl : (if p l then u.voidRound l else u).lrx[k] = u.lrx[k] := by
          simp only [hp, if_true, voidRound_lrx, upd_get_ne _ _ hk]
        rw [hl]
        simp only [List.mem_cons, Ne.symm hk, false_or]
    · have hl : (if p l then u.voidRound l else u).lrx[k] = u.lrx[k] := by simp only [hp, Bool.false_eq_true, if_false]
      rw [hl]
      by_cases hk : k = l
      · subst hk; simp only [hp, Bool.false_eq_true, and_false, if_false]
      · simp only [List.mem_cons, hk, false_or]

theorem mem_fins {n : Nat} [NeZero n] (k : Fin n) : k ∈ fins n :=
  List.mem_map.2 ⟨k.val, List.mem_range.2 k.isLt, Fin.ofNat_val_eq_self k⟩

theorem voidRestored_lane (s t : State) (k : Fin 8) :
    (s.voidRestored t).lrx[k] = if s.restores t k then t.lrx[k].voidedRound else t.lrx[k] := by
  refine (foldl_void_lane (s.restores t) (fins 8) t k).trans ?_
  simp only [mem_fins k, true_and]

theorem foldl_void_frame (p : Fin 8 → Bool) (L : List (Fin 8)) (u : State) :
    ∃ v m, L.foldl (fun u l => if p l then u.voidRound l else u) u = { u with lrx := v, stats := m } := by
  induction L generalizing u with
  | nil => exact ⟨u.lrx, u.stats, rfl⟩
  | cons l L ih =>
    have h1 : ∃ v m, (if p l then u.voidRound l else u) = { u with lrx := v, stats := m } := by
      split
      · unfold State.voidRound
        split
        · exact ⟨_, _, rfl⟩
        · exact ⟨u.lrx, u.stats, rfl⟩
      · exact ⟨u.lrx, u.stats, rfl⟩
    obtain ⟨v, m, h1⟩ := h1
    rw [List.foldl_cons, h1]
    exact ih _

theorem voidRestored_frame (s t : State) : ∃ v m, s.voidRestored t = { t with lrx := v, stats := m } := foldl_void_frame _ _ t

theorem voidRestored_now (s t : State) : (s.voidRestored t).now = t.now := by
  obtain ⟨v, m, h⟩ := voidRestored_frame s t
  rw [h]

/-- What the availability of a side reads of the receivers. -/
def Lrx.seen (r : Lrx) : Bool × Word × Word := (r.timing, r.trFreq, r.policy)

theorem sideOk_congr (s : State) {v w : Vector Lrx 8} (h : ∀ k : Fin 8, v[k].seen = w[k].seen) (l : Fin 8) (hi : Bool) :
    ({ s with lrx := v } : State).sideOk l hi = ({ s with lrx := w } : State).sideOk l hi := by
  have ht (k : Fin 8) : v[k].timing = w[k].timing := congrArg Prod.fst (h k)
  have hf (k : Fin 8) : v[k].trFreq = w[k].trFreq := congrArg (·.2.1) (h k)
  have hp (k : Fin 8) : v[k].policy = w[k].policy := congrArg (·.2.2) (h k)
  unfold State.sideOk State.sideCause
  cases neighbour l hi with
  | none => rfl
  | some n =>
    simp only [State.xtOffset, Lrx.xtOn, ht, hf, hp]
    rfl

theorem voidedRound_seen (r : Lrx) : r.voidedRound.seen = r.seen := by
  rw [voidedRound_keeps]; rfl

/-- R177: lane `l` with its round voided where a side of it has come back. -/
def Lrx.voidedIf (r : Lrx) (b : Bool) : Lrx := if b then r.voidedRound else r

theorem voidedIf_keeps (r : Lrx) (b : Bool) : ∃ x n y, r.voidedIf b = { r with round := x, voided := n, sides := y } := by
  cases b
  · exact ⟨r.round, r.voided, r.sides, rfl⟩
  · exact ⟨_, _, _, voidedRound_keeps r⟩

theorem voidedIf_gated (r : Lrx) (b : Bool) (k : Fin 2) : (r.voidedIf b).sides[k].gated = r.sides[k].gated := by
  cases b
  · rfl
  · exact voidedRound_gated r k

theorem voidedIf_seen (r : Lrx) (b : Bool) : (r.voidedIf b).seen = r.seen := by
  cases b
  · rfl
  · exact voidedRound_seen r

theorem voidedIf_voidedIf (r : Lrx) (b : Bool) : (r.voidedIf b).voidedIf b = r.voidedIf b := by
  cases b
  · rfl
  · exact voidedRound_idem r

section
variable {s z : State} {dt : Nat} {o : Obs} {l : Fin 8} {r y : Lrx} {v : Vector Lfd 8}

/-- What voids a round is the same for a lane whose own round is voided. -/
theorem restores_congr (hz : Turns { s with now := s.now + dt, lrx := upd s.lrx l fun _ => r, lfd := v } z)
    (hg : ∀ k : Fin 2, y.sides[k].gated = r.sides[k].gated) (hs : y.seen = r.seen) (k : Fin 8) :
    s.restores { s with lrx := upd s.lrx l fun _ => y, lfd := v } k =
      ({ s.later dt with obs := o } : State).restores z k := by
  obtain ⟨o', m', k', n', rfl⟩ := turns_iff.1 hz
  have hsides (j : Fin 2) : (upd s.lrx l fun _ => y)[k].sides[j].gated = (upd s.lrx l fun _ => r)[k].sides[j].gated := by
    by_cases hk : l = k
    · subst hk; rw [upd_at, upd_at]; exact hg j
    · rw [upd_get_ne _ _ hk, upd_get_ne _ _ hk]
  have hok (hi : Bool) : ({ s with lrx := upd s.lrx l fun _ => y } : State).sideOk k hi =
      ({ s with lrx := upd s.lrx l fun _ => r } : State).sideOk k hi := by
    refine sideOk_congr s (fun j => ?_) k hi
    by_cases hj : l = j
    · subst hj; rw [upd_at, upd_at]; exact hs
    · rw [upd_get_ne _ _ hj, upd_get_ne _ _ hj]
  refine congrArg (List.any [false, true]) (funext fun hi => ?_)
  exact congrArg₂ and (congrArg₂ and (hsides _) rfl) (hok hi)

/-- R177: what a row makes of the state that voids the rounds of lanes with a side that comes back; `r` is what it makes of its
own lane, and `y` that lane before its round is voided, or after it. -/
theorem voidRestored_turns (hz : Turns { s with now := s.now + dt, lrx := upd s.lrx l fun _ => r, lfd := v } z)
    (hg : ∀ k : Fin 2, y.sides[k].gated = r.sides[k].gated) (hs : y.seen = r.seen)
    (hy : y.voidedIf (({ s.later dt with obs := o } : State).restores z l) =
      r.voidedIf (({ s.later dt with obs := o } : State).restores z l)) :
    Turns { s.voidRestored { s with lrx := upd s.lrx l fun _ => y, lfd := v } with
      now := (s.voidRestored { s with lrx := upd s.lrx l fun _ => y, lfd := v }).now + dt }
      (({ s.later dt with obs := o } : State).voidRestored z) := by
  have hz' : z.lrx = upd s.lrx l fun _ => r := by obtain ⟨o', m', k', n', rfl⟩ := turns_iff.1 hz; rfl
  have hlrx : (s.voidRestored { s with lrx := upd s.lrx l fun _ => y, lfd := v }).lrx =
      (({ s.later dt with obs := o } : State).voidRestored z).lrx := by
    refine Vector.ext fun k hk => ?_
    refine (voidRestored_lane s _ ⟨k, hk⟩).trans (.trans ?_ (voidRestored_lane _ z ⟨k, hk⟩).symm)
    rw [restores_congr (o := o) hz hg hs, hz']
    by_cases hk' : l = ⟨k, hk⟩
    · subst hk'
      simp only [upd_at]
      exact hy
    · simp only [upd_get_ne _ _ hk']
  obtain ⟨a, m, ha⟩ := voidRestored_frame s { s with lrx := upd s.lrx l fun _ => y, lfd := v }
  obtain ⟨b, n, hb⟩ := voidRestored_frame ({ s.later dt with obs := o } : State) z
  rw [ha, hb] at hlrx
  rw [ha, hb]
  obtain ⟨o', m', k', n', hzz⟩ := turns_iff.1 hz
  have hab : a = b := hlrx
  rw [hzz, hab]
  rfl

/-- R177: what such a row leaves. -/
theorem voidRestored_becomes (hz : Turns { s with now := s.now + dt, lrx := upd s.lrx l fun _ => r, lfd := v } z) :
    let x := ({ s.later dt with obs := o } : State).voidRestored z
    Becomes dt (s.voidRestored { s with lrx := upd s.lrx l fun _ => r, lfd := v }) (finish x) ∧
    Becomes dt (s.voidRestored { s with lrx := upd s.lrx l fun _ => (finish x).lrx[l], lfd := v }) (finish x) ∧
    ∃ b, (finish x).lrx[l] = r.voidedIf b := by
  intro x
  have hz' : z.lrx = upd s.lrx l fun _ => r := by obtain ⟨o', m', k', n', rfl⟩ := turns_iff.1 hz; rfl
  have hf : (finish x).lrx[l] = r.voidedIf (({ s.later dt with obs := o } : State).restores z l) := by
    refine (voidRestored_lane _ z l).trans ?_
    rw [hz', upd_at]
    rfl
  exact ⟨turns_becomes (voidRestored_turns hz (fun _ => rfl) rfl rfl), turns_becomes (voidRestored_turns hz
    (fun k => by rw [hf]; exact voidedIf_gated r _ k) (by rw [hf]; exact voidedIf_seen r _)
    (by rw [hf]; exact voidedIf_voidedIf r _)), _, hf⟩

end

end Sys2Proof.Machine

/-! ## The events of a line receiver (R153 to R156, R166 to R169, R181 to R183) -/

namespace Sys2Proof.Machine

section
variable {s : State} {l : Fin 8}

theorem agcMs_turns (hlive : s.lrxLive l = true) (a : AgcMeasure) :
    Turns { s with lrx := upd s.lrx l fun r => { r with afe := s.lrx[l].afe.step a } } (s.agcMs l a) := by
  unfold State.agcMs
  simp only [hlive, if_true]
  refine .raiseIf (.signal (.signal (.count (.count ?_))))
  rfl

theorem overdrive_turns (hlive : s.lrxLive l = true) (hd : s.lrx[l].afe.driven = false) (hrun : 100 ≤ s.lrx[l].afe.hotRun) :
    Turns { s with lrx := upd s.lrx l fun r => { r with afe := { r.afe with driven := true } } } (s.overdrive l) ∧
    Raises s (s.overdrive l) .lrx l 0x21 1 := by
  unfold State.overdrive
  simp only [hlive, hd, hrun, decide_true, Bool.not_false, Bool.and_self, if_true]
  exact ⟨.raise rfl, raises_raise _⟩

theorem farFreq_eq (f : Word) : farFreq f = decide (30000 < f.toInt.natAbs) := by
  unfold farFreq within
  rw [Bool.eq_iff_iff]
  simp only [Bool.not_eq_true', Bool.and_eq_false_iff, decide_eq_false_iff_not, decide_eq_true_eq]
  omega

theorem lmiMs_far (hlive : s.lrxLive l = true) (hup : s.isUp .lrx l = true) {m : LmiMeasure} (htime : s.lrx[l].timing = true)
    (hfar : 30000 < m.freq.toInt.natAbs) : s.lmiMs l m = s.lineUnlocked l true := by
  unfold State.lmiMs
  simp only [hlive, hup, htime, farFreq_eq, hfar, decide_true, Bool.and_self, Bool.not_true, Bool.false_eq_true, if_true, if_false]

theorem lmiMs_valid (hlive : s.lrxLive l = true) (hup : s.isUp .lrx l = true) {m : LmiMeasure}
    (hnear : m.freq.toInt.natAbs ≤ 30000)
    (hlock : s.lrx[l].timing = true ∨ (m.locked = true ∧ s.lrx[l].sd = true ∧ s.laneFg l = false)) :
    s.lmiMs l m = s.voidRestored (s.lmiValid l m) := by
  have hn : ¬ 30000 < m.freq.toInt.natAbs := by omega
  have hl : (s.lrx[l].timing || (m.locked && s.lrx[l].sd && !s.laneFg l)) = true := by
    obtain h | ⟨h1, h2, h3⟩ := hlock
    · rw [h, Bool.true_or]
    · rw [h1, h2, h3]; exact Bool.or_true _
  unfold State.lmiMs
  simp only [hlive, hup, farFreq_eq, hn, decide_false, Bool.and_false, Bool.and_self, Bool.not_true, Bool.not_false, Bool.and_true,
    Bool.false_eq_true, if_false, hl, if_true]

theorem lmiMs_invalid (hlive : s.lrxLive l = true) (hup : s.isUp .lrx l = true) {m : LmiMeasure} (htime : s.lrx[l].timing = false)
    (hno : m.locked = false ∨ s.lrx[l].sd = false ∨ s.laneFg l = true ∨ 30000 < m.freq.toInt.natAbs) :
    s.lmiMs l m = s.setLrx l fun r =>
      { r with confirm := 0
               lmi := { r.lmi with value := 0x800, window := r.lmi.window.add none, lowCount := 0, okCount := 0, below1 := 0,
                                   belowExit := 0, over3 := none } } := by
  have hl : (m.locked && s.lrx[l].sd && !s.laneFg l && !decide (30000 < m.freq.toInt.natAbs)) = false := by
    obtain h | h | h | h := hno <;> simp only [h, Bool.false_and, Bool.and_false, Bool.not_true, decide_true]
  unfold State.lmiMs
  simp only [hlive, hup, htime, farFreq_eq, Bool.and_self, Bool.not_true, Bool.false_and, Bool.false_or, hl, Bool.false_eq_true, if_false]

/-- R168: a valid millisecond, but for the rounds that it voids. -/
theorem lmiValid_turns (m : LmiMeasure) :
    Turns { s with
      lrx := upd s.lrx l fun _ =>
        { (s.lrx[l].lockTiming s.now).lmiStep m s.now (s.symChk (16 + l.val)) with
          confirm := if s.lineLock l then s.lrx[l].confirm + 1 else 0 }
      lfd := upd s.lfd l fun f => { f with errMs := m.errors, uncMs := m.uncorr } } (s.lmiValid l m) := by
  have hu : upd s.lrx l (fun r => { (r.lockTiming s.now).lmiStep m s.now (s.symChk (16 + l.val)) with
      confirm := if s.lineLock l then r.confirm + 1 else 0 }) = upd s.lrx l fun _ =>
        { (s.lrx[l].lockTiming s.now).lmiStep m s.now (s.symChk (16 + l.val)) with
          confirm := if s.lineLock l then s.lrx[l].confirm + 1 else 0 } := upd_congr rfl
  rw [← hu]
  obtain ⟨u, hv⟩ : ∃ u : State, u = { s.setLrx l fun r =>
        { (r.lockTiming s.now).lmiStep m s.now (s.symChk (16 + l.val)) with confirm := if s.lineLock l then r.confirm + 1 else 0 } with
      lfd := upd s.lfd l fun f => { f with errMs := m.errors, uncMs := m.uncorr } } := ⟨_, rfl⟩
  unfold State.lmiValid
  rw [← hv]
  have ht : Turns { s with
      lrx := upd s.lrx l (fun r => { (r.lockTiming s.now).lmiStep m s.now (s.symChk (16 + l.val)) with
        confirm := if s.lineLock l then r.confirm + 1 else 0 })
      lfd := upd s.lfd l fun f => { f with errMs := m.errors, uncMs := m.uncorr } } u := by rw [hv]; rfl
  dsimp only
  cases s.groupOf l
  · exact ht.count.signal
  · exact ht.count.signal.count.count.count.signal.signal.signal

theorem lmiLowers_turns (hup : s.isUp .lrx l = true) (hlow : s.lrx[l].lmi.lowMargin = false) (hc : 10 ≤ s.lrx[l].lmi.lowCount) :
    Turns { s with lrx := upd s.lrx l fun r => { r with lmi := { r.lmi with lowMargin := true } } } (s.lmiLowers l) ∧
    Raises s (s.lmiLowers l) .lrx l 0x14 (w32 s.lrx[l].lmi.value.toNat) := by
  unfold State.lmiLowers
  simp only [hup, hlow, hc, decide_true, Bool.not_false, Bool.and_self, if_true]
  exact ⟨.raise rfl, raises_raise _⟩

theorem lmiRestores_turns (hup : s.isUp .lrx l = true) (hlow : s.lrx[l].lmi.lowMargin = true) (hc : 10 ≤ s.lrx[l].lmi.okCount) :
    Turns { s with lrx := upd s.lrx l fun r => { r with lmi := { r.lmi with lowMargin := false } } } (s.lmiRestores l) ∧
    Raises s (s.lmiRestores l) .lrx l 0x15 (w32 s.lrx[l].lmi.value.toNat) := by
  unfold State.lmiRestores
  simp only [hup, hlow, hc, decide_true, Bool.and_self, if_true]
  exact ⟨.raise rfl, raises_raise _⟩

/-! ### Acquisitions -/

/-- R181: the CTLE code from the preset, where it gives one. -/
theorem ctleStart_getD (p d : Nat) : (ctleStart p).getD d = if p = 1 then 8 else if p = 2 then 18 else if p = 3 then 28 else d := by
  unfold ctleStart
  split <;> simp_all

theorem ctleStart_isSome {p : Nat} (h : 1 ≤ p ∧ p ≤ 3) : (ctleStart p).isSome = true := by
  obtain rfl | rfl | rfl : p = 1 ∨ p = 2 ∨ p = 3 := by omega
  all_goals rfl

/-- R181, R190: a lane that has acquired, with what `f` has made of it. -/
def Lrx.acquiredWith (r : Lrx) (m : LrxAcq) (now : Nat) (f : Lrx → Lrx) : Lrx :=
  { (f r).lockTiming now with
    acquired := true, warm := false, trFreq := m.freq
    lmi := { r.lmi with value := BitVec.ofInt 12 (clampLmi m.lmi), last := BitVec.ofInt 12 (clampLmi m.lmi) } }

theorem acquiredLrx_turns (m : LrxAcq) (warm : Bool) (f : Lrx → Lrx) :
    Turns { s with lrx := upd s.lrx l fun _ => s.lrx[l].acquiredWith m s.now f } (s.acquiredLrx l m warm f) ∧
    Raises s (s.acquiredLrx l m warm f) .lrx l 0x13
      (pk [(min ((s.now - s.lrx[l].acqStart) / 1000) (2 ^ 31 - 1), 0), (b2n warm, 31)]) := by
  have hu : upd s.lrx l (fun r => r.acquiredWith m s.now f) = upd s.lrx l fun _ => s.lrx[l].acquiredWith m s.now f := upd_congr rfl
  rw [← hu]
  exact ⟨.raise rfl, raises_raise _⟩

theorem voidRestored_raises {t z : State} {c : Cls} {i code : Nat} {arg : Word} (h : Raises s z c i code arg) :
    Raises s (t.voidRestored z) c i code arg := by
  obtain ⟨v, m, hv⟩ := voidRestored_frame t z
  rw [hv]
  exact h

section
variable (hlive : s.lrxLive l = true) (hup : s.isUp .lrx l = true) (hsd : s.lrx[l].sd = true) (hfg : s.laneFg l = false)
  (hacq : s.lrx[l].acquired = false)
include hlive hup hsd hfg hacq

theorem mayAcquire_of {q : LrxAcq} {n : Nat} (hlock : s.lineLock l = true) (hinv : q.inverted = s.lrx[l].inverted)
    (hnear : q.freq.toInt.natAbs ≤ 30000) (hn : n ≤ s.lrx[l].confirm) : s.mayAcquire l q n = true := by
  have hfar : ¬ 30000 < q.freq.toInt.natAbs := by omega
  unfold State.mayAcquire
  simp only [hlive, hup, hsd, hfg, hacq, hlock, hinv, farFreq_eq, hfar, hn, decide_true, decide_false, Bool.not_false, beq_self_eq_true,
    Bool.and_self]

/-- R181: what a cold acquisition makes of the lane. -/
def State.coldAcquired (s : State) (l : Fin 8) (q : LrxAcq) (r : Lrx) : Lrx :=
  { r with
    banks := .replicate 2 q.bank
    afe := if r.afe.held then r.afe else { r.afe with agc := min q.agc 104, ctle := (ctleStart s.lrx[l].preset).getD q.ctle }
    sides := vmapIx (fun k x =>
      let c := s.sideCause l (k == 1)
      { x with gated := c != 0, cause := if c = 0 then x.cause else c, training := false }) r.sides }

theorem lrxCold_of {q : LrxAcq} (hlock : s.lineLock l = true) (hfound : q.found = true) (hinv : q.inverted = s.lrx[l].inverted)
    (hnear : q.freq.toInt.natAbs ≤ 30000) (hw : s.lrx[l].warm = false) (hn : 100 ≤ s.lrx[l].confirm)
    (hb : firstBad (bankChecks (bankWord q.bank)) = none)
    (hctle : s.lrx[l].afe.held = true ∨ (1 ≤ s.lrx[l].preset ∧ s.lrx[l].preset ≤ 3) ∨ q.ctle ∈ [9, 18, 27, 36]) :
    s.lrxCold l q = s.voidRestored (s.acquiredLrx l q false (s.coldAcquired l q)) := by
  have hmay := mayAcquire_of hlive hup hsd hfg hacq hlock hinv hnear hn
  have hc : (s.lrx[l].afe.held || (ctleStart s.lrx[l].preset).isSome || ctleChoices.contains q.ctle) = true := by
    obtain h | h | h := hctle
    · rw [h]; rfl
    · rw [ctleStart_isSome h, Bool.or_true, Bool.true_or]
    · rw [show ctleChoices.contains q.ctle = true from List.contains_iff_mem.2 h, Bool.or_true]
  unfold State.lrxCold
  simp only [hmay, hfound, hw, hb, hc, Option.isNone_none, Bool.not_false, Bool.and_self, if_true]
  rfl

theorem lrxWarm_of {q : LrxAcq} (hlock : s.lineLock l = true) (hfound : q.found = true) (hinv : q.inverted = s.lrx[l].inverted)
    (hnear : q.freq.toInt.natAbs ≤ 30000) (hw : s.lrx[l].warm = true) (hn : 10 ≤ s.lrx[l].confirm)
    (hlmi : s.lrx[l].warn - 16 ≤ clampLmi q.lmi) : s.lrxWarm l q = s.voidRestored (s.acquiredLrx l q true id) := by
  have hmay := mayAcquire_of hlive hup hsd hfg hacq hlock hinv hnear hn
  have hlow : ¬ clampLmi q.lmi < s.lrx[l].warn - 16 := by omega
  unfold State.lrxWarm
  simp only [hlive, hup, hsd, hfg, hacq, hw, hmay, hfound, hlow, decide_false, Bool.not_true, Bool.not_false, Bool.and_self,
    Bool.and_false, Bool.or_self, Bool.false_eq_true, if_true, if_false]

theorem lrxWarm_cold {q : LrxAcq} (hw : s.lrx[l].warm = true)
    (hbad : q.found = false ∨ (10 ≤ s.lrx[l].confirm ∧ clampLmi q.lmi < s.lrx[l].warn - 16)) :
    s.lrxWarm l q = s.setLrx l fun r => { r.ctleSet with warm := false, confirm := 0 } := by
  have hb : (!q.found || (decide (10 ≤ s.lrx[l].confirm) && decide (clampLmi q.lmi < s.lrx[l].warn - 16))) = true := by
    obtain h | ⟨h1, h2⟩ := hbad
    · rw [h]; rfl
    · rw [decide_eq_true h1, decide_eq_true h2]; exact Bool.or_true _
  unfold State.lrxWarm
  simp only [hlive, hup, hsd, hfg, hacq, hw, hb, Bool.not_true, Bool.not_false, Bool.and_self, Bool.false_eq_true, if_true, if_false]

theorem lrxTry_of (hlock : s.lineLock l = false) (hpol : s.lrx[l].polSet = 2) :
    s.lrxTry l = s.voidRestored (s.setLrx l fun r => { r.lockTiming s.now with inverted := !r.inverted, searched := true }) := by
  unfold State.lrxTry
  simp only [hlive, hup, hsd, hfg, hacq, hlock, hpol, Bool.not_false, Bool.and_self, beq_self_eq_true, if_true]

end

end

end Sys2Proof.Machine

namespace Sys2Proof.Machine

/-- R168: what a valid millisecond makes of the lane. -/
theorem lmiStep_fields (r : Lrx) (m : LmiMeasure) (now : Nat) (snrOnly : Bool) :
    let x := (r.lockTiming now).lmiStep m now snrOnly
    x.lmi.value = BitVec.ofInt 12 (max (-128) (min 256
      (if 4000 ≤ m.errors ∧ snrOnly = false then berLmi m else m.snr + r.gain / 4096))) ∧
    x.timing = true ∧ x.lockAt = (if r.timing then r.lockAt else now) ∧ x.trFreq = m.freq ∧ x.banks = r.banks ∧
    x.active = r.active := by
  refine ⟨?_, rfl, rfl, rfl, rfl, rfl⟩
  simp only [Lrx.lmiStep, clampLmi, Bool.and_eq_true, decide_eq_true_eq, Bool.not_eq_true']
  rfl

theorem pk_zero_high (n k : Nat) : pk [(n, 0), (0, k)] = w32 n := by
  simp only [pk, w32, List.foldr_cons, List.foldr_nil, Nat.zero_mul, Nat.pow_zero, Nat.mul_one, Nat.add_zero]

/-- Settles O24. -/
theorem lineReceiverMeasuresAndAcquires : Obligations.LineReceiverMeasuresAndAcquires := by
  intro s dt l a m q hlive put r lmi
  refine ⟨?_, fun hd hrun => ?_, fun hup => ⟨fun htime hno => ?_, fun htime hsd hfar => ?_, fun hlock hnear => ?_,
    fun hsd hfg hacq => ⟨fun hlock hfound hinv hnear => ⟨fun hw hn hb hctle => ?_, fun hw hn hlmi => ?_⟩, fun hw hbad => ?_,
      fun hlock hpol => ?_⟩, fun hlow hc => ?_, fun hlow hc => ?_⟩⟩
  · refine event_gives (·.agcMs l a) fun o _ => ?_
    have ht := agcMs_turns (s := { s.later dt with obs := o }) hlive a
    generalize State.agcMs _ l a = x at ht ⊢
    have hx : (finish x).lrx[l] = { r with afe := r.afe.step a } := by
      obtain ⟨o', m', k', n', rfl⟩ := turns_iff.1 ht
      exact upd_at ..
    rw [hx]
    refine ⟨turns_becomes ht, rfl, rfl, rfl, ?_⟩
    simp only [Afe.step, decide_eq_true_eq]
  · refine event_gives (·.overdrive l) fun o _ => ?_
    obtain ⟨ht, hr⟩ := overdrive_turns (s := { s.later dt with obs := o }) hlive hd hrun
    exact turns_raised ht hr
  · refine event_gives (·.lmiMs l m) fun o _ => ?_
    rw [lmiMs_invalid (s := { s.later dt with obs := o }) hlive hup htime hno]
    exact turns_becomes rfl
  · refine event_gives (·.lmiMs l m) fun o _ => ?_
    rw [lmiMs_far (s := { s.later dt with obs := o }) hlive hup htime hfar]
    obtain ⟨hm, hl, hcal, hr⟩ := lineUnlocked_moves (s := { s.later dt with obs := o }) (range := true) hlive hup hsd htime
    generalize State.lineUnlocked _ l true = x at hm hl hcal hr ⊢
    obtain ⟨y, v, b, hk⟩ := relocked_keeps r (r.acquired || r.warm) (s.now + dt)
    replace hl : (finish x).lrx[l] = r.relocked (r.acquired || r.warm) (s.now + dt) := hl
    refine ⟨line_becomes hm, ?_⟩
    rw [hl, hk]
    exact ⟨rfl, rfl, rfl, finish_raised hr hm.now⟩
  · refine event_gives (·.lmiMs l m) fun o _ => ?_
    rw [lmiMs_valid (s := { s.later dt with obs := o }) hlive hup hnear hlock]
    have ht := lmiValid_turns (s := { s.later dt with obs := o }) (l := l) m
    obtain ⟨h1, h2, h3, h4, h5, h6⟩ := lmiStep_fields r m (s.now + dt) (s.symChk (16 + l.val))
    generalize State.lmiValid _ l m = z at ht ⊢
    obtain ⟨-, hb, b, hx⟩ := voidRestored_becomes (s := s) (dt := dt) (o := o) (l := l) ht
    generalize State.voidRestored _ z = x at hb hx ⊢
    obtain ⟨c, n, y, hk⟩ := voidedIf_keeps { (r.lockTiming (s.now + dt)).lmiStep m (s.now + dt) (s.symChk (16 + l.val)) with
      confirm := if s.lineLock l then r.confirm + 1 else 0 } b
    replace hx := hx.trans hk
    refine ⟨hb, ?_⟩
    rw [hx]
    exact ⟨h1, h2, h3, rfl, h4, h5, h6⟩
  · refine event_gives (·.lrxCold l q) fun o _ => ?_
    rw [lrxCold_of (s := { s.later dt with obs := o }) hlive hup hsd hfg hacq hlock hfound hinv hnear hw hn hb hctle]
    obtain ⟨ht, hr⟩ := acquiredLrx_turns (s := { s.later dt with obs := o }) (l := l) q false
      (State.coldAcquired { s.later dt with obs := o } l q)
    rw [show b2n false = 0 from rfl, pk_zero_high] at hr
    generalize State.acquiredLrx _ l q false _ = z at ht hr ⊢
    obtain ⟨-, hb, b, hx⟩ := voidRestored_becomes (s := s) (dt := dt) (o := o) (l := l) (v := s.lfd) ht
    replace hr := voidRestored_raises (t := { s.later dt with obs := o }) hr
    have hnow : (finish (State.voidRestored { s.later dt with obs := o } z)).now = s.now + dt :=
      (voidRestored_now _ z).trans ht.now
    generalize State.voidRestored _ z = x at hb hx hr hnow ⊢
    have hsides (hi : Bool) : (finish x).lrx[l].sides[sideIx hi].gated = (s.sideCause l hi != 0) := by
      rw [hx, voidedIf_gated]
      exact (congrArg Side.gated (vmapIx_get _ _ _)).trans (by cases hi <;> rfl)
    obtain ⟨c, n, y, hk⟩ := voidedIf_keeps (r.acquiredWith q (s.now + dt) (State.coldAcquired s l q)) b
    replace hx := hx.trans hk
    have hctle : (r.acquiredWith q (s.now + dt) (State.coldAcquired s l q)).afe.ctle = if r.afe.held then r.afe.ctle
        else if r.preset = 1 then 8 else if r.preset = 2 then 18 else if r.preset = 3 then 28 else q.ctle := by
      rw [← ctleStart_getD]
      simp only [Lrx.acquiredWith, State.coldAcquired, Lrx.lockTiming, apply_ite Afe.ctle]
      rfl
    refine ⟨hb, ?_⟩
    rw [hnow]
    simp only [hsides]
    rw [hx]
    exact ⟨rfl, rfl, rfl, hinv.symm, rfl, hctle, fun _ => trivial, finish_raised hr hnow⟩
  · refine event_gives (·.lrxWarm l q) fun o _ => ?_
    rw [lrxWarm_of (s := { s.later dt with obs := o }) hlive hup hsd hfg hacq hlock hfound hinv hnear hw hn hlmi]
    obtain ⟨ht, hr⟩ := acquiredLrx_turns (s := { s.later dt with obs := o }) (l := l) q true id
    generalize State.acquiredLrx _ l q true _ = z at ht hr ⊢
    obtain ⟨-, hb, b, hx⟩ := voidRestored_becomes (s := s) (dt := dt) (o := o) (l := l) (v := s.lfd) ht
    replace hr := voidRestored_raises (t := { s.later dt with obs := o }) hr
    have hnow : (finish (State.voidRestored { s.later dt with obs := o } z)).now = s.now + dt :=
      (voidRestored_now _ z).trans ht.now
    generalize State.voidRestored _ z = x at hb hx hr hnow ⊢
    obtain ⟨c, n, y, hk⟩ := voidedIf_keeps (r.acquiredWith q (s.now + dt) id) b
    replace hx := hx.trans hk
    refine ⟨hb, ?_⟩
    rw [hx, hnow]
    exact ⟨rfl, rfl, rfl, hinv.symm, rfl, finish_raised hr hnow⟩
  · refine event_gives (·.lrxWarm l q) fun o _ => ?_
    rw [lrxWarm_cold (s := { s.later dt with obs := o }) hlive hup hsd hfg hacq hw hbad]
    refine turns_becomes ?_
    simp only [← ctleStart_getD]
    refine congrArg (fun v => ({ s.later dt with obs := o, lrx := v } : State)) (upd_congr rfl)
  · refine event_gives (·.lrxTry l) fun o _ => ?_
    rw [lrxTry_of (s := { s.later dt with obs := o }) hlive hup hsd hfg hacq hlock hpol]
    refine (voidRestored_becomes (s := s) (dt := dt) (o := o) (l := l) (v := s.lfd) ?_).1
    refine congrArg (fun v => ({ s.later dt with obs := o, lrx := v } : State)) (upd_congr rfl)
  · refine event_gives (·.lmiLowers l) fun o _ => ?_
    obtain ⟨ht, hr⟩ := lmiLowers_turns (s := { s.later dt with obs := o }) hup hlow hc
    exact turns_raised ht hr
  · refine event_gives (·.lmiRestores l) fun o _ => ?_
    obtain ⟨ht, hr⟩ := lmiRestores_turns (s := { s.later dt with obs := o }) hup hlow hc
    exact turns_raised ht hr

end Sys2Proof.Machine

/-! ## The commands of classes GRP and FEC, and LATENCY_GET (R120, R212 to R217) -/

namespace Sys2Proof.Machine

theorem instances_grp (i : Fin 8) : i.val ∈ instances .grp := List.mem_range.2 i.isLt

theorem instances_fec (i : Fin 8) : i.val ∈ instances .fec := List.mem_range.2 i.isLt

/-- R91: a step is refused where an earlier one is missing or a later one has begun. -/
theorem stepRefused_none {s : State} {k : Nat} :
    s.stepRefused k = none ↔ (s.power.dev = .config → s.missingStep k = none ∧ s.setup.step ≤ k) := by
  unfold State.stepRefused
  by_cases hd : s.power.dev = .config
  · rw [if_neg (not_not.2 hd)]
    cases s.missingStep k with
    | some j => simp [hd]
    | none => simp [hd]
  · simp [hd]

theorem stepRefused_heard {s : State} {k : Nat} (h : s.stepRefused k = none) (dt : Nat) (o : Obs) (m : Vector Stats 321)
    (v : List Waiting) : (s.heard dt o m v).stepRefused k = none := stepRefused_none.2 ((stepRefused_none (s := s)).1 h)

theorem groupsHeld_none {s : State} {gs : List (Fin 8)} (h : ∀ g ∈ gs, s.isUp .grp g = false) : s.groupsHeld gs = none := by
  refine Option.map_eq_none_iff.2 (List.find?_eq_none.2 fun n hn => ?_)
  obtain ⟨g, hg, rfl⟩ : ∃ g ∈ gs, g.val = n := by simpa [eq_comm] using hn
  simp [h g hg]

/-! ### GRP_TILING_SET and GRP_XBAR_SET -/

theorem any_val_eq (hits : List (Fin 8)) (h : Fin 8) : (hits.any fun g => g.val == h.val) = decide (h ∈ hits) := by
  rw [Bool.eq_iff_iff]
  simp only [List.any_eq_true, beq_iff_eq, decide_eq_true_eq]
  exact ⟨fun ⟨g, hg, he⟩ => Fin.ext he ▸ hg, fun hg => ⟨h, hg, rfl⟩⟩

section
variable {s : State} {til : Nat × Nat} {h : Fin 8}

theorem setTiling_hit (hh : h ∈ s.tilingHits til) :
    (s.setTiling til).grp[h].mode = if sizeIn s.tiling h = sizeIn til h then s.grp[h].mode else 0 := by
  have hg : (s.setTiling til).grp[h] = _ := vmapIx_get _ s.grp h
  simp only [hg, any_val_eq, decide_eq_true hh, if_true]

theorem setTiling_other (hh : h ∉ s.tilingHits til) :
    (s.setTiling til).grp[h] = s.grp[h] ∧ (s.setTiling til).seals[h] = s.seals[h] := by
  have hg : (s.setTiling til).grp[h] = _ := vmapIx_get _ s.grp h
  have hs : (s.setTiling til).seals[h] = _ := vmapIx_get _ s.seals h
  simp only [hg, hs, any_val_eq, decide_eq_false hh, Bool.false_eq_true, if_false, and_self]

end

theorem setXbar_htx (s : State) (m : Vector Word 2) (n : Fin 16) :
    (s.setXbar m).htx[n] = { s.htx[n] with recovered := s.htx[n].recovered && xbarPos s.xbar n == xbarPos m n } :=
  vmapIx_get _ s.htx n

/-! ### GRP_MODE_SET -/

section
variable {s : State} {g : Fin 8} {m : Nat}

theorem setMode_same (h : s.grp[g].mode = m) : s.setMode g m = s := if_pos h

theorem setMode_plain (h : s.grp[g].mode ≠ m) (hm : m ≠ 3) (h3 : s.grp[g].mode ≠ 3) :
    s.setMode g m = s.setGrp g fun p => { p with mode := m, conflict := false, peerCfg := false } := by
  unfold State.setMode
  rw [if_neg h]
  dsimp only
  rw [if_neg hm, if_neg h3]

theorem setMode_unseals (h3 : s.grp[g].mode = 3) (hm : m ≠ 3) :
    s.setMode g m = (s.setGrp g fun p => { p with mode := m, conflict := false, peerCfg := false }).setSeal g fun c =>
      { c with closed := .none, retryAt := none, reFailed := false } := by
  unfold State.setMode
  rw [if_neg (by rw [h3]; exact Ne.symm hm)]
  dsimp only
  rw [if_neg hm, if_pos h3]

/-- R214: the cases of a change to a mode other than SEALED. -/
theorem setMode_cases :
    s.grp[g].mode = m ∨ (s.grp[g].mode ≠ m ∧ s.grp[g].mode ≠ 3) ∨ s.grp[g].mode = 3 := by
  by_cases h : s.grp[g].mode = m
  · exact .inl h
  · by_cases h3 : s.grp[g].mode = 3
    · exact .inr (.inr h3)
    · exact .inr (.inl ⟨h, h3⟩)

theorem setMode_heard (hm : m ≠ 3) {dt : Nat} {o : Obs} {k : Vector Stats 321} {v : List Waiting} :
    (s.heard dt o k v).setMode g m = (s.setMode g m).heard dt o k v := by
  obtain h | ⟨h, h3⟩ | h3 := setMode_cases (s := s) (g := g) (m := m)
  · rw [setMode_same h]
    exact setMode_same (s := s.heard dt o k v) h
  · rw [setMode_plain h hm h3]
    exact setMode_plain (s := s.heard dt o k v) h hm h3
  · rw [setMode_unseals h3 hm]
    exact setMode_unseals (s := s.heard dt o k v) h3 hm

theorem setMode_port (hm : m ≠ 3) : (s.setMode g m).port = s.port := by
  obtain h | ⟨h, h3⟩ | h3 := setMode_cases (s := s) (g := g) (m := m)
  · rw [setMode_same h]
  · rw [setMode_plain h hm h3]; rfl
  · rw [setMode_unseals h3 hm]; rfl

theorem setMode_mode (hm : m ≠ 3) : (s.setMode g m).grp[g].mode = m := by
  obtain h | ⟨h, h3⟩ | h3 := setMode_cases (s := s) (g := g) (m := m)
  · simp only [setMode_same h, h]
  · simp only [setMode_plain h hm h3, setGrp_grp, upd_at]
  · simp only [setMode_unseals h3 hm, setSeal_grp, setGrp_grp, upd_at]

theorem setMode_closed (h3 : s.grp[g].mode = 3) (hm : m ≠ 3) : (s.setMode g m).seals[g].closed = .none := by
  simp only [setMode_unseals h3 hm, State.setSeal, upd_at]

end

theorem effects_heard {s e : State} {dt : Nat} {o : Obs} {m : Vector Stats 321} {v : List Waiting} (h : e.port = s.port) :
    Effects s { e with now := e.now + dt } (e.heard dt o m v) := by
  unfold Effects State.heard
  rw [h]

theorem modeSet_unlocked {b : State} {i : Fin 8} {w : Word} {g : Byte} (h : fld w 0 2 ≠ 3) :
    specGrpModeSet.locked b (unitReq .grp i 0x12 g [w]) = false := by
  simp only [specGrpModeSet, unitReq_p, beq_eq_false_iff_ne.2 h, Bool.false_and]

/-- R212: the samples of a direction, from the time at which its group began to carry traffic. -/
theorem latencyOf_eq (s : State) (g : Fin 8) (l : List (Nat × Nat)) : s.latencyOf g l =
    let since := match s.obs.carry[g] with
      | none => []
      | some t => (l.filter fun x => decide (t ≤ x.1)).map (·.2)
    if 256 ≤ since.length then since else [] := by
  unfold State.latencyOf
  cases s.obs.carry[g] <;> rfl

theorem lineLane_fld (w : Word) (lo : Nat) : (lineLane (fld w lo 3)).val = fld w lo 3 := Nat.mod_eq_of_lt (fld_lt w lo 3)

theorem tilingChecks_pass {s : State} {w : Word} {g : Byte} (h1 : 1 ≤ fld w 0 3) (h2 : fld w 0 3 ≤ 5) (h3 : 1 ≤ fld w 4 3)
    (h4 : fld w 4 3 ≤ 5) (hb : bit w 3 = false) (hw : clear w 7 = true) :
    specGrpTilingSet.bad s (unitReq .grp 0 0x10 g [w]) = none := by
  refine firstBad_one ?_
  simp only [unitReq_p, tilingParam, h1, h2, h3, h4, hb, hw, decide_true, Bool.and_self, Bool.not_false]

/-- Settles O26. -/
theorem groupCommandsTakeEffect : Obligations.GroupCommandsTakeEffect := by
  intro s dt i g f w w1 ht hrun p til map
  have hq := ht.2.2.1
  have h0 := instances_grp 0
  have hi := instances_grp i
  have hfec := instances_fec i
  have hdev : 0 ∈ instances .dev := by decide
  refine ⟨fun h1 h2 h3 h4 hb hw hstep hhits => ?_, fun hc hstep hup => ?_, fun ha hw hne h3 hstep hsize hadm hseal htst => ?_, ?_,
    fun hw hsize hu => ?_, fun hu => ⟨?_, ?_, fun ha hw hm => ?_⟩, fun h1 h2 h3 => ?_⟩
  · refine unit_gives_to specGrpTilingSet (i := 0) (g := g) (f := f) (ps := [w]) (k := .basic) ht hrun h0 trivial (fun _ _ _ => meets_of_nil)
      (fun o m v _ => ⟨rfl, tilingChecks_pass h1 h2 h3 h4 hb hw, rfl, ?_, rfl, rfl⟩) (fun o m v _ => ?_)
    · refine (congrArg₂ Option.or (congrArg₂ Option.or (stepRefused_heard hstep dt o m v)
        (groupsHeld_none (s := s.heard dt o m v) fun j hj => (hhits j hj).1))
        (Option.map_eq_none_iff.2 (List.find?_eq_none.2 fun j hj => ?_))).trans rfl
      have hseal := (hhits j hj).2
      simp only [Bool.and_eq_true, beq_iff_eq, bne_iff_ne, not_and, Bool.not_eq_true]
      exact fun hmode => hseal hmode.1 hmode.2
    · refine ⟨((s.heard dt o m v).setTiling til).beginStep 5, [], rfl, rfl, ?_⟩
      obtain ⟨hleaves, hreplies⟩ := answered_effects (e := { (s.setTiling til).beginStep 5 with now := s.now + dt }) (c := .grp) (i := 0) (g := g)
        (f := f) (ps := [w]) (pay := []) (x := ((s.heard dt o m v).setTiling til).beginStep 5) hq rfl
      exact ⟨hleaves, rfl, fun j hj => setTiling_hit (s := s) hj, fun j hj => setTiling_other (s := s) hj, hreplies⟩
  · refine unit_gives_to specGrpXbarSet (i := 0) (g := g) (f := f) (ps := [w, w1]) (k := .basic) ht hrun h0 trivial (fun _ _ _ => meets_of_nil)
      (fun o m v _ => ⟨rfl, ?_, rfl, ?_, rfl, rfl⟩) (fun o m v _ => ?_)
    · exact (congrArg (Option.map (· / 8)) hc).trans rfl
    · refine (congrArg₂ Option.or (stepRefused_heard hstep dt o m v) (groupsHeld_none (s := s.heard dt o m v) hup)).trans rfl
    · refine ⟨((s.heard dt o m v).setXbar map).beginStep 5, [], rfl, rfl, ?_⟩
      obtain ⟨hleaves, hreplies⟩ := answered_effects (e := { (s.setXbar map).beginStep 5 with now := s.now + dt }) (c := .grp) (i := 0) (g := g)
        (f := f) (ps := [w, w1]) (pay := []) (x := ((s.heard dt o m v).setXbar map).beginStep 5) hq rfl
      exact ⟨hleaves, fun n => setXbar_htx s map n, hreplies⟩
  · have hm3 : fld w 0 2 ≠ 3 := fun h => by have := h3 h; rw [ha.1] at this; cases this
    refine unit_gives_to specGrpModeSet (g := g) (f := f) (ps := [w]) ht hrun hi ha (fun _ _ _ => meets_of_nil)
      (fun o m v _ => ⟨rfl, firstBad_one (by simpa using ⟨hw, hne⟩), rfl, ?_, rfl, rfl⟩) (fun o m v _ => ?_)
      (hk := trivial) (hl := fun b => modeSet_unlocked hm3)
    · refine (congrArg₂ Option.or (congrArg₂ Option.or (congrArg₂ Option.or (stepRefused_heard hstep dt o m v) (if_pos ?_)) (if_pos ?_))
        (if_pos hm3)).trans rfl
      · simp only [lineLane_val, Bool.and_eq_true, bne_iff_ne, beq_iff_eq]
        exact ⟨hsize, hadm⟩
      · simp only [lineLane_val, Bool.or_eq_true, bne_iff_ne, beq_iff_eq]
        by_cases hp3 : p.mode = 3
        · exact .inr (hseal hp3 hm3)
        · exact .inl (.inl hp3)
    · refine ⟨(((s.setMode i (fld w 0 2)).heard dt o m v).beginStep 6), [], by
        simp only [specGrpModeSet, change, lineLane_val, unitReq_p, setMode_heard hm3], rfl, ?_⟩
      obtain ⟨hleaves, hreplies⟩ := answered_effects (c := .grp) (i := i) (g := g) (f := f) (ps := [w]) (pay := []) hq
        (effects_heard (dt := dt) (o := o) (m := m) (v := v) (e := (s.setMode i (fld w 0 2)).beginStep 6) (setMode_port hm3))
      exact ⟨hleaves, setMode_mode hm3, fun _ _ h3 => setMode_closed h3 hm3, hreplies⟩
  · exact unit_does specGrpConfigGet (i := 0) (k := .basic) ht hrun h0 trivial (fun _ _ _ => meets_of_nil)
      (fun _ _ _ _ => ⟨rfl, rfl, rfl, rfl, rfl, rfl⟩) (fun _ _ _ _ => ⟨rfl, rfl⟩)
  · refine unit_does specLatencyGet (i := 0) (k := .basic) ht hrun hdev trivial (fun _ _ _ => meets_of_workable hu)
      (fun _ _ _ _ => ⟨rfl, firstBad_one (by simpa using ⟨hw, hsize⟩), rfl, rfl, rfl, rfl⟩) (fun _ _ _ ho => ⟨?_, rfl⟩)
    simp only [specLatencyGet, answer, unitReq_p, latencyOf_eq, ho.carry, lineLane_fld]
    rfl
  · exact unit_does specGrpFrameStatusGet (k := .basic) ht hrun hi trivial (fun _ _ _ => meets_of_workable hu)
      (fun _ _ _ _ => ⟨rfl, rfl, rfl, rfl, rfl, rfl⟩)
      (fun _ _ _ _ => ⟨by simp only [specGrpFrameStatusGet, answer, lineLane_val]; rfl, rfl⟩)
  · refine unit_does specFecLaneGet (k := .basic) ht hrun hfec trivial (fun _ _ _ => meets_of_workable hu)
      (fun _ _ _ _ => ⟨rfl, rfl, rfl, rfl, rfl, rfl⟩) (fun _ _ _ ho => ⟨?_, rfl⟩)
    simp only [specFecLaneGet, answer, lineLane_val, ho.missed]
    rfl
  · refine unit_does specFecHistGet ht hrun hfec ha (fun _ _ _ => meets_of_workable hu)
      (fun o m v _ => ⟨rfl, firstBad_one hw, rfl, ?_, rfl, rfl⟩) (fun o m v _ => ⟨?_, ?_⟩)
    · simp only [specFecHistGet, lineLane_val, unitReq_p]
      refine if_pos ?_
      cases hb : bit w 0 with
      | false => rfl
      | true => exact (congrArg not (beq_eq_false_iff_ne.2 (hm hb))).trans rfl
    · simp only [specFecHistGet, lineLane_val, unitReq_p]
      rfl
    · simp only [specFecHistGet, lineLane_val, unitReq_p]
      rcases Bool.eq_false_or_eq_true (bit w 1) with h1 | h1
      · rcases Bool.eq_false_or_eq_true (bit w 0) with h0 | h0
        · simp only [h1, h0, if_true, Bool.true_eq_false, if_false]; rfl
        · simp only [h1, h0, if_true, Bool.true_eq_false, Bool.false_eq_true, if_false]; rfl
      · simp only [h1, if_true, Bool.false_eq_true, if_false]; rfl
  · exact unit_does specFecMarginSet (k := .basic) ht hrun hfec trivial (fun _ _ _ => meets_of_nil)
      (fun _ _ _ _ => ⟨rfl, firstBad_one (by simpa using ⟨⟨h1, h2⟩, h3⟩), rfl, rfl, rfl, rfl⟩)
      (fun _ _ _ _ => ⟨rfl, by simp only [specFecMarginSet, change, lineLane_val]; rfl⟩)

end Sys2Proof.Machine

/-! ## Host clock lock, frequency range and the RS margin alarm (R20 to R22, R216) -/

namespace Sys2Proof.Machine

section
variable {s : State} {g : Fin 8} {w : Word}

theorem clockLocks_turns (hsize : s.gsize g ≠ 0) (hdesk : s.grp[g].deskewed = true) (hlock : s.grp[g].locked = false)
    (hout : s.grp[g].outRange = false) (hw : w.toInt.natAbs ≤ 250000) :
    Turns { s with grp := upd s.grp g fun p => { p with locked := true, hasFreq := true, freq := w }
                   htx := (s.clockLocks g w).htx } (s.clockLocks g w) ∧
    (∀ n : Fin 16, (s.clockLocks g w).htx[n] = { s.htx[n] with recovered := s.htx[n].recovered || decide (n ∈ s.ghosts g) }) ∧
    Raises s (s.clockLocks g w) .grp g 0x18 (w32 (min ((s.now - s.grp[g].lockAt) / 1000) 0xFFFFFFFF)) := by
  have hw' : ¬ 250000 < w.toInt.natAbs := by omega
  have hs : s.clockLocks g w = State.raise { s with
      grp := upd s.grp g fun p => { p with locked := true, hasFreq := true, freq := w }
      htx := vmapIx (fun n h => { h with recovered := h.recovered || (s.ghosts g).any fun x => x.val == n }) s.htx }
        .grp g 0x18 (w32 (sat32 ((s.now - s.grp[g].lockAt) / 1000))) := by
    refine if_neg ?_
    simp only [hsize, hdesk, hlock, hout, hw', decide_false, Bool.not_true, Bool.or_self, Bool.false_eq_true, not_false_eq_true]
  rw [hs]
  refine ⟨.raise rfl, fun n => ?_, raises_raise _⟩
  have hg : ((s.ghosts g).any fun x => x.val == n.val) = decide (n ∈ s.ghosts g) := by
    rw [Bool.eq_iff_iff]
    simp only [List.any_eq_true, beq_iff_eq, decide_eq_true_eq]
    exact ⟨fun ⟨x, hx, he⟩ => Fin.ext he ▸ hx, fun hx => ⟨n, hx, rfl⟩⟩
  refine (vmapIx_get _ s.htx n).trans ?_
  dsimp only
  rw [hg]

theorem freqLeaves_turns (hsize : s.gsize g ≠ 0) (hout : s.grp[g].outRange = false) (hw : 25000 < w.toInt ∨ w.toInt < -25000) :
    Turns { s with grp := upd s.grp g fun p => { p with
      outRange := true, hasFreq := true, freq := BitVec.ofInt 32 (if w.toInt < 0 then -250000 else 250000) } } (s.freqLeaves g w) ∧
    Raises s (s.freqLeaves g w) .grp g 0x15 w := by
  have hs : s.freqLeaves g w = (s.setGrp g fun p => { p with
      outRange := true, freq := BitVec.ofInt 32 (if w.toInt < 0 then -250000 else 250000), hasFreq := true }).raise .grp g 0x15 w := by
    refine if_neg ?_
    have ho : outOfTracking w = true := by
      simp only [outOfTracking, Bool.or_eq_true, decide_eq_true_eq]
      exact hw.symm
    simp only [hsize, hout, ho, decide_false, Bool.not_true, Bool.or_self, Bool.false_eq_true, not_false_eq_true]
  rw [hs]
  exact ⟨.raise rfl, raises_raise _⟩

theorem freqReturns_eq (hout : s.grp[g].outRange = true) (hlo : -25000 ≤ w.toInt) (hhi : w.toInt ≤ 25000) :
    s.freqReturns g w = s.setGrp g fun p => { p with outRange := false, freq := BitVec.ofInt 32 (10 * w.toInt) } := by
  refine if_neg ?_
  have h1 : ¬ w.toInt < -25000 := by omega
  have h2 : ¬ 25000 < w.toInt := by omega
  simp only [outOfTracking, hout, h1, h2, decide_false, Bool.not_true, Bool.or_self, Bool.false_eq_true, not_false_eq_true]

theorem marginFalls_turns (ha : s.fec[g].alarm = false) (hlow : 10 ≤ s.fec[g].low) :
    Turns { s with fec := upd s.fec g fun x => { x with alarm := true, since := s.now } } (s.marginFalls g) ∧
    Raises s (s.marginFalls g) .fec g 0x11 (w32 (min s.fec[g].lastN 0xFFFFFFFF)) := by
  have hs : s.marginFalls g = (s.setFec g fun x => { x with alarm := true, since := s.now }).raise .fec g 0x11
      (w32 (sat32 s.fec[g].lastN)) := by
    refine if_neg ?_
    have h : ¬ s.fec[g].low < 10 := by omega
    simp only [ha, h, decide_false, Bool.or_self, Bool.false_eq_true, not_false_eq_true]
  rw [hs]
  exact ⟨.raise rfl, raises_raise _⟩

theorem marginReturns_turns (ha : s.fec[g].alarm = true) (hok : 10 ≤ s.fec[g].ok) :
    Turns { s with fec := upd s.fec g fun x => { x with alarm := false } } (s.marginReturns g) ∧
    Raises s (s.marginReturns g) .fec g 0x12 (w32 ((s.now - s.fec[g].since) / 1000000000)) := by
  have hs : s.marginReturns g = (s.setFec g fun x => { x with alarm := false }).raise .fec g 0x12
      (w32 ((s.now - s.fec[g].since) / 1000000000)) := by
    refine if_neg ?_
    have h : ¬ s.fec[g].ok < 10 := by omega
    simp only [ha, h, decide_false, Bool.not_true, Bool.or_self, Bool.false_eq_true, not_false_eq_true]
  rw [hs]
  exact ⟨.raise rfl, raises_raise _⟩

end

/-- Settles O29. -/
theorem clocksAndMarginsAreWatched : Obligations.ClocksAndMarginsAreWatched := by
  intro s dt g w p x
  refine ⟨fun hsize hdesk hlock hout hw => ?_, fun hsize hout hw => ?_, fun hout hlo hhi => ?_, ?_, fun ha hlow => ?_,
    fun ha hok => ?_⟩
  · refine event_gives (·.clockLocks g w) fun o _ => ?_
    obtain ⟨ht, hx, hr⟩ := clockLocks_turns (s := { s.later dt with obs := o }) hsize hdesk hlock hout hw
    generalize State.clockLocks _ g w = y at ht hx hr ⊢
    have hnow : (finish y).now = s.now + dt := ht.now
    refine ⟨turns_becomes ht, hx, ?_⟩
    rw [hnow]
    exact finish_raised hr ht.now
  · refine event_gives (·.freqLeaves g w) fun o _ => ?_
    obtain ⟨ht, hr⟩ := freqLeaves_turns (s := { s.later dt with obs := o }) hsize hout hw
    exact turns_raised ht hr
  · refine event_gives (·.freqReturns g w) fun o _ => ?_
    rw [freqReturns_eq (s := { s.later dt with obs := o }) hout hlo hhi]
    exact turns_becomes rfl
  · refine event_gives (·.marginWindow g) fun o _ => turns_becomes ?_
    unfold State.marginWindow
    simp only [decide_eq_true_eq]
    rfl
  · refine event_gives (·.marginFalls g) fun o _ => ?_
    obtain ⟨ht, hr⟩ := marginFalls_turns (s := { s.later dt with obs := o }) ha hlow
    exact turns_raised ht hr
  · refine event_gives (·.marginReturns g) fun o _ => ?_
    obtain ⟨ht, hr⟩ := marginReturns_turns (s := { s.later dt with obs := o }) ha hok
    generalize State.marginReturns _ g = y at ht hr ⊢
    have hnow : (finish y).now = s.now + dt := ht.now
    refine ⟨turns_becomes ht, ?_⟩
    rw [hnow]
    exact finish_raised hr ht.now

end Sys2Proof.Machine

/-! ## What the operations of a received milestone change (R203 to R208, R236, R243 to R251) -/

namespace Sys2Proof.Machine

/-! ### What MC and the counting hardware note -/

/-- From `s` to `x` only what MC and the counting hardware keep has changed, and no event is lost. -/
structure Notes (s x : State) : Prop where
  turns : Turns s x
  queue : s.obs.queue <+: x.obs.queue

theorem notes_refl (s : State) : Notes s s := ⟨rfl, List.prefix_refl _⟩

theorem Notes.trans {s x y : State} (h : Notes s x) (h' : Notes x y) : Notes s y := by
  refine ⟨?_, h.queue.trans h'.queue⟩
  obtain ⟨o, m, k, n, rfl⟩ := turns_iff.1 h.turns
  obtain ⟨o', m', k', n', rfl⟩ := turns_iff.1 h'.turns
  rfl

theorem raise_notes (s : State) (c : Cls) (i code : Nat) (arg : Word) : Notes s (s.raise c i code arg) :=
  ⟨.raise rfl, raise_queue ..⟩

theorem raiseIf_notes (s : State) (b : Bool) (c : Cls) (i code : Nat) (arg : Word) : Notes s (s.raiseIf b c i code arg) :=
  ⟨.raiseIf rfl, raiseIf_queue ..⟩

theorem count_notes (s : State) (c : Cls) (i : Nat) (j : Fin 9) (n : Nat) : Notes s (s.count c i j n) :=
  ⟨.count rfl, List.prefix_refl _⟩

theorem signal_notes (s : State) (c : Cls) (i sig n : Nat) : Notes s (s.signal c i sig n) := ⟨.signal rfl, signal_queue ..⟩

theorem mon_notes (s : State) (m : Mon) : Notes s { s with mon := m } := ⟨rfl, List.prefix_refl _⟩

theorem foldl_notes {α : Type} {f : State → α → State} (h : ∀ s a, Notes s (f s a)) (l : List α) (s : State) :
    Notes s (l.foldl f s) := by
  induction l generalizing s with
  | nil => exact notes_refl s
  | cons a l ih => exact (h s a).trans (ih _)

theorem triggerOne_notes (s : State) (seq at_ i : Nat) : Notes s (s.triggerOne seq at_ i) := by
  unfold State.triggerOne
  dsimp only
  split
  · exact mon_notes s _
  · exact ((mon_notes s _).trans (count_notes _ _ _ _ _)).trans (raise_notes _ _ _ _ _)
  · exact ((mon_notes s _).trans (count_notes _ _ _ _ _)).trans (raise_notes _ _ _ _ _)
  · exact notes_refl s
  · exact notes_refl s
  · exact notes_refl s

theorem triggerAt_notes (s : State) (at_ : Nat) (x : CapSet) : Notes s (s.triggerAt at_ x) :=
  (mon_notes s _).trans (foldl_notes (fun t i => triggerOne_notes t _ _ i) _ _)

theorem trigger_notes (s : State) (x : CapSet) : Notes s (s.trigger x) := by
  unfold State.trigger
  split
  · exact triggerAt_notes s _ x
  · exact notes_refl s

theorem triggerSets_notes (s : State) (p : Vector Word 8 → Bool) : Notes s (s.triggerSets p) := by
  refine foldl_notes (fun t x => ?_) _ s
  split
  · exact trigger_notes t x
  · exact notes_refl t

theorem milestoneTrigger_notes (s : State) (l : Fin 8) (m : MilestoneArrival) : Notes s (s.milestoneTrigger l m) := by
  unfold State.milestoneTrigger
  split
  · exact triggerSets_notes s _
  · exact notes_refl s

/-! ### The sealed link of one group, and the buffers towards the host -/

/-- From `s` to `x` only the sealed link of group `g`, what lanes have received of their period, and the buffers towards the host
have changed, beside what MC and the counting hardware keep; no event is lost. -/
structure SealMoves (g : Fin 8) (s x : State) : Prop where
  frame : Turns { s with seals := upd s.seals g fun _ => x.seals[g], srx := x.srx, lay := x.lay, egress := x.egress
                         hostOut := x.hostOut } x
  queue : s.obs.queue <+: x.obs.queue

section
variable {g : Fin 8} {s x y : State}

theorem sealMoves_intro (c : Seal)
    (hx : Turns { s with seals := upd s.seals g fun _ => c, srx := x.srx, lay := x.lay, egress := x.egress, hostOut := x.hostOut } x)
    (hq : s.obs.queue <+: x.obs.queue) : SealMoves g s x := by
  refine ⟨?_, hq⟩
  have hs : x.seals = upd s.seals g fun _ => c := by rw [hx]
  have hg : x.seals[g] = c := by rw [hs]; exact upd_at ..
  rw [hg]
  exact hx

theorem SealMoves.elim (h : SealMoves g s x) : ∃ c r q e w o m k n, x = { s with
    seals := upd s.seals g fun _ => c, srx := r, lay := q, egress := e, hostOut := w, obs := o, mon := m, stats := k, free := n } :=
  ⟨_, _, _, _, _, _, _, _, _, h.frame⟩

theorem Notes.seal (h : Notes s x) : SealMoves g s x := by
  have hq := h.queue
  obtain ⟨o, m, k, n, rfl⟩ := turns_iff.1 h.turns
  exact sealMoves_intro s.seals[g] (by rw [upd_self]; rfl) hq

theorem sealMoves_refl (g : Fin 8) (s : State) : SealMoves g s s := (notes_refl s).seal

theorem SealMoves.trans (h : SealMoves g s x) (h' : SealMoves g x y) : SealMoves g s y := by
  have hq := h.queue.trans h'.queue
  obtain ⟨c, r, q, e, w, o, m, k, n, rfl⟩ := h.elim
  obtain ⟨c', r', q', e', w', o', m', k', n', rfl⟩ := h'.elim
  exact sealMoves_intro c' (by rw [upd_upd]; rfl) hq

theorem SealMoves.notes (h : SealMoves g s x) (h' : Notes x y) : SealMoves g s y := h.trans h'.seal

theorem setSeal_moves (s : State) (g : Fin 8) (f : Seal → Seal) : SealMoves g s (s.setSeal g f) :=
  sealMoves_intro (f s.seals[g]) rfl (List.prefix_refl _)

theorem SealMoves.set (h : SealMoves g s x) {f : Seal → Seal} : SealMoves g s (x.setSeal g f) := h.trans (setSeal_moves x g f)

theorem buffers_moves (s : State) (g : Fin 8) (r : Vector (List (BitVec 5140)) 8) (q : Vector (List (Nat × Output)) 8)
    (e h : Vector (List Output) 8) : SealMoves g s { s with srx := r, lay := q, egress := e, hostOut := h } :=
  sealMoves_intro s.seals[g] (by rw [upd_self]; rfl) (List.prefix_refl _)

theorem SealMoves.lfd (h : SealMoves g s x) : x.lfd = s.lfd := by
  obtain ⟨c, r, q, e, w, o, m, k, n, rfl⟩ := h.elim; rfl
theorem SealMoves.grp (h : SealMoves g s x) : x.grp = s.grp := by
  obtain ⟨c, r, q, e, w, o, m, k, n, rfl⟩ := h.elim; rfl
theorem SealMoves.now (h : SealMoves g s x) : x.now = s.now := by
  obtain ⟨c, r, q, e, w, o, m, k, n, rfl⟩ := h.elim; rfl
theorem SealMoves.power (h : SealMoves g s x) : x.power = s.power := by
  obtain ⟨c, r, q, e, w, o, m, k, n, rfl⟩ := h.elim; rfl
theorem SealMoves.units (h : SealMoves g s x) : x.units = s.units := by
  obtain ⟨c, r, q, e, w, o, m, k, n, rfl⟩ := h.elim; rfl

theorem foldl_sealMoves {α : Type} {f : State → α → State} (h : ∀ s a, SealMoves g s (f s a)) (l : List α) (s : State) :
    SealMoves g s (l.foldl f s) := by
  induction l generalizing s with
  | nil => exact sealMoves_refl g s
  | cons a l ih => exact (h s a).trans (ih _)

end

section
variable (s : State) (g : Fin 8)

theorem queueWaypost_moves (w : Waypost) : SealMoves g s (s.queueWaypost g w) := by
  unfold State.queueWaypost
  dsimp only
  refine .notes ?_ (raise_notes _ _ _ _ _)
  split
  · exact (setSeal_moves s g _).notes (count_notes _ _ _ _ _)
  · exact setSeal_moves s g _

theorem settleWayposts_moves (seq : Nat) (ok : Bool) : SealMoves g s (s.settleWayposts g seq ok) := by
  unfold State.settleWayposts
  dsimp only
  split
  · exact (setSeal_moves s g _).trans (foldl_sealMoves (fun t w => queueWaypost_moves t g _) _ _)
  · exact setSeal_moves s g _

theorem tagFail_moves (seq pos : Nat) : SealMoves g s (s.tagFail g seq pos) :=
  (((setSeal_moves s g _).notes (count_notes _ _ _ _ _)).notes (signal_notes _ _ _ _ _)).notes (raise_notes _ _ _ _ _)

theorem deliverOut_moves (os : List Output) : SealMoves g s (s.deliverOut g os) :=
  (count_notes s .fec g 3 _).seal.trans (buffers_moves _ g s.srx s.lay _ _)

theorem layDrop_moves (seq : Nat) : SealMoves g s (s.layDrop g seq) := buffers_moves s g s.srx _ s.egress s.hostOut

theorem periodJudged_moves (seq : Nat) : SealMoves g s (s.periodJudged g seq) := by
  unfold State.periodJudged
  extract_lets rs stream ok fails a b c out d
  have ha : SealMoves g s a := setSeal_moves s g _
  have hb : SealMoves g s b := ha.trans (foldl_sealMoves (fun t r => tagFail_moves t g _ _) _ _)
  have hc : SealMoves g s c := by
    simp only [c]
    split
    · exact (hb.notes (count_notes _ _ _ _ _)).notes (signal_notes _ _ _ _ _)
    · split
      · exact (hb.notes (count_notes _ _ _ _ _)).notes (count_notes _ _ _ _ _)
      · exact hb
  have hd : SealMoves g s d := by
    simp only [d]
    split
    · exact hc
    · exact (hc.trans (deliverOut_moves _ g _)).trans (layDrop_moves _ g _)
  exact hd.trans (settleWayposts_moves _ g _ _)

theorem settlePeriods_moves : SealMoves g s (s.settlePeriods g) := by
  refine foldl_sealMoves (fun t x => ?_) _ s
  split
  · exact periodJudged_moves t g _
  · exact sealMoves_refl g t

theorem judge_moves (l : Fin 8) (seq : Nat) (v : Option Nat) : SealMoves g s (s.judge g l seq v) := by
  have ha : SealMoves g s { s with srx := s.srx.set l.val [] l.isLt } := buffers_moves s g _ s.lay s.egress s.hostOut
  unfold State.judge
  dsimp only
  split
  · exact ha
  · exact ha.set.trans (settlePeriods_moves _ g)

theorem switchRx_moves (seq : Nat) : SealMoves g s (s.switchRx g seq) := by
  unfold State.switchRx
  split
  · split
    · exact (setSeal_moves s g _).notes (raise_notes _ _ _ _ _)
    · exact sealMoves_refl g s
  · exact sealMoves_refl g s

theorem epochsHeard_moves (w : List Word) : SealMoves g s (s.epochsHeard g w) := by
  unfold State.epochsHeard
  split
  · exact sealMoves_refl g s
  · dsimp only
    split
    · split
      · exact (setSeal_moves s g _).trans (switchRx_moves _ g _)
      · exact setSeal_moves s g _
    · exact setSeal_moves s g _

theorem fragmentIn_moves (d : List Word) : SealMoves g s (s.fragmentIn g d) := by
  unfold State.fragmentIn
  dsimp only
  split
  · exact sealMoves_refl g s
  · exact setSeal_moves s g _

theorem waypostIn_moves (w : List Word) : SealMoves g s (s.waypostIn g w) := by
  unfold State.waypostIn
  dsimp only
  split
  · exact fragmentIn_moves s g _
  · split
    · exact queueWaypost_moves s g _
    · split
      · exact setSeal_moves s g _
      · exact sealMoves_refl g s
  · exact sealMoves_refl g s

end

end Sys2Proof.Machine

/-! ## Inner lock and milestone lock (R166, R196, R199, R203 to R207) -/

namespace Sys2Proof.Machine

/-- From `s` to `x` only line lane `l`, group `g`, its sealed link and its buffers have changed, beside what MC and the counting
hardware keep; no event is lost. -/
structure GroupMoves (g l : Fin 8) (s x : State) : Prop where
  frame : Turns { s with lfd := upd s.lfd l fun _ => x.lfd[l], grp := upd s.grp g fun _ => x.grp[g]
                         seals := upd s.seals g fun _ => x.seals[g], srx := x.srx, lay := x.lay, egress := x.egress
                         hostOut := x.hostOut } x
  queue : s.obs.queue <+: x.obs.queue

section
variable {g l : Fin 8} {s x y : State}

theorem groupMoves_intro (f : Lfd) (p : Grp) (c : Seal)
    (hx : Turns { s with lfd := upd s.lfd l fun _ => f, grp := upd s.grp g fun _ => p, seals := upd s.seals g fun _ => c
                         srx := x.srx, lay := x.lay, egress := x.egress, hostOut := x.hostOut } x)
    (hq : s.obs.queue <+: x.obs.queue) : GroupMoves g l s x := by
  refine ⟨?_, hq⟩
  have hf : x.lfd = upd s.lfd l fun _ => f := by rw [hx]
  have hp : x.grp = upd s.grp g fun _ => p := by rw [hx]
  have hs : x.seals = upd s.seals g fun _ => c := by rw [hx]
  have hf' : x.lfd[l] = f := by rw [hf]; exact upd_at ..
  have hp' : x.grp[g] = p := by rw [hp]; exact upd_at ..
  have hs' : x.seals[g] = c := by rw [hs]; exact upd_at ..
  rw [hf', hp', hs']
  exact hx

theorem GroupMoves.elim (h : GroupMoves g l s x) : ∃ f p c r q e w o m k n, x = { s with
    lfd := upd s.lfd l fun _ => f, grp := upd s.grp g fun _ => p, seals := upd s.seals g fun _ => c, srx := r, lay := q, egress := e
    hostOut := w, obs := o, mon := m, stats := k, free := n } :=
  ⟨_, _, _, _, _, _, _, _, _, _, _, h.frame⟩

theorem SealMoves.group (h : SealMoves g s x) : GroupMoves g l s x := by
  have hq := h.queue
  obtain ⟨c, r, q, e, w, o, m, k, n, rfl⟩ := h.elim
  exact groupMoves_intro s.lfd[l] s.grp[g] c (by rw [upd_self, upd_self]; rfl) hq

theorem groupMoves_refl (g l : Fin 8) (s : State) : GroupMoves g l s s := (sealMoves_refl g s).group

theorem GroupMoves.trans (h : GroupMoves g l s x) (h' : GroupMoves g l x y) : GroupMoves g l s y := by
  have hq := h.queue.trans h'.queue
  obtain ⟨f, p, c, r, q, e, w, o, m, k, n, rfl⟩ := h.elim
  obtain ⟨f', p', c', r', q', e', w', o', m', k', n', rfl⟩ := h'.elim
  exact groupMoves_intro f' p' c' (by rw [upd_upd, upd_upd, upd_upd]; rfl) hq

theorem GroupMoves.seal (h : GroupMoves g l s x) (h' : SealMoves g x y) : GroupMoves g l s y := h.trans h'.group

theorem GroupMoves.notes (h : GroupMoves g l s x) (h' : Notes x y) : GroupMoves g l s y := h.seal h'.seal

theorem setLfd_moves (s : State) (g l : Fin 8) (f : Lfd → Lfd) : GroupMoves g l s (s.setLfd l f) :=
  groupMoves_intro (f s.lfd[l]) s.grp[g] s.seals[g] (by rw [upd_self, upd_self]; rfl) (List.prefix_refl _)

theorem setGrp_moves (s : State) (g l : Fin 8) (f : Grp → Grp) : GroupMoves g l s (s.setGrp g f) :=
  groupMoves_intro s.lfd[l] (f s.grp[g]) s.seals[g] (by rw [upd_self, upd_self]; rfl) (List.prefix_refl _)

theorem GroupMoves.now (h : GroupMoves g l s x) : x.now = s.now := by
  obtain ⟨f, p, c, r, q, e, w, o, m, k, n, rfl⟩ := h.elim; rfl
theorem GroupMoves.power (h : GroupMoves g l s x) : x.power = s.power := by
  obtain ⟨f, p, c, r, q, e, w, o, m, k, n, rfl⟩ := h.elim; rfl
theorem GroupMoves.units (h : GroupMoves g l s x) : x.units = s.units := by
  obtain ⟨f, p, c, r, q, e, w, o, m, k, n, rfl⟩ := h.elim; rfl

/-- What such a row leaves. -/
theorem group_becomes {dt : Nat} {o : Obs} (h : GroupMoves g l { s.later dt with obs := o } x) :
    Becomes dt { s with
      lfd := upd s.lfd l fun _ => (finish x).lfd[l], grp := upd s.grp g fun _ => (finish x).grp[g]
      seals := upd s.seals g fun _ => (finish x).seals[g], srx := (finish x).srx, lay := (finish x).lay
      egress := (finish x).egress, hostOut := (finish x).hostOut } (finish x) :=
  turns_becomes h.frame

end

/-! ### Losing lock (R204, R207) -/

section
variable (s : State) (g l : Fin 8)

theorem groupUnlock_moves : GroupMoves g l s (s.groupUnlock g) ∧ (s.groupUnlock g).lfd = s.lfd ∧
    (s.groupUnlock g).grp[g].deskewed = false ∧ (s.groupUnlock g).grp[g].locked = false ∧ (s.groupUnlock g).egress[g] = [] := by
  unfold State.groupUnlock
  extract_lets p a t b u
  have ht : GroupMoves g l s t :=
    (setGrp_moves s g l _).seal (buffers_moves a g s.srx s.lay (s.egress.set g.val [] g.isLt) s.hostOut)
  have hu : GroupMoves g l s u ∧ u.lfd = s.lfd ∧ u.grp = t.grp ∧ u.egress = t.egress := by
    simp only [u]
    split
    · exact ⟨ht, rfl, rfl, rfl⟩
    · exact ⟨(ht.seal (setSeal_moves t g _)).seal (buffers_moves b g s.srx _ t.egress s.hostOut), rfl, rfl, rfl⟩
  obtain ⟨hm, hl, hg, he⟩ := hu
  have hg' : t.grp[g].deskewed = false ∧ t.grp[g].locked = false := by
    simp only [t, a, State.setGrp, upd_at, and_self]
  refine ⟨hm.notes (raiseIf_notes ..), by rw [raiseIf_lfd, hl], ?_⟩
  simp only [raiseIf_grp, raiseIf_egress, hg, he]
  exact ⟨hg'.1, hg'.2, Vector.getElem_set_self ..⟩

variable {s l} in
/-- R204, R219: a lane that was locked loses its milestones, and the group its deskew and its host clock. -/
theorem loseLock_of (hlock : s.lfd[l].msLock = true) (byInner : Bool) :
    GroupMoves g l s (s.loseLock g l byInner) ∧
    (s.loseLock g l byInner).lfd[l] = { s.lfd[l] with msLock := false, cand := none, misses := 0 } ∧
    (s.loseLock g l byInner).grp[g].deskewed = false ∧ (s.loseLock g l byInner).grp[g].locked = false ∧
    (s.loseLock g l byInner).egress[g] = [] ∧
    Raises s (s.loseLock g l byInner) .grp g 0x10 (pk [(b2n byInner, 8), (s.posOf g l, 0), (l, 4)]) := by
  let t := ((s.setLfd l fun f => { f with msLock := false, cand := none, misses := 0 }).count .grp g 3).raise .grp g 0x10
    (pk ((b2n byInner, 8) :: lanePos (s.posOf g l) l))
  have ht : GroupMoves g l s t := ((setLfd_moves s g l _).notes (count_notes _ _ _ _ _)).notes (raise_notes _ _ _ _ _)
  have hs : s.loseLock g l byInner = (({ t with srx := t.srx.set l.val [] l.isLt } : State).settlePeriods g).groupUnlock g := by
    unfold State.loseLock
    simp only [hlock, Bool.not_true, Bool.false_eq_true, if_false]
    rfl
  have hj := (buffers_moves t g (t.srx.set l.val [] l.isLt) t.lay t.egress t.hostOut).trans
    (settlePeriods_moves ({ t with srx := t.srx.set l.val [] l.isLt } : State) g)
  obtain ⟨hm, hl, hd, hk, he⟩ := groupUnlock_moves (({ t with srx := t.srx.set l.val [] l.isLt } : State).settlePeriods g) g l
  have hlfd : t.lfd[l] = { s.lfd[l] with msLock := false, cand := none, misses := 0 } := by
    simp only [t, raise_lfd, count_lfd, State.setLfd, upd_at]
  rw [hs]
  refine ⟨(ht.seal hj).trans hm, ?_, hd, hk, he, .mono (raises_raise _) (hj.queue.trans hm.queue)⟩
  have hll := hl.trans hj.lfd
  simp only [hll]
  exact hlfd

end

end Sys2Proof.Machine

/-! ## Milestones arrive or are missed (R196, R199, R203 to R208) -/

namespace Sys2Proof.Machine

theorem Notes.lfd {s x : State} (h : Notes s x) : x.lfd = s.lfd := by
  obtain ⟨o, m, k, n, rfl⟩ := turns_iff.1 h.turns; rfl

theorem Notes.grp {s x : State} (h : Notes s x) : x.grp = s.grp := by
  obtain ⟨o, m, k, n, rfl⟩ := turns_iff.1 h.turns; rfl

/-- What milestones are judged by stays as it is while MC and the counting hardware note something. -/
theorem Notes.judges {s x : State} (h : Notes s x) (l : Nat) (k : List Nat) :
    x.groupOf l = s.groupOf l ∧ x.usable k = s.usable k ∧ x.now = s.now ∧ x.lfd = s.lfd := by
  obtain ⟨o, m, k, n, rfl⟩ := turns_iff.1 h.turns
  exact ⟨rfl, rfl, rfl, rfl⟩

/-- R205, R208: what the group keeps of the milestone that it has used last. -/
def Grp.hears (p : Grp) (now : Nat) (w : List Word) : Prop :=
  p.lastValid = now ∧ p.rxSeq = msSeq w ∧ p.idleRx = (msType w == 2)

section
variable (s : State) (g l : Fin 8) (w : List Word)

theorem groupConditions_hears : GroupMoves g l s (s.groupConditions g l w) ∧ (s.groupConditions g l w).lfd = s.lfd ∧
    (s.groupConditions g l w).grp[g].hears s.now w := by
  unfold State.groupConditions
  extract_lets p set conflict here differs locked far rem remote deskewed back t a b c d ms
  have hc : Notes b c := by
    simp only [c]
    split
    · exact (count_notes ..).trans (raise_notes ..)
    · exact notes_refl b
  have hd : Notes t d := (((raiseIf_notes t ..).trans (raiseIf_notes a ..)).trans hc).trans (raiseIf_notes c ..)
  have key (x : State) (h : Notes d x) : GroupMoves g l s x ∧ x.lfd = s.lfd ∧ x.grp[g].hears s.now w := by
    have h' := hd.trans h
    refine ⟨(setGrp_moves s g l _).notes h', h'.lfd, ?_⟩
    simp only [h'.grp, t, State.setGrp, upd_at]
    exact ⟨rfl, rfl, rfl⟩
  split
  · exact key _ ((count_notes ..).trans (raise_notes ..))
  · exact key _ (notes_refl d)

theorem flagsHeard_hears : GroupMoves g l s (s.flagsHeard g l w) ∧ (s.flagsHeard g l w).lfd = s.lfd ∧
    (s.flagsHeard g l w).grp[g].hears s.now w := by
  obtain ⟨hm, hl, hh⟩ := groupConditions_hears s g l w
  have key (x : State) (h : SealMoves g (s.groupConditions g l w) x) :
      GroupMoves g l s x ∧ x.lfd = s.lfd ∧ x.grp[g].hears s.now w := by
    refine ⟨hm.seal h, h.lfd.trans hl, ?_⟩
    simp only [h.grp]
    exact hh
  unfold State.flagsHeard
  extract_lets c d e
  have hd : SealMoves g c d := setSeal_moves c g _
  have he : SealMoves g c e := by
    simp only [e]
    split
    · exact hd.trans (epochsHeard_moves d g w)
    · exact hd
  split
  · exact key c (sealMoves_refl g c)
  · split
    · exact key _ (he.trans (waypostIn_moves e g w))
    · exact key e he

variable (m : MilestoneArrival)

/-- R203: line lane `l` after a milestone that it has used. -/
def Lfd.used (f : Lfd) (m : MilestoneArrival) (now : Nat) : Lfd :=
  { f with last := some m.words, lastAt := now, slot := 0, misses := 0, skew := m.lag }

theorem useMilestone_hears : GroupMoves g l s (s.useMilestone g l m) ∧
    (s.useMilestone g l m).lfd[l] = s.lfd[l].used m s.now ∧ (s.useMilestone g l m).grp[g].hears s.now m.words := by
  unfold State.useMilestone
  extract_lets w v a b f h
  have ha := judge_moves s g l ((msSeq w + 2 ^ 40 - 1) % 2 ^ 40) v
  have hb : GroupMoves g l s b := ha.group.trans (setLfd_moves a g l _)
  have hbl : b.lfd[l] = s.lfd[l].used m s.now := by
    simp only [b, State.setLfd, a, ha.lfd, upd_at]
    rfl
  obtain ⟨hm, hl, hh⟩ := flagsHeard_hears b g l w
  have hf : Notes (b.flagsHeard g l w) f := signal_notes ..
  have hfm : GroupMoves g l s f := (hb.trans hm).notes hf
  have hfl : f.lfd = b.lfd := hf.lfd.trans hl
  have hfh : f.grp[g].hears s.now m.words := by
    simp only [hf.grp]
    rw [← hb.now]
    exact hh
  split
  · refine ⟨hfm, ?_, hfh⟩
    simp only [hfl]
    exact hbl
  · have hh' : Notes (f.setGrp g _) h := count_notes ..
    have key (x : State) (hx : Notes h x) : GroupMoves g l s x ∧ x.lfd[l] = s.lfd[l].used m s.now ∧
        x.grp[g].hears s.now m.words := by
      have hx' := hh'.trans hx
      refine ⟨(hfm.trans (setGrp_moves f g l _)).notes hx', ?_, ?_⟩
      · have hpl : x.lfd = b.lfd := hx'.lfd.trans hfl
        simp only [hpl]
        exact hbl
      · simp only [hx'.grp, State.setGrp, upd_at]
        exact hfh
    split
    · exact key _ ((count_notes ..).trans (signal_notes ..))
    · exact key _ (signal_notes ..)

theorem gainLock_of : GroupMoves g l s (s.gainLock g l w) ∧
    (s.gainLock g l w).lfd[l] = { s.lfd[l] with msLock := true, cand := none, misses := 0, last := none, lockAt := s.now } ∧
    Raises s (s.gainLock g l w) .grp g 0x11 (pk [(msLane w, 0), (l, 4)]) := by
  refine ⟨((setLfd_moves s g l _).trans (setGrp_moves _ g l _)).notes (raise_notes ..), ?_, raises_raise _⟩
  simp only [State.gainLock, raise_lfd, State.setGrp, State.setLfd, upd_at]

end

/-! ### Milestones of a lane with inner lock (R203, R204) -/

section
variable {s : State} {g l : Fin 8} {m : MilestoneArrival} (hg : s.groupOf l = some g.val)
include hg

section
variable (hi : s.lfd[l].inner = true) (hu : s.usable [66] = true) (hv : msValid m.rsOk m.words = true)
include hi hu hv

theorem milestoneArrives_candidate (hk : s.lfd[l].msLock = false)
    (hc : s.lfd[l].cand.all (fun c => m.slots != 2049 + c) = true) :
    s.milestoneArrives l m = (s.setLfd l fun f => { f with
      cand := some (msF m.words), last := some m.words, lastAt := s.now }).flagsHeard g l m.words := by
  have hn : s.lfd[l].cand.any (fun c => m.slots == 2049 + c) = false := by
    cases h : s.lfd[l].cand with
    | none => rfl
    | some c => rw [h] at hc; simpa using hc
  unfold State.milestoneArrives
  simp only [hg, lineLane_val, hi, hu, hv, hk, hn, Bool.not_true, Bool.or_self, Bool.false_eq_true, if_false]

theorem milestoneArrives_gains (hk : s.lfd[l].msLock = false) (hc : s.lfd[l].cand = some (m.slots - 2049))
    (hs : 2049 ≤ m.slots) : s.milestoneArrives l m = (s.gainLock g l m.words).useMilestone g l m := by
  have hn : s.lfd[l].cand.any (fun c => m.slots == 2049 + c) = true := by
    rw [hc]
    refine beq_iff_eq.2 ?_
    omega
  unfold State.milestoneArrives
  simp only [hg, lineLane_val, hi, hu, hv, hk, hn, Bool.not_true, Bool.or_self, Bool.false_eq_true, if_false, if_true]

theorem milestoneArrives_uses (hk : s.lfd[l].msLock = true) (he : s.lfd[l].expects m.slots = true) :
    s.milestoneArrives l m = s.useMilestone g l m := by
  unfold State.milestoneArrives
  simp only [hg, lineLane_val, hi, hu, hv, hk, he, Bool.not_true, Bool.or_self, Bool.false_eq_true, if_false, if_true]

end

/-- R204: a milestone that is missed on a locked lane, before the lane loses its lock. -/
theorem milestoneMiss_of (hk : s.lfd[l].msLock = true) : ∃ b, GroupMoves g l s b ∧ b.grp = s.grp ∧
    b.lfd[l] = { s.lfd[l] with
      misses := s.lfd[l].misses + 1, missed := min (s.lfd[l].missed + 1) 0xFFFFFFFF, slot := 0 } ∧
    (s.lfd[l].misses = 0 → s.milestoneMiss l = b) ∧ (s.lfd[l].misses ≠ 0 → s.milestoneMiss l = b.loseLock g l false) := by
  unfold State.milestoneMiss
  simp only [hg, lineLane_val, hk, Bool.not_true, Bool.false_eq_true, if_false]
  refine ⟨_, ?_, ?_, ?_, fun h => if_pos h, fun h => if_neg h⟩
  · exact (((judge_moves s g l _ _).group.trans (setLfd_moves _ g l _)).notes (count_notes ..)).notes (signal_notes ..)
  · rw [signal_grp, count_grp]
    exact (judge_moves s g l _ _).grp
  · simp only [signal_lfd, count_lfd, State.setLfd, (judge_moves s g l _ _).lfd, upd_at, hk]
    rfl

/-- R196, R207: a lane that loses inner lock. -/
theorem innerLost_of (hi : s.lfd[l].inner = true) (hw : 4 ≤ s.lfd[l].badWin) : GroupMoves g l s (s.innerLost l) ∧
    (s.innerLost l).lfd[l] = { s.lfd[l] with
      inner := false, badWin := 0, msLock := false, cand := none, misses := if s.lfd[l].msLock then 0 else s.lfd[l].misses } ∧
    Raises s (s.innerLost l) .fec g 0x13 (pk [(s.posOf g l, 0), (l, 4)]) := by
  let b := (s.setLfd l fun f => { f with inner := false, badWin := 0 }).raise .fec g 0x13 (pk (lanePos (s.posOf g l) l))
  have hb : GroupMoves g l s b := (setLfd_moves s g l _).notes (raise_notes ..)
  have hbl : b.lfd[l] = { s.lfd[l] with inner := false, badWin := 0 } := by
    simp only [b, raise_lfd, State.setLfd, upd_at]
  have hx : s.innerLost l = b.loseLock g l true := by
    unfold State.innerLost
    have : ¬ s.lfd[l].badWin < 4 := by omega
    simp only [hg, lineLane_val, hi, this, Bool.not_true, decide_false, Bool.or_self, Bool.false_eq_true, if_false]
    rfl
  have hr : Raises s b .fec g 0x13 (pk [(s.posOf g l, 0), (l, 4)]) := raises_raise _
  rw [hx]
  cases hk : s.lfd[l].msLock with
  | true =>
    obtain ⟨hm, hl, -⟩ := loseLock_of (s := b) (l := l) g (by rw [hbl]; exact hk) true
    refine ⟨hb.trans hm, ?_, hr.mono hm.queue⟩
    rw [hl, hbl]
    rfl
  | false =>
    have hy : b.loseLock g l true = b.setLfd l fun f => { f with cand := none } :=
      if_pos (by simp only [hbl, hk, Bool.not_false])
    rw [hy]
    refine ⟨hb.trans (setLfd_moves b g l _), ?_, hr⟩
    simp only [State.setLfd, upd_at]
    rw [hbl]
    simp only [hk, Bool.false_eq_true, if_false]

end

theorem Turns.power {e x : State} (h : Turns e x) : x.power = e.power := by
  obtain ⟨o, m, k, n, rfl⟩ := turns_iff.1 h; rfl

theorem Turns.units {e x : State} (h : Turns e x) : x.units = e.units := by
  obtain ⟨o, m, k, n, rfl⟩ := turns_iff.1 h; rfl

theorem voidRestored_device (s t : State) :
    (s.voidRestored t).power = t.power ∧ (s.voidRestored t).units = t.units := by
  obtain ⟨v, m, h⟩ := voidRestored_frame s t
  rw [h]
  exact ⟨rfl, rfl⟩

/-! ### Inner lock is found (R166, R196, R271) -/

section
variable {s : State} {l : Fin 8} {count : Nat}

theorem innerWindowed_locked (hu : s.usable [66] = true) (hi : s.lfd[l].inner = true) : s.innerWindowed l count =
    s.setLfd l fun f => { f with badWin := if 384 < count then f.badWin + 1 else 0 } := by
  unfold State.innerWindowed
  simp only [hu, hi, Bool.not_true, Bool.false_eq_true, if_false, if_true]

variable (hu : s.usable [66] = true) (hi : s.lfd[l].inner = false) (hup : s.isUp .lrx l = true) (hsd : s.lrx[l].sd = true)
  (hf : s.laneFg l = false)
include hu hi hup hsd hf

theorem innerWindowed_bad (hc : 192 < count) :
    s.innerWindowed l count = s.setLfd l fun f => { f with offset := (f.offset + 1) % 128 } := by
  unfold State.innerWindowed
  simp only [hu, hi, hup, hsd, hf, Nat.not_le.2 hc, Bool.not_true, Bool.or_self, Bool.false_eq_true, if_false]

/-- R196: a lane that finds inner lock, before the rounds of its neighbours are voided. -/
def State.innerFound (s : State) (l : Fin 8) : State :=
  ((s.setLfd l fun f => { f with inner := true, badWin := 0, cand := none }).setLrx l (·.lockTiming s.now)).keepPol l

theorem innerWindowed_found (hc : count ≤ 192) : s.innerWindowed l count =
    match s.groupOf l with
    | some g => (s.voidRestored (s.innerFound l)).raise .fec g 0x14 (pk [(s.lfd[l].offset, 8), (l.val - g, 0), (l, 4)])
    | none => s.voidRestored (s.innerFound l) := by
  unfold State.innerWindowed
  simp only [hu, hi, hup, hsd, hf, hc, Bool.not_true, Bool.or_self, Bool.false_eq_true, if_false, if_true]
  rfl

omit hu hi hup hsd hf

theorem innerFound_turns (s : State) (l : Fin 8) :
    let flip := s.lrx[l].inverted != s.lrx[l].start && s.lrx[l].kept != some s.lrx[l].inverted
    Turns { s with
      lrx := upd s.lrx l fun _ => { s.lrx[l] with
        timing := true, lockAt := if s.lrx[l].timing then s.lrx[l].lockAt else s.now, kept := some s.lrx[l].inverted
        searched := s.lrx[l].searched || flip }
      lfd := upd s.lfd l fun f => { f with inner := true, badWin := 0, cand := none } } (s.innerFound l) ∧
    (flip = true → Raises s (s.innerFound l) .lrx l 0x20 (w32 (b2n s.lrx[l].inverted))) := by
  have hl : ((s.setLfd l fun f => { f with inner := true, badWin := 0, cand := none }).setLrx l (·.lockTiming s.now)).lrx[l] =
      s.lrx[l].lockTiming s.now := upd_at s.lrx l _
  unfold State.innerFound State.keepPol
  simp only [hl]
  refine ⟨.raiseIf ?_, fun h => raises_raiseIf _ h⟩
  simp only [State.setLrx, upd_upd]
  rfl

end

/-- Settles O27, by what each row does to its lane, to the group and to its sealed link. -/
theorem linesAreFramed : Obligations.LinesAreFramed := by
  unfold Obligations.LinesAreFramed
  intro s dt l count m x put group
  refine ⟨fun hu => ⟨fun hi => ?_, fun hi hup hsd hf hc => ?_, fun hi hup hsd hf hc => ?_⟩, fun g hg => ⟨fun hi hw => ?_,
    fun hi hu hv => ⟨fun hk hc => ?_, fun hk hc hs => ?_, fun hk he => ?_⟩, fun hk h0 => ?_, fun hk h0 => ?_⟩⟩
  · refine event_gives (·.innerWindowed l count) fun o _ => ?_
    rw [innerWindowed_locked (s := { s.later dt with obs := o }) hu hi]
    exact turns_becomes rfl
  · refine event_gives (·.innerWindowed l count) fun o _ => ?_
    rw [innerWindowed_bad (s := { s.later dt with obs := o }) hu hi hup hsd hf hc]
    exact turns_becomes rfl
  · intro flip
    refine event_gives (·.innerWindowed l count) fun o _ => ?_
    rw [innerWindowed_found (s := { s.later dt with obs := o }) hu hi hup hsd hf hc]
    obtain ⟨hz, hr⟩ := innerFound_turns { s.later dt with obs := o } l
    have ht := voidRestored_turns (s := s) (dt := dt) (o := o) (l := l) hz (fun _ => rfl) rfl rfl
    have hr' (h : flip = true) := voidRestored_raises (t := { s.later dt with obs := o }) (hr h)
    have hnow : (State.voidRestored { s.later dt with obs := o } (State.innerFound { s.later dt with obs := o } l)).now =
      s.now + dt := (voidRestored_now _ _).trans hz.now
    obtain ⟨hp, hun⟩ := voidRestored_device { s.later dt with obs := o } (State.innerFound { s.later dt with obs := o } l)
    replace hp := hp.trans hz.power
    replace hun := hun.trans hz.units
    generalize State.voidRestored _ (State.innerFound _ l) = y at ht hr' hnow hp hun ⊢
    cases hg : s.groupOf l with
    | none =>
      simp only [show ({ s.later dt with obs := o } : State).groupOf l = none from hg]
      exact ⟨turns_becomes ht, fun h => finish_raised (hr' h) hnow, fun g h => nomatch h⟩
    | some g =>
      simp only [show ({ s.later dt with obs := o } : State).groupOf l = some g from hg]
      refine ⟨turns_becomes ht.raise, fun h => finish_raised (hr' h).raise hnow, fun g' h => ?_⟩
      obtain rfl : g = g' := Option.some.inj h
      exact finish_raised (s' := { s.later dt with obs := o }) (raises_raise y hp hun hnow) hnow
  · refine event_gives (·.innerLost l) fun o _ => ?_
    obtain ⟨hm, hl, hr⟩ := innerLost_of (s := { s.later dt with obs := o }) hg hi hw
    exact ⟨group_becomes hm, hl, finish_raised hr hm.now⟩
  · refine event_gives (fun t => (t.milestoneTrigger l m).milestoneArrives l m) fun o _ => ?_
    have hn := milestoneTrigger_notes { s.later dt with obs := o } l m
    obtain ⟨hgo, hus, hnow, hlfd⟩ := hn.judges l [66]
    generalize State.milestoneTrigger _ l m = u at hn hgo hus hnow hlfd ⊢
    rw [milestoneArrives_candidate (s := u) (hgo.trans hg) (by rw [hlfd]; exact hi) (hus.trans hu) hv (by rw [hlfd]; exact hk)
      (by rw [hlfd]; exact hc)]
    obtain ⟨hm, hl, hlast, hseq, -⟩ := flagsHeard_hears (u.setLfd l fun f => { f with
      cand := some (msF m.words), last := some m.words, lastAt := u.now }) g l m.words
    have hm' := (hn.seal.group.trans (setLfd_moves u g l _)).trans hm
    have hend : (finish (State.flagsHeard _ g l m.words)).now = u.now := hm.now
    refine ⟨group_becomes hm', ?_, hlast.trans hend.symm, hseq⟩
    rw [hend]
    refine (congrArg (·[l]) hl).trans ((upd_at u.lfd l _).trans ?_)
    rw [hlfd]
    rfl
  · refine event_gives (fun t => (t.milestoneTrigger l m).milestoneArrives l m) fun o _ => ?_
    have hn := milestoneTrigger_notes { s.later dt with obs := o } l m
    obtain ⟨hgo, hus, hnow, hlfd⟩ := hn.judges l [66]
    generalize State.milestoneTrigger _ l m = u at hn hgo hus hnow hlfd ⊢
    rw [milestoneArrives_gains (s := u) (hgo.trans hg) (by rw [hlfd]; exact hi) (hus.trans hu) hv (by rw [hlfd]; exact hk)
      (by rw [hlfd]; exact hc) hs]
    obtain ⟨hm, hl, hr⟩ := gainLock_of u g l m.words
    obtain ⟨hm', hl', hlast, hseq, -⟩ := useMilestone_hears (u.gainLock g l m.words) g l m
    have hall := (hn.seal.group.trans hm).trans hm'
    have hend : (finish ((u.gainLock g l m.words).useMilestone g l m)).now = u.now := hm'.now.trans hm.now
    refine ⟨group_becomes hall, ?_, hlast.trans hm'.now.symm, hseq,
      finish_raised (hr.mono hm'.queue) hend hn.turns.power hn.turns.units⟩
    rw [hend]
    refine hl'.trans ?_
    rw [hl, hm.now, hlfd]
    rfl
  · refine event_gives (fun t => (t.milestoneTrigger l m).milestoneArrives l m) fun o _ => ?_
    have hn := milestoneTrigger_notes { s.later dt with obs := o } l m
    obtain ⟨hgo, hus, hnow, hlfd⟩ := hn.judges l [66]
    generalize State.milestoneTrigger _ l m = u at hn hgo hus hnow hlfd ⊢
    rw [milestoneArrives_uses (s := u) (hgo.trans hg) (by rw [hlfd]; exact hi) (hus.trans hu) hv (by rw [hlfd]; exact hk)
      (by rw [hlfd]; exact he)]
    obtain ⟨hm', hl', hlast, hseq, hidle⟩ := useMilestone_hears u g l m
    have hall := hn.seal.group.trans hm'
    have hend : (finish (u.useMilestone g l m)).now = u.now := hm'.now
    refine ⟨group_becomes hall, ?_, hlast.trans hend.symm, hseq, hidle⟩
    rw [hend]
    refine hl'.trans ?_
    rw [hlfd]
    rfl
  · refine event_gives (·.milestoneMiss l) fun o _ => ?_
    obtain ⟨b, hm, hg, hl, hx, -⟩ := milestoneMiss_of (s := { s.later dt with obs := o }) hg hk
    rw [hx h0]
    refine ⟨group_becomes hm, congrArg (·[g]) hg, hl.trans ?_⟩
    rw [show ({ s.later dt with obs := o } : State).lfd[l].misses = 0 from h0]
    rfl
  · refine event_gives (·.milestoneMiss l) fun o _ => ?_
    obtain ⟨b, hm, -, hl, -, hx⟩ := milestoneMiss_of (s := { s.later dt with obs := o }) hg hk
    rw [hx h0]
    obtain ⟨hm', hl', hd, hk', he, hr⟩ := loseLock_of (s := b) (l := l) g (by rw [hl]; exact hk) false
    have hpos : b.posOf g l = s.posOf g l := by
      unfold State.posOf
      rw [hl]
      rfl
    rw [hpos] at hr
    exact ⟨group_becomes (hm.trans hm'), congrArg Lfd.msLock hl', hd, hk', he, finish_raised hr hm'.now hm.power hm.units⟩

end Sys2Proof.Machine

/-! ## Fail-closed and epochs: what they change of a group (R244 to R248, R252, R253) -/

namespace Sys2Proof.Machine

/-- From `s` to `x` only group `g`, its sealed link and what LAY and SRX hold have changed, beside what MC and the counting
hardware keep; no event is lost. -/
structure CloseMoves (g : Fin 8) (s x : State) : Prop where
  frame : Turns { s with seals := upd s.seals g fun _ => x.seals[g], grp := upd s.grp g fun _ => x.grp[g], lay := x.lay
                         srx := x.srx } x
  queue : s.obs.queue <+: x.obs.queue

section
variable {g : Fin 8} {s x y : State}

theorem closeMoves_intro (c : Seal) (p : Grp)
    (hx : Turns { s with seals := upd s.seals g fun _ => c, grp := upd s.grp g fun _ => p, lay := x.lay, srx := x.srx } x)
    (hq : s.obs.queue <+: x.obs.queue) : CloseMoves g s x := by
  refine ⟨?_, hq⟩
  have hs : x.seals = upd s.seals g fun _ => c := by rw [hx]
  have hp : x.grp = upd s.grp g fun _ => p := by rw [hx]
  have hs' : x.seals[g] = c := by rw [hs]; exact upd_at ..
  have hp' : x.grp[g] = p := by rw [hp]; exact upd_at ..
  rw [hs', hp']
  exact hx

theorem CloseMoves.elim (h : CloseMoves g s x) : ∃ c p q r o m k n, x = { s with
    seals := upd s.seals g fun _ => c, grp := upd s.grp g fun _ => p, lay := q, srx := r, obs := o, mon := m, stats := k, free := n } :=
  ⟨_, _, _, _, _, _, _, _, h.frame⟩

theorem Notes.close (h : Notes s x) : CloseMoves g s x := by
  have hq := h.queue
  obtain ⟨o, m, k, n, rfl⟩ := turns_iff.1 h.turns
  exact closeMoves_intro s.seals[g] s.grp[g] (by rw [upd_self, upd_self]; rfl) hq

theorem CloseMoves.trans (h : CloseMoves g s x) (h' : CloseMoves g x y) : CloseMoves g s y := by
  have hq := h.queue.trans h'.queue
  obtain ⟨c, p, q, r, o, m, k, n, rfl⟩ := h.elim
  obtain ⟨c', p', q', r', o', m', k', n', rfl⟩ := h'.elim
  exact closeMoves_intro c' p' (by rw [upd_upd, upd_upd]; rfl) hq

theorem closeMoves_refl (g : Fin 8) (s : State) : CloseMoves g s s := (notes_refl s).close

theorem CloseMoves.notes (h : CloseMoves g s x) (h' : Notes x y) : CloseMoves g s y := h.trans h'.close

theorem setSeal_closes (s : State) (g : Fin 8) (f : Seal → Seal) : CloseMoves g s (s.setSeal g f) :=
  closeMoves_intro (f s.seals[g]) s.grp[g] (by rw [upd_self]; rfl) (List.prefix_refl _)

theorem setGrp_closes (s : State) (g : Fin 8) (f : Grp → Grp) : CloseMoves g s (s.setGrp g f) :=
  closeMoves_intro s.seals[g] (f s.grp[g]) (by rw [upd_self]; rfl) (List.prefix_refl _)

theorem CloseMoves.set (h : CloseMoves g s x) {f : Seal → Seal} : CloseMoves g s (x.setSeal g f) := h.trans (setSeal_closes x g f)

theorem CloseMoves.now (h : CloseMoves g s x) : x.now = s.now := by obtain ⟨c, p, q, r, o, m, k, n, rfl⟩ := h.elim; rfl
theorem CloseMoves.power (h : CloseMoves g s x) : x.power = s.power := by obtain ⟨c, p, q, r, o, m, k, n, rfl⟩ := h.elim; rfl
theorem CloseMoves.units (h : CloseMoves g s x) : x.units = s.units := by obtain ⟨c, p, q, r, o, m, k, n, rfl⟩ := h.elim; rfl
theorem CloseMoves.tiling (h : CloseMoves g s x) : x.tiling = s.tiling := by obtain ⟨c, p, q, r, o, m, k, n, rfl⟩ := h.elim; rfl

/-- What such a row leaves. -/
theorem close_becomes {dt : Nat} {o : Obs} (h : CloseMoves g { s.later dt with obs := o } x) :
    Becomes dt { s with seals := upd s.seals g fun _ => (finish x).seals[g], grp := upd s.grp g fun _ => (finish x).grp[g]
                        lay := (finish x).lay, srx := (finish x).srx } (finish x) :=
  turns_becomes h.frame

theorem Notes.seals {s x : State} (h : Notes s x) : x.seals = s.seals := by
  obtain ⟨o, m, k, n, rfl⟩ := turns_iff.1 h.turns; rfl

end

section
variable (s : State) (g : Fin 8)

/-- R252, R253: the sealed link of a group that fails closed for a cause. -/
def Seal.shut (c : Seal) (why : Closed) : Seal :=
  { c with
    keys := none, pend := none, ann := none, annNext := none, heard := none, ackFor := none, txPer := none, tags := []
    age := 0, since := 0, withdrawn := 0, closed := why, reFailed := false, stream := false, fails := 0, txData := []
    tagBad := false, wpHeld := [], authId := none, authOwner := none, outbox := [], msgs := [], inbox := none
    hs := { hsReset with attempt := c.hs.attempt } }

/-- R252, R253: fail-closed erases the sealed link's keys, and the rest of the period is fill. -/
theorem failClose_of (why : Closed) : CloseMoves g s (s.failClose g why) ∧
    (s.failClose g why).seals[g] = s.seals[g].shut why ∧ (s.failClose g why).grp[g] = { s.grp[g] with txIdle := true } := by
  unfold State.failClose
  extract_lets had h t
  refine ⟨.notes (closeMoves_intro _ _ (show Turns _ t from rfl) (List.prefix_refl _)) (raiseIf_notes ..), ?_⟩
  simp only [raiseIf_seals, raiseIf_grp]
  exact ⟨upd_at s.seals g _, upd_at s.grp g _⟩

theorem announce_closes (m : Nat) : CloseMoves g s (s.announce g m) := by
  unfold State.announce
  split
  · exact closeMoves_refl g s
  · dsimp only
    split <;> exact setSeal_closes s g _

theorem withdraw_closes : CloseMoves g s (s.withdraw g) := by
  unfold State.withdraw
  split
  case h_2 => exact closeMoves_refl g s
  case h_1 =>
    extract_lets n x t
    have ht : CloseMoves g s t := ((setSeal_closes s g _).notes (count_notes ..)).notes (raise_notes ..)
    split
    · exact ht
    · exact (ht.notes (raise_notes ..)).trans (failClose_of _ g .rekey).1

theorem switchTx_closes : CloseMoves g s (s.switchTx g) := by
  unfold State.switchTx
  split
  case h_2 => exact closeMoves_refl g s
  case h_1 =>
    split
    case h_2 => exact closeMoves_refl g s
    case h_1 =>
      extract_lets ch t
      have ht : CloseMoves g s t := (setSeal_closes s g _).notes (raise_notes ..)
      split
      · exact ht.trans (failClose_of t g .rekey).1
      · exact ht

theorem annEnds_closes (m : Nat) : CloseMoves g s (s.annEnds g m) := by
  unfold State.annEnds
  split
  · split
    · exact setSeal_closes s g _
    · exact closeMoves_refl g s
  · exact closeMoves_refl g s

theorem epochTick_closes (m : Nat) : CloseMoves g s (s.epochTick g m) := by
  unfold State.epochTick
  extract_lets a b c
  have hb : CloseMoves g s b := by
    simp only [b]
    split
    · exact (annEnds_closes s g m).trans (withdraw_closes a g)
    · exact annEnds_closes s g m
  have hc : CloseMoves g s c := by
    simp only [c]
    split
    · exact hb.trans (switchTx_closes b g)
    · exact hb
  split
  · exact hc.trans (announce_closes c g m)
  · exact hc

end

end Sys2Proof.Machine

/-! ## Periods start, and codewords are carried (R15 to R17, R133, R191, R200, R202, R209 to R211, R242, R247) -/

namespace Sys2Proof.Machine

/-! ### A period starts -/

/-- From `s` to `x` only group `g`, its sealed link, the line transmitters, the test units, what the groups send and what LAY and SRX
hold have changed, beside what MC and the counting hardware keep. -/
def SendMoves (g : Fin 8) (s x : State) : Prop :=
  Turns { s with grp := upd s.grp g fun _ => x.grp[g], seals := upd s.seals g fun _ => x.seals[g], ltx := x.ltx, tst := x.tst
                 txOut := x.txOut, lay := x.lay, srx := x.srx } x

section
variable {g : Fin 8} {s x y : State}

theorem sendMoves_intro (p : Grp) (c : Seal)
    (hx : Turns { s with grp := upd s.grp g fun _ => p, seals := upd s.seals g fun _ => c, ltx := x.ltx, tst := x.tst
                         txOut := x.txOut, lay := x.lay, srx := x.srx } x) : SendMoves g s x := by
  have hs : x.seals = upd s.seals g fun _ => c := by rw [hx]
  have hp : x.grp = upd s.grp g fun _ => p := by rw [hx]
  have hs' : x.seals[g] = c := by rw [hs]; exact upd_at ..
  have hp' : x.grp[g] = p := by rw [hp]; exact upd_at ..
  unfold SendMoves
  rw [hs', hp']
  exact hx

theorem SendMoves.elim (h : SendMoves g s x) : ∃ p c v w d q r o m k n, x = { s with
    grp := upd s.grp g fun _ => p, seals := upd s.seals g fun _ => c, ltx := v, tst := w, txOut := d, lay := q, srx := r, obs := o
    mon := m, stats := k, free := n } :=
  ⟨_, _, _, _, _, _, _, _, _, _, _, h⟩

theorem CloseMoves.sends (h : CloseMoves g s x) : SendMoves g s x := by
  obtain ⟨c, p, q, r, o, m, k, n, rfl⟩ := h.elim
  exact sendMoves_intro p c rfl

theorem SendMoves.trans (h : SendMoves g s x) (h' : SendMoves g x y) : SendMoves g s y := by
  obtain ⟨p, c, v, w, d, q, r, o, m, k, n, rfl⟩ := h.elim
  obtain ⟨p', c', v', w', d', q', r', o', m', k', n', rfl⟩ := h'.elim
  exact sendMoves_intro p' c' (by rw [upd_upd, upd_upd]; rfl)

theorem SendMoves.tiling (h : SendMoves g s x) : x.tiling = s.tiling := by
  obtain ⟨p, c, v, w, d, q, r, o, m, k, n, rfl⟩ := h.elim; rfl

end

section
variable (s : State) (g : Fin 8)

theorem ingest_sends : SendMoves g s (s.ingest g) := by
  unfold State.ingest
  split <;> exact (setGrp_closes s g _).sends

theorem fillSlots_sends (r : Nat) : SendMoves g s (s.fillSlots g r) := sendMoves_intro _ _ rfl

theorem endPeriod_sends : SendMoves g s (s.endPeriod g) := by
  unfold State.endPeriod
  dsimp only
  split
  · exact (ingest_sends s g).trans (fillSlots_sends _ g _)
  · exact (ingest_sends s g).trans (setGrp_closes _ g _).sends

theorem setLtx_sends (l : Fin 8) (f : Ltx → Ltx) : SendMoves g s (s.setLtx l f) :=
  sendMoves_intro s.grp[g] s.seals[g] (by rw [upd_self, upd_self]; rfl)

theorem laneMilestone_sends (seq f : Nat) (idle : Bool) (l : Fin 8) :
    SendMoves g s (s.laneMilestone seq f idle l) ∧ (s.laneMilestone seq f idle l).grp = s.grp := by
  unfold State.laneMilestone
  extract_lets x applies a b fill
  have hb : Notes a b := by
    simp only [b]
    split
    · exact (count_notes ..).trans (raise_notes ..)
    · exact notes_refl a
  have key (y : State) (hy : Notes b y) : SendMoves g s y ∧ y.grp = s.grp :=
    ⟨(setLtx_sends s g l _).trans (hb.trans hy).close.sends, (hb.trans hy).grp⟩
  split
  · exact key _ (((count_notes ..).trans (count_notes ..)).trans (signal_notes ..))
  · exact key b (notes_refl b)

theorem laneMilestones_sends (seq f : Nat) (idle : Bool) (L : List (Fin 8)) :
    SendMoves g s (L.foldl (fun t l => t.laneMilestone seq f idle l) s) ∧
      (L.foldl (fun t l => t.laneMilestone seq f idle l) s).grp = s.grp := by
  induction L generalizing s with
  | nil => exact ⟨(closeMoves_refl g s).sends, rfl⟩
  | cons l L ih =>
    obtain ⟨hm, hg⟩ := ih (s.laneMilestone seq f idle l)
    obtain ⟨hm', hg'⟩ := laneMilestone_sends s g seq f idle l
    exact ⟨hm'.trans hm, hg.trans hg'⟩

/-- R200: the end of a period does not look at the records. -/
theorem endPeriod_obs (o : Obs) : ({ s with obs := o } : State).endPeriod g = { s.endPeriod g with obs := o } := by
  have hi : ({ s with obs := o } : State).ingest g = { s.ingest g with obs := o } := by
    unfold State.ingest
    rw [show ({ s with obs := o } : State).generates g = s.generates g from rfl]
    split <;> rfl
  unfold State.endPeriod
  rw [hi]
  dsimp only
  split <;> rfl

theorem periodStart_of (p : PeriodMeasure) (hs : s.sends g = true) : SendMoves g s (s.periodStart g p) ∧
    (s.periodStart g p).grp[g].running = true ∧ (s.periodStart g p).grp[g].seq = s.nextSeq g ∧
    (s.periodStart g p).grp[g].f = (if s.grp[g].running then fillOf ((s.endPeriod g).excess g p.part) else 2) ∧
    (s.periodStart g p).grp[g].slot = 0 ∧ (s.periodStart g p).grp[g].sent.length = s.gsize g := by
  generalize hx : s.periodStart g p = x
  unfold State.periodStart at hx
  rw [if_neg (by rw [hs]; decide)] at hx
  extract_lets seq e f a idle wps words b d at hx
  subst hx
  have ha : SendMoves g s a := (endPeriod_sends s g).trans (epochTick_closes _ g seq).sends
  have hd : SendMoves g s d := ha.trans (((setSeal_closes a g _).trans (setSeal_closes _ g _)).trans (setGrp_closes b g _)).sends
  obtain ⟨hm, hg⟩ := laneMilestones_sends d g seq f idle (d.glanes g)
  have hsent : words.length = s.gsize g := by
    simp only [words, List.length_map, List.length_range, State.gsize, ha.tiling]
  refine ⟨hd.trans hm, ?_⟩
  simp only [hg]
  clear_value a b words
  simp only [d, State.setGrp, upd_at]
  exact ⟨trivial, rfl, rfl, trivial, hsent⟩

end

/-! ### Host codewords -/

section
variable {s : State} {g : Fin 8} {m : CodewordResult}

/-- R133, R200: the oldest codeword of the ingress buffer fills the next data slot. -/
theorem fillSlots_one {c : Carried} {r : List Carried} (h : s.grp[g].ingress = c :: r) :
    s.fillSlots g 1 = { s with
      grp := upd s.grp g fun p => { p with ingress := r, slot := p.slot + 1 }
      seals := upd s.seals g fun _ => (s.fillSlots g 1).seals[g], tst := (s.fillSlots g 1).tst
      txOut := s.txOut.set g.val (injectSlots (fun p => s.tst[Fin.ofNat 24 (16 + g.val + p)].pend)
        (if s.grp[g].txIdle then [] else [s.placed g s.grp[g].slot c])) g.isLt } := by
  have hn : 1 - (c :: r).length = 0 := by rw [List.length_cons]; omega
  have hm : s.makes g 0 = [] := rfl
  generalize hx : s.fillSlots g 1 = x
  unfold State.fillSlots at hx
  simp only [h, hn, hm, List.append_nil, List.take_succ_cons, List.take_zero, List.zipIdx_cons, List.zipIdx_nil, List.map_cons,
    List.map_nil, List.drop_succ_cons, List.drop_zero, Nat.add_zero] at hx
  subst hx
  simp only [State.setSeal, State.setGrp, upd_at]
  rfl

/-- R209, R210: what a host codeword is counted as, before it joins the ingress buffer. -/
def State.hostCounted (s : State) (g : Fin 8) (m : CodewordResult) : State :=
  let pass := s.grp[g].mode = 1
  let d := if pass then none else rsDecode m.bits
  let bad := !pass && d.isNone
  let a := if pass then s
    else (s.setFec g fun x => { x with host := x.host.add (d.map (·.1)) s.now }).raiseIf
      (bad && s.fec[g].host.firstUnc s.now) .fec g 0x10 1
  if bad then a.count .fec g 4 else a

/-- R211: the counts of a group's codewords after one from the host. -/
def State.hostFec (s : State) (g : Fin 8) (m : CodewordResult) : Vector Fec 8 :=
  if s.grp[g].mode = 1 then s.fec
  else upd s.fec g fun x => { x with host := x.host.add ((rsDecode m.bits).map (·.1)) s.now }

theorem hostCounted_turns : Turns { s with fec := s.hostFec g m } (s.hostCounted g m) := by
  unfold State.hostCounted
  extract_lets pass d bad a
  have ha : Turns { s with fec := s.hostFec g m } a := by
    unfold State.hostFec
    by_cases hp : s.grp[g].mode = 1
    · simp only [a, pass, hp, if_true]
      rfl
    · simp only [a, d, pass, hp, if_false]
      exact .raiseIf rfl
  split
  · exact ha.count
  · exact ha

/-- R209, R210: what the ingress buffer takes of a host codeword. -/
def State.hostCarried (s : State) (g : Fin 8) (m : CodewordResult) : Carried :=
  if s.grp[g].mode = 1 then .intact m.bits
  else .message (match rsDecode m.bits with
    | some x => if m.marks then Config.amPlace x.2 else x.2
    | none => Config.errorMessage)

theorem carried_eq : s.carried g m (if s.grp[g].mode = 1 then none else rsDecode m.bits) = s.hostCarried g m := by
  unfold State.carried State.hostCarried
  by_cases hp : s.grp[g].mode = 1
  · rw [if_pos hp, if_pos hp]
  · rw [if_neg hp, if_neg hp, if_neg hp]
    cases rsDecode m.bits <;> rfl

theorem hostCodeword_carried (hs : s.sends g = true) (hu : s.usable [64] = true) (hl : s.hostLocked g = true)
    (hj : s.scanHolds = false) (hf : s.framedGen g = false) (hr : s.grp[g].running = true)
    (hn : s.grp[g].slot < 2048 * s.gsize g) :
    s.hostCodeword g m = ((s.hostCounted g m).setGrp g fun p => { p with
      ingress := p.ingress ++ [s.hostCarried g m], madeAt := s.now, made := 0 }).fillSlots g 1 := by
  have hg : s.generates g = false := by unfold State.generates; rw [hl, hf]; rfl
  have hc : (s.hostCounted g m).grp[g].running = true := by
    have hg' : (s.hostCounted g m).grp = s.grp := by rw [hostCounted_turns]
    rw [hg', hr]
  have hx : s.hostCodeword g m = ((s.hostCounted g m).setGrp g fun p => { p with
      ingress := if p.running then p.ingress ++ [s.hostCarried g m]
        else keepLast (12 * s.gsize g) p.ingress (s.hostCarried g m)
      madeAt := s.now, made := 0 }).fillSlots g 1 := by
    rw [← carried_eq]
    unfold State.hostCodeword
    simp only [hs, hu, hl, hj, hg, hr, hn, Bool.not_true, Bool.or_self, Bool.false_eq_true, if_false, if_true, decide_true,
      Bool.and_self]
    rfl
  rw [hx]
  refine congrArg (fun v => ({ s.hostCounted g m with grp := v } : State).fillSlots g 1) (upd_congr ?_)
  simp only [hc, if_true]

theorem headD_drop {α : Type} (l : List α) (c : α) : l ++ [c] = l.headD c :: (l ++ [c]).drop 1 := by
  cases l <;> rfl

/-- R133, R200, R209: a host codeword of a running group: what the ingress buffer keeps, and the data slot that is filled. -/
theorem hostCodeword_fills (hs : s.sends g = true) (hu : s.usable [64] = true) (hl : s.hostLocked g = true)
    (hj : s.scanHolds = false) (hf : s.framedGen g = false) (hr : s.grp[g].running = true)
    (hn : s.grp[g].slot < 2048 * s.gsize g) :
    Turns { s with
      fec := s.hostFec g m
      grp := upd s.grp g fun x => { x with
        slot := s.grp[g].slot + 1, ingress := (x.ingress ++ [s.hostCarried g m]).drop 1, madeAt := s.now, made := 0 }
      seals := upd s.seals g fun _ => (s.hostCodeword g m).seals[g], tst := (s.hostCodeword g m).tst
      txOut := s.txOut.set g.val (s.hostCodeword g m).txOut[g] g.isLt } (s.hostCodeword g m) ∧
    (s.grp[g].txIdle = true → (s.hostCodeword g m).txOut[g] = []) ∧
    (s.grp[g].txIdle = false → s.tst[Fin.ofNat 24 (16 + g.val + s.grp[g].slot % s.gsize g)].pend = [] →
      (s.hostCodeword g m).txOut[g] = [s.placed g s.grp[g].slot (s.grp[g].ingress.headD (s.hostCarried g m))]) := by
  rw [hostCodeword_carried hs hu hl hj hf hr hn]
  have ht := hostCounted_turns (s := s) (g := g) (m := m)
  generalize s.hostCounted g m = a at ht ⊢
  obtain ⟨o, k, q, r, rfl⟩ := turns_iff.1 ht
  generalize s.hostCarried g m = c
  generalize hu : State.setGrp _ g _ = u
  have hg : u.grp[g] = { s.grp[g] with ingress := s.grp[g].ingress ++ [c], madeAt := s.now, made := 0 } := by
    rw [← hu]
    exact upd_at ..
  have hx := fillSlots_one (s := u) (by rw [hg]; exact headD_drop s.grp[g].ingress c)
  generalize u.fillSlots g 1 = y at hx ⊢
  have hout := (congrArg (·.txOut[g]) hx).trans (Vector.getElem_set_self ..)
  rw [hg] at hout
  refine ⟨?_, fun hi => ?_, fun hi hp => ?_⟩
  · rw [hout]
    subst hu
    refine turns_iff.2 ⟨o, k, q, r, hx.trans ?_⟩
    simp only [State.setGrp, upd_upd, upd_at]
    rfl
  · rw [hout, hi]
    rfl
  · have hpl (n : Nat) (v : Carried) : u.placed g n v = s.placed g n v := by
      have hs' : u.seals = s.seals := by rw [← hu]; rfl
      unfold State.placed
      rw [hg, hs', show u.gsize g = s.gsize g by rw [← hu]; rfl]
    rw [hout, hi, if_neg (by decide), hpl, show u.tst = s.tst by rw [← hu]; rfl]
    unfold State.placed
    simp only [injectSlots, hp, injectRs, List.foldl_nil]

end

/-! ### Line codewords -/

/-- R122: whether a group receives frames is read of milestone lock, inner lock, deskew and IDLE periods alone. -/
theorem noFrames_congr (s : State) (g : Fin 8) {v : Vector Lfd 8} {w : Vector Grp 8}
    (hv : ∀ k : Fin 8, v[k].msLock = s.lfd[k].msLock ∧ v[k].inner = s.lfd[k].inner)
    (hw : w[g].deskewed = s.grp[g].deskewed ∧ w[g].idleRx = s.grp[g].idleRx) :
    ({ s with lfd := v, grp := w } : State).noFrames g = s.noFrames g := by
  have hl (k : Fin 8) : ({ s with lfd := v, grp := w } : State).operLrx k = s.operLrx k := by
    have hi : ({ s with lfd := v, grp := w } : State).lineLock k = s.lineLock k := by
      unfold State.lineLock
      simp only [(hv k).2]
      rfl
    unfold State.operLrx
    rw [hi]
    rfl
  unfold State.noFrames
  simp only [hl, (hv _).1, hw.1, hw.2]
  rfl

/-- R202: the egress buffer and what leaves it, where the group's state towards the host is that of `s`. -/
theorem deliverOut_of (c : State) (g : Fin 8) (out : Output) {held bad : Prop} [Decidable held] [Decidable bad]
    (hh : c.passHeld g = true ↔ held)
    (hb : (!c.isUp .grp g || c.noFrames g || c.failClosed g || c.grp[g].outRange) = true ↔ bad) :
    let all := c.egress[g] ++ [if held then out.lost else out]
    let leave := all.take (all.length - 32 * c.gsize g)
    Turns { c with egress := c.egress.set g.val (all.drop (all.length - 32 * c.gsize g)) g.isLt
                   hostOut := c.hostOut.set g.val (if bad then leave.map Output.lost else leave) g.isLt } (c.deliverOut g [out]) := by
  have hall : (if c.passHeld g then [out].map Output.lost else [out]) = [if held then out.lost else out] := by
    by_cases h : held
    · rw [if_pos h, if_pos (hh.2 h)]; rfl
    · rw [if_neg h, if_neg (mt hh.1 h)]
  unfold State.deliverOut
  simp only [hall, hb]
  rfl

section
variable (s : State) (g l : Fin 8) (m : CodewordResult)

/-- R209, R242: the message of a data slot, decrypted in a SEALED group. -/
def State.linePlain : BitVec 5140 :=
  let msg := ((rsDecode m.bits).map (·.2)).getD (BitVec.ofNat 5140 m.bits.toNat)
  if s.grp[g].mode = 3 then (s.decrypted g l msg).getD (Config.keyless msg) else msg

/-- R209 to R211, R243: what a data slot is counted as, and what the tag of its period takes of it, before it goes to the host. -/
def State.lineHeard : State :=
  let b := ((s.lineStats g ((rsDecode m.bits).map (·.1))).setLfd l fun f => { f with slot := f.slot + 1 }).markersSeen g m
    (s.linePlain g l m)
  if s.grp[g].mode == 3 && s.seals[g].keys.isSome then { b with srx := upd b.srx l fun q => q ++ [s.linePlain g l m] } else b

theorem lineStats_turns (n : Option Nat) : Turns { s with fec := upd s.fec g fun y =>
    { (s.lineStats g n).fec[g] with line := y.line.add n s.now, host := y.host } } (s.lineStats g n) := by
  have h : ∃ k : Fec → Nat, Turns { s with fec := upd s.fec g fun y => { y with line := y.line.add n s.now, count := k y } } (s.lineStats g n) := by
    unfold State.lineStats
    extract_lets low a b
    have hb : Turns { s with fec := upd s.fec g fun y => { y with line := y.line.add n s.now, count := y.count + b2n low } } b :=
      .signal (.raiseIf rfl)
    refine ⟨fun y => y.count + b2n low, ?_⟩
    split <;> exact hb.signal
  obtain ⟨k, h⟩ := h
  have hg : (s.lineStats g n).fec[g] = { s.fec[g] with line := s.fec[g].line.add n s.now, count := k s.fec[g] } :=
    (congrArg (·.fec[g]) h).trans (upd_at ..)
  rw [hg]
  exact h

theorem sealed_keys (n : Nat) (k : Option Keys) : (n == 3 && k.isSome) = decide (n = 3 ∧ k ≠ none) := by
  rw [Bool.eq_iff_iff]
  cases k <;> simp

/-- R209 to R211, R243: what a data slot leaves beside the buffers towards the host, with the counts and the BIP of `x`. -/
abbrev State.lineNext (x : State) : State :=
  { s with
    lfd := upd s.lfd l fun y => { y with slot := y.slot + 1 }
    fec := upd s.fec g fun y => { x.fec[g] with line := y.line.add ((rsDecode m.bits).map (·.1)) s.now, host := y.host }
    grp := upd s.grp g fun y => { y with bip := x.grp[g].bip, marks := x.grp[g].marks }
    srx := if s.grp[g].mode = 3 ∧ s.seals[g].keys ≠ none then upd s.srx l fun v => v ++ [s.linePlain g l m] else s.srx }

theorem lineHeard_turns : Turns (s.lineNext g l m (s.lineHeard g l m)) (s.lineHeard g l m) ∧
    (s.lineHeard g l m).grp[g].marks = if s.grp[g].mode = 1 ∧ m.marks then s.grp[g].marks + 1 else s.grp[g].marks := by
  have ha := lineStats_turns s g ((rsDecode m.bits).map (·.1))
  unfold State.lineNext State.lineHeard
  generalize s.lineStats g ((rsDecode m.bits).map (·.1)) = a at ha ⊢
  extract_lets +onlyGivenNames b
  generalize a.fec[g] = F at ha
  obtain ⟨o, k, q, n, rfl⟩ := turns_iff.1 ha
  have hbm : b.grp[g].marks = if s.grp[g].mode = 1 ∧ m.marks then s.grp[g].marks + 1 else s.grp[g].marks := by
    simp only [b, State.markersSeen, State.setGrp, State.setLfd, upd_at]
  have hb : Turns { s with
      lfd := upd s.lfd l fun y => { y with slot := y.slot + 1 }
      fec := upd s.fec g fun y => { b.fec[g] with line := y.line.add ((rsDecode m.bits).map (·.1)) s.now, host := y.host }
      grp := upd s.grp g fun y => { y with bip := b.grp[g].bip, marks := b.grp[g].marks } } b := by
    simp only [b, State.markersSeen, State.setGrp, State.setLfd, upd_at]
    rfl
  clear_value b
  rw [sealed_keys]
  by_cases hd : s.grp[g].mode = 3 ∧ s.seals[g].keys ≠ none
  · simp only [if_pos hd, decide_eq_true hd, if_true]
    refine ⟨?_, hbm⟩
    rw [show b.srx = s.srx by rw [hb]]
    exact congrArg (fun t : State => { t with srx := upd s.srx l fun q => q ++ [s.linePlain g l m] }) hb
  · simp only [if_neg hd, decide_eq_false hd, Bool.false_eq_true, if_false]
    exact ⟨hb, hbm⟩

theorem lineHeard_goesOn : s.obs.GoesOn (s.lineHeard g l m).obs := by
  have hs (n : Option Nat) : s.obs.GoesOn (s.lineStats g n).obs := by
    unfold State.lineStats
    extract_lets low a b
    have hb : s.obs.GoesOn b.obs := (raiseIf_goesOn (s.setFec g _) _ _ _ _ _).trans (signal_goesOn a _ _ _ _)
    split <;> exact hb.trans (signal_goesOn b _ _ _ _)
  unfold State.lineHeard
  split <;> exact hs _

end

section
variable {s : State} {g l : Fin 8} {m : CodewordResult} {q : Nat} {x : List Word} (hg : s.groupOf l = some g.val)
  (hk : s.lfd[l].msLock = true) (hu : s.usable [66, 67] = true) (hs : s.lfd[l].slot < 2048) (hx : s.lfd[l].last = some x)
  (hty : msType x ≠ 2) (hm : s.grp[g].mode ≠ 0) (hj : s.joined g l = some q)
include hg hk hu hs hx hty hm hj

theorem lineCodeword_of : s.lineCodeword l m =
      let out := s.slotOut g l q m (rsDecode m.bits).isSome (s.linePlain g l m)
      let c := s.lineHeard g l m
      if s.grp[g].mode == 3 && !s.seals[g].stream then
        (if s.seals[g].keys.isSome then { c with lay := upd c.lay l fun q => q ++ [(s.lfd[l].period, out)] } else c)
      else c.deliverOut g [out] := by
  have hty' : (msType x == 2) = false := by simpa using hty
  have hn : ¬ 2048 ≤ s.lfd[l].slot := by omega
  unfold State.lineCodeword
  simp only [hg, lineLane_val, hk, hu, hn, hx, Option.all_some, hty', hm, hj, Bool.not_true, decide_false, Bool.or_self,
    Bool.false_eq_true, or_self, if_false]
  unfold State.lineHeard State.linePlain
  cases rsDecode m.bits <;> simp only [beq_iff_eq] <;> rfl

/-- R122, R123, R202: a data slot that goes to the egress buffer at once. -/
theorem lineCodeword_delivered (hst : s.grp[g].mode ≠ 3 ∨ s.seals[g].stream = true) :
    let out := s.slotOut g l q m (rsDecode m.bits).isSome (s.linePlain g l m)
    let held := s.grp[g].mode = 1 ∧ s.obs.held[g] = some (s.grp[g].marks + b2n m.marks)
    let bad := s.isUp .grp g = false ∨ s.noFrames g = true ∨ s.failClosed g = true ∨ s.grp[g].outRange = true
    let all := s.egress[g] ++ [if held then out.lost else out]
    let leave := all.take (all.length - 32 * s.gsize g)
    Turns { s.lineNext g l m (s.lineCodeword l m) with
      egress := s.egress.set g.val (all.drop (all.length - 32 * s.gsize g)) g.isLt
      hostOut := s.hostOut.set g.val (if bad then leave.map Output.lost else leave) g.isLt } (s.lineCodeword l m) := by
  intro out held bad
  have hc : (s.grp[g].mode == 3 && !s.seals[g].stream) = false := by
    rcases hst with h | h
    · rw [beq_eq_false_iff_ne.2 h]; rfl
    · rw [h]; exact Bool.and_false _
  have hx := lineCodeword_of (m := m) hg hk hu hs hx hty hm hj
  dsimp only at hx
  rw [hc, if_neg (by decide)] at hx
  rw [hx]
  obtain ⟨ht, hmarks⟩ := lineHeard_turns s g l m
  have hobs := (lineHeard_goesOn s g l m).held
  generalize s.lineHeard g l m = c at ht hmarks hobs ⊢
  have hg' : c.grp[g] = { s.grp[g] with bip := c.grp[g].bip, marks := c.grp[g].marks } :=
    (congrArg (·.grp[g]) ht).trans (upd_at s.grp g _)
  have hheld : c.passHeld g = true ↔ held := by
    unfold State.passHeld
    rw [hobs, hmarks, show c.grp[g].mode = s.grp[g].mode by rw [hg'], Bool.and_eq_true, beq_iff_eq, beq_iff_eq]
    refine and_congr_right fun h1 => ?_
    have hadd : (if s.grp[g].mode = 1 ∧ m.marks then s.grp[g].marks + 1 else s.grp[g].marks) = s.grp[g].marks + b2n m.marks := by
      cases m.marks with
      | true => exact if_pos ⟨h1, rfl⟩
      | false => exact if_neg fun h => nomatch h.2
    rw [hadd]
  have hbad : (!c.isUp .grp g || c.noFrames g || c.failClosed g || c.grp[g].outRange) = true ↔ bad := by
    have hn : c.noFrames g = s.noFrames g := by
      have hv (k : Fin 8) : c.lfd[k].msLock = s.lfd[k].msLock ∧ c.lfd[k].inner = s.lfd[k].inner := by
        rw [show c.lfd = upd s.lfd l fun y => { y with slot := y.slot + 1 } from congrArg State.lfd ht]
        by_cases h : l = k
        · subst h
          rw [upd_at]
          exact ⟨rfl, rfl⟩
        · rw [upd_get_ne _ _ h]
          exact ⟨rfl, rfl⟩
      refine .trans ?_ (noFrames_congr s g (v := c.lfd) (w := c.grp) hv (by rw [hg']; exact ⟨rfl, rfl⟩))
      obtain ⟨v, w, e, r, o, k, q, n, h⟩ : ∃ v w e r o k q n, c = { s with
          lfd := v, grp := w, fec := e, srx := r, obs := o, mon := k, stats := q, free := n } := ⟨_, _, _, _, _, _, _, _, ht⟩
      rw [h]
      rfl
    have hu' : c.isUp .grp g = s.isUp .grp g := by rw [ht]; rfl
    have hf : c.failClosed g = s.failClosed g := by
      unfold State.failClosed
      rw [hg', show c.seals = s.seals by rw [ht]]
    rw [hn, hu', hf, show c.grp[g].outRange = s.grp[g].outRange by rw [hg']]
    simp only [bad, Bool.or_eq_true, Bool.not_eq_true', or_assoc]
  have hd := deliverOut_of c g out hheld hbad
  have he : c.egress = s.egress ∧ c.hostOut = s.hostOut ∧ c.gsize g = s.gsize g := by
    rw [ht]
    exact ⟨rfl, rfl, rfl⟩
  obtain ⟨he, ho, hs⟩ := he
  dsimp only at hd
  rw [he, ho, hs] at hd
  obtain ⟨all, hall⟩ : ∃ a, s.egress[g] ++ [if held then out.lost else out] = a := ⟨_, rfl⟩
  rw [hall] at hd ⊢
  generalize c.deliverOut g [out] = y at hd ⊢
  have hnext : s.lineNext g l m y = s.lineNext g l m c := by
    unfold State.lineNext
    rw [show y.fec = c.fec by rw [hd], show y.grp = c.grp by rw [hd]]
  rw [hnext]
  generalize s.lineNext g l m c = z at ht
  obtain ⟨o, k, q, n, rfl⟩ := turns_iff.1 ht
  exact hd

/-- R249: a data slot of a SEALED group in HOLD waits for the tags of its period. -/
theorem lineCodeword_laid (h3 : s.grp[g].mode = 3) (hst : s.seals[g].stream = false) (hkeys : s.seals[g].keys ≠ none) :
    Turns { s.lineNext g l m (s.lineCodeword l m) with
      lay := upd s.lay l fun v => v ++ [(s.lfd[l].period, s.slotOut g l q m (rsDecode m.bits).isSome (s.linePlain g l m))] }
      (s.lineCodeword l m) := by
  have hx := lineCodeword_of (m := m) hg hk hu hs hx hty hm hj
  have hk' : s.seals[g].keys.isSome = true := by rwa [Option.isSome_iff_ne_none]
  simp only [h3, hst, hk', beq_self_eq_true, Bool.not_false, Bool.and_self, if_true] at hx
  rw [hx]
  obtain ⟨ht, -⟩ := lineHeard_turns s g l m
  generalize s.lineHeard g l m = c at ht ⊢
  rw [show c.lay = s.lay by rw [ht]]
  generalize (upd s.lay l fun v => v ++ [(s.lfd[l].period, _)]) = lay
  exact congrArg (fun t : State => { t with lay := lay }) ht

end

/-- Settles O28, by what the start of a period, a host codeword and a data slot do to the group and its buffers. -/
theorem codewordsAreCarried : Obligations.CodewordsAreCarried := by
  unfold Obligations.CodewordsAreCarried
  intro s dt g l p m n k pos mode got
  refine ⟨fun hs => ?_, fun hs hu hl hj hf hr hn => ?_, fun x q hg hk hu hsl hx hty hm hjo => ?_⟩
  · refine event_gives (·.periodStart g p) fun o _ => ?_
    obtain ⟨ht, hr, hq, hf, hsl, hse⟩ := periodStart_of { s.later dt with obs := o } g p hs
    refine ⟨turns_becomes ht, hr, hq, ?_, hsl, hse⟩
    refine hf.trans ?_
    rw [endPeriod_obs]
    rfl
  · intro c first
    refine event_gives (·.hostCodeword g m) fun o _ => ?_
    obtain ⟨ht, hidle, hdata⟩ := hostCodeword_fills (s := { s.later dt with obs := o }) (m := m) hs hu hl hj hf hr hn
    exact ⟨turns_becomes ht, hidle, hdata⟩
  · intro msg plain out next
    refine ⟨fun hst => ?_, fun h3 hst hkeys => ?_⟩
    · intro held bad
      obtain ⟨all, hall⟩ : ∃ a, s.egress[g] ++ [if held then out.lost else out] = a := ⟨_, rfl⟩
      rw [hall]
      refine event_gives (·.lineCodeword l m) fun o hgo => ?_
      have ht := lineCodeword_delivered (s := { s.later dt with obs := o }) (m := m) hg hk hu hsl hx hty hm hjo hst
      rw [show ({ s.later dt with obs := o } : State).obs.held = s.obs.held from hgo.held] at ht
      rw [← hall]
      exact turns_becomes ht
    · refine event_gives (·.lineCodeword l m) fun o hgo => ?_
      exact turns_becomes (lineCodeword_laid (s := { s.later dt with obs := o }) (m := m) hg hk hu hsl hx hty hm hjo h3 hst hkeys)

end Sys2Proof.Machine

/-! ## The commands of class SEAL (R236, R241, R246, R248, R259, R260) -/

namespace Sys2Proof.Machine

theorem instances_seal (i : Fin 8) : i.val ∈ instances .seal := List.mem_range.2 i.isLt

/-- A command to one unit that passes check 10, run to its effect and its reply. -/
theorem unit_does_leveled {row : Nat → Cmd → Instr} {s : State} {dt : Nat} (sp : CmdSpec) {c : Cls} {i : Nat} {g f : Byte}
    {ps : List Word} {e : State → State} {pay : State → List Word} (ht : s.takes) (hrun : s.anyRun = true)
    (hi : i ∈ instances c) (hlev : ∀ o m w, (s.heard dt o m w).level sp (unitReq c i sp.op g ps) = none)
    (hu : ∀ o m w, s.meets sp (sp.isl (s.heard dt o m w) (unitReq c i sp.op g ps)))
    (h : ∀ o m w, s.obs.GoesOn o → Served sp (s.heard dt o m w) (unitReq c i sp.op g ps))
    (hx : ∀ o m w, s.obs.GoesOn o → (sp.act (s.heard dt o m w) (unitReq c i sp.op g ps)).pay = pay (s.later dt) ∧
      Effects s (e (s.later dt)) (sp.after (sp.act (s.heard dt o m w) (unitReq c i sp.op g ps)).st [i]))
    (hrow : exec (row dt (cmdTo i g f ps)) s = .next (hostRow dt sp c (cmdTo i g f ps) s) := by rfl)
    (hav : sp.avail = availRun := by rfl) (hacc : sp.accepts c i = true := by rfl)
    (hop : (BitVec.ofNat 8 sp.op).toNat = sp.op := by rfl) (hg : sp.groupCmd = false := by rfl)
    (hisl : ∀ b : State, sp.isl b { unitReq c i sp.op g ps with all := [] } = sp.isl b (unitReq c i sp.op g ps) := by
      intros; rfl)
    (hlate : sp.late = fun t _ => t := by rfl) : Does row c s dt (cmdTo i g f ps) e pay := by
  refine unit_gives_leveled sp ht hrun hi hlev hu h (fun o m w hkeep => ?_) hrow hav hacc hop hg hisl hlate
  obtain ⟨hpay, heff⟩ := hx o m w hkeep
  rw [hpay]
  exact answered_effects ht.2.2.1 heff

/-- R236: a payload command in OWNED with its permit, or without an owner, passes check 10. -/
theorem waypost_level {s b : State} {sp : CmdSpec} {r : Req} (hf : b.fuse = s.fuse) (hc : b.sec = s.sec)
    (ha : s.owned = false ∨ s.permit 2 = true) (hs : sp.secure = waypostSecure) (ho : sp.op < 0x80) (hct : sp.counter = false)
    (hd : sp.denied b r = false) (hl : sp.locked b r = false) : b.level sp r = none := by
  refine level_basic ho ?_ hct hd hl
  have hown : b.owned = s.owned := by simp only [State.owned, State.lifecycle, hf]
  have hper : b.permit 2 = s.permit 2 := by simp only [State.permit, hc]
  rw [hs]
  unfold waypostSecure
  rw [hown, hper]
  rcases ha with h | h
  · rw [h]; rfl
  · rw [h]; exact Bool.and_false _

/-- R259: neither a handshake nor an announcement runs. -/
theorem sealBusy_none {s : State} {i : Fin 8} {op : Nat} {g : Byte} (hid : s.seals[i].hs.phase = .idle) (hann : s.seals[i].ann = none) :
    sealBusy s (unitReq .seal i op g []) = none := by
  unfold sealBusy
  simp only [lineLane_val, hid, hann]
  rfl

/-- Settles O30. -/
theorem sealCommandsTakeEffect : Obligations.SealCommandsTakeEffect := by
  intro s dt i g f w d ht hrun c put
  have hi := instances_seal i
  refine ⟨?_, fun hid hann hu ha => ⟨fun hm => ?_, fun hup => ?_⟩, fun ha hu htst hw hne => ?_, fun ha hw h1 h2 hd hsz hq => ?_,
    fun ha => ?_⟩
  · exact unit_does specSealInfoGet (k := .basic) ht hrun hi trivial (fun _ _ _ => meets_of_nil)
      (fun _ _ _ _ => ⟨rfl, rfl, rfl, rfl, rfl, rfl⟩) (fun _ _ _ _ => ⟨by simp only [specSealInfoGet, answer, lineLane_val]; rfl, rfl⟩)
  · refine unit_does specSealRehandshake (k := .secure) ht hrun hi ha (fun _ _ _ => meets_of_workable hu)
      (fun o m v _ => ⟨rfl, rfl, ?_, ?_, rfl, rfl⟩)
      (fun _ _ _ _ => ⟨rfl, by simp only [specSealRehandshake, change, lineLane_val]; rfl⟩)
    · exact sealBusy_none hid hann
    · refine if_pos ?_
      simp only [lineLane_val, Bool.or_eq_true, Bool.and_eq_true, beq_iff_eq]
      exact hm
  · refine unit_does specSealEpochAdvance (k := .secure) ht hrun hi ha (fun _ _ _ => meets_of_workable hu)
      (fun o m v _ => ⟨rfl, rfl, ?_, ?_, rfl, rfl⟩)
      (fun _ _ _ _ => ⟨rfl, by simp only [specSealEpochAdvance, change, lineLane_val]; rfl⟩)
    · exact sealBusy_none hid hann
    · refine if_pos ?_
      simp only [lineLane_val, beq_iff_eq]
      exact hup
  · exact unit_does specSealTagCorrupt (k := .secure) ht hrun hi ha (fun _ _ _ => meets_of_workable hu)
      (fun o m v _ => ⟨rfl, firstBad_one (by simpa using ⟨hw, hne⟩), rfl, if_pos (test_of_eq htst), rfl, rfl⟩)
      (fun _ _ _ _ => ⟨rfl, by simp only [specSealTagCorrupt, change, lineLane_val]; rfl⟩)
  · refine unit_does_leveled specSealWaypostSend ht hrun hi (fun _ _ _ => waypost_level (s := s) rfl rfl ha rfl (by decide) rfl rfl rfl)
      (fun _ _ _ => meets_of_nil) (fun o m v _ => ⟨?_, firstBad_one ?_, if_pos ?_, if_pos ?_, rfl, rfl⟩)
      (fun _ _ _ _ => ⟨rfl, by simp only [specSealWaypostSend, change, lineLane_val]; rfl⟩)
    · simp only [specSealWaypostSend, List.length_cons, Bool.and_eq_true, decide_eq_true_eq]
      omega
    · simp only [unitReq_p, List.length_cons, hw, hd, h1, h2, decide_true, Bool.and_self, Bool.true_and, beq_iff_eq]
      omega
    · simp only [lineLane_val, decide_eq_true_eq]
      exact hq
    · exact bne_iff_ne.2 hsz
  · exact unit_does_leveled specSealWaypostRead ht hrun hi (fun _ _ _ => waypost_level (s := s) rfl rfl ha rfl (by decide) rfl rfl rfl)
      (fun _ _ _ => meets_of_nil) (fun o m v _ => ⟨rfl, rfl, rfl, rfl, rfl, rfl⟩)
      (fun _ _ _ _ => ⟨by simp only [specSealWaypostRead, lineLane_val]; rfl, by simp only [specSealWaypostRead, lineLane_val]; rfl⟩)

end Sys2Proof.Machine

/-! ## Handshakes and peers (R228, R233 to R241, R244, R248, R252) -/

namespace Sys2Proof.Machine

/-! ### Messages (R234) -/

theorem fit_length (n : Nat) (l : List Word) : (fit n l).length = n := by
  simp [fit]

theorem msgHeader_length (type bytes attempt : Nat) : (msgHeader type bytes attempt).length = 4 := rfl

/-- R234: the type and the version that the header of a message carries. -/
theorem msgHeader_fields {type : Nat} (ht : type < 16) :
    fld (pk [(type, 0), (1, 8)]) 0 8 = type ∧ fld (pk [(type, 0), (1, 8)]) 8 8 = 1 := by
  have h : ∀ t < 16, fld (pk [(t, 0), (1, 8)]) 0 8 = t ∧ fld (pk [(t, 0), (1, 8)]) 8 8 = 1 := by decide
  exact h type ht

theorem msgType_header {type : Nat} (bytes att : Nat) (body : List Word) (ht : type < 16) :
    msgType (msgHeader type bytes att ++ body) = type :=
  (msgHeader_fields ht).1

/-- R234: a message with the header and the length of its type is well formed. -/
theorem msgOk_header {type bytes : Nat} (att : Nat) {body : List Word} (ht : type < 16) (hb : bytes = 4 * msgWords type)
    (hl : body.length + 4 = msgWords type) : msgOk type (msgHeader type bytes att ++ body) = true := by
  have hw : 4 * msgWords type < 2 ^ 32 := by
    have h : ∀ t < 16, 4 * msgWords t < 2 ^ 32 := by decide
    exact h type ht
  have hn : (w32 bytes).toNat = 4 * msgWords type := by
    rw [hb]
    exact Nat.mod_eq_of_lt hw
  have hlen : (msgHeader type bytes att ++ body).length = msgWords type := by
    rw [List.length_append, msgHeader_length]
    omega
  unfold msgOk
  rw [msgType_header bytes att body ht, hlen, show (msgHeader type bytes att ++ body).getD 1 0 = w32 bytes from rfl, hn,
    show (msgHeader type bytes att ++ body).getD 0 0 = pk [(type, 0), (1, 8)] from rfl, (msgHeader_fields ht).2]
  simp only [beq_self_eq_true, Bool.and_self]

/-! ### Rows that change one sealed link alone -/

/-- From `s` to `x` only the sealed link of group `g` has changed, beside what MC and the counting hardware keep. -/
def SealOnly (g : Fin 8) (s x : State) : Prop := Turns { s with seals := upd s.seals g fun _ => x.seals[g] } x

section
variable {g : Fin 8} {s x y : State}

theorem sealOnly_intro (c : Seal) (hx : Turns { s with seals := upd s.seals g fun _ => c } x) : SealOnly g s x ∧ x.seals[g] = c := by
  have hs : x.seals = upd s.seals g fun _ => c := by rw [hx]
  have hs' : x.seals[g] = c := by rw [hs]; exact upd_at ..
  refine ⟨?_, hs'⟩
  unfold SealOnly
  rw [hs']
  exact hx

/-- R248, R377: the pause of the throttle stage changes nothing but the time before which nothing leaves. -/
theorem paced_only {f : State → State} (h : SealOnly g s (f s)) : SealOnly g s (State.paced f g s) ∧
    (∃ n, (State.paced f g s).seals[g] = { (f s).seals[g] with pacedTo := n }) ∧ (State.paced f g s).obs = (f s).obs := by
  unfold State.paced
  extract_lets t
  split
  · refine ⟨?_, ⟨_, upd_at ..⟩, rfl⟩
    obtain ⟨o, m, k, n, hx⟩ := turns_iff.1 h
    refine (sealOnly_intro { t.seals[g] with pacedTo := s.now + s.pauseNs 2 10 } ?_).1
    refine turns_iff.2 ⟨o, m, k, n, ?_⟩
    have ht : t = _ := hx
    rw [ht]
    simp only [State.setSeal, upd_upd, upd_at]
  · exact ⟨h, ⟨_, rfl⟩, rfl⟩

/-- What such a row leaves. -/
theorem sealOnly_becomes {dt : Nat} {o : Obs} (h : SealOnly g { s.later dt with obs := o } x) :
    Becomes dt { s with seals := upd s.seals g fun _ => (finish x).seals[g] } (finish x) :=
  turns_becomes h

end

/-- An event row of a sealed link that waits for the pause of the throttle stage: `P` need hold of what its event makes of that link,
whatever the pause, and of what it raises. -/
theorem paced_gives {instr : Instr} {s : State} {dt : Nat} {g : Fin 8} (f : State → State) {P : State → Prop}
    (h : ∀ o, s.obs.GoesOn o → ∃ c, Turns { s.later dt with seals := upd s.seals g fun _ => c } (f { s.later dt with obs := o }) ∧
      ∀ t, Becomes dt { s with seals := upd s.seals g fun _ => t.seals[g] } t → t.now = s.now + dt →
        (∃ n, t.seals[g] = { c with pacedTo := n }) →
        (∀ c i code arg, Raises { s.later dt with obs := o } (f { s.later dt with obs := o }) c i code arg → Raised s t c i code arg) →
        P t)
    (hrow : exec instr s = .next (eventRow dt (State.paced f g) s) := by rfl) : Gives instr s P := by
  refine event_gives (State.paced f g) (fun o ho => ?_) hrow
  obtain ⟨c, hc, hP⟩ := h o ho
  obtain ⟨hf, hs⟩ := sealOnly_intro (s := { s.later dt with obs := o }) c hc
  obtain ⟨hp, ⟨n, hn⟩, hobs⟩ := paced_only hf
  have hnow : (State.paced f g { s.later dt with obs := o }).now = s.now + dt := Turns.now hp
  exact hP _ (sealOnly_becomes hp) hnow ⟨n, by rw [← hs]; exact hn⟩
    fun c i code arg hr => finish_raised (s' := { s.later dt with obs := o }) (hr.mono (by rw [hobs])) hnow

end Sys2Proof.Machine

/-! ## A handshake goes from HELLO to keys (R228, R237 to R241, R244, R248, R252) -/

namespace Sys2Proof.Machine

section
variable {s : State} {g : Fin 8} {m : List Word}

/-! ### Peers -/

theorem helloArrives_self (hs : s.gsize g ≠ 0) (hm : s.grp[g].mode ≠ 0) (hk : msgOk 1 m = true) (hid : s.sec.identity = true)
    (heq : helloId m = identityHash) :
    CloseMoves g s (s.helloArrives g m) ∧ (s.helloArrives g m).seals[g].peered = true ∧ (s.helloArrives g m).seals[g].hello = m ∧
    (s.helloArrives g m).seals[g].selfPeer = true ∧
    (s.seals[g].selfPeer = false → Raises s (s.helloArrives g m) .seal g 0x1D 0) := by
  let t := s.setSeal g fun c => { c with peered := true, selfPeer := true, hello := m, retryAt := none }
  let u := if (s.grp[g].mode == 3 && !s.sec.zeroised) && !s.seals[g].selfPeer then t.failClose g .selfPeer else t
  have hx : s.helloArrives g m = u.raiseIf (!s.seals[g].selfPeer) .seal g 0x1D 0 := by
    unfold State.helloArrives
    simp only [hs, hm, hk, hid, heq, decide_false, Bool.not_true, Bool.or_self, Bool.false_eq_true, if_false, beq_self_eq_true,
      Bool.and_self, if_true]
    rfl
  have ht : CloseMoves g s t := setSeal_closes s g _
  have hts : t.seals[g] = _ := upd_at s.seals g _
  have hu : CloseMoves g s u ∧ (u.seals[g] = t.seals[g] ∨ u.seals[g] = t.seals[g].shut .selfPeer) := by
    simp only [u]
    split
    · obtain ⟨hc, hf, -⟩ := failClose_of t g .selfPeer
      exact ⟨ht.trans hc, .inr hf⟩
    · exact ⟨ht, .inl rfl⟩
  obtain ⟨hu, hus⟩ := hu
  rw [hx]
  refine ⟨hu.notes (raiseIf_notes ..), ?_⟩
  simp only [raiseIf_seals]
  refine ⟨?_, ?_, ?_, fun hself => raises_raiseIf u (by rw [hself]; rfl) hu.power hu.units hu.now⟩ <;>
    obtain h | h := hus <;> rw [h, hts] <;> rfl

theorem helloArrives_peer (hs : s.gsize g ≠ 0) (hm : s.grp[g].mode ≠ 0) (hk : msgOk 1 m = true)
    (hid : ¬(s.sec.identity = true ∧ helloId m = identityHash)) :
    CloseMoves g s (s.helloArrives g m) ∧ (s.helloArrives g m).seals[g].peered = true ∧ (s.helloArrives g m).seals[g].hello = m ∧
    (s.helloArrives g m).seals[g].selfPeer = false ∧ (s.helloArrives g m).seals[g].remembered = some (helloId m) ∧
    (s.seals[g].remembered = none → Raises s (s.helloArrives g m) .seal g 0x10 (m.getD 4 0)) ∧
    (∀ r, s.seals[g].remembered = some r → r ≠ helloId m → Raises s (s.helloArrives g m) .seal g 0x12 (m.getD 4 0)) := by
  have hid' : (s.sec.identity && helloId m == identityHash) = false := by
    rw [Bool.and_eq_false_iff]
    by_cases h : s.sec.identity = true
    · exact .inr (beq_eq_false_iff_ne.2 fun h' => hid ⟨h, h'⟩)
    · exact .inl (Bool.eq_false_of_not_eq_true h)
  let changed := s.seals[g].selfPeer || s.seals[g].remembered.any (· != helloId m)
  let t := if (s.grp[g].mode == 3 && !s.sec.zeroised) && changed then s.failClose g .peer else s
  let u := t.setSeal g fun c => { c with
    peered := true, selfPeer := false, hello := m, remembered := some (helloId m), retryAt := if changed then none else c.retryAt }
  have hx : s.helloArrives g m = match s.seals[g].remembered with
      | none => u.raise .seal g 0x10 (m.getD 4 0)
      | some r => u.raiseIf (r != helloId m) .seal g 0x12 (m.getD 4 0) := by
    unfold State.helloArrives
    simp only [hs, hm, hk, hid', decide_false, Bool.not_true, Bool.or_self, Bool.false_eq_true, if_false]
    rfl
  have hu : CloseMoves g s u := by
    refine CloseMoves.set ?_
    simp only [t]
    split
    · exact (failClose_of s g .peer).1
    · exact closeMoves_refl g s
  have hus : u.seals[g] = _ := upd_at t.seals g _
  rw [hx]
  cases s.seals[g].remembered with
  | none =>
    refine ⟨hu.notes (raise_notes ..), ?_⟩
    simp only [raise_seals, hus]
    exact ⟨trivial, trivial, trivial, trivial, fun _ => raises_raise u hu.power hu.units hu.now, fun _ h => nomatch h⟩
  | some r =>
    refine ⟨hu.notes (raiseIf_notes ..), ?_⟩
    simp only [raiseIf_seals, hus]
    refine ⟨trivial, trivial, trivial, trivial, fun h => (nomatch h), fun r' hr hne => ?_⟩
    obtain rfl := Option.some.inj hr
    exact raises_raiseIf u (bne_iff_ne.2 hne) hu.power hu.units hu.now

theorem peerLost_of (hl : s.grp[g].lastValid + eightPeriods ≤ s.now) (hp : s.seals[g].peered = true ∨ s.grp[g].remote ≠ 0xE) :
    CloseMoves g s (s.peerLost g) ∧ (s.peerLost g).grp[g].remote = 0xE ∧ (s.peerLost g).seals[g].peered = false ∧
    (s.peerLost g).seals[g].hello = [] ∧
    (s.seals[g].peered = true → Raises s (s.peerLost g) .seal g 0x11 (w32 s.grp[g].rxSeq)) ∧
    (s.grp[g].mode = 3 → s.sec.zeroised = false → (s.peerLost g).seals[g].keys = none) := by
  have hc : (decide (s.now < s.grp[g].lastValid + eightPeriods) || (!s.seals[g].peered && s.grp[g].remote == 0xE)) = false := by
    rw [Bool.or_eq_false_iff, Bool.and_eq_false_iff]
    refine ⟨decide_eq_false (by omega), ?_⟩
    rcases hp with h | h
    · exact .inl (by rw [h]; rfl)
    · exact .inr (beq_eq_false_iff_ne.2 h)
  let u := ((s.setGrp g fun p => { p with remote := 0xE, conflict := false, peerCfg := false, range := false }).raiseIf
    (s.grp[g].remote != 0xE) .grp g 0x19 (pk [(0xE, 0), (s.grp[g].remote, 4)]))
  let w := (u.raiseIf s.seals[g].peered .seal g 0x11 (w32 s.grp[g].rxSeq)).setSeal g fun c =>
    { c with peered := false, peerPeered := false, selfPeer := false, hello := [], retryAt := none }
  have hx : s.peerLost g = if s.grp[g].mode = 3 ∧ !s.sec.zeroised then w.failClose g .peer else w := by
    unfold State.peerLost
    simp only [hc, Bool.false_eq_true, if_false]
    rfl
  have hu : CloseMoves g s u := (setGrp_closes s g _).notes (raiseIf_notes ..)
  have hw : CloseMoves g s w := (hu.notes (raiseIf_notes ..)).set
  have hws : w.seals[g] = _ := upd_at _ g _
  have hwg : w.grp[g].remote = 0xE := by
    simp only [w, u, State.setSeal, raiseIf_grp, State.setGrp, upd_at]
  have hr (h : s.seals[g].peered = true) : Raises s w .seal g 0x11 (w32 s.grp[g].rxSeq) :=
    raises_raiseIf u h hu.power hu.units hu.now
  rw [hx]
  by_cases hz : s.grp[g].mode = 3 ∧ !s.sec.zeroised
  · rw [if_pos hz]
    obtain ⟨hf, hfs, hfg⟩ := failClose_of w g .peer
    refine ⟨hw.trans hf, ?_, ?_, ?_, fun h => (hr h).mono hf.queue, fun _ _ => ?_⟩
    · rw [hfg]; exact hwg
    · rw [hfs, hws]; rfl
    · rw [hfs, hws]; rfl
    · rw [hfs]; rfl
  · rw [if_neg hz]
    refine ⟨hw, hwg, by rw [hws], by rw [hws], hr, fun h3 h0 => absurd ⟨h3, by rw [h0]; rfl⟩ hz⟩

/-! ### The steps of a handshake (R239, R240) -/

/-- R239: the initiator begins. -/
theorem beginHandshake_sends (hc : s.canHandshake g = true) (hd : s.handshakeDue g = true) (hp : s.seals[g].hs.phase = .idle)
    (hi : s.initiates g = true) : ∃ c, Turns { s with seals := upd s.seals g fun _ => c } (s.beginHandshake g) ∧
    c.hs.phase = .sentI ∧ msgOk 2 c.hs.ksI = true ∧ c.outbox = s.seals[g].outbox ++ fragments c.hs.ksI ∧ c.retryAt = none ∧
    c.hs.attempt = (if s.seals[g].retryAt.isSome then (s.seals[g].hs.attempt + 1) % 2 ^ 32 else s.seals[g].hs.attempt) := by
  unfold State.beginHandshake
  simp only [hc, hd, hp, hi, Bool.not_true, Bool.or_self, bne_self_eq_false, Bool.false_eq_true, if_false, if_true]
  refine ⟨_, rfl, rfl, ?_, rfl, rfl, rfl⟩
  simp only [List.append_assoc]
  exact msgOk_header _ (by decide) rfl (by simp only [List.length_append, fit_length]; rfl)

/-- R239: the responder waits. -/
theorem beginHandshake_waits (hc : s.canHandshake g = true) (hd : s.handshakeDue g = true) (hp : s.seals[g].hs.phase = .idle)
    (hi : s.initiates g = false) (hk : s.seals[g].keys = none) :
    ∃ c, Turns { s with seals := upd s.seals g fun _ => c } (s.beginHandshake g) ∧ c.hs.phase = .waitI := by
  unfold State.beginHandshake
  simp only [hc, hd, hp, hi, hk, Bool.not_true, Bool.or_self, bne_self_eq_false, Bool.false_eq_true, if_false, Option.isNone_none,
    if_true]
  exact ⟨_, rfl, rfl⟩

/-- R239: step 4: the responder answers with KEYSHARE_R. -/
theorem keyshareI_of (hc : s.canHandshake g = true) (hi : s.initiates g = false)
    (hp : s.seals[g].hs.phase = .waitI ∨ s.seals[g].hs.phase = .idle) (hm : msgOk 2 m = true)
    (hg : s.chainGood g (m.drop 420) = true) (ha : s.chainAdmitted g (m.drop 420) = true) :
    ∃ c, Turns { s with seals := upd s.seals g fun _ => c } (s.keyshareIArrives g m) ∧ c.hs.phase = .sentR ∧
      c.hs.attempt = msgAttempt m ∧ c.hs.ksI = m ∧ msgOk 3 c.hs.ksR = true ∧ c.outbox = fragments c.hs.ksR := by
  have hph : ¬(s.seals[g].hs.phase ≠ .waitI ∧ s.seals[g].hs.phase ≠ .idle) := by
    rintro ⟨h1, h2⟩
    exact hp.elim h1 h2
  unfold State.keyshareIArrives
  simp only [hc, hi, hph, hm, hg, ha, Bool.not_true, Bool.not_false, Bool.and_self, Bool.false_eq_true, if_false]
  simp only [State.setSeal, upd_upd]
  refine ⟨_, rfl, rfl, rfl, rfl, ?_, rfl⟩
  simp only [List.append_assoc]
  exact msgOk_header _ (by decide) rfl (by simp only [List.length_append, fit_length]; rfl)

/-- R239: step 6: the initiator verifies, and sends FINISH_I and its CONFIRM. -/
theorem keyshareR_of (hp : s.seals[g].hs.phase = .sentI) (hm : msgOk 3 m = true) (hat : msgAttempt m = s.seals[g].hs.attempt)
    (hg : s.chainGood g ((m.drop 420).take 2760) = true)
    (hv : Config.hybridValid (certKey ((m.drop 420).take 2760)) (transcript s.seals[g].sentHello s.seals[g].hello s.seals[g].hs.ksI
      (m.take 3180)).toList (m.drop 3180) = true)
    (ha : s.chainAdmitted g ((m.drop 420).take 2760) = true) :
    ∃ c, Turns { s with seals := upd s.seals g fun _ => c } (s.keyshareRArrives g m) ∧ c.hs.phase = .sentFinish ∧
      c.hs.ksR = m ∧ c.msgs.map msgType = s.seals[g].msgs.map msgType ++ [4, 5] := by
  unfold State.keyshareRArrives
  simp only [hp, hm, hat, hg, hv, ha, reduceCtorEq, Bool.not_true, Bool.false_eq_true, ne_eq, not_true_eq_false, or_self, if_false]
  refine ⟨_, rfl, rfl, rfl, ?_⟩
  simp only [Seal.send, List.map_append, List.map_cons, List.map_nil, List.append_assoc]
  rw [msgType_header _ _ _ (by decide), msgType_header _ _ _ (by decide)]
  rfl

/-- R239: step 8: the responder holds FINISH_I. -/
theorem finishI_of (hp : s.seals[g].hs.phase = .sentR) (hm : msgOk 4 m = true) (hat : msgAttempt m = s.seals[g].hs.attempt)
    (hv : Config.hybridValid (certKey (s.seals[g].hs.ksI.drop 420)) (s.seals[g].hs.h2.getD (hashOf [])).toList (m.drop 4) = true) :
    ∃ c, Turns { s with seals := upd s.seals g fun _ => c } (s.finishIArrives g m) ∧ c.hs.phase = .gotFinish ∧
      c.hs.h3 = some (Config.sha384 ((s.seals[g].hs.h2.getD (hashOf [])).toList ++ m.drop 4)) := by
  unfold State.finishIArrives
  simp only [hp, hm, hat, hv, reduceCtorEq, Bool.not_true, Bool.false_eq_true, ne_eq, not_true_eq_false, or_self, if_false]
  exact ⟨_, rfl, rfl, rfl⟩

/-- R228, R239, R244, R248: what a handshake leaves that is done. -/
theorem handshakeDone_of (first : Bool) (prk : Hash) :
    ∃ c, Turns { s with seals := upd s.seals g fun _ => c } (s.handshakeDone g first prk) ∧
      (s.handshakeDone g first prk).seals[g] = c ∧ c.outbox = s.seals[g].outbox ∧
      c.hs.attempt = s.seals[g].hs.attempt ∧
      c.hs.phase = .idle ∧ c.closed = .none ∧ c.handshakes = min (s.seals[g].handshakes + 1) 65535 ∧ c.hsTime = s.now ∧
      c.authId = some (helloId s.seals[g].hello) ∧ c.stream = bit (s.sec.policy.getD 4 0) 0 ∧
      (s.seals[g].keys = none → c.keys = some { initiator := first, tx := firstKeys prk (if first then 0 else 1) 1
                                                rx := firstKeys prk (if first then 1 else 0) 1 } ∧
        Raises s (s.handshakeDone g first prk) .seal g 0x1C 1) ∧
      (s.seals[g].keys ≠ none → c.keys = s.seals[g].keys ∧
        c.pend = some { initiator := first, prk := some prk, tx := .due, rx := .due }) ∧
      Raises s (s.handshakeDone g first prk) .seal g 0x14 (w32 (min ((s.now - s.seals[g].hs.start) / 1000) 0xFFFFFFFF)) := by
  have hx : ∃ c, Turns { s with seals := upd s.seals g fun _ => c } (s.handshakeDone g first prk) ∧
      c = _ := ⟨_, .raiseIf (.raise (.count rfl)), rfl⟩
  obtain ⟨c, hc, hs⟩ := hx
  refine ⟨c, hc, (sealOnly_intro c hc).2, ?_⟩
  subst hs
  refine ⟨rfl, rfl, rfl, rfl, rfl, rfl, rfl, rfl, fun hk => ⟨?_, ?_⟩, fun hk => ⟨?_, ?_⟩, ?_⟩
  · simp only [hk]
    cases first <;> rfl
  · exact raises_raiseIf _ (by rw [hk]; rfl)
  · cases h : s.seals[g].keys with
    | none => exact absurd h hk
    | some k => rfl
  · rw [if_pos (Option.isSome_iff_ne_none.2 hk)]
  · exact (raises_raise (State.count _ .seal g 4)).raiseIf

theorem turns_setSeal {x : State} {c : Seal} (h : Turns { s with seals := upd s.seals g fun _ => c } x) (f : Seal → Seal) :
    Turns { s with seals := upd s.seals g fun _ => f c } (x.setSeal g f) := by
  obtain ⟨o, k, q, n, rfl⟩ := turns_iff.1 h
  refine turns_iff.2 ⟨o, k, q, n, ?_⟩
  simp only [State.setSeal, upd_upd]

/-- R239, R240: step 9: the CONFIRM of the initiator is verified, and answered. -/
theorem confirm_gotFinish {prk h3 : Hash} (hk : s.seals[g].hs.prk = some prk) (hh : s.seals[g].hs.h3 = some h3)
    (hm : msgOk 5 m = true) (hat : msgAttempt m = s.seals[g].hs.attempt) (hp : s.seals[g].hs.phase = .gotFinish)
    (hv : hashOf (m.drop 4) = confirmOf prk h3 0) :
    s.confirmArrives g m = (s.handshakeDone g false prk).setSeal g fun c =>
      c.send (msgHeader 5 64 c.hs.attempt ++ (confirmOf prk h3 1).toList) := by
  unfold State.confirmArrives
  simp only [hp, hm, hat, hk, hh, hv, reduceCtorEq, Bool.not_true, Bool.false_eq_true, ne_eq, not_true_eq_false, if_false,
    Option.getD_some]

/-- R239, R240: the CONFIRM of the responder is verified. -/
theorem confirm_sentFinish {prk h3 : Hash} (hk : s.seals[g].hs.prk = some prk) (hh : s.seals[g].hs.h3 = some h3)
    (hm : msgOk 5 m = true) (hat : msgAttempt m = s.seals[g].hs.attempt) (hp : s.seals[g].hs.phase = .sentFinish)
    (hv : hashOf (m.drop 4) = confirmOf prk h3 1) : s.confirmArrives g m = s.handshakeDone g true prk := by
  unfold State.confirmArrives
  simp only [hp, hm, hat, hk, hh, hv, reduceCtorEq, Bool.not_true, Bool.false_eq_true, ne_eq, not_true_eq_false, if_false,
    Option.getD_some]

end

/-- Settles O31, by what each step makes of the sealed link, whatever the pause of the throttle stage. -/
theorem handshakesEndInKeys : Obligations.HandshakesEndInKeys := by
  unfold Obligations.HandshakesEndInKeys
  intro s dt g m c rest closes keyed
  refine ⟨fun hs hmo hk => ?_, fun hl hp => ?_, fun hc hd hp => ⟨fun hi => ?_, fun hi hr => ?_, fun hi hk => ?_⟩,
    fun hc hi hp hm hg ha => ?_, fun hp hm hat hg hv ha => ?_, fun hp hm hat hv => ?_, fun prk hash hprk hh3 hm hat =>
    ⟨fun hp hv => ?_, fun hp hv => ?_⟩⟩
  · refine event_gives (·.helloArrives g m) fun o _ => ?_
    by_cases hid : s.sec.identity = true ∧ helloId m = identityHash
    · obtain ⟨hm, hpe, hhe, hse, hr⟩ := helloArrives_self (s := { s.later dt with obs := o }) hs hmo hk hid.1 hid.2
      refine ⟨close_becomes hm, hpe, hhe, hse.trans ?_, fun _ _ h => finish_raised (hr h) hm.now, fun h => absurd hid h⟩
      rw [hid.1, hid.2, beq_self_eq_true, Bool.and_self]
    · obtain ⟨hm, hpe, hhe, hse, hre, hr0, hr1⟩ := helloArrives_peer (s := { s.later dt with obs := o }) hs hmo hk hid
      refine ⟨close_becomes hm, hpe, hhe, hse.trans ?_, fun h h' => absurd ⟨h, h'⟩ hid,
        fun _ => ⟨hre, fun h => finish_raised (hr0 h) hm.now, fun r h hne => finish_raised (hr1 r h hne) hm.now⟩⟩
      rw [eq_comm, Bool.and_eq_false_iff, Bool.eq_false_iff, beq_eq_false_iff_ne]
      exact not_and_or.1 hid
  · refine event_gives (·.peerLost g) fun o _ => ?_
    obtain ⟨hm, hrem, hpe, hhe, hr, hk⟩ := peerLost_of (s := { s.later dt with obs := o }) hl hp
    exact ⟨close_becomes hm, hrem, hpe, hhe, fun h => finish_raised (hr h) hm.now, hk⟩
  · refine paced_gives (·.beginHandshake g) fun o _ => ?_
    obtain ⟨c, ht, h1, h2, h3, h4, -⟩ := beginHandshake_sends (s := { s.later dt with obs := o }) hc hd hp hi
    refine ⟨c, ht, fun t hb hnow ⟨n, hn⟩ _ => ⟨hb, ?_⟩⟩
    rw [hn]
    exact ⟨h1, h2, h3, h4⟩
  · refine paced_gives (·.handshakeRetry g) fun o _ => ?_
    obtain ⟨c, ht, h1, -, h3, h4, h5⟩ := beginHandshake_sends (s := { s.later dt with obs := o }) hc hd hp hi
    have hr' : ({ s.later dt with obs := o } : State).seals[g].retryAt.isSome = true := Option.isSome_iff_ne_none.2 hr
    rw [if_pos hr'] at h5
    have hx : State.handshakeRetry { s.later dt with obs := o } g = State.beginHandshake { s.later dt with obs := o } g :=
      if_neg (by rw [Option.isNone_iff_eq_none]; exact hr)
    refine ⟨c, by simp only [hx]; exact ht, fun t hb hnow ⟨n, hn⟩ _ => ⟨hb, ?_⟩⟩
    rw [hn]
    exact ⟨h1, h5, h3, h4⟩
  · refine paced_gives (·.beginHandshake g) fun o _ => ?_
    obtain ⟨c, ht, h1⟩ := beginHandshake_waits (s := { s.later dt with obs := o }) hc hd hp hi hk
    refine ⟨c, ht, fun t hb hnow ⟨n, hn⟩ _ => ⟨hb, ?_⟩⟩
    rw [hn]
    exact h1
  · refine paced_gives (·.keyshareIArrives g m) fun o _ => ?_
    obtain ⟨c, ht, hfacts⟩ := keyshareI_of (s := { s.later dt with obs := o }) hc hi hp hm hg ha
    refine ⟨c, ht, fun t hb hnow ⟨n, hn⟩ _ => ⟨hb, ?_⟩⟩
    rw [hn]
    exact hfacts
  · refine paced_gives (·.keyshareRArrives g m) fun o _ => ?_
    obtain ⟨c, ht, hfacts⟩ := keyshareR_of (s := { s.later dt with obs := o }) hp hm hat hg hv ha
    refine ⟨c, ht, fun t hb hnow ⟨n, hn⟩ _ => ⟨hb, ?_⟩⟩
    rw [hn]
    exact hfacts
  · refine paced_gives (·.finishIArrives g m) fun o _ => ?_
    obtain ⟨c, ht, hfacts⟩ := finishI_of (s := { s.later dt with obs := o }) hp hm hat hv
    refine ⟨c, ht, fun t hb hnow ⟨n, hn⟩ _ => ⟨hb, ?_⟩⟩
    rw [hn]
    exact hfacts
  · refine paced_gives (·.confirmArrives g m) fun o _ => ?_
    obtain ⟨c, ht, hc, hout, hatt, h1, h2, h3, h4, h5, h6, h7, h8, h9⟩ :=
      handshakeDone_of (s := { s.later dt with obs := o }) (g := g) false prk
    have hx := confirm_gotFinish (s := { s.later dt with obs := o }) hprk hh3 hm hat hp hv
    have ht' := turns_setSeal ht fun c => c.send (msgHeader 5 64 c.hs.attempt ++ (confirmOf prk hash 1).toList)
    refine ⟨c.send (msgHeader 5 64 c.hs.attempt ++ (confirmOf prk hash 1).toList), by simp only [hx]; exact ht',
      fun t hb hnow ⟨n, hn⟩ hr => ⟨hb, ?_⟩⟩
    simp only [hx] at hr
    simp only [keyed]
    rw [hn, hnow]
    refine ⟨⟨h1, h2, h3, h4, h5, h6, fun hk => ⟨(h7 hk).1, hr _ _ _ _ (h7 hk).2⟩, h8, hr _ _ _ _ h9⟩, ?_⟩
    simp only [Seal.send]
    rw [hout, hatt]
    rfl
  · refine paced_gives (·.confirmArrives g m) fun o _ => ?_
    obtain ⟨c, ht, -, -, -, h1, h2, h3, h4, h5, h6, h7, h8, h9⟩ :=
      handshakeDone_of (s := { s.later dt with obs := o }) (g := g) true prk
    have hx := confirm_sentFinish (s := { s.later dt with obs := o }) hprk hh3 hm hat hp hv
    refine ⟨c, by simp only [hx]; exact ht, fun t hb hnow ⟨n, hn⟩ hr => ⟨hb, ?_⟩⟩
    simp only [hx] at hr
    simp only [keyed]
    rw [hn, hnow]
    exact ⟨h1, h2, h3, h4, h5, h6, fun hk => ⟨(h7 hk).1, hr _ _ _ _ (h7 hk).2⟩, h8, hr _ _ _ _ h9⟩

end Sys2Proof.Machine

/-! ## Handshakes fail, and epochs advance (R234, R235, R240, R241, R244 to R248, R251, R260) -/

namespace Sys2Proof.Machine

section
variable (s : State) (g : Fin 8)

/-- R241, R252: a handshake that fails for a cause; POLICY (4) fails closed. -/
theorem failHandshake_of (cause : Nat) (byPeer : Bool) :
    CloseMoves g s (s.failHandshake g cause byPeer) ∧ (s.failHandshake g cause byPeer).seals[g].hs.phase = .idle ∧
    (s.failHandshake g cause byPeer).seals[g].lastAbort = cause % 256 ∧
    (cause ≠ 4 → (s.failHandshake g cause byPeer).seals[g].keys = s.seals[g].keys) ∧
    (cause = 4 → (s.failHandshake g cause byPeer).seals[g].keys = none) ∧
    (byPeer = false → (s.failHandshake g cause byPeer).seals[g].outbox =
      fragments (msgHeader 7 32 s.seals[g].hs.attempt ++ [w32 cause, 0, 0, 0])) ∧
    Raises s (s.failHandshake g cause byPeer) .seal g 0x15 (pk [(cause % 256, 0), (b2n byPeer, 8)]) := by
  generalize hx : s.failHandshake g cause byPeer = x
  unfold State.failHandshake at hx
  extract_lets +onlyGivenNames c h a b at hx
  have ha : CloseMoves g s a := ((setSeal_closes s g _).notes (count_notes ..)).notes (raise_notes ..)
  have has : a.seals[g] = _ := upd_at s.seals g _
  have hr : Raises s a .seal g 0x15 (pk [(cause % 256, 0), (b2n byPeer, 8)]) := raises_raise _
  have hb : CloseMoves g a b ∧ b.seals[g].hs.phase = .idle ∧ b.seals[g].lastAbort = cause % 256 ∧
      (cause ≠ 4 → b.seals[g].keys = s.seals[g].keys) ∧ (cause = 4 → b.seals[g].keys = none) := by
    by_cases h4 : cause = 4
    · have hb : b = (a.raise .seal g 0x13 (w32 (b2n byPeer))).failClose g .refused := if_pos h4
      obtain ⟨hf, hfs, -⟩ := failClose_of (a.raise .seal g 0x13 (w32 (b2n byPeer))) g .refused
      rw [hb]
      refine ⟨(raise_notes ..).close.trans hf, ?_⟩
      rw [hfs]
      rw [raise_seals, has]
      exact ⟨rfl, rfl, fun h => absurd h4 h, fun _ => rfl⟩
    · have hb : b = a := if_neg h4
      rw [hb, has]
      exact ⟨closeMoves_refl g a, rfl, rfl, fun _ => rfl, fun h => absurd h h4⟩
  obtain ⟨hm, hph, hla, hk, hn⟩ := hb
  cases byPeer with
  | true =>
    rw [if_pos rfl] at hx
    subst hx
    exact ⟨ha.trans hm, hph, hla, hk, hn, fun h => (nomatch h), hr.mono hm.queue⟩
  | false =>
    rw [if_neg (by decide)] at hx
    subst hx
    have hxs : (b.setSeal g fun x => { x with outbox := fragments (msgHeader 7 32 c.hs.attempt ++ [w32 cause, 0, 0, 0]) }).seals[g] = _ :=
      upd_at b.seals g _
    refine ⟨(ha.trans hm).set, ?_⟩
    rw [hxs]
    exact ⟨hph, hla, hk, hn, fun _ => rfl, hr.mono hm.queue⟩

end

/-! ### Missing fragments (R235) -/

section
variable {s : State} {g : Fin 8} {m : List Word}

theorem nackArrives_of {x : List Word} (hm : msgOk 6 m = true)
    (hx : s.seals[g].msgs.find? (fun x => msgType x == (m.getD 4 0).toNat) = some x) :
    Turns { s with seals := upd s.seals g fun c => { c with
      outbox := c.outbox ++ ((List.range (fragments x).length).filter
        ((m.getD 5 0).toNat + 2 ^ 32 * (m.getD 6 0).toNat).testBit).map fun i => (fragments x).getD i [] } } (s.nackArrives g m) := by
  unfold State.nackArrives
  simp only [hm, Bool.not_true, Bool.false_eq_true, if_false, hx]
  exact .count rfl

theorem fragmentWait_of {r : Reassembly} (hi : s.seals[g].inbox = some r) (hr : r.missing ≠ 0) (ht : r.at_ + fourPeriods ≤ s.now)
    (hn : s.seals[g].hs.nacks < 8) :
    Turns { s with seals := upd s.seals g fun c => { c with
      outbox := c.outbox ++ fragments
        (msgHeader 6 32 (s.inboxAttempt g r) ++ [w32 r.type, w32 r.missing, w32 (r.missing / 2 ^ 32), 0])
      inbox := some { r with at_ := s.now }, hs := { c.hs with nacks := c.hs.nacks + 1 } } } (s.fragmentWait g) := by
  have h1 : ¬ s.now < r.at_ + fourPeriods := by omega
  have h2 : ¬ 8 ≤ s.seals[g].hs.nacks := by omega
  unfold State.fragmentWait
  simp only [hi, hr, h1, h2, decide_false, Bool.or_self, Bool.false_eq_true, if_false]
  exact .count rfl

end

/-- Settles O32. -/
theorem handshakesFailByTheirRules : Obligations.HandshakesFailByTheirRules := by
  unfold Obligations.HandshakesFailByTheirRules
  intro s dt g m c closes
  refine ⟨fun x hm hx => ?_, fun r hi hr ht hn => ?_, fun hp ht => ?_, fun hm hp => ?_, fun hm hp => ?_⟩
  · exact event_gives (·.nackArrives g m) fun o _ => turns_becomes (nackArrives_of (s := { s.later dt with obs := o }) hm hx)
  · exact event_gives (·.fragmentWait g) fun o _ => turns_becomes (fragmentWait_of (s := { s.later dt with obs := o }) hi hr ht hn)
  · refine event_gives (·.handshakeTimeout g) fun o _ => ?_
    have hx : State.handshakeTimeout { s.later dt with obs := o } g = State.failHandshake { s.later dt with obs := o } g 1 false :=
      if_neg (by
        rintro (h | ⟨h1, h2⟩)
        · exact hp h
        · exact ht.elim (fun h => absurd h1 (Nat.not_lt.2 h)) fun h => absurd h2 (Nat.not_lt.2 h))
    obtain ⟨hm, hph, hla, hk, -, hout, hr⟩ := failHandshake_of { s.later dt with obs := o } g 1 false
    rw [hx]
    exact ⟨close_becomes hm, hph, hla, hk (by decide), finish_raised hr hm.now, hout rfl⟩
  · refine event_gives (·.abortArrives g m) fun o _ => ?_
    have hx : State.abortArrives { s.later dt with obs := o } g m =
        State.failHandshake { s.later dt with obs := o } g (m.getD 4 0).toNat true := by
      unfold State.abortArrives
      simp only [hm, Bool.not_true, Bool.false_eq_true, if_false]
      exact if_neg hp
    obtain ⟨hm, hph, hla, -, hk, -, hr⟩ := failHandshake_of { s.later dt with obs := o } g (m.getD 4 0).toNat true
    rw [hx]
    exact ⟨close_becomes hm, hph, hla, finish_raised hr hm.now, hk⟩
  · refine event_gives (·.abortArrives g m) fun o _ => ?_
    have hx : State.abortArrives { s.later dt with obs := o } g m = State.setSeal { s.later dt with obs := o } g fun c =>
        { c with lastAbort := (m.getD 4 0).toNat % 256 } := by
      unfold State.abortArrives
      simp only [hm, Bool.not_true, Bool.false_eq_true, if_false]
      exact if_pos hp
    rw [hx]
    exact turns_becomes rfl

end Sys2Proof.Machine

/-! ## Epochs are announced, derived, switched to or withdrawn (R240, R244 to R248, R251) -/

namespace Sys2Proof.Machine

section
variable {s : State} {g : Fin 8} {k : Keys} (hk : s.seals[g].keys = some k)
include hk

theorem announce_inForce (m : Nat) (hp : s.seals[g].pend = none) :
    s.announce g m = s.setSeal g fun c => { c with
      keys := some { k with tx := { k.tx with
        chain := (k.tx.epoch + 1, k.tx.chainAt k.txDir (k.tx.epoch + 1))
        next := some (k.tx.epoch + 1, epochKey (k.tx.chainAt k.txDir (k.tx.epoch + 1)) k.txDir (k.tx.epoch + 1)) } }
      ann := some { m := m, epoch := k.tx.epoch + 1, fresh := false, acked := false, drawn := false }, annNext := none } := by
  unfold State.announce
  simp only [hk, hp, Option.bind_none]

theorem announce_fresh (m : Nat) {p : Pending} {prk : Hash} (hp : s.seals[g].pend = some p) (hprk : p.prk = some prk)
    (htx : p.tx = .due) :
    let dir := if p.initiator then 0 else 1
    let ch := chainKey prk dir (k.tx.epoch + 1)
    s.announce g m = s.setSeal g fun c => { c with
      keys := some { k with tx := { k.tx with next := some (k.tx.epoch + 1, epochKey ch dir (k.tx.epoch + 1)) } }
      pend := some { p with tx := .held (k.tx.epoch + 1) ch, prk := if p.rx = .due then some prk else none }
      ann := some { m := m, epoch := k.tx.epoch + 1, fresh := true, acked := false, drawn := false }, annNext := none } := by
  unfold State.announce
  simp only [hk, hp, Option.bind_some, Pending.first, htx, hprk, Option.map_some, Pending.tidy, reduceCtorEq, false_or]

theorem deriveRx_inForce {e seq : Nat} (hh : s.seals[g].heard = some (e, false, seq)) (ha : s.seals[g].ackFor ≠ some e) :
    s.deriveRx g = s.setSeal g fun c => { c with
      keys := some { k with rx := { k.rx with
        chain := (e, k.rx.chainAt k.rxDir e), next := some (e, epochKey (k.rx.chainAt k.rxDir e) k.rxDir e) } }
      ackFor := some e } := by
  unfold State.deriveRx
  simp only [hk, hh, ha, Bool.false_eq_true, if_false]

theorem deriveRx_fresh {e seq : Nat} {p : Pending} {prk : Hash} (hh : s.seals[g].heard = some (e, true, seq))
    (ha : s.seals[g].ackFor ≠ some e) (hp : s.seals[g].pend = some p) (hprk : p.prk = some prk) (hrx : p.rx = .due) :
    s.deriveRx g = s.setSeal g fun c => { c with
      keys := some { k with rx := { k.rx with next := some (e, epochKey (chainKey prk k.rxDir e) k.rxDir e) } }
      pend := some { p with rx := .held e (chainKey prk k.rxDir e), prk := if p.tx = .due then some prk else none }
      ackFor := some e } := by
  unfold State.deriveRx
  simp only [hk, hh, ha, hp, if_true, if_false, Option.bind_some, Pending.first, hrx, hprk, Option.map_some, Pending.tidy,
    reduceCtorEq, or_false]

theorem withdraw_of {a : Announce} (ha : s.seals[g].ann = some a) :
    (s.seals[g].withdrawn + 1 < 8 → Turns { s with seals := upd s.seals g fun c => { c with
        ann := some { a with drawn := true }, annNext := some ((a.m + 1024) % 2 ^ 40), withdrawn := c.withdrawn + 1
        keys := some { k with tx := { k.tx with next := none } } } } (s.withdraw g) ∧
      Raises s (s.withdraw g) .seal g 0x18 (w32 a.epoch)) ∧
    (8 ≤ s.seals[g].withdrawn + 1 → CloseMoves g s (s.withdraw g) ∧ (s.withdraw g).seals[g].keys = none ∧
      (s.withdraw g).seals[g].closed = .rekey ∧ Raises s (s.withdraw g) .seal g 0x19 (w32 k.tx.epoch)) := by
  generalize hx : s.withdraw g = x
  unfold State.withdraw at hx
  simp only [ha, hk] at hx
  have hmove : CloseMoves g s (((s.setSeal g fun c => { c with
      ann := some { a with drawn := true }, annNext := some ((a.m + 1024) % 2 ^ 40), withdrawn := s.seals[g].withdrawn + 1
      keys := some { k with tx := { k.tx with next := none } } }).count .seal g 3).raise .seal g 0x18 (w32 a.epoch)) :=
    ((setSeal_closes s g _).notes (count_notes ..)).notes (raise_notes ..)
  refine ⟨fun hn => ?_, fun hn => ?_⟩
  · rw [if_pos hn] at hx
    subst hx
    exact ⟨.raise (.count rfl), raises_raise _⟩
  · rw [if_neg (by omega)] at hx
    subst hx
    generalize State.raise _ .seal g 0x18 (w32 a.epoch) = t at hmove
    obtain ⟨hf, hfs, -⟩ := failClose_of (t.raise .seal g 0x19 (w32 k.tx.epoch)) g .rekey
    refine ⟨(hmove.notes (raise_notes ..)).trans hf, ?_, ?_, .mono (raises_raise t hmove.power hmove.units hmove.now) hf.queue⟩ <;>
      rw [hfs] <;> rfl

theorem switchTx_of {a : Announce} {e : Nat} {ky : Key} (ha : s.seals[g].ann = some a) (hn : k.tx.next = some (e, ky))
    (hf : a.fresh = false) (hs : s.seals[g].since + 1 < 2 * fld (s.sec.policy.getD 4 0) 16 8) :
    Turns { s with seals := upd s.seals g fun c => { c with
        keys := some { k with tx := { epoch := e, chain := k.tx.chain, key := ky, next := none, old := none } }
        ann := none, age := 0, since := c.since + 1, withdrawn := 0, limits := s.sec.policy.getD 4 0 } } (s.switchTx g) ∧
      Raises s (s.switchTx g) .seal g 0x16 (w32 e) := by
  generalize hx : s.switchTx g = x
  unfold State.switchTx at hx
  simp only [ha, hk, hn, hf, Bool.false_eq_true, if_false, DirKeys.chainAfter] at hx
  rw [if_neg] at hx
  · subst hx
    exact ⟨.raise rfl, raises_raise _⟩
  · rintro ⟨h, -⟩
    simp only [raise_seals, State.setSeal, upd_at, Seal.rehandEpochs] at h
    omega

end

/-- An event row that asks for a condition, which holds once the row's time has passed. -/
theorem event_if_gives {instr : Instr} {s : State} {dt : Nat} (p : State → Bool) (f : State → State) {P : State → Prop}
    (hp : ∀ o, p { s.later dt with obs := o } = true)
    (h : ∀ o, s.obs.GoesOn o → P (finish (f { s.later dt with obs := o })))
    (hrow : exec instr s = .next (eventRow dt (fun s => if p s then f s else s) s) := by rfl) : Gives instr s P :=
  event_gives (fun s => if p s then f s else s) (fun o ho => by rw [if_pos (hp o)]; exact h o ho) hrow

/-- Settles O33. -/
theorem epochsAdvance : Obligations.EpochsAdvance := by
  unfold Obligations.EpochsAdvance
  intro s dt g k c next put closes hk
  refine ⟨fun hd hp => ?_, fun p prk hd hp hprk htx => ?_, fun e seq hh ha => ?_, fun e seq p prk hh ha hp hprk hrx => ?_,
    fun a ha hd => ⟨fun hn => ?_, fun hn => ?_⟩, fun a e ky ha hn hd hf hs => ?_, fun h1 hl hb => ?_⟩
  · intro e ch
    refine event_if_gives (fun s => s.announceDue g (s.nextSeq g)) (fun s => s.announce g (s.nextSeq g)) (fun _ => hd) fun o _ => ?_
    rw [announce_inForce (s := { s.later dt with obs := o }) hk _ hp]
    exact turns_becomes rfl
  · intro e dir ch
    refine event_if_gives (fun s => s.announceDue g (s.nextSeq g)) (fun s => s.announce g (s.nextSeq g)) (fun _ => hd) fun o _ => ?_
    rw [announce_fresh (s := { s.later dt with obs := o }) hk _ hp hprk htx]
    exact turns_becomes rfl
  · intro ch
    refine event_gives (·.deriveRx g) fun o _ => ?_
    rw [deriveRx_inForce (s := { s.later dt with obs := o }) hk hh ha]
    exact turns_becomes rfl
  · intro ch
    refine event_gives (·.deriveRx g) fun o _ => ?_
    rw [deriveRx_fresh (s := { s.later dt with obs := o }) hk hh ha hp hprk hrx]
    exact turns_becomes rfl
  · refine event_if_gives (fun s => s.withdrawDue g (s.nextSeq g)) (·.withdraw g) (fun _ => hd) fun o _ => ?_
    obtain ⟨ht, hr⟩ := (withdraw_of (s := { s.later dt with obs := o }) hk ha).1 hn
    exact turns_raised ht hr
  · refine event_if_gives (fun s => s.withdrawDue g (s.nextSeq g)) (·.withdraw g) (fun _ => hd) fun o _ => ?_
    obtain ⟨hm, hkeys, hc, hr⟩ := (withdraw_of (s := { s.later dt with obs := o }) hk ha).2 hn
    exact ⟨close_becomes hm, hkeys, hc, finish_raised hr hm.now⟩
  · refine event_if_gives (fun s => s.switchDue g (s.nextSeq g)) (·.switchTx g) (fun _ => hd) fun o _ => ?_
    obtain ⟨ht, hr⟩ := switchTx_of (s := { s.later dt with obs := o }) hk ha hn hf hs
    exact turns_raised ht hr
  · refine event_gives (·.tagLimitReached g) fun o _ => ?_
    have hx : State.tagLimitReached { s.later dt with obs := o } g = State.failClose { s.later dt with obs := o } g .tagLimit := by
      refine if_pos ?_
      rw [show ({ s.later dt with obs := o } : State).seals[g].keys = some k from hk,
        show bit (({ s.later dt with obs := o } : State).sec.policy.getD 4 0) 2 = true from hb]
      simp only [Option.isSome_some, Bool.true_and, Bool.and_true, Bool.and_eq_true, decide_eq_true_eq]
      exact ⟨h1, hl⟩
    obtain ⟨hm, hfs, -⟩ := failClose_of { s.later dt with obs := o } g .tagLimit
    rw [hx]
    refine ⟨close_becomes hm, ?_, ?_⟩
    · exact (congrArg Seal.keys hfs).trans rfl
    · exact (congrArg Seal.closed hfs).trans rfl

end Sys2Proof.Machine

/-! ## Rounds of calibration and what keeps lanes out of them (R267, R270 to R277) -/

namespace Sys2Proof.Machine

/-! ### A step of a lane -/

/-- What the operations of a step leave of a calibration lane: its count of rounds, the time of the last one, and what decides
whether it takes part. -/
def CalLane.seen (c : CalLane) : Nat × Nat × Bool × Bool × Option Nat :=
  (c.rounds, c.lastRound, c.frozen, c.starved, c.foreground)

/-- Only calibration moves, of its lanes only `k`, and what `CalLane.seen` shows of that stays. -/
structure CalSteps (k : Fin 48) (s x : State) : Prop where
  moves  : CalMoves s x
  rounds : x.cal.rounds = s.cal.rounds
  other  : ∀ j : Fin 48, k ≠ j → x.cal.lanes[j] = s.cal.lanes[j]
  own    : x.cal.lanes[k].seen = s.cal.lanes[k].seen

section
variable {k : Fin 48} {s x y : State}

theorem CalSteps.trans (h : CalSteps k s x) (h' : CalSteps k x y) : CalSteps k s y :=
  ⟨h.moves.trans h'.moves, h'.rounds.trans h.rounds, fun j hj => (h'.other j hj).trans (h.other j hj), h'.own.trans h.own⟩

theorem calSteps_of_lanes (h : CalMoves s x) (hr : x.cal.rounds = s.cal.rounds) (hl : x.cal.lanes = s.cal.lanes) :
    CalSteps k s x :=
  ⟨h, hr, fun j _ => by rw [hl], by rw [hl]⟩

theorem calSteps_refl (k : Fin 48) (s : State) : CalSteps k s s := calSteps_of_lanes (calMoves_refl s) rfl rfl

theorem calSteps_of_cal (h : CalMoves s x) (hc : x.cal = s.cal) : CalSteps k s x :=
  calSteps_of_lanes h (by rw [hc]) (by rw [hc])

theorem setCal_steps (s : State) (k : Fin 48) {f : CalLane → CalLane} (hf : ∀ c, (f c).seen = c.seen) :
    CalSteps k s (s.setCal k f) where
  moves := setCal_moves s k f
  rounds := rfl
  other := fun _ hj => upd_get_ne _ _ hj
  own := by simp only [State.setCal, upd_at, hf]

theorem foldl_steps {α : Type} {f : State → α → State} (l : List α) (h : ∀ s, ∀ a ∈ l, CalSteps k s (f s a)) (s : State) :
    CalSteps k s (l.foldl f s) := by
  induction l generalizing s with
  | nil => exact calSteps_refl k s
  | cons a l ih =>
    exact (h s a (List.mem_cons_self ..)).trans (ih (fun s b hb => h s b (List.mem_cons_of_mem _ hb)) _)

end

theorem raise_steps (k : Fin 48) (s : State) (c : Cls) (i code : Nat) (arg : Word) : CalSteps k s (s.raise c i code arg) :=
  calSteps_of_cal (raise_moves s c i code arg) rfl

theorem setTrim_steps (k j : Fin 48) (s : State) (kind elem idx : Nat) (v : BitVec 16) :
    CalSteps k s (s.setTrim j kind elem idx v) := calSteps_of_lanes rfl rfl rfl

theorem retire_steps (s : State) (k : Fin 48) (kind elem : Nat) : CalSteps k s (s.retire k kind elem) := by
  refine .trans (x := s.setCal k fun c => { c with retired := c.retired ++ [(kind, elem)] }) (setCal_steps s k fun _ => rfl) ?_
  exact calSteps_of_cal (raiseIf_moves ..) (raiseIf_cal ..)

/-- R269, R278: a computed trim is a matter of its own lane. -/
theorem computed_steps (s : State) (round : Bool) (w : TrimWrite) : CalSteps w.lane s (s.computed round w) := by
  unfold State.computed
  extract_lets k key rg old m v t
  clear_value v
  split
  · exact calSteps_refl _ s
  · split
    · exact setTrim_steps _ _ s ..
    · split
      · exact ((retire_steps s w.lane _ _).trans (calSteps_of_cal (count_moves ..) rfl)).trans (raise_steps ..)
      · split
        · exact setTrim_steps _ _ s ..
        · refine .trans (x := t) (setTrim_steps _ _ s ..) (.trans ?_ (raise_steps ..))
          exact setCal_steps t w.lane (fun _ => rfl)

theorem swap_steps (s : State) (k : Fin 48) : CalSteps k s (s.swap k) := by
  unfold State.swap
  extract_lets c leave a b
  have ha : CalSteps k s a := calSteps_of_lanes rfl rfl rfl
  have hb : CalSteps k a b := setCal_steps a k fun _ => rfl
  have hr : ∀ (t : State) e, CalSteps k t (t.replaced k e) := fun t e => setCal_steps t k fun _ => rfl
  have hl := foldl_steps leave (fun t e _ => hr t e) b
  exact ((ha.trans hb).trans hl).trans ((calSteps_of_cal (count_moves ..) rfl).trans (calSteps_of_cal (signal_moves ..) rfl))

/-! ### The commit of a lane, and of all lanes -/

section
variable {s : State} {trims : List TrimWrite}

/-- R267, R276: a lane commits its step at the present time; it has no other step until the next round. -/
theorem commitLane_lane (s : State) (trims : List TrimWrite) (k : Fin 48) :
    CalMoves s (s.commitLane trims k) ∧ (s.commitLane trims k).cal.rounds = s.cal.rounds ∧
    (∀ j : Fin 48, k ≠ j → (s.commitLane trims k).cal.lanes[j] = s.cal.lanes[j]) ∧
    (s.commitLane trims k).cal.lanes[k].rounds = sat32 (s.cal.lanes[k].rounds + 1) ∧
    (s.commitLane trims k).cal.lanes[k].lastRound = s.now := by
  unfold State.commitLane
  extract_lets mine a took covered ends ref c b d
  have ha : CalSteps k s a := by
    refine foldl_steps mine (fun t w hw => ?_) s
    have hk : w.lane = k := by
      have := (List.mem_filter.1 hw).2
      simp only [Bool.and_eq_true, beq_iff_eq] at this
      exact this.1.1.1
    exact hk ▸ computed_steps t true w
  clear_value a
  have hd : CalMoves s d := ha.moves.trans rfl
  have hrounds : d.cal.rounds = s.cal.rounds := ha.rounds
  have hother : ∀ j : Fin 48, k ≠ j → d.cal.lanes[j] = s.cal.lanes[j] := fun j hj =>
    (upd_get_ne _ _ hj).trans (ha.other j hj)
  have hseen := ha.own
  simp only [CalLane.seen, Prod.mk.injEq] at hseen
  have hown : d.cal.lanes[k].rounds = sat32 (s.cal.lanes[k].rounds + 1) ∧ d.cal.lanes[k].lastRound = s.now := by
    simp only [d, b, c, State.setCal, upd_at, hseen.1, and_self]
  clear_value d
  split
  · exact ⟨hd, hrounds, hother, hown⟩
  · have hs := swap_steps d k
    have hseen' := hs.own
    simp only [CalLane.seen, Prod.mk.injEq] at hseen'
    exact ⟨hd.trans hs.moves, hs.rounds.trans hrounds, fun j hj => (hs.other j hj).trans (hother j hj),
      hseen'.1.trans hown.1, hseen'.2.1.trans hown.2⟩

/-- R267: the lanes that have a step in the round commit it. -/
def State.commits (s : State) (trims : List TrimWrite) (k : Fin 48) : State :=
  if s.cal.lanes[k].part && s.calJoins k then s.commitLane trims k else s

theorem calJoins_congr {s x : State} {j : Fin 48} (h : CalMoves s x) (hl : x.cal.lanes[j] = s.cal.lanes[j]) :
    x.calJoins j = s.calJoins j := by
  obtain ⟨c, o, m, k, n, rfl⟩ := calMoves_iff.1 h
  unfold State.calJoins
  rw [hl]
  rfl

theorem foldl_commits (L : List (Fin 48)) (hL : L.Nodup) (s : State) :
    CalMoves s (L.foldl (·.commits trims) s) ∧ (L.foldl (·.commits trims) s).cal.rounds = s.cal.rounds ∧
    ∀ j : Fin 48, if j ∈ L ∧ s.cal.lanes[j].part = true ∧ s.calJoins j = true
      then (L.foldl (·.commits trims) s).cal.lanes[j].rounds = sat32 (s.cal.lanes[j].rounds + 1) ∧
        (L.foldl (·.commits trims) s).cal.lanes[j].lastRound = s.now
      else (L.foldl (·.commits trims) s).cal.lanes[j].rounds = s.cal.lanes[j].rounds ∧
        (L.foldl (·.commits trims) s).cal.lanes[j].lastRound = s.cal.lanes[j].lastRound := by
  induction L generalizing s with
  | nil => exact ⟨calMoves_refl s, rfl, fun j => by simp⟩
  | cons k L ih =>
    obtain ⟨hk, hL⟩ := List.nodup_cons.1 hL
    obtain ⟨hm, hr, hj⟩ := ih hL (s.commits trims k)
    have h1 : CalMoves s (s.commits trims k) ∧ (s.commits trims k).cal.rounds = s.cal.rounds ∧
        (∀ j : Fin 48, k ≠ j → (s.commits trims k).cal.lanes[j] = s.cal.lanes[j]) ∧
        if s.cal.lanes[k].part = true ∧ s.calJoins k = true
        then (s.commits trims k).cal.lanes[k].rounds = sat32 (s.cal.lanes[k].rounds + 1) ∧
          (s.commits trims k).cal.lanes[k].lastRound = s.now
        else (s.commits trims k).cal.lanes[k].rounds = s.cal.lanes[k].rounds ∧
          (s.commits trims k).cal.lanes[k].lastRound = s.cal.lanes[k].lastRound := by
      unfold State.commits
      simp only [Bool.and_eq_true]
      split
      · obtain ⟨a, b, c, d⟩ := commitLane_lane s trims k
        exact ⟨a, b, c, d⟩
      · exact ⟨calMoves_refl s, rfl, fun _ _ => rfl, rfl, rfl⟩
    obtain ⟨hm1, hr1, ho1, hk1⟩ := h1
    refine ⟨hm1.trans hm, hr.trans hr1, fun j => ?_⟩
    rw [List.foldl_cons]
    have hj := hj j
    by_cases hjk : k = j
    · subst hjk
      simp only [hk, false_and, if_false] at hj
      simp only [List.mem_cons, true_or, true_and, hj.1, hj.2]
      exact hk1
    · rw [ho1 j hjk, calJoins_congr hm1 (ho1 j hjk), hm1.now] at hj
      simp only [List.mem_cons, Ne.symm hjk, false_or]
      exact hj

/-! ### Rounds -/

theorem fins_nodup (n : Nat) [NeZero n] : (fins n).Nodup := by
  refine (List.nodup_map_iff_inj_on List.nodup_range).2 fun a ha b hb h => ?_
  have h' := congrArg Fin.val h
  simpa [Nat.mod_eq_of_lt (List.mem_range.1 ha), Nat.mod_eq_of_lt (List.mem_range.1 hb)] using h'

/-- R267: a round that opens says who takes part; it commits nothing. -/
theorem roundOpens_keeps (s : State) :
    s.roundOpens.cal = { s.cal with live := s.roundOpens.cal.live, lanes := s.roundOpens.cal.lanes } ∧
    ∀ j : Fin 48, s.roundOpens.cal.lanes[j].seen = s.cal.lanes[j].seen := by
  unfold State.roundOpens
  split
  · exact ⟨rfl, fun _ => rfl⟩
  · split
    · exact ⟨rfl, fun _ => rfl⟩
    · refine ⟨rfl, fun j => ?_⟩
      simp only [vmapIx_get]
      split <;> rfl

theorem calJoins_seen {s x : State} {j : Fin 48} (h : CalMoves s x) (hl : x.cal.lanes[j].seen = s.cal.lanes[j].seen) :
    x.calJoins j = s.calJoins j := by
  obtain ⟨c, o, m, k, n, rfl⟩ := calMoves_iff.1 h
  simp only [CalLane.seen, Prod.mk.injEq] at hl
  obtain ⟨-, -, hf, hs, hg⟩ := hl
  unfold State.calJoins
  dsimp only
  rw [hf, hs, hg]
  rfl

theorem calRuns_roundOpens (s : State) : s.roundOpens.calRuns = s.calRuns := by
  have hc := (roundOpens_keeps s).1
  obtain ⟨c, o, m, k, n, h⟩ := calMoves_iff.1 (roundOpens_moves s)
  rw [h] at hc ⊢
  dsimp only at hc
  rw [hc]
  rfl

theorem traceCheck_cal (s : State) : s.traceCheck.cal = { s.cal with traced := s.tracedNow } := raiseIf_cal ..

theorem traceCheck_moves (s : State) : CalMoves s s.traceCheck :=
  .trans (x := { s with cal := { s.cal with traced := s.tracedNow } }) rfl (raiseIf_moves ..)

/-- R267: the round has committed; `next` says when the next one begins. -/
def State.roundEnded (s : State) (next : Option Nat) : State :=
  ((({ s with cal := { s.cal with rounds := sat32 (s.cal.rounds + 1), finishing := false, live := false
                                  round := next } } : State).count .cal 0 0).signal .cal 0 1 1).roundOpens.traceCheck

theorem roundEnded_of (s : State) (next : Option Nat) :
    CalMoves s (s.roundEnded next) ∧ (s.roundEnded next).cal.rounds = sat32 (s.cal.rounds + 1) ∧
    (s.roundEnded next).cal.finishing = false ∧ (s.roundEnded next).cal.round = next ∧
    ∀ j : Fin 48, (s.roundEnded next).cal.lanes[j].seen = s.cal.lanes[j].seen := by
  obtain ⟨u, hu⟩ : ∃ u : State, u = (({ s with cal := { s.cal with
    rounds := sat32 (s.cal.rounds + 1), finishing := false, live := false, round := next } } : State).count .cal 0 0).signal
      .cal 0 1 1 := ⟨_, rfl⟩
  have hm : CalMoves s u := hu ▸ .trans (x := { s with cal := u.cal }) rfl (.trans (hu ▸ rfl) (signal_moves ..))
  obtain ⟨hc, hseen⟩ := roundOpens_keeps u
  unfold State.roundEnded
  rw [← hu, traceCheck_cal]
  refine ⟨hm.trans ((roundOpens_moves u).trans (traceCheck_moves _)), ?_, ?_, ?_, fun j => (hseen j).trans ?_⟩
  · rw [hc, hu]; rfl
  · rw [hc, hu]; rfl
  · rw [hc, hu]; rfl
  · rw [hu]; rfl

/-- R267, R277, R377: 4 ms after its start a round commits. -/
theorem roundCommits_of {t0 : Nat} (hrun : s.calRuns = true) (hlive : s.roundOpens.cal.live = true)
    (hround : s.roundOpens.cal.round = some t0) (hnow : t0 + 4000000 ≤ s.now) (trims : List TrimWrite) :
    CalMoves s (s.roundCommits trims) ∧ (s.roundCommits trims).cal.rounds = sat32 (s.cal.rounds + 1) ∧
    (s.roundCommits trims).cal.finishing = false ∧
    (s.roundCommits trims).cal.round = (if s.cal.finishing then none else some (s.now + s.pauseNs 4 12)) ∧
    ∀ j : Fin 48, if s.roundOpens.cal.lanes[j].part = true ∧ s.calJoins j = true
      then (s.roundCommits trims).cal.lanes[j].rounds = sat32 (s.cal.lanes[j].rounds + 1) ∧
        (s.roundCommits trims).cal.lanes[j].lastRound = s.now
      else (s.roundCommits trims).cal.lanes[j].rounds = s.cal.lanes[j].rounds ∧
        (s.roundCommits trims).cal.lanes[j].lastRound = s.cal.lanes[j].lastRound := by
  have hm := roundOpens_moves s
  obtain ⟨hc, hseen⟩ := roundOpens_keeps s
  have hfin : s.roundOpens.cal.finishing = s.cal.finishing := by rw [hc]
  have hrounds : s.roundOpens.cal.rounds = s.cal.rounds := by rw [hc]
  have hpause : s.roundOpens.pauseNs 4 12 = s.pauseNs 4 12 := by rw [roundOpens_frame]; rfl
  have hruns : s.roundOpens.calRuns = true := (calRuns_roundOpens s).trans hrun
  have hwhen : decide (s.roundOpens.now < t0 + 4000000) = false := by rw [hm.now]; exact decide_eq_false (by omega)
  have hx : s.roundCommits trims = ((fins 48).foldl (·.commits trims) s.roundOpens).roundEnded
      (if s.roundOpens.cal.finishing then none else some (s.roundOpens.now + s.roundOpens.pauseNs 4 12)) := by
    unfold State.roundCommits State.roundEnded State.commits
    simp only [hround, hruns, hlive, hwhen, Bool.not_true, Bool.or_self, Bool.false_eq_true, if_false]
  rw [hx]
  generalize s.roundOpens = o at *
  have hjoin : ∀ j : Fin 48, o.calJoins j = s.calJoins j := fun j => calJoins_seen hm (hseen j)
  obtain ⟨ha, harounds, hlanes⟩ := foldl_commits (trims := trims) (fins 48) (fins_nodup 48) o
  obtain ⟨hb, hbrounds, hbfin, hbround, hbseen⟩ := roundEnded_of ((fins 48).foldl (·.commits trims) o)
    (if o.cal.finishing then none else some (o.now + o.pauseNs 4 12))
  refine ⟨hm.trans (ha.trans hb), ?_, hbfin, ?_, fun j => ?_⟩
  · rw [hbrounds, harounds, hrounds]
  · rw [hbround, hfin, hm.now, hpause]
  · have hl := hlanes j
    have hj := hbseen j
    have hs := hseen j
    simp only [CalLane.seen, Prod.mk.injEq] at hj hs
    simp only [mem_fins, true_and, hjoin, hs.1, hs.2.1, hm.now] at hl
    rw [hj.1, hj.2.1]
    exact hl

/-! ### Foreground calibration -/

theorem foregroundTrims_moves (s : State) (trims : List TrimWrite) (p : Fin 48 → Bool) : CalMoves s (s.foregroundTrims trims p) :=
  foldl_moves (fun t w => (computed_steps t false w).moves) _ _

theorem applyForced_moves (s : State) (k : Fin 48) : CalMoves s (s.applyForced k) := rfl

/-- R271, R272: what an acquisition that begins notes, of the lanes of a receiver. -/
theorem acquisitionStarts_cases (s : State) (k : Fin 48) :
    (∀ t : State, t.units = s.units → t.acquisitionStarts k = t) ∨
    (∀ t : State, t.units = s.units → t.acquisitionStarts k =
      t.setLrx (lineLane (calUnit k.val).2) fun r => { r with acqStart := t.now }) ∨
    (∀ t : State, t.units = s.units → t.acquisitionStarts k =
      t.setHrx (hostLane (calUnit k.val).2) fun r => { r with acqStart := t.now }) := by
  unfold State.acquisitionStarts State.isUp State.admin State.unit
  dsimp only
  by_cases h1 : (!calRx k || !((s.units[uix (calUnit k).1 (calUnit k).2]).admin != Admin.down)) = true
  · exact .inl fun t ht => by rw [ht]; exact if_pos h1
  · by_cases h2 : k.val < 8
    · exact .inr (.inl fun t ht => by rw [ht]; exact (if_neg h1).trans (if_pos h2))
    · exact .inr (.inr fun t ht => by rw [ht]; exact (if_neg h1).trans (if_neg h2))

/-- The acquisition of a lane begins without regard to calibration. -/
theorem CalMoves.acquisitionStarts {s x : State} (h : CalMoves s x) (k : Fin 48) :
    CalMoves (s.acquisitionStarts k) (x.acquisitionStarts k) ∧ (x.acquisitionStarts k).cal = x.cal ∧
    (s.acquisitionStarts k).now = s.now ∧ (s.acquisitionStarts k).power = s.power ∧
    (s.acquisitionStarts k).units = s.units := by
  obtain e | e | e := acquisitionStarts_cases s k
  all_goals
    rw [e s rfl, e x h.units]
    obtain ⟨c, o, m, v, n, rfl⟩ := calMoves_iff.1 h
    exact ⟨rfl, rfl, rfl, rfl, rfl⟩

theorem CalMoves.acquisitionsStart {s x : State} (h : CalMoves s x) :
    CalMoves s.acquisitionsStart x.acquisitionsStart ∧ x.acquisitionsStart.cal = x.cal ∧
    s.acquisitionsStart.now = s.now ∧ s.acquisitionsStart.power = s.power ∧ s.acquisitionsStart.units = s.units := by
  unfold State.acquisitionsStart
  generalize fins 48 = L
  induction L generalizing s x with
  | nil => exact ⟨h, rfl, rfl, rfl, rfl⟩
  | cons k L ih =>
    obtain ⟨hm, hc, hn, hp, hu⟩ := h.acquisitionStarts k
    obtain ⟨hm', hc', hn', hp', hu'⟩ := ih hm
    exact ⟨hm', hc'.trans hc, hn'.trans hn, hp'.trans hp, hu'.trans hu⟩

theorem applyForceds_keeps (L : List (Fin 48)) (s : State) : CalMoves s (L.foldl State.applyForced s) ∧
    (L.foldl State.applyForced s).cal.fgStart = s.cal.fgStart ∧ (L.foldl State.applyForced s).cal.fgDone = s.cal.fgDone := by
  induction L generalizing s with
  | nil => exact ⟨calMoves_refl s, rfl, rfl⟩
  | cons k L ih => exact ⟨.trans (x := s.applyForced k) rfl (ih _).1, (ih _).2.1, (ih _).2.2⟩

theorem roundsResume_keeps (s : State) : CalMoves s s.roundsResume ∧ s.roundsResume.obs = s.obs ∧
    s.roundsResume.cal.fgStart = s.cal.fgStart ∧ s.roundsResume.cal.fgDone = s.cal.fgDone := by
  refine ⟨calMoves_iff.2 ⟨_, s.obs, s.mon, s.stats, s.free, roundsResume_frame s⟩, by rw [roundsResume_frame], ?_⟩
  unfold State.roundsResume
  split
  · rw [(roundOpens_keeps _).1]; exact ⟨rfl, rfl⟩
  · exact ⟨rfl, rfl⟩

theorem CalMoves.becomes {x e : State} {dt : Nat} (h : CalMoves { e with now := e.now + dt } x) :
    Becomes dt { e with cal := (finish x).cal } (finish x) := turns_becomes h

theorem CalMoves.becomesNow {x e : State} (h : CalMoves e x) : Becomes 0 { e with cal := (finish x).cal } (finish x) :=
  turns_becomes h

theorem CalMoves.becomesTo {x e : State} {c : Cal} (h : CalMoves e x) (hc : x.cal = c) :
    Becomes 0 { e with cal := c } (finish x) := by
  subst hc; exact turns_becomes h

theorem CalMoves.symm {x e : State} (h : CalMoves e x) : CalMoves x e := by
  obtain ⟨c, o, m, k, n, rfl⟩ := calMoves_iff.1 h
  rfl

/-- R267: the opening of a round, in a row and out of it. -/
theorem opened_moves (s : State) (dt : Nat) (q : Obs) :
    CalMoves (s.later dt).roundOpens ({ s.later dt with obs := q } : State).roundOpens :=
  (roundOpens_moves (s.later dt)).symm.trans (.trans (x := { s.later dt with obs := q }) rfl (roundOpens_moves _))

/-- R270, R276: the foreground run of the whole device ends. -/
theorem foregroundDone_all {t0 : Nat} (hheld : s.supplyHeld = false) (h : s.cal.fgStart = some t0) (trims : List TrimWrite) :
    CalMoves s.acquisitionsStart (s.foregroundDone none trims) ∧ (s.foregroundDone none trims).now = s.now ∧
    (s.foregroundDone none trims).cal.fgStart = none ∧ (s.foregroundDone none trims).cal.fgDone = true ∧
    Raises s (s.foregroundDone none trims) .cal 0 0x10 (pk [(0xFF, 0), ((s.now - t0) / 1000000, 8)]) := by
  unfold State.foregroundDone
  simp only [hheld, h, Bool.false_eq_true, if_false]
  generalize ha : s.foregroundTrims trims _ = a
  have ham : CalMoves s a := ha ▸ foregroundTrims_moves ..
  generalize hb : State.mk _ _ _ _ _ _ _ _ _ _ _ _ _ _ _ _ _ _ _ _ _ _ _ _ _ _ _ _ _ _ _ _ _ _ _ _ _ _ _ _ = b
  have hbm : CalMoves s b := ham.trans (hb ▸ rfl)
  have hbs : b.cal.fgStart = none ∧ b.cal.fgDone = true := hb ▸ ⟨rfl, rfl⟩
  obtain ⟨hf, hfs, hfd⟩ := applyForceds_keeps (fins 48) b
  obtain ⟨hm, hc, hn, hp, hu⟩ := (hbm.trans hf).acquisitionsStart
  generalize (List.foldl State.applyForced b (fins 48)).acquisitionsStart = x at *
  have hr : Raises s (x.raise .cal 0 0x10 (pk [(0xFF, 0), ((s.now - t0) / 1000000, 8)])) .cal 0 0x10
      (pk [(0xFF, 0), ((s.now - t0) / 1000000, 8)]) :=
    raises_raise x (hm.power.trans hp) (hm.units.trans hu) (hm.now.trans hn)
  generalize hy : x.raise .cal 0 0x10 (pk [(0xFF, 0), ((s.now - t0) / 1000000, 8)]) = y at *
  have hym : CalMoves x y := hy ▸ raise_moves ..
  have hyc : y.cal = x.cal := hy ▸ rfl
  obtain ⟨hz, hzo, hzs, hzd⟩ := roundsResume_keeps y.traceCheck
  have hall := hm.trans (hym.trans ((traceCheck_moves y).trans hz))
  refine ⟨hall, hall.now.trans hn, ?_, ?_, ?_⟩
  · rw [hzs, traceCheck_cal]; exact hyc ▸ hc ▸ hfs.trans hbs.1
  · rw [hzd, traceCheck_cal]; exact hyc ▸ hc ▸ hfd.trans hbs.2
  · exact hr.mono (hzo ▸ raiseIf_queue ..)

/-- R272: the foreground run of one lane ends. -/
theorem foregroundDone_lane {k : Fin 48} {t0 : Nat} (hheld : s.supplyHeld = false) (h : s.cal.lanes[k].foreground = some t0)
    (trims : List TrimWrite) :
    CalMoves (s.acquisitionStarts k) (s.foregroundDone (some k) trims) ∧ (s.foregroundDone (some k) trims).now = s.now ∧
    (s.foregroundDone (some k) trims).cal.lanes[k].foreground = none ∧
    Raises s (s.foregroundDone (some k) trims) .cal 0 0x10 (pk [(calCode k, 0), ((s.now - t0) / 1000000, 8)]) := by
  obtain ⟨b, hb, hbk, hx⟩ : ∃ b, CalMoves s b ∧ b.cal.lanes[k].foreground = none ∧ s.foregroundDone (some k) trims =
      (b.acquisitionStarts k).raise .cal 0 0x10 (pk [(calCode k, 0), ((s.now - t0) / 1000000, 8)]) := by
    unfold State.foregroundDone
    simp only [hheld, h, Bool.false_eq_true, if_false]
    refine ⟨_, ?_, ?_, rfl⟩
    · refine .trans (.trans ?_ (setCal_moves _ k _)) (applyForced_moves _ k)
      exact (roundOpens_moves s).trans (foregroundTrims_moves ..)
    · simp only [State.applyForced, State.applyForcedAt, State.setCal, upd_at]
  rw [hx]
  obtain ⟨hm, hc, hn, hp, hu⟩ := hb.acquisitionStarts k
  refine ⟨hm.trans (raise_moves ..), hm.now.trans hn, ?_, raises_raise _ (hm.power.trans hp) (hm.units.trans hu) (hm.now.trans hn)⟩
  rw [raise_cal, hc]
  exact hbk

/-! ### Windows, the test source and CALREF -/

theorem shares_getD (shares : Vector Byte 4) (i : Fin 4) : (shares.toList.map (·.toNat)).getD i.val 0 = shares[i].toNat := by
  simp

section
variable {shares : Vector Byte 4} {k : Fin 48} (hon : (calIslands k).all s.islandOn = true)
    (ht : (calIslands k).any s.underTest = false)
include hon ht

theorem occupancy_high (h : ∀ i : Fin 4, 20 ≤ shares[i].toNat) :
    ∃ m, s.occupancy k shares = s.setCal k fun c => { c with fed := c.fed + 1, occMin := m } := by
  have hf : ((List.range 4).find? fun i => decide ((shares.toList.map (·.toNat)).getD i 0 < 20)) = none := by
    refine List.find?_eq_none.2 fun i hi => ?_
    rw [shares_getD shares ⟨i, List.mem_range.1 hi⟩, decide_eq_true_eq]
    exact Nat.not_lt.2 (h _)
  unfold State.occupancy
  simp only [hon, ht, hf, Bool.not_true, Bool.or_self, Bool.false_eq_true, if_false]
  exact ⟨_, rfl⟩

theorem occupancy_low {i : Fin 4} (hi : shares[i].toNat < 20) (h : ∀ j : Fin 4, j < i → 20 ≤ shares[j].toNat) :
    ∃ m, s.occupancy k shares = ((s.roundOpens.setCal k fun c => { c with starved := true, fed := 0, occMin := m, part := false }).count
      .cal 0 4).raiseIf (!s.cal.lanes[k].starved) .cal 0 0x11 (pk [(calCode k, 0), (i.val, 8), (shares[i].toNat, 16)]) := by
  have hf : ((List.range 4).find? fun i => decide ((shares.toList.map (·.toNat)).getD i 0 < 20)) = some i.val := by
    refine List.find?_range_eq_some.2 ⟨?_, List.mem_range.2 i.isLt, fun j hj => ?_⟩
    · rw [shares_getD, decide_eq_true_eq]; exact hi
    · rw [shares_getD shares ⟨j, by omega⟩, decide_eq_false (Nat.not_lt.2 (h _ hj))]; rfl
  unfold State.occupancy
  simp only [hon, ht, hf, shares_getD, Bool.not_true, Bool.or_self, Bool.false_eq_true, if_false]
  exact ⟨_, rfl⟩

end

theorem laneFed_of {k : Fin 48} (hst : s.cal.lanes[k].starved = true) (hfed : 10 ≤ s.cal.lanes[k].fed) :
    s.laneFed k = (s.roundOpens.setCal k fun c => { c with starved := false }).raise .cal 0 0x12 (w32 (calCode k)) := by
  unfold State.laneFed
  rw [hst, decide_eq_false (by omega)]
  rfl

theorem connectSource_of {k : Fin 48} (hon : (calIslands k).all s.islandOn = true) (hfg : s.fgRuns = false)
    (hw : s.wantsSource k = true) : s.connectSource k = s.setCal k fun c => { c with internal := true } := by
  unfold State.connectSource
  rw [hon, hfg, hw]
  rfl

/-- R275: every lane begins a new sweep. -/
def CalLane.afresh (now : Nat) (c : CalLane) : CalLane :=
  { c with swept := false, steps := 0, covered := .replicate 4 0, begun := now }

theorem calrefBack_of (hr : s.cal.refInUse = false) (hg : 16 ≤ s.cal.refGood) :
    CalMoves s s.calrefBack ∧
    s.calrefBack.cal = { s.cal with
      refInUse := true, lanes := s.cal.lanes.map (·.afresh s.now), traced := s.calrefBack.cal.traced } := by
  have h : s.calrefBack = ({ s with cal := { s.cal with
      refInUse := true, lanes := s.cal.lanes.map (·.afresh s.now) } } : State).traceCheck := by
    unfold State.calrefBack
    rw [hr, decide_eq_false (by omega)]
    rfl
  rw [h]
  refine ⟨.trans (x := { s with cal := _ }) rfl (traceCheck_moves _), ?_⟩
  rw [traceCheck_cal]

end

/-- Settles O35. -/
theorem calibrationProceeds : Obligations.CalibrationProceeds := by
  unfold Obligations.CalibrationProceeds
  intro s dt trims n k shares o lane c put
  have hlane : Fin.ofNat 48 n.val = lane := Fin.ext (Nat.mod_eq_of_lt (by omega))
  refine ⟨?_, ?_, ?_, ?_, ?_, ?_⟩
  · intro t0 hrun hlive hround hnow
    refine event_gives (·.roundCommits trims) fun q _ => ?_
    have hc : ({ s.later dt with obs := q } : State).roundOpens.cal = o.cal := roundOpens_heard s dt q s.stats s.port.waiting
    obtain ⟨hm, hr, hf, hround', hl⟩ := roundCommits_of (s := { s.later dt with obs := q })
      hrun (hc ▸ hlive) (hc ▸ hround) (by simpa only [State.later] using hnow) trims
    rw [hc] at hl
    refine ⟨hm.becomes, hr, hf, ?_, fun j => ?_⟩
    · rw [finish_now, hm.now]; exact hround'
    · rw [finish_now, hm.now]; exact hl j
  · intro hheld t0
    constructor
    · intro h
      refine event_gives (·.foregroundDone none trims) fun q _ => ?_
      obtain ⟨hm, hn, hs, hd, hr⟩ := foregroundDone_all (s := { s.later dt with obs := q }) hheld h trims
      have hb : CalMoves (s.later dt) { s.later dt with obs := q } := rfl
      have hr' := finish_raised (s := s) hr hn
      refine ⟨(hb.acquisitionsStart.1.trans hm).becomesNow, hs, hd, ?_⟩
      rw [finish_now, hn]
      exact hr'
    · intro h
      refine event_gives (·.foregroundDone (some k) trims) fun q _ => ?_
      obtain ⟨hm, hn, hs, hr⟩ := foregroundDone_lane (s := { s.later dt with obs := q }) (k := k) hheld h trims
      have hb : CalMoves (s.later dt) { s.later dt with obs := q } := rfl
      have hr' := finish_raised (s := s) hr hn
      refine ⟨((hb.acquisitionStarts k).1.trans hm).becomesNow, hs, ?_⟩
      rw [finish_now, hn]
      exact hr'
  · intro hon ht
    constructor
    · intro h
      refine event_gives (·.occupancy lane shares) (fun q _ => ?_) (by rw [← hlane]; rfl)
      obtain ⟨m, hm⟩ := occupancy_high (s := { s.later dt with obs := q }) hon ht h
      rw [hm]
      refine turns_becomes ?_
      simp only [State.setCal, upd_at, finish_cal]
      rfl
    · intro i hi h
      refine event_gives (·.occupancy lane shares) (fun q _ => ?_) (by rw [← hlane]; rfl)
      obtain ⟨m, hm⟩ := occupancy_low (s := { s.later dt with obs := q }) hon ht hi h
      rw [hm]
      have hc : ({ s.later dt with obs := q } : State).roundOpens.cal = o.cal := roundOpens_heard s dt q s.stats s.port.waiting
      have hx := (opened_moves s dt q).trans (setCal_moves _ lane fun c => { c with
        starved := true, fed := 0, occMin := m, part := false })
      refine ⟨(hx.trans (.trans (count_moves _ .cal 0 4 1) (raiseIf_moves ..))).becomesTo ?_, fun hst => ?_⟩
      · simp only [finish_cal, raiseIf_cal, count_cal, State.setCal, upd_at, hc]
      · have hl := (roundOpens_moves (s.later dt)).trans hx
        exact finish_raised (raises_raiseIf _ (congrArg Bool.not hst) hl.power hl.units hl.now) hl.now
  · intro hst hfed
    refine event_gives (·.laneFed lane) (fun q _ => ?_) (by rw [← hlane]; rfl)
    rw [laneFed_of (s := { s.later dt with obs := q }) hst hfed]
    have hc : ({ s.later dt with obs := q } : State).roundOpens.cal = o.cal := roundOpens_heard s dt q s.stats s.port.waiting
    have hx := (opened_moves s dt q).trans (setCal_moves _ lane fun c => { c with starved := false })
    refine ⟨(hx.trans (raise_moves ..)).becomesTo ?_, ?_⟩
    · simp only [raise_cal, State.setCal, hc]
    · have hl := (roundOpens_moves (s.later dt)).trans hx
      exact finish_raised (raises_raise _ hl.power hl.units hl.now) hl.now
  · intro hon hfg hw
    refine event_gives (·.connectSource lane) (fun q _ => ?_) (by rw [← hlane]; rfl)
    rw [connectSource_of (s := { s.later dt with obs := q }) hon hfg hw]
    exact turns_becomes rfl
  · intro hr hg
    refine event_gives (·.calrefBack) (fun q _ => ?_)
    obtain ⟨hm, hc⟩ := calrefBack_of (s := { s.later dt with obs := q }) hr hg
    generalize State.calrefBack _ = x at *
    refine ⟨hm.becomesTo ?_, fun j => ?_⟩
    · rw [finish_cal, hc]; rfl
    · rw [finish_cal, hc, finish_now, hm.now]
      simp only [Fin.getElem_fin, Vector.getElem_map]
      rfl

end Sys2Proof.Machine

/-! ## A foreground run that ends a fade (R277, R281): the swap that fell due applies forced values -/

namespace Sys2Proof.Machine

/-- R277, R281: an ACTIVE device; line receiver 0 is ADMIN TEST, its banks fade, and the swap of its last step waits for the end
of the fade; slice 5, which is out of service, has a forced value that waits for that swap. -/
def fadingTestLane : State :=
  let s := ({ State.reset with power := { State.reset.power with dev := .active } } : State).setAdmin .lrx 0 .test
  { s with
    lrx := upd s.lrx 0 fun r =>
      { r with fade := some { step := 3, stepAt := 0, len := 2, cause := 1, profile := none } }
    cal := { s.cal with
      toForce := [(trimKey 0 0 5 0, 3)]
      lanes := upd s.cal.lanes 0 fun c => { c with swapDue := true, out := [5] } } }

/-- The forced value waits until the run starts, also for a round that opens. -/
theorem fadingTestLane_waits : ((fadingTestLane.later 0).roundOpens.cal.toForce == [(trimKey 0 0 5 0, 3)]) = true := by
  decide +kernel

/-- The run ends the fade, the swap takes place, and the forced value applies. -/
theorem fadingTestLane_applies : (match exec (.calLaneForeground 0 (cmdTo 0 0 0 [w32 (calCode 0)])) fadingTestLane with
    | .next t => t.cal.toForce.isEmpty
    | _ => false) = true := by
  decide +kernel

/-- Refutes O34: a foreground run on a line receiver in ADMIN TEST ends the fade of its banks, and the swap that waited for the
end of the fade applies forced values: more of calibration changes than its lanes. -/
theorem not_calibrationCommandsTakeEffect : ¬ Obligations.CalibrationCommandsTakeEffect := by
  unfold Obligations.CalibrationCommandsTakeEffect
  intro h
  obtain ⟨-, hrun, -⟩ := h fadingTestLane 0 0 0 0 0 0 0 (by decide +kernel) (by decide +kernel)
  obtain ⟨t, ht, -, hcal, -⟩ := hrun (by decide +kernel) (by decide +kernel) (by decide +kernel) (by decide +kernel)
    (by decide +kernel) (by decide +kernel)
  have happlied := fadingTestLane_applies
  have hwaits := eq_of_beq fadingTestLane_waits
  have hforce : t.cal.toForce = (fadingTestLane.later 0).roundOpens.cal.toForce :=
    (congrArg Cal.toForce hcal).trans rfl
  simp only [show exec (.calLaneForeground 0 (cmdTo 0 0 0 [w32 (calCode 0)])) fadingTestLane = .next t from ht, hforce,
    hwaits, List.isEmpty_cons, Bool.false_eq_true] at happlied

end Sys2Proof.Machine

/-! ## Housekeeping rounds, the throttle stage, sensors and shutdown (R300, R374 to R384) -/

namespace Sys2Proof.Machine

/-! ### What MC tells and counts -/

/-- From `s` to `x` only events have been raised and counters have counted. -/
structure Tells (s x : State) : Prop where
  frame : x = { s with obs := x.obs, stats := x.stats }
  queue : s.obs.queue <+: x.obs.queue

section
variable {s x y : State}

theorem tells_refl (s : State) : Tells s s := ⟨rfl, List.prefix_refl _⟩

theorem Tells.elim (h : Tells s x) : ∃ o k, x = { s with obs := o, stats := k } := ⟨_, _, h.frame⟩

theorem Tells.trans (h : Tells s x) (h' : Tells x y) : Tells s y := by
  refine ⟨?_, h.queue.trans h'.queue⟩
  obtain ⟨o, k, rfl⟩ := h.elim
  obtain ⟨o', k', rfl⟩ := h'.elim
  rfl

theorem Tells.notes (h : Tells s x) : Notes s x := by
  refine ⟨?_, h.queue⟩
  obtain ⟨o, k, rfl⟩ := h.elim
  rfl

theorem Tells.thm (h : Tells s x) : x.thm = s.thm := by obtain ⟨o, k, rfl⟩ := h.elim; rfl
theorem Tells.lrx (h : Tells s x) : x.lrx = s.lrx := by obtain ⟨o, k, rfl⟩ := h.elim; rfl
theorem Tells.mon (h : Tells s x) : x.mon = s.mon := by obtain ⟨o, k, rfl⟩ := h.elim; rfl
theorem Tells.now (h : Tells s x) : x.now = s.now := by obtain ⟨o, k, rfl⟩ := h.elim; rfl
theorem Tells.power (h : Tells s x) : x.power = s.power := by obtain ⟨o, k, rfl⟩ := h.elim; rfl
theorem Tells.units (h : Tells s x) : x.units = s.units := by obtain ⟨o, k, rfl⟩ := h.elim; rfl

end

theorem raise_tells (s : State) (c : Cls) (i code : Nat) (arg : Word) : Tells s (s.raise c i code arg) := ⟨rfl, raise_queue ..⟩

theorem raiseIf_tells (s : State) (b : Bool) (c : Cls) (i code : Nat) (arg : Word) : Tells s (s.raiseIf b c i code arg) := by
  cases b
  · exact tells_refl s
  · exact raise_tells s c i code arg

theorem count_tells (s : State) (c : Cls) (i : Nat) (j : Fin 9) (n : Nat) : Tells s (s.count c i j n) :=
  ⟨rfl, List.prefix_refl _⟩

theorem signal_tells (s : State) (c : Cls) (i sig n : Nat) : Tells s (s.signal c i sig n) := ⟨rfl, signal_queue ..⟩

theorem foldl_tells {α : Type} {f : State → α → State} (h : ∀ s a, Tells s (f s a)) (l : List α) (s : State) :
    Tells s (l.foldl f s) := by
  induction l generalizing s with
  | nil => exact tells_refl s
  | cons a l ih => exact (h s a).trans (ih _)

theorem sensorEvents_tells (s : State) (old : Vector Sensor 24) (i : Fin 24) : Tells s (s.sensorEvents old i) := by
  unfold State.sensorEvents
  extract_lets o t a b d
  have hb : Tells s b := by
    refine (count_tells s .thm i 0 1).trans ?_
    simp only [b]
    split
    · exact (count_tells ..).trans (raise_tells ..)
    · exact tells_refl _
  exact hb.trans ((raiseIf_tells ..).trans ((raiseIf_tells ..).trans (raiseIf_tells ..)))

/-! ### The throttle stage -/

section
variable {s : State}

/-- R180, R190: a line receiver at a change of the stage. -/
def State.stageLane (n : Nat) (t : State) (l : Fin 8) : State :=
  let r := t.lrx[l]
  if n = 2 ∧ r.frozen ∧ t.isUp .lrx l then
    (t.setLrx l fun r => { r with skipped := true }).raise .lrx l 0x1F (w32 r.lmi.value.toNat)
  else t.setLrx l fun r => { r with skipped := r.skipped && n == 2 }

/-- Of the state only receivers change, beside what MC tells. -/
structure LanesTell (s x : State) : Prop where
  frame : x = { s with lrx := x.lrx, obs := x.obs, stats := x.stats }
  queue : s.obs.queue <+: x.obs.queue

theorem stageLane_tells (n : Nat) (t : State) (l : Fin 8) : LanesTell t (t.stageLane n l) := by
  unfold State.stageLane
  dsimp only
  split
  · exact ⟨rfl, (raise_tells ..).queue⟩
  · exact ⟨rfl, List.prefix_refl _⟩

theorem foldl_stageLane (n : Nat) (L : List (Fin 8)) (t : State) : LanesTell t (L.foldl (State.stageLane n) t) := by
  induction L generalizing t with
  | nil => exact ⟨rfl, List.prefix_refl _⟩
  | cons l L ih =>
    obtain ⟨hf, hq⟩ := stageLane_tells n t l
    obtain ⟨hf', hq'⟩ := ih (t.stageLane n l)
    refine ⟨?_, hq.trans hq'⟩
    rw [List.foldl_cons, hf', hf]

/-- R190: below stage 2 no lane is skipped. -/
theorem foldl_stageLane_low {n : Nat} (hn : n ≠ 2) (L : List (Fin 8)) (t : State) (k : Fin 8) :
    (L.foldl (State.stageLane n) t).lrx[k] = if k ∈ L then { t.lrx[k] with skipped := false } else t.lrx[k] := by
  induction L generalizing t with
  | nil => simp
  | cons l L ih =>
    have hl : t.stageLane n l = t.setLrx l fun r => { r with skipped := false } := by
      unfold State.stageLane
      simp only [hn, false_and, if_false, beq_eq_false_iff_ne.2 hn, Bool.and_false]
    rw [List.foldl_cons, ih, hl, setLrx_lrx]
    by_cases hk : l = k
    · subst hk; simp only [upd_at, List.mem_cons, true_or, if_true]; split <;> rfl
    · rw [upd_get_ne _ _ hk]; simp [List.mem_cons, Ne.symm hk]

/-- R376: what the stage leaves of the thermal state. -/
def Thermal.atStage (t : Thermal) (n now : Nat) : Thermal := { t with stage := n, exit := 0, changed := now }

theorem setStage_of {n : Nat} (hn : s.thm.stage ≠ n) :
    s.setStage n = { s with thm := s.thm.atStage n s.now, lrx := (s.setStage n).lrx, obs := (s.setStage n).obs
                            stats := (s.setStage n).stats } ∧
    Raises s (s.setStage n) .thm 0x60 0x12
      (pk [(n, 0), (s.thm.stage, 2), (s.hotSensor, 8), (s.hotValue.toNat, 16)]) ∧
    (n ≠ 2 → (s.setStage n).lrx = s.lrx.map fun r => { r with skipped := false }) := by
  have h : s.setStage n = (fins 8).foldl (State.stageLane n) ((s.mapThm (·.atStage n s.now)).raise .thm 0x60 0x12
      (pk [(n, 0), (s.thm.stage, 2), (s.hotSensor, 8), (s.hotValue.toNat, 16)])) := if_neg hn
  rw [h]
  obtain ⟨hf, hq⟩ := foldl_stageLane n (fins 8) ((s.mapThm (·.atStage n s.now)).raise .thm 0x60 0x12
      (pk [(n, 0), (s.thm.stage, 2), (s.hotSensor, 8), (s.hotValue.toNat, 16)]))
  refine ⟨hf.trans rfl, Raises.mono (raises_raise _ rfl rfl rfl) hq, fun h2 => ?_⟩
  refine Vector.ext fun k hk => ?_
  have := foldl_stageLane_low h2 (fins 8) ((s.mapThm (·.atStage n s.now)).raise .thm 0x60 0x12
      (pk [(n, 0), (s.thm.stage, 2), (s.hotSensor, 8), (s.hotValue.toNat, 16)])) ⟨k, hk⟩
  simp only [mem_fins, if_true, Fin.getElem_fin] at this
  rw [this, Vector.getElem_map]
  rfl

theorem setStage_low {n : Nat} (hn : s.thm.stage ≠ n) (h2 : n ≠ 2) :
    Turns { s with thm := s.thm.atStage n s.now, lrx := s.lrx.map fun r => { r with skipped := false } } (s.setStage n) := by
  obtain ⟨hf, -, hl⟩ := setStage_of hn
  rw [hl h2] at hf
  exact turns_iff.2 ⟨_, s.mon, _, s.free, hf⟩

theorem stageFalls_of (hx : 16 ≤ s.thm.exit) (hb : s.power.blind = false) : s.stageFalls = s.setStage (s.thm.stage - 1) := by
  unfold State.stageFalls
  exact if_neg (by rw [hb]; simp; omega)

theorem sensorReturns_of {i : Fin 24} (hc : s.thm.sensors[i].cause ≠ 0) (hg : 256 ≤ s.thm.sensors[i].good) :
    s.sensorReturns i = (s.mapThm fun x => { x with sensors := upd x.sensors i fun t =>
      { t with cause := 0, good := 0, alone := false } }).raise .thm i 0x14 (w32 s.thm.sensors[i].reading.toNat) :=
  if_neg (by omega)

end

/-! ### Shutdown -/

section
variable {s : State}

theorem shutsDown_of (hp : s.power.powered = true) (hl : s.power.latch = false) (hd : s.power.dev ≠ .off) : s.shutsDown =
    { s.cleared with
      units := s.units
      power := { s.power with latch := true, dev := .shutdown, inReset := false, pinLow := false, railsLow := 0, mcSilent := false }
      boot := s.boot, fw := { s.fw with declared := 0, stage := [] }, setup := s.setup
      dom := { powered := 0, hostOff := 0, failed := 0, since := .replicate 78 s.now }
      port := { portReset with replies := s.port.replies, waiting := s.port.waiting, miso := s.port.miso }
      obs := { obsReset with recs := obsReset.recs.set 0 { recReset .failed 0 with changed := s.now } } } := by
  unfold State.shutsDown
  rw [hp, hl, beq_eq_false_iff_ne.2 hd]
  rfl

/-- Where MC does not run and no capture waits for a trigger, nothing follows a row that has raised nothing. -/
theorem finish_still (hm : s.mcRuns = false) (hs : s.mon.sets = []) (hf : s.obs.fired = []) (hq : s.obs.seen = s.obs.queued) :
    finish s = s := by
  have hi : s.immediates = s := by unfold State.immediates; rw [hs]; rfl
  have hfire : s.fireAll 64 [] = s := by
    unfold State.fireAll
    rw [hf]; rfl
  unfold finish
  simp only [hm, Bool.false_eq_true, if_false, hi, hs, List.length_nil, Nat.zero_add, hfire]
  rw [← hf]
  exact congrArg (fun n : Nat => ({ s with obs := { s.obs with seen := n } } : State)) hq.symm

/-- R384: the shutdown row, whole. -/
theorem shutsDown_finish (hp : s.power.powered = true) (hl : s.power.latch = false) (hd : s.power.dev ≠ .off) :
    finish s.shutsDown = s.shutsDown := by
  rw [shutsDown_of hp hl hd]
  exact finish_still (by unfold State.mcRuns; simp) rfl rfl rfl

end

/-! ### A round of the housekeeping ADC -/

/-- What a round changes from the point where its readings are stored: temperatures and supplies, receivers that stay off
lean, calibration where CALREF fails, and what MC tells. -/
def RoundMoves (s x : State) : Prop :=
  x = { s with
    thm := x.thm, power := { s.power with blind := x.power.blind }, lrx := x.lrx, cal := x.cal, obs := x.obs, stats := x.stats
    free := x.free }

section
variable {s x y : State}

theorem roundMoves_iff : RoundMoves s x ↔ ∃ t b l c o k n, x = { s with
    thm := t, power := { s.power with blind := b }, lrx := l, cal := c, obs := o, stats := k, free := n } :=
  ⟨fun h => ⟨_, _, _, _, _, _, _, h⟩, fun ⟨t, b, l, c, o, k, n, h⟩ => by subst h; rfl⟩

theorem RoundMoves.trans (h : RoundMoves s x) (h' : RoundMoves x y) : RoundMoves s y := by
  obtain ⟨t, b, l, c, o, k, n, rfl⟩ := roundMoves_iff.1 h
  obtain ⟨t', b', l', c', o', k', n', rfl⟩ := roundMoves_iff.1 h'
  rfl

theorem Tells.round (h : Tells s x) : RoundMoves s x := by
  obtain ⟨o, k, rfl⟩ := h.elim
  rfl


/-- Only calibration moves, beside what MC tells and the model's counter of free values. -/
def CalTells (s x : State) : Prop := CalMoves s x ∧ x.mon = s.mon

theorem CalTells.trans (h : CalTells s x) (h' : CalTells x y) : CalTells s y := ⟨h.1.trans h'.1, h'.2.trans h.2⟩

theorem calTells_refl (s : State) : CalTells s s := ⟨calMoves_refl s, rfl⟩

theorem Tells.cal (h : Tells s x) : CalTells s x := by
  obtain ⟨o, k, rfl⟩ := h.elim
  exact ⟨rfl, rfl⟩

theorem roundOpens_calTells (s : State) : CalTells s s.roundOpens := ⟨roundOpens_moves s, by rw [roundOpens_frame]⟩

theorem roundsResume_calTells (s : State) : CalTells s s.roundsResume :=
  ⟨(roundsResume_keeps s).1, by rw [roundsResume_frame]⟩

theorem traceCheck_calTells (s : State) : CalTells s s.traceCheck :=
  .trans (x := { s with cal := { s.cal with traced := s.tracedNow } }) ⟨rfl, rfl⟩ (raiseIf_tells ..).cal

theorem voidAll_calTells (s : State) (cause : Nat) : CalTells s (s.voidAll cause) := by
  unfold State.voidAll
  extract_lets a c t u
  have hu : CalTells s u := by
    refine (roundOpens_calTells s).trans ?_
    simp only [u]
    split
    · refine .trans (x := t) ⟨rfl, rfl⟩ ?_
      exact ((count_tells ..).trans ((signal_tells ..).trans (raise_tells ..))).cal
    · exact calTells_refl a
  have hs : CalTells u u.roundsStop := ⟨rfl, rfl⟩
  split
  · exact (hu.trans hs).trans (roundsResume_calTells _)
  · exact hu.trans hs

theorem calrefRead_calTells (s : State) (v : Nat) : CalTells s (s.calrefRead v) := by
  unfold State.calrefRead
  extract_lets inside c t u c' w
  have ht : CalTells s t := ⟨rfl, rfl⟩
  split
  · have hw : CalTells u w := ⟨rfl, rfl⟩
    exact ((ht.trans (voidAll_calTells t 2)).trans hw).trans ((raise_tells ..).cal.trans (traceCheck_calTells _))
  · exact ht

theorem CalTells.round (h : CalTells s x) : RoundMoves s x := by
  obtain ⟨hm, hmon⟩ := h
  obtain ⟨c, o, m, k, n, rfl⟩ := calMoves_iff.1 hm
  cases hmon
  rfl

theorem turns_thm (h : Turns s x) : x.thm = s.thm := by
  obtain ⟨o, m, k, n, rfl⟩ := turns_iff.1 h
  rfl

theorem CalTells.thm (h : CalTells s x) : x.thm = s.thm ∧ x.power = s.power := by
  obtain ⟨c, o, m, k, n, rfl⟩ := calMoves_iff.1 h.1
  exact ⟨rfl, rfl⟩

/-! The readings of a round. -/

/-- What the reading of channels changes: MON, but not its count of rounds. -/
def HkReads (s x : State) : Prop := Turns s x ∧ x.mon.rounds = s.mon.rounds

theorem foldl_hkReads {α : Type} {f : State → α → State} (h : ∀ s a, HkReads s (f s a)) (l : List α) (s : State) :
    HkReads s (l.foldl f s) := by
  induction l generalizing s with
  | nil => exact ⟨rfl, rfl⟩
  | cons a l ih =>
    obtain ⟨ht, hr⟩ := h s a
    obtain ⟨ht', hr'⟩ := ih (f s a)
    refine ⟨?_, hr'.trans hr⟩
    obtain ⟨o, m, k, n, hx⟩ := turns_iff.1 ht
    rw [List.foldl_cons]
    rw [hx] at ht' ⊢
    obtain ⟨o', m', k', n', hy⟩ := turns_iff.1 ht'
    rw [hy]
    rfl

theorem hkStore_of (s : State) (m : List HkReading) :
    Turns s (s.hkStore m) ∧ (s.hkStore m).mon.rounds = (s.mon.rounds + 1) % 2 ^ 32 := by
  unfold State.hkStore
  extract_lets l b last c u
  have hb : HkReads s b := foldl_hkReads (fun t p => by split <;> exact ⟨rfl, rfl⟩) _ s
  clear_value b
  have hu : u.mon.rounds = (s.mon.rounds + 1) % 2 ^ 32 := congrArg (fun n => (n + 1) % 2 ^ 32) hb.2
  refine ⟨?_, hu⟩
  obtain ⟨o, m, k, n, rfl⟩ := turns_iff.1 hb.1
  rfl

/-- R375: a round's reading of a sensor stands, whatever the round declares of it. -/
theorem reading_keeps (m : List HkReading) (j : Fin 24) {x : HkReading} (h : m[j.val]? = some x) (s : State) :
    ((substitute (declare (takeReadings s m))).map Sensor.levels)[j].reading = x.value := by
  have hl (t : Sensor) : t.levels.reading = t.reading := rfl
  have hs (v : Vector Sensor 24) : (substitute v)[j].reading = v[j].reading := by
    unfold substitute
    rw [vmapIx_get]
    split
    · rfl
    · split <;> rfl
  have hd (v : Vector Sensor 24) : (declare v)[j].reading = v[j].reading := by
    unfold declare
    rw [vmapIx_get]
    dsimp only
    split
    · split <;> rfl
    · rfl
  have ht : (takeReadings s m)[j].reading = x.value := by
    unfold takeReadings
    rw [vmapIx_get, h]
  rw [Fin.getElem_fin, Vector.getElem_map, hl, ← Fin.getElem_fin, hs, hd, ht]

/-- R376: the stage that the temperatures of a round ask for. -/
def State.wantStage (s : State) : Nat :=
  if s.power.blind ∨ 1888 ≤ s16 s.hotValue then 2 else if 1792 ≤ s16 s.hotValue then 1 else 0

/-- R376: the stage rises at once to what the temperatures ask for, and does not fall at the end of a round. -/
theorem stageRound_of (s : State) (declared : Bool) :
    RoundMoves s (s.stageRound declared) ∧ (s.stageRound declared).thm.sensors = s.thm.sensors ∧
    (s.stageRound declared).thm.supply = s.thm.supply ∧ (s.stageRound declared).power = s.power ∧
    (s.stageRound declared).thm.stage = max s.thm.stage s.wantStage := by
  unfold State.stageRound
  by_cases h : s.thm.stage < s.wantStage
  · have hx := (setStage_of (s := s) (n := s.wantStage) (by omega)).1
    have hif : (s.stageRound declared) = s.setStage s.wantStage := if_pos h
    unfold State.stageRound at hif
    rw [hif, hx]
    exact ⟨rfl, rfl, rfl, rfl, (max_eq_right h.le).symm⟩
  · have hif : ∃ e : Thermal → Nat, (s.stageRound declared) = s.mapThm fun t => { t with exit := e t } := ⟨_, if_neg h⟩
    unfold State.stageRound at hif
    obtain ⟨e, hif⟩ := hif
    rw [hif]
    exact ⟨rfl, rfl, rfl, rfl, (max_eq_left (Nat.le_of_not_lt h)).symm⟩

theorem railReadings_of (s : State) (l : List Nat) (m : List HkReading) :
    ∃ v, s.railReadings l m = { s with thm := { s.thm with rails := v } } := ⟨_, rfl⟩

/-- R391: the hottest sensor is a matter of the sensors. -/
theorem hotValue_congr (h : x.thm.sensors = s.thm.sensors) : x.hotValue = s.hotValue := by
  simp only [State.hotValue, State.hotSensor, h]

/-- R300, R375 to R382: a round, whole. -/
theorem round_of (hp : s.power.powered = true) (hr : s.power.inReset = false) (hl : s.power.latch = false) (m : List HkReading) :
    Turns { s with thm := (s.round m).thm, power := { s.power with blind := (s.round m).power.blind }, lrx := (s.round m).lrx
                   cal := (s.round m).cal } (s.round m) ∧
    (s.round m).thm.sensors = (substitute (declare (takeReadings (s.hkStore m) m))).map Sensor.levels ∧
    (s.round m).thm.supply = s.thm.supply ∧ (s.round m).thm.stage = max s.thm.stage (s.round m).wantStage ∧
    (s.round m).mon.rounds = (s.mon.rounds + 1) % 2 ^ 32 := by
  generalize hx : s.round m = x
  unfold State.round at hx
  rw [if_neg (by rw [hp, hr, hl]; simp)] at hx
  extract_lets read a v b d p e f g at hx
  obtain ⟨hat, har⟩ : Turns s a ∧ a.mon.rounds = (s.mon.rounds + 1) % 2 ^ 32 := hkStore_of s m
  have hd : Tells b d := foldl_tells (fun t i => sensorEvents_tells t _ i) _ b
  have hdv : d.thm = { a.thm with sensors := v } := hd.thm
  have hed : RoundMoves d e := rfl
  obtain ⟨hf, hfsens, hfsup, hfpow, hfst⟩ := stageRound_of e ((fins 24).any fun i => s.thm.sensors[i].cause == 0 && v[i].cause != 0)
  have hg : RoundMoves f g := rfl
  have hgx : CalTells g x := by
    split at hx
    · split at hx
      · exact hx ▸ calrefRead_calTells ..
      · exact hx ▸ calTells_refl g
    · exact hx ▸ calTells_refl g
  have hbx : RoundMoves b x := (hd.round.trans hed).trans ((hf.trans hg).trans hgx.round)
  have hxthm : x.thm = { f.thm with rails := x.thm.rails } := by rw [hgx.thm.1]; rfl
  have hxpow : x.power = f.power := hgx.thm.2
  have hsens : x.thm.sensors = v := by rw [hxthm, hfsens]; exact congrArg Thermal.sensors hdv
  have hwant : e.wantStage = x.wantStage := by
    unfold State.wantStage
    rw [hotValue_congr (s := e) (x := x) (by rw [hxthm, hfsens]), hxpow, hfpow]
  have hsup : x.thm.supply = s.thm.supply := by
    rw [hxthm, hfsup, show e.thm = d.thm from rfl, hdv, turns_thm hat]
  have hst : x.thm.stage = max s.thm.stage x.wantStage := by
    have has : a.thm.stage = s.thm.stage := congrArg Thermal.stage (turns_thm hat)
    have hes : e.thm.stage = s.thm.stage := (congrArg Thermal.stage hdv).trans has
    rw [← hwant, ← hes, ← hfst, hxthm]
  have hmon : x.mon = a.mon := by rw [hbx]; rfl
  refine ⟨?_, hsens, hsup, hst, hmon ▸ har⟩
  clear_value a
  obtain ⟨o, w, k, n, rfl⟩ := turns_iff.1 hat
  obtain ⟨t, y, l, c, o', k', n', rfl⟩ := roundMoves_iff.1 hbx
  rfl

end

/-- Settles O37. -/
theorem temperatureIsManaged : Obligations.TemperatureIsManaged := by
  unfold Obligations.TemperatureIsManaged
  intro s dt m i
  refine ⟨?_, ?_, ?_, ?_⟩
  · intro hp hr hl
    refine event_gives (·.round m) fun q _ => ?_
    obtain ⟨ht, hs, hsup, hst, hmon⟩ := round_of (s := { s.later dt with obs := q }) hp hr hl m
    generalize State.round _ m = x at *
    refine ⟨turns_becomes ht, fun j y hy => ?_, fun h => ?_, fun h => ?_, ?_, hsup, x, rfl, hmon⟩
    · rw [finish_thm, hs]; exact reading_keeps m j hy _
    · have hw : x.wantStage = 2 := if_pos h.symm
      change x.thm.stage = 2 ∨ 2 < s.thm.stage
      rw [hst, hw]
      change max s.thm.stage 2 = 2 ∨ 2 < s.thm.stage
      omega
    · have hw : 1 ≤ x.wantStage := by
        unfold State.wantStage
        split
        · exact one_le_two
        · rw [if_pos (show 1792 ≤ s16 x.hotValue from h)]
      rw [finish_thm, hst]
      exact hw.trans (le_max_right _ _)
    · rw [finish_thm, hst]; exact le_max_left _ _
  · intro hx hb h1 h2
    refine event_gives (·.stageFalls) fun q _ => ?_
    rw [stageFalls_of (s := { s.later dt with obs := q }) hx hb]
    have hn : ({ s.later dt with obs := q } : State).thm.stage ≠ s.thm.stage - 1 := show s.thm.stage ≠ _ by omega
    exact turns_raised (setStage_low hn (show s.thm.stage - 1 ≠ 2 by omega)) (setStage_of hn).2.1
  · intro hc hg
    refine event_gives (·.sensorReturns i) fun q _ => ?_
    rw [sensorReturns_of (s := { s.later dt with obs := q }) hc hg]
    exact turns_raised rfl (raises_raise _ rfl rfl rfl)
  · intro hp hl hd shut
    have h (q : Obs) : finish (State.shutsDown { s.later dt with obs := q }) = shut := by
      rw [shutsDown_finish (s := { s.later dt with obs := q }) hp hl hd, shutsDown_of (s := { s.later dt with obs := q }) hp hl hd]
      rfl
    refine ⟨event_gives (·.shutsDown) fun q _ => h q, fun hh => event_gives (·.digitalHot i) fun q _ => ?_⟩
    rw [show State.digitalHot { s.later dt with obs := q } i = State.shutsDown { s.later dt with obs := q } from
      if_neg (Nat.not_lt.2 hh)]
    exact h q

end Sys2Proof.Machine

/-! ## Supply warning episodes and VDD_FUSE (R385 to R387, R391, R393) -/

namespace Sys2Proof.Machine

/-- R177, R387: every adaptation round is voided. -/
theorem voidRounds_of (s : State) :
    ∃ k, (fins 8).foldl State.voidRound s = { s with lrx := s.lrx.map (·.voidedRound), stats := k } := by
  have h : (fins 8).foldl State.voidRound s = (fins 8).foldl (fun u l => if (fun _ => true) l then u.voidRound l else u) s := by
    simp only [if_true]
  obtain ⟨v, k, hv⟩ := foldl_void_frame (fun _ => true) (fins 8) s
  refine ⟨k, h.trans (hv.trans ?_)⟩
  have hl : v = s.lrx.map (·.voidedRound) := by
    refine Vector.ext fun j hj => ?_
    have hj' := foldl_void_lane (fun _ => true) (fins 8) s ⟨j, hj⟩
    rw [hv] at hj'
    simpa [mem_fins] using hj'
  rw [hl]

section
variable {s : State}

/-- R387: what a warning leaves of a self-test that runs. -/
def Bist.warned (b : Bist) : Bist := if b.phase = .running ∧ !b.abort then { b with supply := true } else b

theorem supplyVoids_of (s : State) : ∃ c, Turns { s with
    lrx := s.lrx.map (·.voidedRound), cal := c, bist := s.bist.map (·.warned) } s.supplyVoids := by
  unfold State.supplyVoids
  extract_lets t
  have hc := voidAll_calTells s 1
  obtain ⟨k, hk⟩ := voidRounds_of (s.voidAll 1)
  have ht : t = _ := hk
  rw [ht]
  obtain ⟨c, o, m, k', n, hx⟩ := calMoves_iff.1 hc.1
  rw [hx]
  exact ⟨c, rfl⟩

theorem supplyFalls_of {r : Fin 12} {v : Nat} (hp : s.power.powered = true) (hr : s.power.inReset = false)
    (hl : s.power.latch = false) (hw : s.belowWarn r v = true) (hs : s.thm.supply = .none) :
    ∃ rails c, Turns { s with thm := { s.thm with supply := .episode s.now false r, rails := rails }
                              lrx := s.lrx.map (·.voidedRound), cal := c, bist := s.bist.map (·.warned) }
        (s.supplyFalls r v) ∧
      rails[r].low = true ∧ (s.thm.rails[r].low = false → rails[r].min = v ∧ rails[r].dip = s.now) := by
  have hlow : s.supplyLow = false := by unfold State.supplyLow; rw [hs]
  have hheld : s.supplyHeld = false := by unfold State.supplyHeld; rw [hs]
  generalize hx : s.supplyFalls r v = x
  unfold State.supplyFalls at hx
  obtain ⟨c, ha⟩ := supplyVoids_of s
  simp only [hp, hr, hl, hw, hlow, hheld, Bool.not_true, Bool.not_false, Bool.or_self, Bool.false_eq_true, if_false,
    and_true] at hx
  generalize s.supplyVoids = a at *
  generalize hb : (if (!s.thm.rails[r].low) = true then a.count .thm (0x40 + r.val) 0 else a) = b at *
  have hbt : Turns { s with lrx := s.lrx.map (·.voidedRound), cal := c, bist := s.bist.map (·.warned) } b := by
    rw [← hb]
    split
    · exact ha.count
    · exact ha
  clear hb ha
  obtain ⟨o, m, k, n, rfl⟩ := turns_iff.1 hbt
  unfold State.mapThm at hx
  simp only [hs] at hx
  subst hx
  refine ⟨_, c, rfl, ?_, fun hlow => ?_⟩
  · rw [vmapIx_get]; simp
  · rw [Fin.getElem_fin] at hlow
    rw [vmapIx_get]; simp [hlow]

theorem supplyOngoing_of {st first : Nat} (hs : s.thm.supply = .episode st false first) (hn : st + 1000000 ≤ s.now) :
    s.supplyOngoing = (s.supplyWarned first true).mapThm fun t => { t with supply := .episode st true first } := by
  unfold State.supplyOngoing
  rw [hs]
  exact if_neg (by omega)

theorem supplyEnds_of {st first : Nat} {w : Bool} (hs : s.thm.supply = .episode st w first) :
    Turns { s with thm := { s.thm with
      supply := .recovering st s.now true first
      rails := s.thm.rails.map fun r => { r with low := false, lastMin := r.min, lastUs := (s.now - st) / 1000 } } } s.supplyEnds ∧
    (w = false → Raises s s.supplyEnds .thm 0x60 0x16 (pk [(first, 0), (0, 4), (s.thm.rails[Fin.ofNat 12 first].min % 65536, 16)])) := by
  generalize hx : s.supplyEnds = x
  unfold State.supplyEnds at hx
  simp only [hs] at hx
  have ha (L : List (Fin 12)) (f : Fin 12 → Nat) : Tells s (L.foldl (fun t r => t.count .thm (0x40 + r.val) 1 (f r)) s) :=
    foldl_tells (fun t i => count_tells ..) _ s
  generalize hA : List.foldl _ s _ = a at hx
  have hat : Tells s a := hA ▸ ha _ _
  have hw : w = false → Raises s (a.supplyWarned first false) .thm 0x60 0x16
      (pk [(first, 0), (0, 4), (s.thm.rails[Fin.ofNat 12 first].min % 65536, 16)]) := fun _ => by
    unfold State.supplyWarned
    rw [hat.thm]
    exact raises_raise a hat.power hat.units hat.now
  generalize hb : (if w = true then a else a.supplyWarned first false) = b at hx
  have hab : Tells a b := by
    rw [← hb]
    split
    · exact tells_refl a
    · exact raise_tells ..
  subst hx
  refine ⟨?_, fun h => ?_⟩
  · obtain ⟨o, k, rfl⟩ := (hat.trans hab).elim
    rfl
  · refine Raises.mono (hw h) ?_
    rw [← hb, h]
    exact List.prefix_refl _

theorem supplyReturns_of {st e first : Nat} {w : Bool} (hs : s.thm.supply = .recovering st e w first)
    (hn : e + 1000000 ≤ s.now) : s.supplyReturns =
      ((s.mapThm fun t => { t with supply := .none }).raise .thm 0x60 0x17 (w32 (sat32 ((e - st) / 1000)))).roundsResume := by
  unfold State.supplyReturns
  rw [hs]
  exact if_neg (by omega)

/-- R267: rounds that resume are in progress where they run. -/
theorem roundsResume_live (s : State) (h : s.calRuns = true) : s.roundsResume.cal.live = true := by
  unfold State.roundsResume
  split
  next hl =>
    unfold State.roundOpens
    dsimp only
    rw [if_neg (by
      have hr : ({ s with cal := { s.cal with round := some s.now } } : State).calRuns = true := h
      simp only [hr, Bool.not_true, Bool.or_false, lt_self_iff_false, decide_false]
      simpa [h] using hl)]
  next hl => simpa [h] using hl

/-- R267: rounds resume without regard to the events that MC has queued. -/
theorem roundsResume_obs (s : State) (q : Obs) : ({ s with obs := q } : State).roundsResume.cal = s.roundsResume.cal := by
  unfold State.roundsResume
  refine (apply_ite State.cal _ _ _).trans (.trans ?_ (apply_ite State.cal _ _ _).symm)
  rw [show ({ s with cal := { s.cal with round := some s.now } } : State).roundOpens.cal =
      ({ s with cal := { s.cal with round := some s.now }, obs := q } : State).roundOpens.cal from
    (roundOpens_lanes { s with cal := { s.cal with round := some s.now } } s.lrx q s.stats fun _ => rfl).symm]
  rfl

theorem roundsResume_turns (s : State) (q : Obs) : Turns s.roundsResume ({ s with obs := q } : State).roundsResume := by
  have h := roundsResume_obs s q
  rw [roundsResume_frame s, roundsResume_frame { s with obs := q }, h]
  rfl

theorem fuseRail_raises {u : State} {q : Obs} {mv : Nat} (hu : u = { s with obs := q })
    (h : decide (1746 ≤ mv ∧ mv ≤ 1854) ≠ s.fuseOk) :
    Raises s (u.fuseRail mv) .thm 0x4B 0x18 (w32 (b2n (decide (1746 ≤ mv ∧ mv ≤ 1854)))) := by
  subst hu
  have hok : (({ s with obs := q } : State).mapThm fun t => { t with fuseMv := mv }).fuseOk =
      decide (1746 ≤ mv ∧ mv ≤ 1854) := (Bool.decide_and ..).symm
  have hb : ((({ s with obs := q } : State).mapThm fun t => { t with fuseMv := mv }).fuseOk !=
      ({ s with obs := q } : State).fuseOk) = true := by
    rw [hok]; exact bne_iff_ne.2 h
  unfold State.fuseRail
  dsimp only
  rw [hok] at hb ⊢
  exact raises_raiseIf _ hb rfl rfl rfl

end

/-- Settles O38. -/
theorem supplyEpisodesRun : Obligations.SupplyEpisodesRun := by
  unfold Obligations.SupplyEpisodesRun
  intro s dt r v mv st e first w
  refine ⟨?_, ?_, ?_, ?_, ?_⟩
  · intro hp hr hl hw hs
    refine event_gives (·.supplyFalls r v) fun q _ => ?_
    obtain ⟨rails, c, ht, hlow, hmin⟩ := supplyFalls_of (s := { s.later dt with obs := q }) hp hr hl hw hs
    generalize State.supplyFalls _ r v = x at *
    obtain ⟨o, m, k, n, rfl⟩ := turns_iff.1 ht
    refine ⟨turns_becomes rfl, hlow, hmin, fun l => ?_, fun i hi ha => ?_⟩
    · change (s.lrx.map Lrx.voidedRound)[l].round = none ∧ (s.lrx.map Lrx.voidedRound)[l].banks = s.lrx[l].banks
      simp only [Fin.getElem_fin, Vector.getElem_map, voidedRound_round, true_and]
      rw [voidedRound_keeps]
    · change (s.bist.map Bist.warned)[i].supply = true
      simp only [Fin.getElem_fin, Vector.getElem_map] at hi ha ⊢
      unfold Bist.warned
      rw [if_pos ⟨hi, by rw [ha]; rfl⟩]
  · intro hs hn
    refine event_gives (·.supplyOngoing) fun q _ => ?_
    rw [supplyOngoing_of (s := { s.later dt with obs := q }) hs (show st + 1000000 ≤ s.now + dt from hn)]
    exact turns_raised rfl (raises_raise _ rfl rfl rfl)
  · intro hs
    refine event_gives (·.supplyEnds) fun q _ => ?_
    obtain ⟨ht, hr⟩ := supplyEnds_of (s := { s.later dt with obs := q }) hs
    exact ⟨turns_becomes ht, fun hw => finish_raised (hr hw) ht.now⟩
  · intro hs hn
    refine event_gives (·.supplyReturns) fun q _ => ?_
    rw [supplyReturns_of (s := { s.later dt with obs := q }) hs (show e + 1000000 ≤ s.now + dt from hn)]
    generalize hy : State.raise _ .thm 0x60 0x17 _ = y
    have hr : Raises (s.later dt) y .thm 0x60 0x17 (w32 (min ((e - st) / 1000) 0xFFFFFFFF)) := hy ▸ raises_raise _ rfl rfl rfl
    have hyt : y = { ({ s.later dt with thm := { s.thm with supply := .none } } : State) with obs := y.obs } := hy ▸ rfl
    have ht : Turns ({ s.later dt with thm := { s.thm with supply := .none } } : State).roundsResume y.roundsResume := by
      rw [hyt]; exact roundsResume_turns _ _
    have hm := (roundsResume_keeps y).1
    refine ⟨turns_becomes ht, fun hrun => ?_, ?_⟩
    · rw [finish_cal]
      exact roundsResume_live y (by rw [hyt]; exact hrun)
    · exact finish_raised (hr.mono (by rw [(roundsResume_keeps y).2.1])) (hm.now.trans (by rw [hyt]))
  · refine event_gives (·.fuseRail mv) fun q _ => ?_
    refine ⟨turns_becomes (.raiseIf rfl), fun hne => finish_raised (s' := s.later dt) (fuseRail_raises (q := q) rfl hne) rfl⟩

end Sys2Proof.Machine

/-! ## The AVS controller and the domains that follow a need (R372, R373, R388) -/

namespace Sys2Proof.Machine

/-! ### What the inside of the device leaves of its command interface, its memory and its domains -/

/-- From `s` to `x` units, port, scratchpad, domains, fuses, self-tests, power and time stay as they are. -/
structure Keeps (s x : State) : Prop where
  units : x.units = s.units
  port  : x.port = s.port
  mem   : x.mem = s.mem
  dom   : x.dom = s.dom
  fuse  : x.fuse = s.fuse
  bist  : x.bist = s.bist
  power : x.power = s.power
  now   : x.now = s.now

section
variable {s x y : State}

theorem keeps_refl (s : State) : Keeps s s := ⟨rfl, rfl, rfl, rfl, rfl, rfl, rfl, rfl⟩

theorem Keeps.trans (h : Keeps s x) (h' : Keeps x y) : Keeps s y :=
  ⟨h'.units.trans h.units, h'.port.trans h.port, h'.mem.trans h.mem, h'.dom.trans h.dom, h'.fuse.trans h.fuse,
    h'.bist.trans h.bist, h'.power.trans h.power, h'.now.trans h.now⟩

theorem keeps_of_turns {e : State} (h : Turns e x) (he : Keeps s e) : Keeps s x := by
  obtain ⟨o, m, k, n, rfl⟩ := turns_iff.1 h
  exact ⟨he.units, he.port, he.mem, he.dom, he.fuse, he.bist, he.power, he.now⟩

theorem Notes.keeps (h : Notes s x) : Keeps s x := keeps_of_turns h.turns (keeps_refl s)

theorem Tells.keeps (h : Tells s x) : Keeps s x := h.notes.keeps

theorem CalMoves.keeps (h : CalMoves s x) : Keeps s x := keeps_of_turns h ⟨rfl, rfl, rfl, rfl, rfl, rfl, rfl, rfl⟩

theorem LaneMoves.keeps {l : Fin 8} (h : LaneMoves l s x) : Keeps s x := keeps_of_turns h ⟨rfl, rfl, rfl, rfl, rfl, rfl, rfl, rfl⟩

theorem GroupMoves.keeps {g l : Fin 8} (h : GroupMoves g l s x) : Keeps s x := keeps_of_turns h.frame ⟨rfl, rfl, rfl, rfl, rfl, rfl, rfl, rfl⟩

theorem foldl_keeps {α : Type} {f : State → α → State} (h : ∀ s a, Keeps s (f s a)) (l : List α) (s : State) :
    Keeps s (l.foldl f s) := by
  induction l generalizing s with
  | nil => exact keeps_refl s
  | cons a l ih => exact (h s a).trans (ih _)

end

/-! ### Domains that are switched -/

section
variable {s : State}

theorem captureAbort_keeps (s : State) (i : Fin 24) (cause : Nat) : Keeps s (s.captureAbort i cause) := by
  unfold State.captureAbort
  extract_lets t
  have ht : Keeps s t := ⟨rfl, rfl, rfl, rfl, rfl, rfl, rfl, rfl⟩
  split
  · exact keeps_refl s
  · exact keeps_refl s
  all_goals exact ht.trans ((count_tells ..).trans (raise_tells ..)).keeps

theorem capturesGone_keeps (s : State) (l : List Nat) (cause : Nat) : Keeps s (s.capturesGone l cause) := by
  refine foldl_keeps (fun t i => ?_) _ s
  split
  · exact captureAbort_keeps t i cause
  · exact keeps_refl t

theorem coldLane_keeps (s : State) (l : Fin 8) : Keeps s (s.coldLane l) :=
  .trans (x := s.setLrx l _) ⟨rfl, rfl, rfl, rfl, rfl, rfl, rfl, rfl⟩ (fadeOver_moves _ l).keeps

theorem lfdOff_keeps (s : State) (l : Fin 8) : Keeps s (s.lfdOff l) := by
  unfold State.lfdOff
  extract_lets t
  have ht : Keeps s t := ⟨rfl, rfl, rfl, rfl, rfl, rfl, rfl, rfl⟩
  split
  · split
    · exact ht.trans (groupUnlock_moves t _ l).1.keeps
    · exact ht
  · exact ht

theorem lost_keeps (s : State) (d : Nat) : Keeps s (s.lost d) := by
  unfold State.lost
  split
  · exact (coldLane_keeps s _).trans (lfdOff_keeps _ _)
  · repeat' split
    all_goals exact ⟨rfl, rfl, rfl, rfl, rfl, rfl, rfl, rfl⟩

/-- R372: the domains that are powered once `d` has gone off, or has come on. -/
theorem powered_off (p : BitVec 80) {d k : Nat} (hd : d < 80) (hk : k < 80) :
    (p &&& ~~~(1#80 <<< d)).getLsbD k = (p.getLsbD k && k != d) := by
  rw [BitVec.getLsbD_and, BitVec.getLsbD_not, BitVec.getLsbD_shiftLeft, BitVec.getLsbD_one]
  by_cases h : k = d
  · simp [h, hd]
  · by_cases hl : k < d
    · simp [h, hk, hl]
    · simp [h, hk, hl, show k - d ≠ 0 by omega]

theorem powered_on (p : BitVec 80) {d k : Nat} (hk : k < 80) :
    (p ||| (1#80 <<< d)).getLsbD k = (p.getLsbD k || k == d) := by
  rw [BitVec.getLsbD_or, BitVec.getLsbD_shiftLeft, BitVec.getLsbD_one]
  by_cases h : k = d
  · subst h; simp [hk]
  · by_cases hl : k < d
    · simp [h, hk, hl]
    · simp [h, hk, hl, show k - d ≠ 0 by omega]

theorem switchOff_of (s : State) {d : Nat} (hd : d < 80) (cause : Nat) :
    (s.switchOff d cause).units = s.units ∧ (s.switchOff d cause).port = s.port ∧ (s.switchOff d cause).mem = s.mem ∧
    (s.switchOff d cause).fuse = s.fuse ∧ (s.switchOff d cause).dom.hostOff = s.dom.hostOff ∧
    (s.switchOff d cause).dom.failed = s.dom.failed ∧
    ∀ k < 80, (s.switchOff d cause).dom.powered.getLsbD k = (s.dom.powered.getLsbD k && k != d) := by
  unfold State.switchOff
  split
  next h =>
    refine ⟨rfl, rfl, rfl, rfl, rfl, rfl, fun k _ => ?_⟩
    by_cases hk : k = d
    · subst hk; simpa using h
    · simp [hk]
  next h =>
    extract_lets o c cl t u
    obtain ⟨ou, op, om, od, ofu, -, -, -⟩ := (roundOpens_moves s).keeps
    have htu : Keeps t u := by
      simp only [u]
      split
      · exact ⟨rfl, rfl, rfl, rfl, rfl, rfl, rfl, rfl⟩
      · exact keeps_refl t
    have hx : Keeps t ((((u.capturesGone [d] 3).lost d).traceCheck).domainEvent d false cause) :=
      htu.trans ((capturesGone_keeps u _ _).trans ((lost_keeps _ d).trans ((traceCheck_moves _).keeps.trans (raise_tells ..).keeps)))
    obtain ⟨xu, xp, xm, xd, xf, -, -, -⟩ := hx
    refine ⟨xu.trans ou, xp.trans op, xm.trans om, xf.trans ofu, ?_, ?_, fun k hk => ?_⟩
    · rw [xd]
    · rw [xd]
    · rw [xd]; exact powered_off _ hd hk

theorem sendersStart_keeps (s : State) (d : Nat) : Keeps s (s.sendersStart d) := by
  unfold State.sendersStart
  dsimp only
  split <;> exact ⟨rfl, rfl, rfl, rfl, rfl, rfl, rfl, rfl⟩

/-- R36, R46: two ports hold the same packets, replies and deferred commands. -/
def Port.sameSlots (p q : Port) : Prop := p.replies = q.replies ∧ p.waiting = q.waiting ∧ p.deferred = q.deferred

/-- R373: what a domain that comes on leaves: itself on, every other domain as it was. -/
theorem switchOn_of (s : State) (d cause : Nat) :
    (s.switchOn d cause).units = s.units ∧ (s.switchOn d cause).mem = s.mem ∧
    (s.switchOn d cause).fuse = s.fuse ∧ (s.switchOn d cause).dom.hostOff = s.dom.hostOff ∧
    (s.switchOn d cause).dom.failed = s.dom.failed ∧
    (s.switchOn d cause).port.sameSlots s.port ∧
    ∀ k < 80, (s.switchOn d cause).dom.powered.getLsbD k = (s.dom.powered.getLsbD k || k == d) := by
  unfold State.switchOn
  split
  next h =>
    refine ⟨rfl, rfl, rfl, rfl, rfl, ⟨rfl, rfl, rfl⟩, fun k _ => ?_⟩
    by_cases hk : k = d
    · subst hk; simp [h]
    · simp [hk]
  next h =>
    extract_lets o c t lanes u
    obtain ⟨ou, op, om, od, ofu, -, -, -⟩ := (roundOpens_moves s).keeps
    have htu : Keeps t u :=
      (applyForceds_keeps lanes t).1.keeps.trans ((traceCheck_moves _).keeps.trans (sendersStart_keeps _ d))
    have hx : Keeps t ((if d = 73 then u.roundsResume else u).domainEvent d true cause) := by
      refine htu.trans (.trans ?_ (raise_tells ..).keeps)
      split
      · exact (roundsResume_keeps u).1.keeps
      · exact keeps_refl u
    obtain ⟨xu, xp, xm, xd, xf, -, -, -⟩ := hx
    refine ⟨xu.trans ou, xm.trans om, xf.trans ofu, ?_, ?_, ?_, fun k hk => ?_⟩
    · rw [xd]; rfl
    · rw [xd]; rfl
    · rw [xp, ← op]; exact ⟨rfl, rfl, rfl⟩
    · rw [xd]; exact powered_on _ hk

end

/-! ### AVSBus (R388) -/

section
variable {s : State}

/-- R388: the target that an evaluation moves to. -/
def avsNext (target goal : Nat) : Nat :=
  if target + 5 < goal then target + 5 else if goal + 5 < target then target - 5 else goal

/-- R388: the range of a target. -/
def avsClamp (aim : Nat) : Nat := if aim < 620 then 620 else if 780 < aim then 780 else aim

theorem avsClamp_range (aim : Nat) : 620 ≤ avsClamp aim ∧ avsClamp aim ≤ 780 := by
  unfold avsClamp
  split
  · omega
  · split <;> omega

theorem avsStep_of {status : Byte} (hrun : s.anyRun = true) (hdue : s.avsDue = true) :
    ∃ a : Avs, ∃ goal, 620 ≤ goal ∧ goal ≤ 780 ∧ a.target = avsNext s.thm.avs.target goal ∧ a.evalAt = some s.now ∧
      s.avsStep false status = (s.mapThm fun t => { t with avs := a }).raiseIf
        (s.thm.avs.host && a.target != s.thm.avs.target) .thm 0x60 0x19 (w32 a.target) := by
  unfold State.avsStep
  simp only [hrun, hdue, Bool.not_true, Bool.or_self, Bool.false_eq_true, if_false, Bool.false_and]
  obtain ⟨h1, h2⟩ := avsClamp_range (if s.thm.avs.forced = 0 then Config.avsTarget s.hotValue else s.thm.avs.forced)
  exact ⟨_, _, h1, h2, rfl, rfl, rfl⟩

theorem avsNext_near {target goal : Nat} (h1 : 620 ≤ target) (h2 : target ≤ 780) (g1 : 620 ≤ goal) (g2 : goal ≤ 780) :
    620 ≤ avsNext target goal ∧ avsNext target goal ≤ 780 ∧ avsNext target goal ≤ target + 5 ∧ target ≤ avsNext target goal + 5 := by
  unfold avsNext
  split
  · omega
  · split <;> omega

theorem avsStep_fails {status : Byte} (hrun : s.anyRun = true) (hdue : s.avsDue = true) (hh : s.thm.avs.host = false) :
    s.avsStep true status =
      (s.mapThm fun t => { t with avs := { t.avs with fault := true, evalAt := some s.now } }).raise .thm 0x60 0x1A
        (w32 status.toNat) := by
  unfold State.avsStep
  rw [hrun, hdue, hh]
  rfl

theorem avsRead_of {mv : Nat} (hrun : s.anyRun = true) (hh : s.thm.avs.host = false) :
    s.avsRead mv = s.mapThm fun t => { t with avs := { t.avs with
      fault := false, readback := mv
      changing := s.thm.avs.changing && !(decide (mv ≤ s.thm.avs.target + 5) && decide (s.thm.avs.target ≤ mv + 5)) } } := by
  unfold State.avsRead
  dsimp only
  rw [hrun, hh]
  rfl

theorem avsHostDone_of (hh : s.thm.avs.host = true) (hc : s.thm.avs.changing = true) (hn : s.thm.avs.since + 100000000 ≤ s.now) :
    s.avsHostDone = s.mapThm fun t => { t with avs := { t.avs with changing := false } } := by
  unfold State.avsHostDone
  dsimp only
  rw [hh, hc, decide_eq_true hn]
  rfl

/-! ### Needs (R372, R373) -/

theorem domainPowers_of {d : Nat} (hrun : s.anyRun = true) (hn : s.needs d = true) (ho : s.dom.hostOff.getLsbD d = true ∨ d = 70) :
    s.domainPowers d = s.switchOn d 1 :=
  if_pos (by rw [hrun, hn]; simpa using ho)

theorem domainRests_of {d : Nat} (hrun : s.anyRun = true) (hn : s.needs d = false) (ho : s.dom.hostOff.getLsbD d = true ∨ d = 70)
    (ht : d < 77 → s.underTest d = false) : s.domainRests d = s.switchOff d 1 :=
  if_pos (by
    rw [hrun, hn]
    simp only [Bool.not_false, Bool.and_self, Bool.true_and, Bool.and_eq_true, Bool.or_eq_true, beq_iff_eq, Bool.not_eq_true',
      Bool.and_eq_false_imp, decide_eq_true_eq]
    exact ⟨ho, ht⟩)

end

/-- Settles O39. -/
theorem voltageAndDomainsFollowNeed : Obligations.VoltageAndDomainsFollowNeed := by
  unfold Obligations.VoltageAndDomainsFollowNeed
  intro s dt mv status d hrun a put
  refine ⟨?_, ?_, ?_, ?_, ?_⟩
  · intro h1 h2 hdue
    refine event_gives (·.avsStep false status) fun q _ => ?_
    obtain ⟨b, goal, g1, g2, htar, heval, hx⟩ := avsStep_of (s := { s.later dt with obs := q }) (status := status) hrun hdue
    obtain ⟨n1, n2, n3, n4⟩ := avsNext_near h1 h2 g1 g2
    have htar' : b.target = avsNext a.target goal := htar
    rw [← htar'] at n1 n2 n3 n4
    rw [hx]
    refine ⟨turns_becomes (.raiseIf rfl), ?_, ?_, ?_, ?_, ?_, fun hh hne => ?_⟩
    all_goals simp only [finish_thm, raiseIf_thm, mapThm_thm, finish_now, raiseIf_now, mapThm_now]
    · exact heval
    · exact n1
    · exact n2
    · exact n3
    · exact n4
    · refine finish_raised (s' := s.later dt) (raises_raiseIf _ ?_ rfl rfl rfl) rfl
      rw [show ({ s.later dt with obs := q } : State).thm.avs.host = true from hh]
      exact bne_iff_ne.2 hne
  · intro hh
    refine ⟨fun hdue => event_gives (·.avsStep true status) fun q _ => ?_, event_gives (·.avsRead mv) fun q _ => ?_⟩
    · rw [avsStep_fails (s := { s.later dt with obs := q }) hrun hdue hh]
      exact turns_raised rfl (raises_raise _ rfl rfl rfl)
    · rw [avsRead_of (s := { s.later dt with obs := q }) hrun hh]
      exact turns_becomes rfl
  · intro hh hc hn
    refine event_gives (·.avsHostDone) fun q _ => ?_
    rw [avsHostDone_of (s := { s.later dt with obs := q }) hh hc hn]
    exact turns_becomes rfl
  · intro hn ho
    refine event_gives (·.domainPowers d) fun q _ => ?_
    rw [domainPowers_of (s := { s.later dt with obs := q }) hrun hn (ho.imp_right (congrArg Fin.val))]
    obtain ⟨hu, hm, hf, hoff, hfail, -, hp⟩ := switchOn_of { s.later dt with obs := q } d 1
    exact ⟨hoff, hfail, hu, hm, hf, hp⟩
  · intro hn ho ht
    refine event_gives (·.domainRests d) fun q _ => ?_
    rw [domainRests_of (s := { s.later dt with obs := q }) hrun hn (ho.imp_right (congrArg Fin.val)) ht]
    obtain ⟨hu, hpo, hm, hf, hoff, hfail, hp⟩ := switchOff_of { s.later dt with obs := q } d.isLt 1
    exact ⟨hoff, hfail, hu, hf, hpo, hp⟩

end Sys2Proof.Machine

/-! ## Logic self-test, from isolation to its result (R25, R354 to R359) -/

namespace Sys2Proof.Machine

/-! ### What does not depend on the events queued, the counts and the packets that wait

Two rows that differ in the events and counters noted so far, and in the packets that wait, do the same to the rest of the state. -/

/-- `x` differs from `s` in events, counters and the packets that wait at most. -/
def Alike (s x : State) : Prop :=
  x = { s with obs := x.obs, stats := x.stats, port := { s.port with waiting := x.port.waiting } }

section
variable {s x y : State}

theorem alike_refl (s : State) : Alike s s := rfl

theorem Alike.elim (h : Alike s x) : ∃ o k w, x = { s with obs := o, stats := k, port := { s.port with waiting := w } } :=
  ⟨_, _, _, h⟩

theorem Tells.alike (h : Tells s x) : Alike s x := by
  obtain ⟨o, k, rfl⟩ := Tells.elim h
  rfl

theorem Alike.turns (h : Alike s x) (hw : x.port.waiting = s.port.waiting) : Turns s x := by
  obtain ⟨o, k, w, rfl⟩ := h.elim
  obtain rfl : w = s.port.waiting := hw
  rfl

theorem Alike.trans (h : Alike s x) (h' : Alike x y) : Alike s y := by
  obtain ⟨o, k, w, rfl⟩ := h.elim
  obtain ⟨o', k', w', rfl⟩ := h'.elim
  rfl

theorem Alike.tells (h : Alike s x) (h' : Tells x y) : Alike s y := by
  obtain ⟨o, k, w, rfl⟩ := h.elim
  obtain ⟨o', k', rfl⟩ := h'.elim
  rfl

theorem Alike.both {f g : State → State} (hf : ∀ t, Alike t (f t)) (hg : ∀ t, Alike t (g t)) (h : Alike s x) :
    Alike (f s) (g x) := by
  obtain ⟨o, k, w, rfl⟩ := h.elim
  obtain ⟨o', k', w', hs⟩ := (hf s).elim
  obtain ⟨o'', k'', w'', hx⟩ := (hg { s with obs := o, stats := k, port := { s.port with waiting := w } }).elim
  rw [hs, hx]
  rfl

theorem alike_ite {p : Prop} [Decidable p] {s' x' : State} (h : Alike s x) (h' : Alike s' x') :
    Alike (if p then s else s') (if p then x else x') := by
  split
  · exact h
  · exact h'

theorem foldl_alike {α : Type} {f : State → α → State} (hf : ∀ s x a, Alike s x → Alike (f s a) (f x a)) (l : List α)
    (h : Alike s x) : Alike (l.foldl f s) (l.foldl f x) := by
  induction l generalizing s x with
  | nil => exact h
  | cons a l ih => exact ih (hf s x a h)

end

/-- R267: a round opens alike whatever packets wait. -/
theorem roundOpens_waiting (s : State) (w : List Waiting) :
    (State.roundOpens { s with port := { s.port with waiting := w } }).cal = s.roundOpens.cal := by
  have h := roundOpens_frame s
  unfold State.roundOpens
  cases s.cal.round with
  | none => rfl
  | some t =>
    dsimp only
    refine (apply_ite State.cal _ _ _).trans (.trans ?_ (apply_ite State.cal _ _ _).symm)
    rfl

section
variable {s x : State} (h : Alike s x)
include h

theorem Alike.raise (c : Cls) (i code : Nat) (arg : Word) : Alike (s.raise c i code arg) (x.raise c i code arg) :=
  h.both (fun t => (raise_tells t c i code arg).alike) fun t => (raise_tells t c i code arg).alike

theorem Alike.raiseIf (b : Bool) (c : Cls) (i code : Nat) (arg : Word) :
    Alike (s.raiseIf b c i code arg) (x.raiseIf b c i code arg) :=
  h.both (fun t => (raiseIf_tells t b c i code arg).alike) fun t => (raiseIf_tells t b c i code arg).alike

theorem Alike.count (c : Cls) (i : Nat) (j : Fin 9) (n : Nat) : Alike (s.count c i j n) (x.count c i j n) :=
  h.both (fun t => (count_tells t c i j n).alike) fun t => (count_tells t c i j n).alike

theorem Alike.signal (c : Cls) (i sig n : Nat) : Alike (s.signal c i sig n) (x.signal c i sig n) :=
  h.both (fun t => (signal_tells t c i sig n).alike) fun t => (signal_tells t c i sig n).alike

theorem Alike.setCal (k : Fin 48) (f : CalLane → CalLane) : Alike (s.setCal k f) (x.setCal k f) := by
  obtain ⟨o, k, w, rfl⟩ := h.elim; rfl

theorem Alike.roundOpens : Alike s.roundOpens x.roundOpens := by
  obtain ⟨o, k, w, rfl⟩ := h.elim
  have hc := roundOpens_lanes { s with port := { s.port with waiting := w } } s.lrx o k fun _ => rfl
  rw [roundOpens_frame s, roundOpens_frame { s with obs := o, stats := k, port := { s.port with waiting := w } }]
  exact (congrArg (fun c : Cal => ({ s with cal := c, obs := o, stats := k, port := { s.port with waiting := w } } : State))
    (hc.trans (roundOpens_waiting s w)))

theorem Alike.calRuns : x.calRuns = s.calRuns := by
  obtain ⟨o, k, w, rfl⟩ := h.elim; rfl

theorem Alike.cal : x.cal = s.cal := by
  obtain ⟨o, k, w, rfl⟩ := h.elim; rfl

theorem Alike.putCal (c : Cal) : Alike { s with cal := c } { x with cal := c } := by
  obtain ⟨o, k, w, rfl⟩ := h.elim; rfl

theorem Alike.now : x.now = s.now := by
  obtain ⟨o, k, w, rfl⟩ := h.elim; rfl

theorem Alike.roundsResume : Alike s.roundsResume x.roundsResume := by
  unfold State.roundsResume
  rw [h.calRuns, h.cal]
  refine alike_ite ?_ h
  obtain ⟨o, k, w, rfl⟩ := h.elim
  exact Alike.roundOpens (s := { s with cal := { s.cal with round := some s.now } }) rfl

theorem Alike.roundsStop : Alike s.roundsStop x.roundsStop := by
  obtain ⟨o, k, w, rfl⟩ := h.elim; rfl

theorem Alike.traceCheck : Alike s.traceCheck x.traceCheck := by
  have hn : x.tracedNow = s.tracedNow := by
    obtain ⟨o, k, w, rfl⟩ := h.elim; rfl
  unfold State.traceCheck
  dsimp only
  rw [hn, h.cal]
  exact (h.putCal _).raiseIf ..

theorem Alike.voidLane (k : Fin 48) (cause : Nat) : Alike (s.voidLane k cause) (x.voidLane k cause) := by
  have ha := h.roundOpens
  unfold State.voidLane
  generalize s.roundOpens = a at *
  generalize x.roundOpens = b at *
  dsimp only
  have hb : b.inStep k = a.inStep k := by obtain ⟨o, k, w, rfl⟩ := ha.elim; rfl
  rw [hb]
  exact alike_ite ((ha.setCal k _).raise ..) ha

theorem Alike.voidAll (cause : Nat) : Alike (s.voidAll cause) (x.voidAll cause) := by
  have ha := h.roundOpens
  unfold State.voidAll
  generalize s.roundOpens = a at *
  generalize x.roundOpens = b at *
  dsimp only
  rw [ha.calRuns, ha.cal]
  have hu := alike_ite (p := (a.calRuns && a.cal.live) = true) (((((ha.putCal { a.cal with
        lanes := a.cal.lanes.map fun c => if c.part then { c with voided := sat32 (c.voided + 1) } else c
        voided := sat32 (a.cal.voided + 1) }).count .cal 0 1 1).signal .cal 0 2 1)).raise .cal 0 0x15 (pk [(cause, 0), (0xFF, 8)])) ha
  split
  · exact hu.roundsStop.roundsResume
  · exact hu.roundsStop

theorem Alike.mon : x.mon = s.mon := by
  obtain ⟨o, k, w, rfl⟩ := h.elim; rfl

theorem Alike.captureAbort (i : Fin 24) (cause : Nat) : Alike (s.captureAbort i cause) (x.captureAbort i cause) := by
  unfold State.captureAbort
  extract_lets t t'
  have ht : Alike t t' := by
    obtain ⟨o, k, w, rfl⟩ := h.elim; rfl
  rw [h.mon]
  split
  · exact h
  · exact h
  all_goals exact (ht.count ..).raise ..

theorem Alike.capturesGone (l : List Nat) (cause : Nat) : Alike (s.capturesGone l cause) (x.capturesGone l cause) :=
  foldl_alike (f := fun t (i : Fin 24) => if (unitIslands .mon i).any l.contains then t.captureAbort i cause else t)
    (fun _ _ i ht => alike_ite (ht.captureAbort i cause) ht) _ h

theorem Alike.applyForcedAt (k : Fin 48) (p : Nat → Bool) : Alike (s.applyForcedAt k p) (x.applyForcedAt k p) := by
  obtain ⟨o, k, w, rfl⟩ := h.elim; rfl

theorem Alike.swap (k : Fin 48) : Alike (s.swap k) (x.swap k) := by
  obtain ⟨o, n, w, rfl⟩ := h.elim
  unfold State.swap
  refine Alike.signal (Alike.count (foldl_alike (fun t u e ht => ?_) _ ?_) ..) ..
  · obtain ⟨o, n, w, rfl⟩ := ht.elim; rfl
  · rfl

theorem Alike.fadeOver (l : Fin 8) : Alike (s.fadeOver l) (x.fadeOver l) := by
  unfold State.fadeOver
  dsimp only
  rw [h.cal]
  exact alike_ite (h.swap _) h

theorem Alike.coldLane (l : Fin 8) : Alike (s.coldLane l) (x.coldLane l) := by
  unfold State.coldLane
  refine Alike.fadeOver ?_ l
  obtain ⟨o, n, w, rfl⟩ := h.elim; rfl

theorem Alike.groupUnlock (g : Fin 8) : Alike (s.groupUnlock g) (x.groupUnlock g) := by
  obtain ⟨o, n, w, rfl⟩ := h.elim
  unfold State.groupUnlock
  refine Alike.raiseIf (alike_ite ?_ ?_) ..
  · rfl
  · rfl

theorem Alike.lfdOff (l : Fin 8) : Alike (s.lfdOff l) (x.lfdOff l) := by
  unfold State.lfdOff
  have ht : Alike (s.setLfd l fun _ => lfdReset) (x.setLfd l fun _ => lfdReset) := by
    obtain ⟨o, n, w, rfl⟩ := h.elim; rfl
  have hg : x.groupOf l = s.groupOf l := by
    obtain ⟨o, n, w, rfl⟩ := h.elim; rfl
  have hp : x.grp = s.grp := by
    obtain ⟨o, n, w, rfl⟩ := h.elim; rfl
  rw [hg, hp]
  dsimp only
  split
  · exact alike_ite (ht.groupUnlock _) ht
  · exact ht

theorem Alike.ltxSettle : Alike s.ltxSettle x.ltxSettle := by
  obtain ⟨o, n, w, rfl⟩ := h.elim; rfl

theorem Alike.lost (d : Nat) : Alike (s.lost d) (x.lost d) := by
  unfold State.lost
  split
  · exact (h.coldLane _).lfdOff _
  · obtain ⟨o, n, w, rfl⟩ := h.elim
    repeat' split
    all_goals rfl

theorem Alike.bistVoids (i : Fin 78) : Alike (s.bistVoids i) (x.bistVoids i) := by
  unfold State.bistVoids
  split
  · exact h.voidAll 3
  · exact foldl_alike (f := fun t (k : Fin 48) => if (calIslands k).contains i then t.voidLane k 3 else t)
      (fun _ _ k ht => alike_ite (ht.voidLane k 3) ht) _ h

theorem Alike.isolate (i : Fin 78) : Alike (s.isolate i) (x.isolate i) := by
  have hl := ((h.bistVoids i).capturesGone [i] 1).lost i
  unfold State.isolate
  generalize ((s.bistVoids i).capturesGone [i] 1).lost i = a at *
  generalize ((x.bistVoids i).capturesGone [i] 1).lost i = b at *
  rw [h.now]
  obtain ⟨o, n, w, rfl⟩ := hl.elim
  rfl

end

/-! ### The run -/

section
variable {s : State} {i : Fin 78}

theorem bistVoids_keeps (s : State) (i : Fin 78) : Keeps s (s.bistVoids i) := by
  unfold State.bistVoids
  split
  · exact (voidAll_calTells s 3).1.keeps
  · refine foldl_keeps (fun t k => ?_) _ s
    split
    · exact (voidLane_moves t k 3).keeps
    · exact keeps_refl t

/-- R354: what isolation leaves: the run of the island, and of units, port, power and time nothing. -/
theorem isolate_of (s : State) (i : Fin 78) :
    (s.isolate i).bist = upd s.bist i (fun b => { b with phase := .running, started := some s.now }) ∧
    (s.isolate i).units = s.units ∧ (s.isolate i).power = s.power ∧ (s.isolate i).now = s.now ∧ (s.isolate i).port = s.port ∧
    (s.isolate i).mem = s.mem := by
  have h := (bistVoids_keeps s i).trans ((capturesGone_keeps _ [i.val] 1).trans (lost_keeps _ i.val))
  unfold State.isolate
  generalize ((s.bistVoids i).capturesGone [i.val] 1).lost i.val = a at *
  exact ⟨by rw [← h.bist]; rfl, h.units, h.power, h.now, h.port, h.mem⟩

theorem patternsEnd_of {applied : Nat} {sig : Word} {e : BistEnd} (hm : s.mcRuns = true) (hp : s.bist[i].phase = .running)
    (hb : s.bistPaused i applied = true) (he : s.bistEnd i applied sig = some e) :
    s.patternsEnd i applied sig = s.setBist i fun b => { b with phase := .reinit, next := e, abort := false, supply := false } := by
  unfold State.patternsEnd
  rw [hm, hp, hb, he]
  rfl

/-- R357: a run whose patterns have all been applied passes where its signature is the golden one. -/
theorem bistEnd_whole {sig : Word} (hs : s.bist[i].supply = false) (ha : s.bist[i].abort = false) :
    s.bistEnd i (bistLoad i).1 sig = some {
      result := if sig = Config.bistSignature i (bistLoad i).1 then 1 else 2, partialOk := false, cause := 0
      patterns := (bistLoad i).1, signature := sig } := by
  unfold State.bistEnd
  simp only [hs, ha, lt_self_iff_false, if_false, if_true, Bool.or_self, Bool.false_eq_true, decide_eq_true_eq]

/-- R357, R387: a run that is stopped. -/
theorem bistEnd_stopped {applied : Nat} {sig : Word} (hn : applied ≤ (bistLoad i).1)
    (h : s.bist[i].supply = true ∨ s.bist[i].abort = true) : s.bistEnd i applied sig = some {
      result := 3, partialOk := decide (applied ≠ 0 ∧ applied % 4096 = 0 ∧ sig = Config.bistSignature i applied)
      cause := if s.bist[i].supply then 1 else 2, patterns := applied, signature := sig } := by
  have hb : (s.bist[i].supply || s.bist[i].abort) = true := Bool.or_eq_true_iff.2 h
  have hok : (applied != 0 && applied % 4096 == 0 && decide (sig = Config.bistSignature i applied)) =
      decide (applied ≠ 0 ∧ applied % 4096 = 0 ∧ sig = Config.bistSignature i applied) := by
    rw [Bool.eq_iff_iff]
    simp [and_assoc]
  unfold State.bistEnd
  simp only [hb, if_neg (Nat.not_lt.2 hn), if_true, hok]

/-! ### Its end -/

theorem sparesLow_tells (s old : State) : Tells s (s.sparesLow old) :=
  foldl_tells (f := fun t (k : Fin 48) => (List.range (calPhases k)).foldl (fun u ph => u.spareLow old k ph) t)
    (fun t k => foldl_tells (f := fun u ph => u.spareLow old k ph) (fun u _ => raiseIf_tells u ..) _ t) _ s

theorem Alike.withRepairs {x : State} (h : Alike s x) (ws : List Word) : Alike (s.withRepairs ws) (x.withRepairs ws) := by
  obtain ⟨o, k, w, rfl⟩ := h.elim
  have hs := (sparesLow_tells { s with cal := { s.cal with repairs := s.cal.repairs ++ ws } } s).alike
  have hx := (sparesLow_tells { s with cal := { s.cal with repairs := s.cal.repairs ++ ws }, obs := o, stats := k, port := { s.port with waiting := w } }
    { s with obs := o, stats := k, port := { s.port with waiting := w } }).alike
  obtain ⟨o1, k1, w1, hs⟩ := hs.elim
  obtain ⟨o2, k2, w2, hx⟩ := hx.elim
  show Alike (State.sparesLow { s with cal := { s.cal with repairs := s.cal.repairs ++ ws } } s)
    (State.sparesLow { s with cal := { s.cal with repairs := s.cal.repairs ++ ws }, obs := o, stats := k, port := { s.port with waiting := w } } _)
  rw [hs, hx]
  rfl

/-- R358: what a run leaves of its island. -/
def State.bistLeaves (s : State) (i : Fin 78) (answers : Bool) : Bist :=
  let b := s.bist[i]
  { b with phase := .idle, last := b.next, done := s.now, held := decide (b.next.result ≠ 1) && answers
           overrode := b.overrode && decide (b.next.result ≠ 1) }

theorem bistRecorded_eq (s : State) (i : Fin 78) (answers : Bool) (repairs : List Word) : s.bistRecorded i answers repairs =
    let made := (repairs.filter fun w => tagKind w == 3 && !s.repairs.contains w).eraseDups
    let t := (s.setBist i fun _ => s.bistLeaves i answers).withRepairs made
    { t with repairs := s.repairs ++ made
             dom := { t.dom with failed :=
               if s.bist[i].next.result == 1 then t.dom.failed &&& ~~~(1#78 <<< i.val) else t.dom.failed } } := by
  have h : (s.setBist i fun b => { b with phase := .idle, last := s.bist[i].next, done := s.now
                                          held := !(s.bist[i].next.result == 1) && answers
                                          overrode := b.overrode && !(s.bist[i].next.result == 1) }) =
      s.setBist i fun _ => s.bistLeaves i answers :=
    congrArg (fun v => { s with bist := v }) (upd_congr (by
      have hr (n : Nat) : (!(n == 1)) = decide (n ≠ 1) := by by_cases hn : n = 1 <;> simp [hn]
      rw [hr]
      rfl))
  unfold State.bistRecorded
  dsimp only
  rw [h]
  rfl

theorem Alike.bistRecorded {x : State} (h : Alike s x) (a : Bool) (r : List Word) :
    Alike (s.bistRecorded i a r) (x.bistRecorded i a r) := by
  obtain ⟨o, k, w, rfl⟩ := h.elim
  rw [bistRecorded_eq, bistRecorded_eq]
  dsimp only
  have hw := Alike.withRepairs (s := s.setBist i fun _ => s.bistLeaves i a)
    (x := { s.setBist i fun _ => s.bistLeaves i a with obs := o, stats := k, port := { s.port with waiting := w } }) rfl
    ((r.filter fun w => tagKind w == 3 && !s.repairs.contains w).eraseDups)
  generalize (s.setBist i fun _ => s.bistLeaves i a).withRepairs _ = y at *
  obtain ⟨o', k', w', hw⟩ := hw.elim
  rw [show (State.setBist { s with obs := o, stats := k, port := { s.port with waiting := w } } i fun _ => State.bistLeaves { s with obs := o, stats := k, port := { s.port with waiting := w } } i a) =
    { s.setBist i fun _ => s.bistLeaves i a with obs := o, stats := k, port := { s.port with waiting := w } } from rfl, hw]
  rfl

theorem Alike.coreReset {x : State} (h : Alike s x) : Alike (s.coreReset i) (x.coreReset i) := by
  obtain ⟨o, k, w, rfl⟩ := h.elim
  unfold State.coreReset
  exact alike_ite rfl (alike_ite rfl rfl)

theorem Alike.islandStarts {x : State} (h : Alike s x) (d : Nat) : Alike (s.islandStarts d) (x.islandStarts d) := by
  obtain ⟨o, k, w, rfl⟩ := h.elim
  rfl

theorem Alike.sendersStart {x : State} (h : Alike s x) (d : Nat) : Alike (s.sendersStart d) (x.sendersStart d) := by
  obtain ⟨o, k, w, rfl⟩ := h.elim
  unfold State.sendersStart
  dsimp only
  split
  next hc => exact (if_pos hc).symm ▸ rfl
  next hc => exact (if_neg hc).symm ▸ rfl

theorem Alike.inUse {x : State} (h : Alike s x) (d : Nat) : Alike (s.inUse d) (x.inUse d) := by
  have hl : ((fins 48).filter fun (k : Fin 48) => (calIslands k).contains d && (calIslands k).all x.islandOn) =
      (fins 48).filter fun (k : Fin 48) => (calIslands k).contains d && (calIslands k).all s.islandOn := by
    obtain ⟨o, k, w, rfl⟩ := h.elim; rfl
  unfold State.inUse
  rw [hl]
  have ht := ((foldl_alike (fun t u k ht => Alike.applyForcedAt ht k fun _ => true)
    ((fins 48).filter fun (k : Fin 48) => (calIslands k).contains d && (calIslands k).all s.islandOn) h.roundOpens).traceCheck).sendersStart d
  exact alike_ite ht.roundsResume ht

theorem Alike.islandFails {x : State} (h : Alike s x) (d : Nat) : Alike (s.islandFails d) (x.islandFails d) := by
  unfold State.islandFails
  refine (Alike.ltxSettle ?_).raise ..
  obtain ⟨o, k, w, rfl⟩ := h.elim
  rfl

theorem flush_none (s : State) (i : Nat) (failed : Bool) (h : ∀ d ∈ s.port.deferred, i ∉ d.isl) : s.flush i failed = s := by
  have hr : ∀ d ∈ s.port.deferred, (d.isl.contains i && (failed || !d.isl.any s.underTest)) = false := fun d hd => by
    rw [List.contains_eq_mem, decide_eq_false (h d hd), Bool.false_and]
  have hnone : (s.port.deferred.filter fun d => d.isl.contains i && (failed || !d.isl.any s.underTest)) = [] :=
    List.filter_eq_nil_iff.2 fun d hd => by rw [hr d hd]; exact Bool.false_ne_true
  have hall : (s.port.deferred.filter fun d => !(d.isl.contains i && (failed || !d.isl.any s.underTest))) = s.port.deferred :=
    List.filter_eq_self.2 fun d hd => by rw [hr d hd]; rfl
  unfold State.flush
  dsimp only
  rw [hnone, hall]
  rfl

/-- From `s` to `x` self-tests, failed islands, units, power, time and waiting commands stay as they are, and no event is lost. -/
structure Stays (s x : State) : Prop where
  bist     : x.bist = s.bist
  failed   : x.dom.failed = s.dom.failed
  units    : x.units = s.units
  power    : x.power = s.power
  now      : x.now = s.now
  deferred : x.port.deferred = s.port.deferred
  waiting  : x.port.waiting = s.port.waiting
  queue    : s.obs.queue <+: x.obs.queue

theorem stays_refl (s : State) : Stays s s := ⟨rfl, rfl, rfl, rfl, rfl, rfl, rfl, List.prefix_refl _⟩

theorem Stays.trans {x y : State} (h : Stays s x) (h' : Stays x y) : Stays s y :=
  ⟨h'.bist.trans h.bist, h'.failed.trans h.failed, h'.units.trans h.units, h'.power.trans h.power, h'.now.trans h.now,
    h'.deferred.trans h.deferred, h'.waiting.trans h.waiting, h.queue.trans h'.queue⟩

theorem Keeps.stays {x : State} (h : Keeps s x) (hq : s.obs.queue <+: x.obs.queue) : Stays s x :=
  ⟨h.bist, by rw [h.dom], h.units, h.power, h.now, by rw [h.port], by rw [h.port], hq⟩

theorem Tells.stays {x : State} (h : Tells s x) : Stays s x := h.keeps.stays h.queue

theorem partyReset_stays (s : State) (p : Nat) : Stays s (s.partyReset p) :=
  ⟨rfl, rfl, rfl, rfl, rfl, rfl, rfl, foldl_queue _ (fun _ _ => raise_queue ..) _ s⟩

theorem coreReset_stays (s : State) (i : Fin 78) : Stays s (s.coreReset i) := by
  unfold State.coreReset
  split
  · exact partyReset_stays s 4
  split
  · exact partyReset_stays s 3
  · exact stays_refl s

theorem islandStarts_stays (s : State) (d : Nat) : Stays s (s.islandStarts d) :=
  ⟨rfl, rfl, rfl, rfl, rfl, rfl, rfl, List.prefix_refl _⟩

theorem sendersStart_obs (s : State) (d : Nat) : (s.sendersStart d).obs = s.obs := by
  unfold State.sendersStart
  dsimp only
  split <;> rfl

theorem applyForceds_obs (L : List (Fin 48)) (s : State) : (L.foldl State.applyForced s).obs = s.obs := by
  induction L generalizing s with
  | nil => rfl
  | cons k L ih => exact (ih _).trans rfl

theorem inUse_stays (s : State) (d : Nat) : Stays s (s.inUse d) := by
  unfold State.inUse
  dsimp only
  have ho : Stays s s.roundOpens := (roundOpens_moves s).keeps.stays (by rw [roundOpens_frame])
  have hf := fun L => ho.trans ((applyForceds_keeps L s.roundOpens).1.keeps.stays (by rw [applyForceds_obs]))
  have ht := fun L => (hf L).trans ((traceCheck_moves _).keeps.stays (raiseIf_queue ..))
  have hs := fun L => (ht L).trans ((sendersStart_keeps _ d).stays (by rw [sendersStart_obs]))
  split
  · exact (hs _).trans ((roundsResume_keeps _).1.keeps.stays (by rw [(roundsResume_keeps _).2.1]))
  · exact hs _

/-- R25: an island that fails, among the others. -/
theorem islandFails_of (s : State) (i : Fin 78) : (s.islandFails i).islandFailed i = true ∧ (s.islandFails i).bist = s.bist ∧
    (s.islandFails i).now = s.now ∧ (s.islandFails i).port = s.port ∧ s.obs.queue <+: (s.islandFails i).obs.queue := by
  have h := raise_tells (State.ltxSettle { s with dom := { s.dom with failed := s.dom.failed ||| (1#78 <<< i.val) } })
    .dev 0 0x13 (w32 i)
  have hk := h.keeps
  refine ⟨?_, hk.bist, hk.now, hk.port, h.queue⟩
  have hd : (s.islandFails i).dom.failed = s.dom.failed ||| (1#78 <<< i.val) := congrArg (·.failed) hk.dom
  unfold State.islandFailed
  rw [hd]
  simp

/-- R25, R354, R357: the run is recorded, its registers and counters follow, and BIST_DONE is raised. -/
def State.bistEnded (s : State) (i : Fin 78) (answers : Bool) (repairs : List Word) : State :=
  let e := s.bist[i].next
  ((((s.bistRecorded i answers repairs).bistCounted i e.result).coreReset i).islandStarts i).raise .bist i 0x10
    (pk [(e.result, 0), (b2n e.partialOk, 4), (e.cause, 8)])

/-- R358, R359: what the record of a run leaves. -/
theorem bistRecorded_of (s : State) (i : Fin 78) (answers : Bool) (repairs : List Word) :
    (s.bistRecorded i answers repairs).bist[i] = s.bistLeaves i answers ∧
    (s.bist[i].next.result = 1 → (s.bistRecorded i answers repairs).islandFailed i = false) ∧
    (s.bistRecorded i answers repairs).units = s.units ∧ (s.bistRecorded i answers repairs).power = s.power ∧
    (s.bistRecorded i answers repairs).now = s.now ∧ (s.bistRecorded i answers repairs).port = s.port ∧
    s.obs.queue <+: (s.bistRecorded i answers repairs).obs.queue := by
  rw [bistRecorded_eq]
  dsimp only
  have h := sparesLow_tells { s.setBist i fun _ => s.bistLeaves i answers with
    cal := { s.cal with repairs := s.cal.repairs ++
      (repairs.filter fun w => tagKind w == 3 && !s.repairs.contains w).eraseDups } } (s.setBist i fun _ => s.bistLeaves i answers)
  unfold State.withRepairs
  obtain ⟨ku, kp, -, -, -, kb, kw, kn⟩ := h.keeps
  refine ⟨?_, fun h1 => ?_, ku, kw, kn, kp, h.queue⟩
  · exact (congrArg (fun v : Vector Bist 78 => v[i]) kb).trans (upd_at ..)
  · unfold State.islandFailed
    rw [h1, if_pos (beq_self_eq_true 1), BitVec.getLsbD_and]
    simp

theorem bistCounted_tells (s : State) (i : Fin 78) (r : Nat) : Tells s (s.bistCounted i r) :=
  (count_tells s .bist i 0 1).trans (count_tells _ .bist i _ 1)

theorem bistEnded_of (s : State) (i : Fin 78) (answers : Bool) (repairs : List Word) :
    Alike (((s.bistRecorded i answers repairs).coreReset i).islandStarts i) (s.bistEnded i answers repairs) ∧
    (s.bistEnded i answers repairs).bist[i] = s.bistLeaves i answers ∧
    (s.bist[i].next.result = 1 → (s.bistEnded i answers repairs).islandFailed i = false) ∧
    (s.bistEnded i answers repairs).now = s.now ∧
    (s.bistEnded i answers repairs).port.deferred = s.port.deferred ∧
    (s.bistEnded i answers repairs).port.waiting = s.port.waiting ∧
    (((s.bistRecorded i answers repairs).coreReset i).islandStarts i).port.waiting = s.port.waiting ∧
    Raises s (s.bistEnded i answers repairs) .bist i 0x10
      (pk [(s.bist[i].next.result, 0), (b2n s.bist[i].next.partialOk, 4), (s.bist[i].next.cause, 8)]) := by
  obtain ⟨rb, rf, ru, rw', rn, rp, -⟩ := bistRecorded_of s i answers repairs
  unfold State.bistEnded
  dsimp only
  generalize s.bistRecorded i answers repairs = a at *
  have hc := bistCounted_tells a i s.bist[i].next.result
  have hs := (hc.stays.trans (coreReset_stays _ i)).trans (islandStarts_stays _ i)
  have ht := hs.trans (raise_tells _ .bist i 0x10
    (pk [(s.bist[i].next.result, 0), (b2n s.bist[i].next.partialOk, 4), (s.bist[i].next.cause, 8)])).stays
  have hw := ((coreReset_stays a i).trans (islandStarts_stays _ i)).waiting
  refine ⟨((hc.alike.coreReset.islandStarts i).tells (raise_tells ..)), ?_, fun h1 => ?_, ht.now.trans rn, ?_, ?_, ?_, ?_⟩
  · rw [ht.bist, rb]
  · unfold State.islandFailed at rf ⊢
    rw [ht.failed, rf h1]
  · rw [ht.deferred, rp]
  · rw [ht.waiting, rp]
  · rw [hw, rp]
  · exact raises_raise _ (hs.power.trans rw') (hs.units.trans ru) (hs.now.trans rn)

theorem bistDone_of {answers : Bool} {repairs : List Word} (hm : s.mcRuns = true) (hp : s.bist[i].phase = .reinit)
    (hd : ∀ d ∈ s.port.deferred, i.val ∉ d.isl) : s.bistDone i answers repairs =
      if answers = false then (s.bistEnded i answers repairs).islandFails i
      else if s.bist[i].next.result = 1 then (s.bistEnded i answers repairs).inUse i else s.bistEnded i answers repairs := by
  obtain ⟨-, -, -, -, hdef, -⟩ := bistEnded_of s i answers repairs
  have hf (t : State) (ht : t.port.deferred = s.port.deferred) (b : Bool) : t.flush i b = t := flush_none t i b (ht ▸ hd)
  unfold State.bistDone
  rw [hm, hp]
  dsimp only
  change State.flush (if (!answers) = true then (s.bistEnded i answers repairs).islandFails i
    else if (answers && s.bist[i].next.result == 1) = true then (s.bistEnded i answers repairs).inUse i
    else s.bistEnded i answers repairs) i _ = _
  cases answers
  · exact hf _ ((congrArg (·.deferred) (islandFails_of _ i).2.2.2.1).trans hdef) _
  · by_cases h1 : s.bist[i].next.result = 1
    · rw [h1]
      exact hf _ ((inUse_stays _ i).deferred.trans hdef) _
    · rw [if_neg h1, beq_false_of_ne h1]
      exact hf _ hdef _

/-- R354, R358: after the record the island fails, is in use again, or rests. -/
theorem bistFollows_of (v : State) (i : Fin 78) (answers : Bool) (p : Prop) [Decidable p] :
    let w := if answers = false then v.islandFails i else if p then v.inUse i else v
    w.bist = v.bist ∧ w.now = v.now ∧ v.obs.queue <+: w.obs.queue ∧
    w.islandFailed i = (!answers || v.islandFailed i) ∧ w.port.waiting = v.port.waiting := by
  cases answers
  · obtain ⟨hf, hb, hn, hp, hq⟩ := islandFails_of v i
    exact ⟨hb, hn, hq, hf, congrArg Port.waiting hp⟩
  · have h : Stays v (if p then v.inUse i else v) := by
      split
      · exact inUse_stays v i
      · exact stays_refl v
    exact ⟨h.bist, h.now, h.queue, congrArg (fun b : BitVec 78 => b.getLsbD i) h.failed, h.waiting⟩

end

/-- Settles O41, by what isolation, the end of the patterns and the record of a run leave. -/
theorem selfTestRunsToItsResult : Obligations.SelfTestRunsToItsResult := by
  unfold Obligations.SelfTestRunsToItsResult
  intro s dt i applied sig answers repairs b total fits put
  refine ⟨?_, ?_, ?_, ?_⟩
  · intro hs
    refine event_gives (·.bistStarts i) fun q _ => ?_
    rw [show State.bistStarts { s.later dt with obs := q } i =
      (State.isolate { s.later dt with obs := q } i).raise .bist i 0x11 (w32 (bistLoad i).1) from if_pos hs]
    obtain ⟨hb, hu, hp, hn, -, -⟩ := isolate_of { s.later dt with obs := q } i
    have ha : Alike ((s.later dt).isolate i) (State.isolate { s.later dt with obs := q } i) :=
      Alike.isolate (s := s.later dt) (x := { s.later dt with obs := q }) rfl i
    have hw := congrArg Port.waiting (((isolate_of { s.later dt with obs := q } i).2.2.2.2.1).trans (isolate_of (s.later dt) i).2.2.2.2.1.symm)
    refine ⟨turns_becomes ((ha.turns hw).raise), ?_, finish_raised (s' := s.later dt) (raises_raise _ hp hu hn) hn⟩
    rw [finish_bist, raise_bist, hb, finish_now, raise_now, hn]
    exact upd_at ..
  · intro hm hp hb ha hsup hab
    subst ha
    refine event_gives (·.patternsEnd i total sig) fun q _ => ?_
    rw [patternsEnd_of (s := { s.later dt with obs := q }) hm hp hb (bistEnd_whole hsup hab)]
    exact turns_becomes rfl
  · intro hm hp hb ha hs
    refine event_gives (·.patternsEnd i applied sig) fun q _ => ?_
    rw [patternsEnd_of (s := { s.later dt with obs := q }) hm hp hb (bistEnd_stopped ha hs)]
    exact turns_becomes rfl
  · intro hm hp hd
    refine event_gives (·.bistDone i answers repairs) fun q _ => ?_
    rw [bistDone_of (s := { s.later dt with obs := q }) hm hp hd]
    obtain ⟨ha, hb, hf, hn, hdef, hv, -, hr⟩ := bistEnded_of { s.later dt with obs := q } i answers repairs
    obtain ⟨-, -, -, -, -, -, hv', -⟩ := bistEnded_of (s.later dt) i answers repairs
    have hu : Alike ((((s.later dt).bistRecorded i answers repairs).coreReset i).islandStarts i)
        (State.bistEnded { s.later dt with obs := q } i answers repairs) :=
      .trans (x := (((State.bistRecorded { s.later dt with obs := q } i answers repairs).coreReset i).islandStarts i))
        (((Alike.bistRecorded (s := s.later dt) (x := { s.later dt with obs := q }) rfl answers repairs).coreReset).islandStarts i) ha
    generalize State.bistEnded { s.later dt with obs := q } i answers repairs = v at *
    dsimp only at *
    have hr' (w : State) (hq : v.obs.queue <+: w.obs.queue) (hw : w.now = s.now + dt) :=
      finish_raised (s' := { s.later dt with obs := q }) (hr.mono hq) hw
    obtain ⟨wb, wn, wq, wf, ww⟩ := bistFollows_of v i answers (s.bist[i].next.result = 1)
    obtain ⟨-, -, -, -, ww'⟩ := bistFollows_of ((((s.later dt).bistRecorded i answers repairs).coreReset i).islandStarts i) i answers
      (s.bist[i].next.result = 1)
    refine ⟨turns_becomes (Alike.turns ?_ ((ww.trans hv).trans (ww'.trans hv').symm)), ?_, fun h1 ha => ?_, fun ha => ?_, ?_⟩
    · exact alike_ite (hu.islandFails i) (alike_ite (hu.inUse i) hu)
    · rw [finish_bist, finish_now]
      exact (congrArg (fun v : Vector Bist 78 => v[i]) wb).trans (hb.trans (congrArg (fun n : Nat => ({ b with
        phase := .idle, last := b.next, done := n, held := decide (b.next.result ≠ 1) && answers
        overrode := b.overrode && decide (b.next.result ≠ 1) } : Bist)) (wn.trans hn).symm))
    · exact wf.trans (by rw [ha, hf h1]; rfl)
    · exact wf.trans (by rw [ha]; rfl)
    · exact finish_raised (s' := { s.later dt with obs := q }) (hr.mono wq) (wn.trans hn)

end Sys2Proof.Machine

/-! ## The commands of class TST (R305 to R308, R311 to R319) -/

namespace Sys2Proof.Machine

/-! ### The counters of the units above the self-tests, which no trigger touches -/

section
variable {j : Fin 321} (hj : 162 ≤ j.val)
include hj

/-- R322: a lane unit of MON that counts has islands, and its counters lie below. -/
theorem count_mon_stats (s : State) (i : Nat) (k : Fin 9) (n : Nat) : (s.count .mon i k n).stats[j] = s.stats[j] := by
  unfold State.count
  dsimp only
  split
  next h =>
    refine upd_get_ne _ _ fun he => ?_
    have hon : ∀ d ∈ unitIslands .mon i, s.islandOn d = true := fun d hd =>
      (Bool.and_eq_true_iff.1 (List.all_eq_true.1 h d hd)).1
    have hlt (d : Nat) (hd : s.islandOn d = true) : d < 80 := by
      simp only [State.islandOn, Bool.and_eq_true, Bool.or_eq_true, beq_iff_eq] at hd
      obtain ⟨-, rfl | hd⟩ := hd
      · omega
      · exact Nat.lt_of_not_le fun hle => by rw [BitVec.getLsbD_of_ge _ _ hle] at hd; cases hd
    have hv : (74 + (if i = 0xFE then 24 else i)) % 321 = j.val := congrArg Fin.val he
    by_cases h1 : i = 0xFE
    · rw [if_pos h1] at hv; omega
    · rw [if_neg h1] at hv
      by_cases h2 : i < 16
      · omega
      · have := hlt (i - 8) (hon _ (by simp only [unitIslands, h1, h2, if_false]; simp))
        omega
  next => rfl

theorem foldl_stat {α : Type} {f : State → α → State} (h : ∀ s a, (f s a).stats[j] = s.stats[j]) (l : List α) (s : State) :
    (l.foldl f s).stats[j] = s.stats[j] := by
  induction l generalizing s with
  | nil => rfl
  | cons a l ih => exact (ih _).trans (h s a)

theorem triggerOne_stat (s : State) (seq at_ i : Nat) : (s.triggerOne seq at_ i).stats[j] = s.stats[j] := by
  unfold State.triggerOne
  dsimp only
  split
  · rfl
  · exact count_mon_stats hj ..
  · exact count_mon_stats hj ..
  all_goals rfl

theorem triggerAt_stat (s : State) (at_ : Nat) (x : CapSet) : (s.triggerAt at_ x).stats[j] = s.stats[j] :=
  foldl_stat hj (fun t i => triggerOne_stat hj t _ at_ i) _ _

theorem trigger_stat (s : State) (x : CapSet) : (s.trigger x).stats[j] = s.stats[j] := by
  unfold State.trigger
  split
  · exact triggerAt_stat hj ..
  · rfl

theorem triggerSets_stat (s : State) (p : Vector Word 8 → Bool) : (s.triggerSets p).stats[j] = s.stats[j] := by
  refine foldl_stat hj (fun t x => ?_) _ s
  split
  · exact trigger_stat hj ..
  · rfl

theorem immediates_stat (s : State) : s.immediates.stats[j] = s.stats[j] := by
  refine foldl_stat hj (fun t x => ?_) _ s
  unfold State.immediate
  split
  · exact triggerAt_stat hj ..
  · rfl

theorem fireAll_stat (n : Nat) (sets : List CapSet) (s : State) : (s.fireAll n sets).stats[j] = s.stats[j] := by
  induction n generalizing sets s with
  | zero => rfl
  | succ n ih =>
    unfold State.fireAll
    split
    · rfl
    · exact (ih _ _).trans (foldl_stat hj (trigger_stat hj) _ s.countFired)

/-- R288, R322: what follows a row leaves these counters as they are. -/
theorem finish_stat (s : State) : (finish s).stats[j] = s.stats[j] := by
  refine (fireAll_stat hj _ _ _).trans ((immediates_stat hj _).trans ?_)
  split <;> rfl

end

/-! ### Test units -/

theorem tst_uix (i : Fin 24) : 162 ≤ (uix .tst i).val := by
  have : (uix .tst i).val = (297 + i.val) % 321 := rfl
  omega

theorem instances_tst (i : Fin 24) : i.val ∈ instances .tst := List.mem_range.2 i.isLt

theorem tstPair_val (i : Fin 24) : tstPair i = i := Fin.ofNat_val_eq_self i

theorem adminIs {s : State} {c : Cls} {i : Nat} {a : Admin} (h : s.admin c i = a) : [a].contains (s.admin c i) = true := by
  rw [h]; simp

/-- The state in which a command executes is one of those that `Arrives` speaks of. -/
theorem heard_arrives {s : State} {dt : Nat} {o : Obs} (h : s.obs.GoesOn o) (m : Vector Stats 321) (v : List Waiting) :
    Arrives s dt (s.heard dt o m v) := by
  obtain ⟨recs, lf, missed, adapt, carry, held, -, -, -⟩ := h
  refine ⟨rfl, ?_⟩
  cases o
  dsimp only at *
  subst recs lf missed adapt carry held
  rfl

theorem or_none {a b : Option Fail} (ha : a = none) (hb : b = none) : a.or b = none := by rw [ha, hb]; rfl

theorem require_of {b : Bool} {f : Fail} (h : b = true) : require b f = none := if_pos h

theorem ite_none {p : Prop} [Decidable p] {a : Option Fail} (h : p → a = none) : (if p then a else none) = none := by
  split
  next hp => exact h hp
  next => rfl

theorem require_none_iff {b : Bool} {f : Fail} : require b f = none ↔ b = true := by cases b <;> simp [require]

/-- R317: that a pair is not in SEALED does not depend on the records that a refusal names. -/
theorem tstSealed_heard {s : State} {i : Nat} (h : s.tstSealed i = none) (dt : Nat) (o : Obs) (m : Vector Stats 321) (v : List Waiting) :
    (s.heard dt o m v).tstSealed i = none := by
  unfold State.tstSealed at h ⊢
  change (if i < 16 then none else match s.groupOf (i - 16) with
    | some g => require (s.grp[Fin.ofNat 8 g].mode != 3) _
    | none => none) = none
  split at h
  next h16 => exact if_pos h16
  next h16 =>
    rw [if_neg h16]
    cases hg : s.groupOf (i - 16) with
    | none => rfl
    | some g =>
      rw [hg] at h
      exact require_of (require_none_iff.1 h)

/-- R305: nor that the functions of a unit may run. -/
theorem tstBlocked_heard {s : State} {i : Nat} {x : Tst} {b : Bool} (h : s.tstBlocked i x b = none) (dt : Nat) (o : Obs)
    (m : Vector Stats 321) (v : List Waiting) : (s.heard dt o m v).tstBlocked i x b = none := by
  obtain ⟨hu, hg⟩ := Option.or_eq_none_iff.1 h
  refine or_none (Option.map_eq_none_iff.2 (Option.map_eq_none_iff.1 hu)) ?_
  unfold State.framedGroup at hg ⊢
  by_cases hc : i < 16 ∨ (!x.framed) = true ∨ (!(x.gen || b || x.loopSel != 0 || x.chk)) = true
  · exact if_pos hc
  · rw [if_neg hc] at hg ⊢
    change (match s.groupOf (i - 16) with
      | some g => require (s.isUp .grp g && (s.grp[Fin.ofNat 8 g].mode == 1 || s.grp[Fin.ofNat 8 g].mode == 2)) _
      | none => some _) = none
    cases hgr : s.groupOf (i - 16) with
    | none => rw [hgr] at hg; cases hg
    | some g =>
      rw [hgr] at hg
      exact require_of (require_none_iff.1 hg)

/-- Settles O42, by the checks and the effect of each command. -/
theorem testCommandsTakeEffect : Obligations.TestCommandsTakeEffect := by
  unfold Obligations.TestCommandsTakeEffect
  intro s dt i g f w v ws ht hrun put
  have hi := instances_tst i
  have hbad (h1 : clear w 10 = true) (h2 : w ≠ 0) : (clear w 10 && w != 0) = true :=
    Bool.and_eq_true_iff.2 ⟨h1, bne_iff_ne.2 h2⟩
  refine ⟨fun hdown hseal => ⟨fun h1 h2 h3 h4 h5 h6 h7 => ?_, fun ha hw hl => ?_⟩, fun hdown h1 h2 h3 h4 h5 => ?_, fun hu hw => ?_,
    fun hu ha hseal hup hbad hblk hslots => ?_, fun hu ha h1 h2 h3 => ⟨fun hi16 => ?_, fun n hn htest => ?_⟩⟩
  · refine unit_does specTstConfigSet (k := .basic) ht hrun hi trivial (fun _ _ _ => meets_of_nil)
      (fun o m v _ => ⟨rfl, firstBad_one ?_, rfl, ?_, rfl, rfl⟩) (fun o m v _ => ⟨rfl, ?_⟩)
    · simp only [unitReq_p, tstPair_val, h1, h2, h3, h4, Bool.true_and, Bool.and_eq_true, Bool.or_eq_true, Bool.not_eq_true',
        Bool.and_eq_false_iff, decide_eq_false_iff_not, beq_self_eq_true, Bool.or_eq_false_iff, beq_eq_false_iff_ne]
      refine ⟨⟨?_, ?_⟩, ?_⟩
      · by_cases hsq : fld w 4 4 = 12 ∨ fld w 8 4 = 12
        · exact .inr ⟨decide_eq_true (h5 hsq).1, decide_eq_true (h5 hsq).2⟩
        · exact .inl (not_or.1 hsq)
      · cases hb : bit w 2 with
        | false => exact .inl rfl
        | true => exact .inr (Nat.not_lt.2 (h7 hb).1)
      · cases hb : bit w 0 with
        | false => exact .inl rfl
        | true => exact .inr (h6 hb)
    · refine or_none (or_none (tstSealed_heard hseal dt o m v) (require_of (adminIs hdown))) ?_
      refine ite_none fun hb => ?_
      obtain ⟨h16, hg⟩ := h7 hb
      change (match s.groupOf (i.val - 16) with
        | some g => require (g + 16 == i.val) _
        | none => some _) = none
      rw [hg]
      exact require_of (by rw [beq_iff_eq]; omega)
    · simp only [specTstConfigSet, change, tstPair_val]; rfl
  · refine unit_does specTstLoopSet ht hrun hi ha (fun _ _ _ => meets_of_nil)
      (fun o m v _ => ⟨rfl, firstBad_one ?_, rfl, ?_, rfl, rfl⟩) (fun o m v _ => ⟨rfl, ?_⟩)
    · simp only [unitReq_p, tstPair_val, hw, Bool.true_and, Bool.not_eq_true', Bool.and_eq_false_iff, beq_eq_false_iff_ne]
      by_cases h3 : fld w 0 2 = 3
      · exact .inr (hl h3)
      · exact .inl h3
    · exact or_none (tstSealed_heard hseal dt o m v) (require_of (adminIs hdown))
    · simp only [specTstLoopSet, change, tstPair_val]; rfl
  · refine unit_does specTstUserPatternSet (k := .basic) ht hrun hi trivial (fun _ _ _ => meets_of_nil)
      (fun o m v _ => ⟨?_, firstBad_one ?_, rfl, if_pos (adminIs hdown), rfl, rfl⟩) (fun o m v _ => ⟨rfl, ?_⟩)
    · simp only [specTstUserPatternSet, List.length_cons, h5, Bool.and_eq_true, decide_eq_true_eq]
      omega
    · simp only [unitReq_p, List.length_cons, h1, h2, h3, h4, h5, Bool.and_eq_true, decide_eq_true_eq, beq_iff_eq]
      exact ⟨⟨⟨⟨trivial, trivial⟩, trivial⟩, trivial⟩, by omega⟩
    · simp only [specTstUserPatternSet, change, tstPair_val]; rfl
  · refine unit_gives_to specTstCheckGet (g := g) (f := f) (ps := [w]) (k := .basic) ht hrun hi trivial
      (fun _ _ _ => meets_of_workable hu) (fun o m v _ => ⟨rfl, firstBad_one hw, rfl, rfl, rfl, rfl⟩) (fun o m v hk => ?_)
    refine ⟨if bit w 0 then (s.heard dt o m v).clearChecks i else s.heard dt o m v, (s.heard dt o m v).checkBlock i,
      by simp only [specTstCheckGet, tstPair_val]; rfl, by simp only [specTstCheckGet, tstPair_val], ?_⟩
    have hleaves := answered_effects (s := s) (x := if bit w 0 then (s.heard dt o m v).clearChecks i else s.heard dt o m v)
      (e := { put (fun x => { x with losses := if bit w 0 then 0 else x.losses }) s with now := s.now + dt }) (c := .tst) (i := i)
      (g := g) (f := f) (ps := [w]) (pay := (s.heard dt o m v).checkBlock i) ht.2.2.1 ?_
    · refine ⟨hleaves.1, ⟨_, heard_arrives hk m v, hleaves.2⟩, fun h => ?_⟩
      rw [finish_stat (tst_uix i), if_pos h]
      exact upd_at ..
    · by_cases hb : bit w 0 = true
      · simp only [hb, if_true]; rfl
      · simp only [hb]
        exact (congrArg (fun z => ({ s.heard dt o m v with tst := z } : State)) (upd_self s.tst i)).symm
  · refine unit_does specTstInjectSet ht hrun hi ha (fun _ _ _ => meets_of_workable hu)
      (fun o m v _ => ⟨rfl, hbad, rfl, ?_, rfl, rfl⟩) (fun o m v _ => ⟨rfl, ?_⟩)
    · refine or_none (or_none (or_none (tstSealed_heard hseal dt o m v) (require_of ?_)) ?_) (require_of ?_)
      · exact adminIs hup
      · by_cases h0 : fld w 0 3 = 0
        · exact if_pos h0
        · refine (if_neg h0).trans ?_
          simp only [tstPair_val]
          exact tstBlocked_heard (hblk h0) dt o m v
      · by_cases h4 : fld w 0 3 = 4
        · exact Bool.or_eq_true_iff.2 (.inr (hslots h4))
        · exact Bool.or_eq_true_iff.2 (.inl (bne_iff_ne.2 h4))
    · simp only [specTstInjectSet, change, tstPair_val]; rfl
  · have h16 : ¬ i.val < 16 := Nat.not_lt.2 hi16
    refine unit_does specTstSlip ht hrun hi ha (fun _ _ _ => meets_of_workable hu)
      (fun o m v _ => ⟨rfl, firstBad_one (hbad h1 h2), rfl, or_none (if_neg h16) (require_of ?_), ?_, ?_⟩) (fun o m v _ => ⟨?_, ?_⟩)
    · exact (congrArg Tst.manual (congrArg (fun k : Fin 24 => s.tst[k]) (tstPair_val i))).trans h3
    all_goals simp only [specTstSlip, h16, if_false, tstPair_val]
    all_goals rfl
  · have h16 : i.val < 16 := hn ▸ n.isLt
    have hlane : hostLane i.val = n := by rw [hn]; exact Fin.ofNat_val_eq_self n
    refine unit_does specTstSlip ht hrun hi ha (fun _ _ _ => meets_of_workable hu)
      (fun o m v _ => ⟨rfl, firstBad_one (hbad h1 h2), rfl, or_none ((if_pos h16).trans (require_of ?_)) (require_of ?_), ?_, ?_⟩)
      (fun o m v _ => ⟨?_, ?_⟩)
    · exact beq_iff_eq.2 ((congrArg (s.admin .hrx) hn).trans htest)
    · exact (congrArg Tst.manual (congrArg (fun k : Fin 24 => s.tst[k]) (tstPair_val i))).trans h3
    all_goals simp only [specTstSlip, h16, if_true, hlane]
    all_goals rfl

end Sys2Proof.Machine

/-! ## Checker lock, pattern starts and injections (R309, R310, R312 to R314) -/

namespace Sys2Proof.Machine

/-! ### What test units are to the rounds of line receivers -/

/-- What the availability of a side reads of a test unit. -/
def Tst.shown (x : Tst) : Nat × Bool := (x.loopSel, x.stopped)

section
variable {s z : State} {dt : Nat} {o : Obs} {l : Fin 8} {i : Fin 24} {r : Lrx} {y : Tst} (hy : y.shown = s.tst[i].shown)
include hy

theorem sideOk_tests (k : Fin 8) (hi : Bool) :
    ({ s with tst := upd s.tst i fun _ => y } : State).sideOk k hi = s.sideOk k hi := by
  have h (j : Fin 24) : ((upd s.tst i fun _ => y)[j]).shown = s.tst[j].shown := by
    by_cases hj : i = j
    · subst hj; rw [upd_at]; exact hy
    · rw [upd_get_ne _ _ hj]
  have hl (n : Nat) : ({ s with tst := upd s.tst i fun _ => y } : State).loopOn n = s.loopOn n := by
    have hn := h (Fin.ofNat 24 n)
    simp only [Tst.shown, Prod.mk.injEq] at hn
    unfold State.loopOn State.tstRuns
    dsimp only
    rw [hn.1, hn.2]
    rfl
  unfold State.sideOk State.sideCause
  simp only [hl]
  rfl

theorem voidRestored_shown (x : State) : ({ s with tst := upd s.tst i fun _ => y } : State).voidRestored x = s.voidRestored x := by
  unfold State.voidRestored
  simp only [sideOk_tests hy]

/-- R177: the same of a row that also changes test units. -/
theorem voidRestored_tests (hz : Turns { s with
      now := s.now + dt, tst := upd s.tst i fun _ => y, lrx := upd s.lrx l fun _ => r } z) :
    Becomes dt (s.voidRestored { s with tst := upd s.tst i fun _ => y, lrx := upd s.lrx l fun _ => r })
      (finish (({ s.later dt with obs := o } : State).voidRestored z)) := by
  have h := voidRestored_turns (s := { s with tst := upd s.tst i fun _ => y }) (o := o) (v := s.lfd) hz (fun _ => rfl) rfl rfl
  have he := voidRestored_shown hy (s := s) { s with tst := upd s.tst i fun _ => y, lrx := upd s.lrx l fun _ => r }
  have hx := voidRestored_shown (s := { s.later dt with obs := o }) hy z
  refine turns_becomes ?_
  rw [← he, ← hx]
  exact h

end

/-! ### The checker -/

section
variable {s : State} {i : Fin 24}

/-- R309: the checker has locked, and CHK_LOCKED is raised. -/
def State.chkLock (s : State) (i : Fin 24) : State :=
  (s.setTst i fun x => { x with locked := true }).raise .tst i 0x10 (w32 (sat32 ((s.now - s.tst[i].since) / 1000)))

theorem chkLock_tells (s : State) (i : Fin 24) :
    Tells { s with tst := upd s.tst i fun _ => { s.tst[i] with locked := true } } (s.chkLock i) := raise_tells ..

theorem chkLock_raises (s : State) (i : Fin 24) :
    Raises s (s.chkLock i) .tst i 0x10 (w32 (min ((s.now - s.tst[i].since) / 1000) 0xFFFFFFFF)) := raises_raise _

/-- R310, R181: in the SYMBOL layer the receiver of a line lane has timing lock with its checker, and keeps its polarity. -/
def Lrx.checked (r : Lrx) (now : Nat) (flip : Bool) : Lrx :=
  { r with timing := true, lockAt := if r.timing then r.lockAt else now
           kept := some r.inverted, searched := r.searched || flip }

/-- R166: the polarity has left where it started, and was not kept before. -/
def Lrx.flips (r : Lrx) : Bool := r.inverted != r.start && r.kept != some r.inverted

section
variable {m : CheckSeen} (hlive : s.tstLive i = true) (hc : s.tst[i].chk = true) (hl : s.tst[i].locked = false)
  (hs : s.tst[i].locksOn m = true)
include hlive hc hl hs

theorem chkLocks_host {n : Fin 16} (hn : i.val = n.val) (hsd : s.hrx[n].sd = true) (hfg : s.laneFg (8 + n.val) = false)
    (hf : s.tst[i].framed = false) : s.chkLocks i m = (s.chkLock i).setHrx n fun h => { h with timing := true } := by
  have h16 : i.val < 16 := hn ▸ n.isLt
  have hlane : hostLane i.val = n := by rw [hn]; exact Fin.ofNat_val_eq_self n
  have hsd' : s.hrx[Fin.ofNat 16 i.val].sd = true := (congrArg (fun k : Fin 16 => s.hrx[k].sd) hlane).trans hsd
  have hfg' : s.laneFg (8 + i.val) = false := hn ▸ hfg
  unfold State.chkLocks
  simp only [hlive, hc, hl, hs, h16, if_true, hsd', hf, hlane, hfg', Bool.not_true, Bool.or_self, Bool.false_eq_true, if_false]
  rfl

theorem chkLocks_line {l : Fin 8} (hi : i.val = 16 + l.val) (hsd : s.lrx[l].sd = true) (hfg : s.laneFg l.val = false) :
    s.chkLocks i m = if s.tst[i].framed then s.chkLock i
      else s.voidRestored (((s.chkLock i).setLrx l (·.lockTiming s.now)).keepPol l) := by
  have h16 : ¬ i.val < 16 := by omega
  have hsub : i.val - 16 = l.val := by omega
  unfold State.chkLocks
  simp only [hlive, hc, hl, hs, h16, if_false, hsub, Fin.ofNat_val_eq_self, hsd, hfg, lineLane_val, Bool.not_true, Bool.or_self,
    Bool.false_eq_true]
  rfl

end

/-- R166, R310: timing lock and the polarity kept, with the lock of the checker. -/
theorem chkLine_of (s : State) (i : Fin 24) (l : Fin 8) :
    Turns { s with tst := upd s.tst i fun _ => { s.tst[i] with locked := true }
                   lrx := upd s.lrx l fun _ => s.lrx[l].checked s.now s.lrx[l].flips }
      (((s.chkLock i).setLrx l (·.lockTiming s.now)).keepPol l) ∧
    (s.lrx[l].flips = true →
      Raises s (((s.chkLock i).setLrx l (·.lockTiming s.now)).keepPol l) .lrx l 0x20 (w32 (b2n s.lrx[l].inverted))) ∧
    Raises s (((s.chkLock i).setLrx l (·.lockTiming s.now)).keepPol l) .tst i 0x10
      (w32 (min ((s.now - s.tst[i].since) / 1000) 0xFFFFFFFF)) := by
  have ht := chkLock_tells s i
  have hr := chkLock_raises s i
  generalize s.chkLock i = y at *
  have hlrx : y.lrx = s.lrx := ht.lrx
  have hl : (y.setLrx l (·.lockTiming s.now)).lrx[l] = s.lrx[l].lockTiming s.now :=
    (upd_at y.lrx l _).trans (congrArg (fun v : Vector Lrx 8 => v[l].lockTiming s.now) hlrx)
  unfold State.keepPol
  simp only [hl]
  refine ⟨.raiseIf ?_, fun h => raises_raiseIf _ h ht.power ht.units ht.now, hr.raiseIf⟩
  simp only [State.setLrx, upd_upd]
  obtain ⟨o, k, rfl⟩ := ht.elim
  rfl

end

/-! ### Counts -/

section
variable {s : State} {c : Cls} {i : Nat} (hlive : s.live c i = true)
include hlive

theorem count_vals (k : Fin 9) (n : Nat) :
    (s.count c i k n).stats[uix c i].vals = upd s.stats[uix c i].vals k fun v => sat64 (v + n) := by
  unfold State.count
  simp only [hlive, if_true]
  exact congrArg Stats.vals (upd_at ..)

theorem count_at (k : Fin 9) (n : Nat) :
    (s.count c i k n).stats[uix c i].vals[k] = sat64 (s.stats[uix c i].vals[k] + n) :=
  (congrArg (fun v : Vector Nat 9 => v[k]) (count_vals hlive k n)).trans (upd_at ..)

end

theorem tstLive_live {s : State} {i : Fin 24} (h : s.tstLive i = true) : s.live .tst i = true := by
  simp only [State.tstLive, Bool.and_eq_true] at h
  exact h.1.2

theorem chkCounts_tells (s : State) (i : Fin 24) (m : CheckCounts) : Tells s (s.chkCounts i m) := by
  unfold State.chkCounts
  dsimp only
  split <;> exact ((count_tells ..).trans (count_tells ..)).trans (count_tells ..)

/-- R312, R319: what a locked checker counts, in its layer. -/
theorem chkCounts_of {s : State} {i : Fin 24} (h : s.tstLive i = true) (m : CheckCounts) :
    let a := s.stats[uix .tst i].vals
    let b := (s.chkCounts i m).stats[uix .tst i].vals
    b[0] = sat64 (a[0] + m.bits) ∧ b[1] = sat64 (a[1] + m.bitErr) ∧
    b[2] = (if s.tst[i].framed then a[2] else sat64 (a[2] + m.symErr)) ∧
    b[3] = (if s.tst[i].framed then sat64 (a[3] + m.postErr) else a[3]) := by
  intro a b
  have h0 := tstLive_live h
  have h1 : (s.count .tst i 0 m.bits).live .tst i = true := h0
  have h2 : ((s.count .tst i 0 m.bits).count .tst i 1 m.bitErr).live .tst i = true := h0
  have hv : b = if s.tst[i].framed
      then upd (upd (upd a 0 fun v => sat64 (v + m.bits)) 1 fun v => sat64 (v + m.bitErr)) 3 fun v => sat64 (v + m.postErr)
      else upd (upd (upd a 0 fun v => sat64 (v + m.bits)) 1 fun v => sat64 (v + m.bitErr)) 2 fun v => sat64 (v + m.symErr) := by
    simp only [b, State.chkCounts]
    split
    · rw [count_vals h2, count_vals h1, count_vals h0]
    · rw [count_vals h2, count_vals h1, count_vals h0]
  rw [hv]
  split
  · simp [upd]
  · simp [upd]

section
variable {s : State} {i : Fin 24} {m : CheckCounts} (hlive : s.tstLive i = true)
include hlive

theorem chkLoses_of (hl : s.tst[i].locked = true) (hw : 1024 < m.window) :
    s.chkLoses i m = ((s.chkCounts i m).setTst i fun x => { x with
      locked := false, losses := min 0xFFFF (s.tst[i].losses + 1), since := s.now }).raise .tst i 0x11
        (w32 (min 0xFFFF (s.tst[i].losses + 1))) := by
  unfold State.chkLoses
  simp only [hlive, hl, decide_eq_false (Nat.not_le.2 hw), Bool.not_true, Bool.or_self, Bool.false_eq_true, if_false]

theorem patternStarts_of (hl : s.tst[i].locked = true) : s.patternStarts i m = (s.chkCounts i m).triggerFrom 4 i := by
  unfold State.patternStarts
  simp only [hlive, hl, Bool.not_true, Bool.or_self, Bool.false_eq_true, if_false]

/-- R313, R314: one injection, of an injector that runs. -/
theorem injected_of (hin : s.tst[i].injects = true) : s.injected i =
    let hit := if s.tst[i].level = 4 ∧ 16 ≤ i.val then injectPlaces 544 (fld s.tst[i].inject 8 5) s.stats[uix .tst i].vals[4] else []
    ((s.setTst i fun x => { x with left := x.left - 1, pend := if hit = [] then x.pend else hit }).count .tst i 4).raiseIf
      (s.tst[i].count != 0 && s.tst[i].left == 1) .tst i 0x12 (w32 s.tst[i].count) := by
  unfold State.injected
  simp only [hlive, hin, Bool.not_true, Bool.or_self, Bool.false_eq_true, if_false]

end

/-- Settles O43, by what a lock, a window, a pattern start and an injection leave. -/
theorem checkersAndInjectorsRun : Obligations.CheckersAndInjectorsRun := by
  unfold Obligations.CheckersAndInjectorsRun
  intro s dt i seen m hlive x put counts
  refine ⟨fun hc hl hs => ⟨fun n hn hsd hfg hf => ?_, fun l hl' hsd hfg => ?_⟩, fun hl => ⟨fun hw => ?_, ?_⟩, fun hin => ?_⟩
  · refine event_gives (·.chkLocks i seen) fun q _ => ?_
    rw [chkLocks_host (s := { s.later dt with obs := q }) hlive hc hl hs hn hsd hfg hf]
    have ht := chkLock_tells { s.later dt with obs := q } i
    have hr := chkLock_raises { s.later dt with obs := q } i
    generalize State.chkLock { s.later dt with obs := q } i = y at *
    refine ⟨turns_becomes ?_, ?_⟩
    · obtain ⟨o, k, rfl⟩ := ht.elim; rfl
    · have hn : (finish (y.setHrx n fun h => { h with timing := true })).now = s.now + dt := ht.now
      rw [hn]
      exact finish_raised (s' := { s.later dt with obs := q }) hr hn
  · intro flips
    refine event_gives (·.chkLocks i seen) fun q _ => ?_
    rw [chkLocks_line (s := { s.later dt with obs := q }) hlive hc hl hs hl' hsd hfg]
    have hn (y : State) (hy : y.now = s.now + dt) (hr : Raises { s.later dt with obs := q } y .tst i 0x10
        (w32 (min ((s.now + dt - x.since) / 1000) 0xFFFFFFFF))) :
        Raised s (finish y) .tst i 0x10 (w32 (min (((finish y).now - x.since) / 1000) 0xFFFFFFFF)) := by
      have hn : (finish y).now = s.now + dt := hy
      rw [hn]
      exact finish_raised (s' := { s.later dt with obs := q }) hr hn
    by_cases hf : x.framed = true
    · rw [if_pos (show ({ s.later dt with obs := q } : State).tst[i].framed = true from hf), if_pos hf]
      have ht := chkLock_tells { s.later dt with obs := q } i
      refine ⟨turns_becomes ht.notes.turns, fun h => ?_, hn _ ht.now (chkLock_raises _ i)⟩
      simp only [flips, hf, Bool.not_true, Bool.false_and, Bool.false_eq_true] at h
    · rw [if_neg (show ¬ ({ s.later dt with obs := q } : State).tst[i].framed = true from hf), if_neg hf]
      have hfl : flips = s.lrx[l].flips := by
        simp only [flips, Bool.eq_false_of_not_eq_true hf, Bool.not_false, Bool.true_and]
        rfl
      obtain ⟨hz, hr, hr'⟩ := chkLine_of { s.later dt with obs := q } i l
      have hx := voidRestored_tests (s := s) (dt := dt) (o := q) (y := { x with locked := true })
        (r := s.lrx[l].checked (s.now + dt) flips) rfl (by rw [hfl]; exact hz)
      refine ⟨?_, fun h => ?_, hn _ ((voidRestored_now _ _).trans hz.now) (voidRestored_raises hr')⟩
      · rw [upd_congr (g := fun _ => s.lrx[l].checked (s.now + dt) flips) rfl]
        exact hx
      · exact finish_raised (voidRestored_raises (hr (hfl ▸ h))) ((voidRestored_now _ _).trans hz.now)
  · refine event_gives (·.chkLoses i m) fun q _ => ?_
    have ht := chkCounts_tells { s.later dt with obs := q } i m
    have hcnt := chkCounts_of (s := { s.later dt with obs := q }) hlive m
    rw [chkLoses_of (s := { s.later dt with obs := q }) hlive hl hw]
    generalize State.chkCounts { s.later dt with obs := q } i m = y at *
    refine ⟨turns_becomes (.raise ?_), ?_, ?_⟩
    · obtain ⟨o, k, rfl⟩ := ht.elim
      rfl
    · simp only [counts, finish_stat (tst_uix i)]
      exact hcnt
    · exact finish_raised (s' := { s.later dt with obs := q }) (raises_raise _ ht.power ht.units ht.now) ht.now
  · refine event_gives (·.patternStarts i m) fun q _ => ?_
    have ht := chkCounts_tells { s.later dt with obs := q } i m
    have hcnt := chkCounts_of (s := { s.later dt with obs := q }) hlive m
    rw [patternStarts_of (s := { s.later dt with obs := q }) hlive hl]
    generalize State.chkCounts { s.later dt with obs := q } i m = y at *
    refine ⟨turns_becomes (ht.notes.trans (triggerSets_notes y _)).turns, ?_⟩
    simp only [counts, finish_stat (tst_uix i), State.triggerFrom, triggerSets_stat (tst_uix i)]
    exact hcnt
  · refine event_gives (·.injected i) fun q _ => ?_
    rw [injected_of (s := { s.later dt with obs := q }) hlive hin]
    refine ⟨turns_becomes (.raiseIf ?_), ?_, fun hc hl => ?_⟩
    · refine Turns.count ?_
      have hpend : (if (if x.level = 4 ∧ 16 ≤ i.val then injectPlaces 544 (fld x.inject 8 5) s.stats[uix .tst i].vals[4] else []) = []
          then x.pend else if x.level = 4 ∧ 16 ≤ i.val then injectPlaces 544 (fld x.inject 8 5) s.stats[uix .tst i].vals[4] else []) =
          if x.level = 4 ∧ 16 ≤ i.val ∧ injectPlaces 544 (fld x.inject 8 5) s.stats[uix .tst i].vals[4] ≠ []
          then injectPlaces 544 (fld x.inject 8 5) s.stats[uix .tst i].vals[4] else x.pend := by
        by_cases h : x.level = 4 ∧ 16 ≤ i.val
        · by_cases h' : injectPlaces 544 (fld x.inject 8 5) s.stats[uix .tst i].vals[4] = [] <;> simp [h]
        · rw [if_neg h, if_pos rfl, if_neg fun hn => h ⟨hn.1, hn.2.1⟩]
      rw [← hpend]
      rfl
    · rw [finish_stat (tst_uix i)]
      refine (congrArg (fun v : Vector Stats 321 => v[uix .tst i].vals[4]) (raiseIf_stats ..)).trans ?_
      refine (count_at ?_ 4 1).trans rfl
      exact (tstLive_live hlive : s.live .tst i = true)
    · exact finish_raised (s' := { s.later dt with obs := q }) (raises_raiseIf _ (Bool.and_eq_true_iff.2 ⟨bne_iff_ne.2 hc, beq_iff_eq.2 hl⟩)) rfl

end Sys2Proof.Machine

/-! ## The commands of the slow-signal monitor and of the housekeeping ADC (R292, R296 to R300, R303) -/

namespace Sys2Proof.Machine

theorem instances_mon (i : Fin 24) : i.val ∈ instances .mon := List.mem_append_left _ (List.mem_range.2 i.isLt)

theorem instances_hk : 0xFE ∈ instances .mon := by decide

theorem monLane_val (i : Fin 24) : monLane i = i := Fin.ofNat_val_eq_self i

theorem monIsLane_val (i : Fin 24) : monIsLane .mon i = true := decide_eq_true i.isLt

/-- What an answered command to MON leaves, where its effect is one on `mon` and `mem`. -/
theorem answered_ends {s : State} {dt : Nat} {o : Obs} {m : Vector Stats 321} {v : List Waiting} {k : MemState} {n : Mon} {i : Nat}
    {g f : Byte} {ps pay : List Word} (hq : s.port.waiting = []) :
    Ends { s.later dt with mem := k, mon := n }
      (finish (State.answered { s.heard dt o m v with mem := k, mon := n } .mon (cmdTo i g f ps) pay)) ∧
    Replies s (finish (State.answered { s.heard dt o m v with mem := k, mon := n } .mon (cmdTo i g f ps) pay))
      (cmdTo i g f ps) .mon 0 pay :=
  ⟨⟨_, rfl, rfl⟩, (answered_effects (s := s) (e := { s.later dt with mem := k, mon := n })
    (x := { s.heard dt o m v with mem := k, mon := n }) hq rfl).2⟩

/-- Settles O44, by the checks and the effect of each command. -/
theorem monitorCommandsTakeEffect : Obligations.MonitorCommandsTakeEffect := by
  unfold Obligations.MonitorCommandsTakeEffect
  intro s dt i g f w v e ht hrun
  have hi := instances_mon i
  have hq := ht.2.2.1
  have hl := monIsLane_val i
  refine ⟨fun hu => ⟨fun h1 h2 h3 h4 h5 => ?_, ?_, fun h1 h2 h3 => ?_, ?_, fun h1 h2 h3 h4 => ?_⟩, fun h => ?_,
    fun h1 h2 h3 h4 h5 => ?_⟩
  · refine unit_gives_to specMonTapSet (g := g) (f := f) (ps := [w]) (k := .basic) ht hrun hi trivial
      (fun _ _ _ => meets_of_workable hu) (fun o m x _ => ⟨rfl, firstBad_one ?_, rfl, rfl, rfl, rfl⟩) (fun o m x _ => ?_) (hacc := hl)
    · simp only [unitReq_p, h1, h2, h3, h4, h5]
      rfl
    · refine ⟨_, _, by simp only [specMonTapSet, change, monLane_val]; rfl, rfl, ?_⟩
      exact answered_ends (k := s.mem) (n := { s.mon with taps := upd s.mon.taps i fun p =>
        { (if fld w 0 3 = fld p.word 0 3 then p else p.restart (s.now + dt)) with word := w } }) hq
  · refine unit_gives_to specMonRead (g := g) (f := f) (ps := []) (k := .basic) ht hrun hi trivial
      (fun _ _ _ => meets_of_workable hu) (fun o m x _ => ⟨rfl, rfl, rfl, rfl, rfl, rfl⟩) (fun o m x _ => ?_) (hacc := hl)
    refine ⟨s.heard dt o m x, tapBlock s.mon.taps[i], rfl, by simp only [specMonRead, answer, monLane_val], ?_⟩
    exact answered_ends (k := s.mem) (n := s.mon) hq
  · refine unit_gives_to specMonThresholdSet (g := g) (f := f) (ps := [w, v]) (k := .basic) ht hrun hi trivial
      (fun _ _ _ => meets_of_workable hu) (fun o m x _ => ⟨rfl, ?_, rfl, rfl, rfl, rfl⟩) (fun o m x _ => ?_) (hacc := hl)
    · refine firstBad_none_iff.2 (List.forall_mem_cons.2 ⟨?_, List.forall_mem_cons.2 ⟨h2, nofun⟩⟩)
      exact Bool.and_eq_true_iff.2 ⟨h1, decide_eq_true h3⟩
    · refine ⟨_, _, by simp only [specMonThresholdSet, change, monLane_val]; rfl, rfl, ?_⟩
      exact answered_ends (k := s.mem) (n := { s.mon with taps := upd s.mon.taps i fun p =>
        { p with high := w, low := v, above := p.above && bit w 24 } }) hq
  · refine unit_gives_to specMonStreamSet (g := g) (f := f) (ps := [0, v, 0]) (k := .basic) ht hrun hi trivial
      (fun _ _ _ => meets_of_workable hu) (fun o m x _ => ⟨rfl, ?_, rfl, rfl, rfl, rfl⟩) (fun o m x _ => ?_) (hacc := hl)
    · exact firstBad_none_iff.2 (List.forall_mem_cons.2 ⟨rfl, List.forall_mem_cons.2 ⟨rfl, List.forall_mem_cons.2
        ⟨(by decide : clear 0 1 = true), nofun⟩⟩⟩)
    · refine ⟨_, _, by simp only [specMonStreamSet, change, monLane_val]; rfl, rfl, ?_⟩
      exact answered_ends (k := s.mem) (n := { s.mon with taps := upd s.mon.taps i fun p =>
        { p with base := 0, size := 0, queue := [], spilt := 0 } }) hq
  · have hw : (w.toNat == 0) = false := beq_eq_false_iff_ne.2 fun h => h4 (BitVec.eq_of_toNat_eq h)
    refine unit_gives_to specMonStreamSet (g := g) (f := f) (ps := [w, v, e]) (k := .basic) ht hrun hi trivial
      (fun _ _ _ => meets_of_workable hu) (fun o m x _ => ⟨rfl, ?_, rfl, rfl, rfl, rfl⟩) (fun o m x _ => ?_) (hacc := hl)
    · refine firstBad_none_iff.2 (List.forall_mem_cons.2 ⟨?_, List.forall_mem_cons.2 ⟨?_, List.forall_mem_cons.2 ⟨h3, nofun⟩⟩⟩)
      · exact Bool.or_eq_true_iff.2 (.inr h1)
      · exact Bool.or_eq_true_iff.2 (.inr h2)
    · have hst : ({ s.heard dt o m x with mem := (s.ringInit (bit e 0) w.toNat).mem, mon := { s.mon with
          taps := upd s.mon.taps i fun p =>
            { p with base := w.toNat, size := v.toNat, wrote := if p.base = 0 then p.index else p.wrote } } } : State) =
          ((s.heard dt o m x).ringInit (bit e 0) w.toNat).setTap i fun p =>
            { p with base := w.toNat, size := v.toNat, wrote := if p.base = 0 then p.index else p.wrote } := by
        unfold State.ringInit
        cases bit e 0 <;> rfl
      refine ⟨{ s.heard dt o m x with mem := (s.ringInit (bit e 0) w.toNat).mem, mon := { s.mon with
          taps := upd s.mon.taps i fun p =>
            { p with base := w.toNat, size := v.toNat, wrote := if p.base = 0 then p.index else p.wrote } } }, [], ?_, rfl, ?_⟩
      · rw [hst]
        have h0 : w.toNat ≠ 0 := beq_eq_false_iff_ne.1 hw
        simp only [specMonStreamSet, change, monLane_val, unitReq_p, bne, hw, Bool.not_false, Bool.true_and, h0, if_false]
        rfl
      · exact answered_ends hq
  · obtain ⟨h1, h2, h3, h4, h5, h6⟩ := h
    refine unit_gives_to specMonHkConfig (g := g) (f := f) (ps := [w]) (k := .basic) ht hrun instances_hk trivial
      (fun _ _ _ => meets_of_nil) (fun o m x _ => ⟨rfl, firstBad_one ?_, rfl, rfl, rfl, rfl⟩) (fun o m x _ => ?_)
    · simp only [unitReq_p, h1, h2, h3, h4, h5, decide_true, Bool.true_and, beq_self_eq_true]
      split at h6
      next hc => exact (if_pos hc).trans (Bool.and_eq_true_iff.2 ⟨decide_eq_true h6.1, decide_eq_true h6.2⟩)
      next hc => exact (if_neg hc).trans (Bool.and_eq_true_iff.2 ⟨decide_eq_true h6.1, decide_eq_true h6.2⟩)
    · refine ⟨_, _, rfl, rfl, ?_⟩
      exact answered_ends (k := s.mem) (n := { s.mon with hk := upd s.mon.hk (Fin.ofNat 40 (fld w 0 6)) fun c =>
        { c with nNext := fld w 8 9, shNext := fld w 20 4 } }) hq
  · refine unit_gives_to specMonHkRead (g := g) (f := f) (ps := [w]) (k := .basic) ht hrun instances_hk trivial
      (fun _ _ _ => meets_of_nil) (fun o m x _ => ⟨rfl, firstBad_one ?_, rfl, rfl, rfl, rfl⟩) (fun o m x _ => ?_)
    · simp only [unitReq_p, h1, h2, h3, h4, h5]
      rfl
    · refine ⟨s.heard dt o m x, w32 s.mon.rounds :: (List.range (fld w 8 6)).flatMap fun k =>
        (s.heard dt o m x).hkWords (fld w 0 6 + k), rfl, rfl, ?_⟩
      exact answered_ends (k := s.mem) (n := s.mon) hq

end Sys2Proof.Machine

/-! ## The commands of the captures (R287 to R291, R294, R303, R304) -/

namespace Sys2Proof.Machine

/-! ### A capture that fills is left alone by triggers (R291) -/

section
variable {k : Fin 24}

theorem triggerOne_caps (s : State) (seq at_ i : Nat) (hk : Fin.ofNat 24 i ≠ k) :
    (s.triggerOne seq at_ i).mon.caps[k] = s.mon.caps[k] := by
  unfold State.triggerOne
  dsimp only
  split
  · exact upd_get_ne _ _ hk
  · exact upd_get_ne _ _ hk
  · exact upd_get_ne _ _ hk
  all_goals rfl

theorem triggerOne_filling {s : State} (h : s.mon.caps[k].state = .filling) (seq at_ i : Nat) :
    (s.triggerOne seq at_ i).mon.caps[k] = s.mon.caps[k] := by
  by_cases hk : Fin.ofNat 24 i = k
  · subst hk
    unfold State.triggerOne
    dsimp only
    rw [h]
  · exact triggerOne_caps s seq at_ i hk

theorem foldl_filling {α : Type} {f : State → α → State}
    (hf : ∀ t a, t.mon.caps[k].state = .filling → (f t a).mon.caps[k] = t.mon.caps[k]) (l : List α) {s : State}
    (h : s.mon.caps[k].state = .filling) : (l.foldl f s).mon.caps[k] = s.mon.caps[k] := by
  induction l generalizing s with
  | nil => rfl
  | cons a l ih => exact (ih (by rw [hf s a h]; exact h)).trans (hf s a h)

theorem triggerAt_filling {s : State} (h : s.mon.caps[k].state = .filling) (at_ : Nat) (x : CapSet) :
    (s.triggerAt at_ x).mon.caps[k] = s.mon.caps[k] :=
  foldl_filling (s := { s with mon := { s.mon with seq := (s.mon.seq + 1) % 2 ^ 32, trigOut := at_ } })
    (fun _ i ht => triggerOne_filling ht _ at_ i) x.members h

theorem trigger_filling {s : State} (h : s.mon.caps[k].state = .filling) (x : CapSet) :
    (s.trigger x).mon.caps[k] = s.mon.caps[k] := by
  unfold State.trigger
  split
  · exact triggerAt_filling h _ x
  · rfl

theorem immediate_filling {s : State} (h : s.mon.caps[k].state = .filling) (x : CapSet) :
    (s.immediate x).mon.caps[k] = s.mon.caps[k] := by
  unfold State.immediate
  split
  · exact triggerAt_filling h _ x
  · rfl

theorem immediates_filling {s : State} (h : s.mon.caps[k].state = .filling) : s.immediates.mon.caps[k] = s.mon.caps[k] :=
  foldl_filling (fun _ x ht => immediate_filling ht x) s.mon.sets h

theorem fireAll_filling {n : Nat} {sets : List CapSet} {s : State} (h : s.mon.caps[k].state = .filling) :
    (s.fireAll n sets).mon.caps[k] = s.mon.caps[k] := by
  induction n generalizing sets s with
  | zero => rfl
  | succ n ih =>
    unfold State.fireAll
    split
    · rfl
    · have hf := foldl_filling (k := k) (s := s.countFired) (fun _ x ht => trigger_filling ht x)
        (sets.filter fun x => s.obs.fired.any x.awaits) h
      exact (ih (by rw [hf]; exact h)).trans hf

/-- What MC notes after a row, before captures are triggered. -/
def State.noted (s : State) : State := if s.mcRuns then s.noteAll else s

theorem noted_frame (s : State) : s.noted = { s with obs := s.noted.obs } := by
  unfold State.noted
  split <;> rfl

theorem finish_caps {s : State} (h : s.noted.immediates.mon.caps[k].state = .filling) :
    (finish s).mon.caps[k] = s.noted.immediates.mon.caps[k] := fireAll_filling h

theorem finish_filling {s : State} (h : s.mon.caps[k].state = .filling) : (finish s).mon.caps[k] = s.mon.caps[k] := by
  have hm : s.noted.mon = s.mon := by rw [noted_frame]
  have hi : s.noted.immediates.mon.caps[k] = s.mon.caps[k] :=
    (immediates_filling (by rw [hm]; exact h)).trans (by rw [hm])
  exact (finish_caps (by rw [hi]; exact h)).trans hi

end

/-! ### A capture armed on IMMEDIATE without PRE samples (R287) -/

theorem preNs_zero (i : Nat) {cfg : Vector Word 8} (h : fld cfg[1] 16 16 = 0) : preNs i cfg = 0 := by
  unfold preNs
  simp [h]

theorem foldl_max_le (f : Nat → Nat) (b : Nat) : ∀ (l : List Nat) (a : Nat), a ≤ b → (∀ i ∈ l, f i ≤ b) →
    l.foldl (fun m i => max m (f i)) a ≤ b
  | [], _, ha, _ => ha
  | i :: l, _, ha, h => foldl_max_le f b l _ (Nat.max_le.2 ⟨ha, h i List.mem_cons_self⟩) fun j hj => h j (List.mem_cons_of_mem _ hj)

theorem le_foldl_max (f : Nat → Nat) : ∀ (l : List Nat) (a : Nat), a ≤ l.foldl (fun m i => max m (f i)) a ∧
    ∀ i ∈ l, f i ≤ l.foldl (fun m i => max m (f i)) a
  | [], _ => ⟨Nat.le_refl _, nofun⟩
  | i :: l, a => by
    obtain ⟨h1, h2⟩ := le_foldl_max f l (max a (f i))
    refine ⟨(Nat.le_max_left a (f i)).trans h1, fun j hj => ?_⟩
    obtain rfl | hj := List.mem_cons.1 hj
    · exact (Nat.le_max_right a (f _)).trans h1
    · exact h2 j hj

/-- R287: capture `k` was armed at time `n` without PRE samples, or has been triggered at that time. -/
def State.starts (s : State) (k : Fin 24) (n : Nat) : Prop :=
  s.mon.caps[k].state = .armed ∧ s.mon.caps[k].armedAt = n ∧ fld s.mon.caps[k].cfg[1] 16 16 = 0 ∨
    s.mon.caps[k].state = .filling ∧ s.mon.caps[k].at_ = n

section
variable {s : State} {k : Fin 24} {n : Nat}

theorem triggerOnes_starts (h : s.starts k n) (seq : Nat) (l : List Nat) (at_ : Nat) (ha : ∀ i ∈ l, Fin.ofNat 24 i = k → at_ = n) :
    (l.foldl (fun t i => t.triggerOne seq at_ i) s).starts k n := by
  induction l generalizing s with
  | nil => exact h
  | cons i l ih =>
    refine ih ?_ fun j hj => ha j (List.mem_cons_of_mem _ hj)
    by_cases hk : Fin.ofNat 24 i = k
    · obtain ⟨ha', -, -⟩ | hf := h
      · refine .inr ?_
        have hat := ha i List.mem_cons_self hk
        subst hk
        unfold State.triggerOne
        dsimp only
        rw [ha']
        exact ⟨congrArg Capture.state (upd_at ..), (congrArg Capture.at_ (upd_at ..)).trans hat⟩
      · unfold State.starts
        rw [triggerOne_filling hf.1]
        exact .inr hf
    · unfold State.starts
      rw [triggerOne_caps s seq at_ i hk]
      exact h

theorem immediate_starts (h : s.starts k s.now) (x : CapSet) : (s.immediate x).starts k s.now := by
  unfold State.immediate
  split
  next hc =>
    simp only [Bool.and_eq_true, List.all_eq_true] at hc
    obtain ⟨⟨-, harm⟩, hready⟩ := hc
    refine triggerOnes_starts (s := { s with mon := { s.mon with
      seq := (s.mon.seq + 1) % 2 ^ 32, trigOut := x.members.foldl (fun m i => max m (s.preHeld i)) 0 } }) h _ _ _ fun i hi hk => ?_
    have hle : ∀ j ∈ x.members, s.preHeld j ≤ s.now := fun j hj => by
      simp only [State.setReady, Bool.and_eq_true, List.all_eq_true, List.mem_filter, decide_eq_true_eq] at hready
      exact hready.2 j ⟨hj, harm j hj⟩
    have hge := (le_foldl_max s.preHeld x.members 0).2 i hi
    have hpre : s.preHeld i = s.now := by
      obtain ⟨-, hat, hcfg⟩ | ⟨hf, -⟩ := h
      · subst hk
        unfold State.preHeld
        dsimp only
        rw [hat, preNs_zero i hcfg, Nat.add_zero]
      · have ha := (congrArg (fun j : Fin 24 => s.mon.caps[j].state) hk).symm.trans (beq_iff_eq.1 (harm i hi))
        cases ha.symm.trans hf
    exact Nat.le_antisymm (foldl_max_le _ _ _ _ (Nat.zero_le _) hle) (hpre ▸ hge)
  next => exact h

theorem immediate_notes (s : State) (x : CapSet) : Notes s (s.immediate x) := by
  unfold State.immediate
  split
  · exact triggerAt_notes s _ x
  · exact notes_refl s

theorem foldl_starts (l : List CapSet) (h : s.starts k s.now) : (l.foldl State.immediate s).starts k s.now := by
  induction l generalizing s with
  | nil => exact h
  | cons x l ih =>
    have hn := (immediate_notes s x).turns.now
    have := ih (s := s.immediate x) (by rw [hn]; exact immediate_starts h x)
    rw [hn] at this
    exact this

theorem immediate_alone {cfg : Vector Word 8} (h : s.starts k s.now) (hsrc : fld cfg[2] 0 4 = 0) (hcap : s.capRuns = true) :
    (s.immediate { members := [k.val], cfg := cfg }).mon.caps[k].state = .filling ∧
    (s.immediate { members := [k.val], cfg := cfg }).mon.caps[k].at_ = s.now := by
  have hkk : Fin.ofNat 24 k.val = k := Fin.ofNat_val_eq_self k
  obtain ⟨hst, hat, hcfg⟩ | hf := h
  · have hpre : s.preHeld k.val = s.now := by
      unfold State.preHeld
      simp only [hkk, hat, preNs_zero k.val hcfg, Nat.add_zero]
    have hready : s.setReady { members := [k.val], cfg := cfg } = true := by
      unfold State.setReady
      simp only [List.filter_cons, List.filter_nil, List.any_cons, List.any_nil, hkk, hst, hcap, beq_self_eq_true, if_true,
        List.all_cons, List.all_nil, hpre]
      simp
    have hx : s.immediate { members := [k.val], cfg := cfg } = s.triggerAt s.now { members := [k.val], cfg := cfg } := by
      unfold State.immediate
      simp only [hsrc, List.all_cons, List.all_nil, hkk, hst, hready, beq_self_eq_true, Bool.and_self, if_true, List.foldl_cons,
        List.foldl_nil, hpre, Nat.zero_max]
    rw [hx]
    unfold State.triggerAt State.triggerOne
    simp only [List.foldl_cons, List.foldl_nil, hkk, hst]
    exact ⟨congrArg Capture.state (upd_at ..), congrArg Capture.at_ (upd_at ..)⟩
  · rw [immediate_filling hf.1]
    exact hf

/-- R287: a set of one capture, armed on IMMEDIATE now without PRE samples, triggers after the row. -/
theorem immediates_fill {l : List CapSet} {cfg : Vector Word 8} (h : s.starts k s.now)
    (hs : s.mon.sets = l ++ [{ members := [k.val], cfg := cfg }]) (hsrc : fld cfg[2] 0 4 = 0) (hcap : s.capRuns = true) :
    s.immediates.mon.caps[k].state = .filling ∧ s.immediates.mon.caps[k].at_ = s.now := by
  have hl := foldl_starts l h
  have hn := foldl_notes immediate_notes l s
  have hnow : (l.foldl State.immediate s).now = s.now := hn.turns.now
  have hrun : (l.foldl State.immediate s).capRuns = true := by
    obtain ⟨o, m, v, n, ht⟩ := turns_iff.1 hn.turns
    rw [ht]
    exact hcap
  unfold State.immediates
  rw [hs, List.foldl_append, ← hnow]
  exact immediate_alone (by rw [hnow]; exact hl) hsrc hrun

end

/-! ### What triggers do depends on captures and time alone -/

/-- Two states with the same captures, at the same time, whose CAP runs alike. -/
structure SameCaps (s x : State) : Prop where
  mon  : x.mon = s.mon
  now  : x.now = s.now
  runs : x.capRuns = s.capRuns

theorem foldl_same {α : Type} {f : State → α → State} (hf : ∀ s x a, SameCaps s x → SameCaps (f s a) (f x a)) (l : List α)
    {s x : State} (h : SameCaps s x) : SameCaps (l.foldl f s) (l.foldl f x) := by
  induction l generalizing s x with
  | nil => exact h
  | cons a l ih => exact ih (hf s x a h)

section
variable {s x : State} (h : SameCaps s x)
include h

theorem SameCaps.triggerOne (seq at_ i : Nat) : SameCaps (s.triggerOne seq at_ i) (x.triggerOne seq at_ i) := by
  unfold State.triggerOne
  dsimp only
  rw [h.mon]
  split
  · exact ⟨rfl, h.now, h.runs⟩
  · exact ⟨rfl, h.now, h.runs⟩
  · exact ⟨rfl, h.now, h.runs⟩
  all_goals exact h

theorem SameCaps.triggerAt (at_ : Nat) (c : CapSet) : SameCaps (s.triggerAt at_ c) (x.triggerAt at_ c) := by
  unfold State.triggerAt
  dsimp only
  rw [h.mon]
  exact foldl_same (fun _ _ i ht => ht.triggerOne _ at_ i) c.members ⟨rfl, h.now, h.runs⟩

theorem SameCaps.setReady (c : CapSet) : x.setReady c = s.setReady c := by
  unfold State.setReady State.preHeld
  dsimp only
  rw [h.mon, h.now, h.runs]

theorem SameCaps.immediate (c : CapSet) : SameCaps (s.immediate c) (x.immediate c) := by
  have hp : x.preHeld = s.preHeld := by
    funext i
    unfold State.preHeld
    rw [h.mon]
  unfold State.immediate
  rw [h.setReady, h.mon, hp]
  split
  · exact h.triggerAt _ c
  · exact h

theorem SameCaps.immediates : SameCaps s.immediates x.immediates := by
  unfold State.immediates
  rw [h.mon]
  exact foldl_same (fun _ _ c ht => ht.immediate c) _ h

end

/-! ### The commands -/

theorem capRuns_of_workable {s : State} {i : Fin 24} (h : s.workable (unitIslands .mon i)) : s.capRuns = true := by
  have h75 : 75 ∈ unitIslands .mon i := by
    have : i.val ≠ 0xFE := by omega
    unfold unitIslands
    simp only [this, if_false]
    split <;> simp
  obtain ⟨hon, hs⟩ := h
  obtain ⟨hfa, -, hut⟩ := hs 75 h75
  unfold State.capRuns
  rw [hon 75 h75, hut, hfa]
  rfl

/-- R291, R304: an abort. -/
theorem captureAbort_of (s : State) (i : Fin 24) (cause : Nat) :
    (s.mon.caps[i].state = .idle ∨ s.mon.caps[i].state = .aborted → s.captureAbort i cause = s) ∧
    (¬ (s.mon.caps[i].state = .idle ∨ s.mon.caps[i].state = .aborted) →
      Tells ((s.leaveSets [i.val]).setCap i fun c => { c with
        state := .aborted, acq := 0, sums := [], flags := [], sram := [], noLock := false }) (s.captureAbort i cause) ∧
      Raises s (s.captureAbort i cause) .mon i 0x12 (w32 cause)) := by
  constructor
  · intro h
    obtain h | h := h
    · unfold State.captureAbort; rw [h]
    · unfold State.captureAbort; rw [h]
  · intro h
    have hx : s.captureAbort i cause = (State.count ((s.leaveSets [i.val]).setCap i fun c => { c with
        state := .aborted, acq := 0, sums := [], flags := [], sram := [], noLock := false }) .mon i 2).raise .mon i 0x12
          (w32 cause) := by
      unfold State.captureAbort
      split
      next hc => exact absurd (.inl hc) h
      next hc => exact absurd (.inr hc) h
      all_goals rfl
    rw [hx]
    exact ⟨(count_tells ..).trans (raise_tells ..), raises_raise _ rfl rfl rfl⟩

/-- Settles O45, by the checks and the effect of each command. -/
theorem captureCommandsTakeEffect : Obligations.CaptureCommandsTakeEffect := by
  unfold Obligations.CaptureCommandsTakeEffect
  intro s dt i g f w cfg ht hrun hu ha c
  have hi := instances_mon i
  have hq := ht.2.2.1
  have hl := monIsLane_val i
  refine ⟨fun hst => ⟨fun hbad => ?_, fun hup => ?_⟩, ?_, fun hst h1 h2 h3 h4 => ?_, ?_⟩
  · refine unit_gives_to specMonCaptureSet (g := g) (f := f) (ps := cfg.toList) ht hrun hi ha
      (fun _ _ _ => meets_of_workable hu) (fun o m x _ => ⟨?_, hbad, rfl, require_of ?_, rfl, rfl⟩) (fun o m x _ => ?_) (hacc := hl)
    · simp [specMonCaptureSet, exactly]
    · simp only [monLane_val]
      obtain hst | hst | hst := hst
      all_goals simp only [show ({ s.heard dt o m x with } : State).mon.caps[i].state = _ from hst]
    · have hw (k : Fin 8) : (unitReq .mon i 0x80 g cfg.toList).p k.val = cfg[k] := by
        unfold Req.p
        rw [List.getD_eq_getElem _ _ (by simp)]
        simp
      have hcfg : (Vector.ofFn fun k : Fin 8 => (unitReq .mon i 0x80 g cfg.toList).p k.val) = cfg :=
        Vector.ext fun k hk => by simpa using hw ⟨k, hk⟩
      have hst' : ({ s.heard dt o m x with
            mem := (s.ringInit (bit cfg[0] 16 && bit cfg[0] 18) cfg[6].toNat).mem
            mon := { s.mon with caps := upd s.mon.caps i fun c => { c with cfg := cfg } } } : State) =
          ((s.heard dt o m x).ringInit (bit cfg[0] 16 && bit cfg[0] 18) cfg[6].toNat).setCap i fun c => { c with cfg := cfg } := by
        unfold State.ringInit
        cases bit cfg[0] 16 && bit cfg[0] 18 <;> rfl
      refine ⟨_, [], ?_, rfl, answered_ends (o := o) (m := m) (v := x)
        (k := (s.ringInit (bit cfg[0] 16 && bit cfg[0] 18) cfg[6].toNat).mem) (n := { s.mon with caps := upd s.mon.caps i fun c => { c with cfg := cfg } }) hq⟩
      rw [hst']
      simp only [specMonCaptureSet, change, monLane_val, hcfg]
      rw [show (unitReq .mon i 0x80 g cfg.toList).p 0 = cfg[0] from hw 0,
        show (unitReq .mon i 0x80 g cfg.toList).p 6 = cfg[6] from hw 6]
  · refine unit_gives_to specMonCaptureArm (g := g) (f := f) (ps := []) ht hrun hi ha
      (fun _ _ _ => meets_of_workable hu) (fun o m x _ => ⟨rfl, rfl, require_of ?_, require_of (adminIs hup), rfl, rfl⟩)
      (fun o m x _ => ?_) (hacc := hl)
    · simp only [monLane_val]
      obtain hst | hst | hst := hst
      all_goals simp only [show ({ s.heard dt o m x with } : State).mon.caps[i].state = _ from hst]
    · obtain ⟨mm, hmm⟩ : ∃ mm : Mon, mm = { s.mon with
        caps := upd s.mon.caps i fun c => c.rearm (s.now + dt)
        sets := (s.leaveSets [i.val]).mon.sets ++ [{ members := [i.val], cfg := c.cfg }] } := ⟨_, rfl⟩
      have hafter : specMonCaptureArm.after (specMonCaptureArm.act (s.heard dt o m x) (unitReq .mon i 0x81 g [])).st [i.val] =
          { s.heard dt o m x with mon := mm } := by
        have hcfg : (upd s.mon.caps i fun c => c.rearm (s.now + dt))[i].cfg = c.cfg :=
          (congrArg Capture.cfg (upd_at ..)).trans rfl
        rw [hmm, ← hcfg]
        simp only [specMonCaptureArm, change, State.formSet, monLane_val]
        rfl
      refine ⟨_, [], hafter, rfl, _, rfl, rfl, ?_, ?_, ?_, fun h0 h1 => ?_, ?_⟩
      · rw [hmm]; rfl
      · rw [hmm]; exact List.mem_append_right _ List.mem_cons_self
      · rw [hmm]; rfl
      · obtain ⟨z, hz⟩ : ∃ z, z = State.answered { s.heard dt o m x with mon := mm } .mon (cmdTo i g f []) [] := ⟨_, rfl⟩
        rw [← hz]
        have hf := immediates_fill (s := z.noted) (k := i) (l := (s.leaveSets [i.val]).mon.sets) (cfg := c.cfg) ?_ ?_ h0 ?_
        · have hc := finish_caps hf.1
          rw [hc]
          exact ⟨hf.1, hf.2.trans (by rw [noted_frame]; rfl)⟩
        · have hk : z.noted.mon.caps[i] = c.rearm (s.now + dt) := by
            rw [noted_frame, hz]
            exact (congrArg (fun n : Mon => n.caps[i]) hmm).trans (upd_at ..)
          have hn : z.noted.now = s.now + dt := by rw [noted_frame, hz]; rfl
          unfold State.starts
          rw [hk, hn]
          exact .inl ⟨rfl, rfl, h1⟩
        · rw [noted_frame, hz]
          exact congrArg Mon.sets hmm
        · rw [noted_frame, hz]
          exact capRuns_of_workable hu
      · exact (answered_ends (k := s.mem) (n := mm) hq).2
  · refine unit_gives_to specMonCaptureStatusGet (g := g) (f := f) (ps := []) ht hrun hi ha
      (fun _ _ _ => meets_of_workable hu) (fun o m x _ => ⟨rfl, rfl, rfl, rfl, rfl, rfl⟩) (fun o m x _ => ?_) (hacc := hl)
    refine ⟨s.heard dt o m x, capBlock (s.later dt).immediates.mon.caps[i], rfl, ?_, ?_⟩
    · have hs := (SameCaps.immediates (s := s.later dt) (x := s.heard dt o m x) ⟨rfl, rfl, rfl⟩).mon
      simp only [specMonCaptureStatusGet, answer, monLane_val, hs]
    · exact answered_ends (k := s.mem) (n := s.mon) hq
  · refine unit_gives_to specMonCaptureRead (g := g) (f := f) (ps := [w]) ht hrun hi ha
      (fun _ _ _ => meets_of_workable hu) (fun o m x _ => ⟨rfl, firstBad_one ?_, rfl, require_of ?_, rfl, rfl⟩)
      (fun o m x _ => ?_) (hacc := hl)
    · simp only [unitReq_p, monLane_val, h1, h2, h3, decide_true, Bool.true_and, Bool.or_eq_true, decide_eq_true_eq]
      exact .inr h4
    · simp only [monLane_val]
      exact beq_iff_eq.2 hst
    · refine ⟨_, _, by simp only [specMonCaptureRead, monLane_val, unitReq_p]; rfl,
        by simp only [specMonCaptureRead, monLane_val, unitReq_p]; rfl, ?_⟩
      exact answered_ends (k := s.mem) (n := { s.mon with caps := upd s.mon.caps i fun c => c.readTo (fld w 0 16) (fld w 16 10) }) hq
  · refine unit_gives_to specMonCaptureAbort (g := g) (f := f) (ps := []) ht hrun hi ha
      (fun _ _ _ => meets_of_workable hu) (fun o m x _ => ⟨rfl, rfl, rfl, rfl, rfl, rfl⟩)
      (fun o m x _ => ?_) (hacc := hl)
    have hc := captureAbort_of (s.heard dt o m x) i 4
    refine ⟨(s.heard dt o m x).captureAbort i 4, [], by simp only [specMonCaptureAbort, change, monLane_val], rfl, ?_⟩
    by_cases hst : c.state = .idle ∨ c.state = .aborted
    · rw [hc.1 hst]
      exact ⟨_, rfl, rfl, fun _ => rfl, fun h => absurd hst h, (answered_ends (k := s.mem) (n := s.mon) hq).2⟩
    · obtain ⟨htell, hr⟩ := hc.2 hst
      generalize (s.heard dt o m x).captureAbort i 4 = y at *
      refine ⟨_, rfl, ?_, fun h => absurd h hst, fun _ => ⟨?_, ?_, fun z hz => ?_, ?_⟩, ?_⟩
      · obtain ⟨o', k', rfl⟩ := htell.elim
        rfl
      · exact (congrArg (fun n : Mon => n.caps[i].state) htell.mon).trans (congrArg Capture.state (upd_at ..))
      · exact (congrArg (fun n : Mon => n.caps[i].sram) htell.mon).trans (congrArg Capture.sram (upd_at ..))
      · have hsets : y.mon.sets = (s.leaveSets [i.val]).mon.sets :=
          (congrArg Mon.sets htell.mon).trans rfl
        replace hz : z ∈ (s.leaveSets [i.val]).mon.sets := hsets ▸ hz
        obtain ⟨hz, -⟩ := List.mem_filter.1 hz
        obtain ⟨a, -, rfl⟩ := List.mem_map.1 hz
        simp
      · exact answered_raised hr (htell.now.trans rfl)
      · refine (answered_effects (s := s) (e := s.later dt) (x := y) hq ?_).2
        obtain ⟨o', k', rfl⟩ := htell.elim
        rfl

end Sys2Proof.Machine

/-! ## Two sets that share a capture (R287 to R289) -/

namespace Sys2Proof.Machine

/-- R288: the words of a capture that waits for a falling edge of TRIG_IN. -/
def fallingEdge : Vector Word 8 := #v[0, 0, 1, 0, 0, 0, 0, 0]

/-- R289: captures 0 and 1 are armed in a set that waits for a falling edge of TRIG_IN. A set before it has the member 24, which
is no lane: its capture is capture 0 again. -/
def sharedCapture : State :=
  let armed : Capture → Capture := fun c => { c with cfg := fallingEdge, state := .armed }
  let s : State := { State.reset with power := { State.reset.power with dev := .active } }
  { s with mon := { s.mon with
      caps := upd (upd s.mon.caps 0 armed) 1 armed
      sets := [{ members := [24], cfg := fallingEdge }, { members := [0, 1], cfg := fallingEdge }] } }

/-- The first set takes the trigger, capture 0 fills, and the second set is no longer ready: capture 1 stays armed. -/
theorem sharedCapture_stays : (match exec (.trigInEdge 0 false) sharedCapture with
    | .next t => t.mon.caps[(1 : Fin 24)].state == .armed
    | _ => false) = true := by
  decide +kernel

/-- Refutes O46: a set whose captures are armed and ready is not triggered where another set, without a member of it, holds one
of its captures: the trigger of that set leaves the capture filling. -/
theorem not_capturesAndOutputsProceed : ¬ Obligations.CapturesAndOutputsProceed := by
  unfold Obligations.CapturesAndOutputsProceed
  intro h
  obtain ⟨-, -, -, -, htrig⟩ := h sharedCapture 0 0 [] 0 0 false
  obtain ⟨hedge, -⟩ := htrig { members := [0, 1], cfg := fallingEdge } (by decide +kernel) (by decide +kernel) (by decide +kernel)
  obtain ⟨t, ht, v, ⟨hv, -⟩, -, -, -, hfill⟩ := hedge (by decide +kernel) (by decide +kernel)
  have hf := (hfill 1 (by decide) (by decide +kernel)).1
  have hstays := sharedCapture_stays
  have hx : t.mon.caps[(1 : Fin 24)].state = .filling := by rw [hv, finish_filling hf, hf]
  simp only [show exec (.trigInEdge 0 false) sharedCapture = .next t from ht, hx] at hstays
  exact absurd hstays (by decide)

end Sys2Proof.Machine

/-! ## Silent islands, mismatches and the JTAG port (R25, R66, R97, R403, R404) -/

namespace Sys2Proof.Machine

/-! ### What OPER is read from -/

/-- R62: OPER is read from the records and not from events, counters or their settings. -/
theorem operOf_goesOn {s : State} {o : Obs} (h : s.obs.GoesOn o) (c : Cls) (i : Nat) :
    ({ s with obs := o } : State).operOf c i = s.operOf c i := by
  obtain ⟨recs, lf, missed, adapt, carry, held, hcfg, hcode, -⟩ := h
  cases c
  case perf =>
    unfold State.operOf State.operPerf
    simp only [hcfg]
    rfl
  all_goals
    cases o
    dsimp only at *
    subst recs lf missed adapt carry held
    rfl

/-- Settles O48: each instruction is the one change of `State.jtagIr`. -/
theorem scanInstructionsTakeEffect : Obligations.ScanInstructionsTakeEffect := by
  unfold Obligations.ScanInstructionsTakeEffect
  intro s dt b code hp put
  have h (ir : JtagIr) (v : BitVec 63) (o : Obs) :
      Becomes dt (put ir v) (finish (State.jtagIr { s.later dt with obs := o } ir v)) := by
    rw [show State.jtagIr { s.later dt with obs := o } ir v = { s.later dt with obs := o, jtag := { ir := ir, boundary := v } } from
      if_pos hp]
    exact turns_becomes rfl
  have hb (o : Obs) (hc : ({ s.later dt with obs := o } : State).otherCode code = false) :
      Becomes dt (put .bypass s.jtag.boundary) (finish (State.bypassed { s.later dt with obs := o } code)) := by
    unfold State.bypassed
    rw [hc]
    exact h .bypass _ o
  refine ⟨event_gives _ fun o _ => h _ _ o, event_gives _ fun o _ => h _ _ o, event_gives _ fun o _ => h _ _ o,
    event_gives _ fun o _ => h _ _ o, event_gives _ fun o _ => h _ _ o, event_gives _ fun o _ => h _ _ o,
    event_gives _ fun o _ => h _ _ o, event_gives _ fun o _ => h _ _ o, fun h7 hc => event_gives _ fun o _ => hb o ?_,
    fun h1 h2 hl => ?_, fun h1 h2 hl => ?_⟩
  · have hcode : ¬ code.toNat ≤ 6 := by omega
    unfold State.otherCode State.debugOpen
    rw [decide_eq_false hcode, Bool.false_or]
    obtain h | h | h := hc
    · rw [decide_eq_false (Nat.not_le.2 h)]; rfl
    · rw [h]; rfl
    · rw [show ({ s.later dt with obs := o } : State).lifecycle = s.lifecycle from rfl, beq_false_of_ne h, Bool.and_false]
  · have hopen : s.debugOpen code = false := by
      unfold State.debugOpen
      rw [beq_false_of_ne hl, Bool.and_false]
    refine event_gives (·.bypassed code) (fun o _ => hb o ?_) (if_neg ?_)
    · unfold State.otherCode
      rw [decide_eq_false (by omega)]
      exact hopen
    · rw [hopen, Bool.and_false]
      exact Bool.false_ne_true
  · have hopen : s.debugOpen code = true := by
      have h255 : code.toNat ≠ 255 := fun h => h2 (BitVec.eq_of_toNat_eq h)
      have hlt : code.toNat < 255 := by omega
      unfold State.debugOpen
      rw [hl, decide_eq_true h1, decide_eq_true hlt]
      rfl
    exact if_pos (by rw [hp, hopen]; rfl)

/-! ### Silent islands (R25) -/

theorem islandSilent_of {s : State} {i : Fin 78} (hm : s.mcRuns = true) (hi : i ≠ 72) (hon : s.islandOn i = true)
    (hu : s.underTest i = false) (hf : s.islandFailed i = false) : s.islandSilent i = s.islandFails i := by
  have h72 : (i.val == 72) = false := beq_false_of_ne fun h => hi (Fin.ext h)
  unfold State.islandSilent
  rw [hm, h72, hon, hu, hf]
  rfl

theorem failed_set (p : BitVec 78) (i k : Fin 78) :
    (p ||| (1#78 <<< i.val)).getLsbD k = (p.getLsbD k || k == i) := by
  rw [BitVec.getLsbD_or, BitVec.getLsbD_shiftLeft, BitVec.getLsbD_one]
  congr 1
  rw [Bool.eq_iff_iff]
  simp only [Bool.and_eq_true, decide_eq_true_eq, Bool.not_eq_true', decide_eq_false_iff_not, beq_iff_eq, Fin.ext_iff]
  omega

/-- R141: a lane of an island that is FAILED may not drive. -/
theorem mayDrive_failed {s : State} {l : Fin 8} {i : Nat} (hi : i ∈ unitIslands .ltx l) (hf : s.islandFailed i = true) :
    s.mayDrive l = false := by
  have hany : [16 + l.val, 24 + l.val].any s.islandFailed = true := List.any_eq_true.2 ⟨i, hi, hf⟩
  unfold State.mayDrive
  simp only [hany, Bool.not_true, Bool.and_false, Bool.false_and]

theorem islandFails_lanes (s : State) (i : Fin 78) (l : Fin 8) (hl : i.val ∈ unitIslands .ltx l) :
    (s.islandFails i).ltx[l].driving = false := by
  have hf : ({ s with dom := { s.dom with failed := s.dom.failed ||| (1#78 <<< i.val) } } : State).islandFailed i = true :=
    (failed_set _ i i).trans (by simp)
  have hx : (s.islandFails i).ltx = (State.ltxSettle { s with dom := { s.dom with
      failed := s.dom.failed ||| (1#78 <<< i.val) } }).ltx := raise_ltx ..
  rw [hx]
  unfold State.ltxSettle
  simp only [vmapIx_get, lineLane_val, mayDrive_failed hl hf, Bool.and_false]

theorem islandFails_turns (s : State) (i : Fin 78) : Turns { s with
    dom := { s.dom with failed := (s.islandFails i).dom.failed }, ltx := (s.islandFails i).ltx } (s.islandFails i) := by
  rfl

/-- R66: a mismatch that has lasted is raised, and its record says so. -/
theorem mismatchRaised_of {s : State} {c : Cls} {i t0 : Nat} {p : Oper} (hm : s.mcRuns = true) (hi : i ∈ instances c)
    (hs : (s.recOf c i).misSince = some t0) (hr : (s.recOf c i).misRaised = false) (ht : t0 + 100000000 < s.now)
    (hp : (s.operOf c i).1 = p) (hmis : s.mismatch c i p = true) :
    Turns s (s.mismatchRaised c i) ∧ Raises s (s.mismatchRaised c i) c i 0x02
      (pk [((s.admin c i).code, 0), (p.code, 4), (s.remoteOf c i, 8)]) := by
  have hx : s.mismatchRaised c i =
      let t := s.raise c i 0x02 (pk [((s.admin c i).code, 0), (p.code, 4), (s.remoteOf c i, 8)])
      { t with obs := { t.obs with recs := upd t.obs.recs (uix c i) fun r => { r with misRaised := true } } } := by
    unfold State.mismatchRaised
    simp only [hs, hm, hr, hp, hmis, List.contains_eq_mem, decide_eq_true hi, decide_eq_false (Nat.not_le.2 ht), Bool.not_true,
      Bool.or_self, Bool.false_eq_true, if_false]
  rw [hx]
  exact ⟨rfl, raises_raise s⟩

/-- Settles O47, by what a silent island and a mismatch leave. -/
theorem silenceAndMismatchAreNoticed : Obligations.SilenceAndMismatchAreNoticed := by
  unfold Obligations.SilenceAndMismatchAreNoticed
  intro s dt i c j t0
  refine ⟨event_gives (·.heartbeat) fun o _ => turns_becomes rfl, fun hm hi hon hu hf => ?_, fun hm => ?_,
    fun hm hj hs hr ht hmis => ?_⟩
  · refine event_gives (·.islandSilent i) fun o _ => ?_
    rw [islandSilent_of (s := { s.later dt with obs := o }) hm hi hon hu hf]
    refine ⟨turns_becomes (islandFails_turns _ i), fun k => failed_set s.dom.failed i k, fun l hl => ?_, ?_⟩
    · exact islandFails_lanes { s.later dt with obs := o } i l hl
    · exact finish_raised (s' := { s.later dt with obs := o }) (raises_raise _ rfl rfl rfl) rfl
  · refine event_gives (·.mcFallsSilent) fun o _ => ?_
    rw [show State.mcFallsSilent { s.later dt with obs := o } =
      { s.later dt with obs := o, power := { s.power with mcSilent := true } } from if_pos hm]
    exact turns_becomes rfl
  · refine event_gives (·.mismatchRaised c j.toNat) fun o ho => ?_
    have hrec : (State.recOf { s.later dt with obs := o } c j.toNat) = s.recOf c j.toNat :=
      congrArg (fun v : Vector UnitRec 321 => v[uix c j.toNat]) ho.recs
    have hop := operOf_goesOn (s := s.later dt) ho c j.toNat
    obtain ⟨hturns, hraises⟩ := mismatchRaised_of (s := { s.later dt with obs := o }) (c := c) (i := j.toNat) (t0 := t0) hm hj
      (hrec.symm ▸ hs) (hrec.symm ▸ hr) ht (congrArg Prod.fst hop) hmis
    exact ⟨turns_becomes hturns, finish_raised (s' := { s.later dt with obs := o }) hraises hturns.now⟩

end Sys2Proof.Machine

/-! ## The programmable counters (R327 to R335) -/

namespace Sys2Proof.Machine

/-! ### What more occurrences make of a counter (R330) -/

/-- R330: what `perfMap` makes of counter `k`, and whether it passes its end. -/
def State.perfStep (s : State) (amt : Nat → PerfCtr → Nat) (k : Nat) (p : PerfCtr) : PerfCtr × Bool :=
  if p.cfg = 0 ∧ p.code = 0 then (p, false)
  else
    let n := amt k p
    if n = 0 || s.admin .perf k != .up || !s.live (clsOf (fld p.cfg 12 4)) (fld p.cfg 0 12) then (p, false) else p.add n

theorem perfMap_at (s : State) (amt : Nat → PerfCtr → Nat) (k : Fin 64) :
    (s.perfMap amt).perf[k] = (s.perfStep amt k s.obs.perf[k]).1 := vmapIx_get ..

/-- A counter either stays as it is or gains some occurrences. -/
theorem perfStep_cases (s : State) (amt : Nat → PerfCtr → Nat) (k : Nat) (p : PerfCtr) :
    s.perfStep amt k p = (p, false) ∨ ∃ n, s.perfStep amt k p = p.add n := by
  unfold State.perfStep
  split
  · exact .inl rfl
  · dsimp only
    split
    · exact .inl rfl
    · exact .inr ⟨_, rfl⟩

/-- R330: a counter, with WRAP set or not, has passed its end. -/
def PerfCtr.passed (wrap : Bool) (p : PerfCtr) : Prop :=
  bit p.cfg 24 = wrap ∧ if wrap then p.wrap = true else p.val = 2 ^ 48 - 1 ∧ p.sat = true

/-- R330: a counter that holds `2^48` or more passes its end. -/
theorem add_passes {p : PerfCtr} {n : Nat} (h : 2 ^ 48 ≤ p.val + n) : (p.add n).1.passed (bit p.cfg 24) := by
  refine ⟨congrArg (bit · 24) (perfAdd_cfg p n).1, ?_⟩
  unfold PerfCtr.add
  rw [if_neg (Nat.not_lt.2 h)]
  cases bit p.cfg 24 with
  | true => rfl
  | false => exact ⟨rfl, rfl⟩

theorem add_passed {wrap : Bool} {p : PerfCtr} (h : p.passed wrap) (n : Nat) : (p.add n).1.passed wrap := by
  obtain ⟨rfl, h⟩ := h
  by_cases hn : p.val + n < 2 ^ 48
  · rw [show (p.add n).1 = { p with val := p.val + n } by unfold PerfCtr.add; rw [if_pos hn]]
    refine ⟨rfl, ?_⟩
    cases hb : bit p.cfg 24 with
    | true => rw [hb] at h; exact h
    | false =>
      rw [hb] at h
      obtain ⟨hv, hs⟩ := h
      exact ⟨by dsimp only; omega, hs⟩
  · exact add_passes (Nat.le_of_not_lt hn)

section
variable {s : State} {k : Fin 64} {wrap : Bool}

theorem perfMap_passed (h : s.obs.perf[k].passed wrap) (amt : Nat → PerfCtr → Nat) : (s.perfMap amt).perf[k].passed wrap := by
  rw [perfMap_at]
  obtain hp | ⟨n, hp⟩ := perfStep_cases s amt k s.obs.perf[k]
  · rw [hp]; exact h
  · rw [hp]; exact add_passed h n

end

/-! ### What follows a row leaves a counter that has passed its end passed -/

theorem obs_raise_perf (o : Obs) (m : BitVec 256) (e : Entry) : (o.raise m e).perf = o.perf := rfl

theorem foldl_obs_perf (g : Entry → BitVec 256) (l : List Entry) (o : Obs) :
    (l.foldl (fun o e => o.raise (g e) e) o).perf = o.perf := by
  induction l generalizing o with
  | nil => rfl
  | cons a l ih => exact ih _

theorem raise_perf (s : State) (c : Cls) (i code : Nat) (arg : Word) : (s.raise c i code arg).obs.perf = s.obs.perf := by
  unfold State.raise
  dsimp only
  split <;> rfl

theorem foldl_perf {α : Type} {f : State → α → State} (h : ∀ s a, (f s a).obs.perf = s.obs.perf) (l : List α) (s : State) :
    (l.foldl f s).obs.perf = s.obs.perf := by
  induction l generalizing s with
  | nil => rfl
  | cons a l ih => exact (ih _).trans (h s a)

theorem triggerOne_perf (s : State) (seq at_ i : Nat) : (s.triggerOne seq at_ i).obs.perf = s.obs.perf := by
  unfold State.triggerOne
  dsimp only
  split
  · rfl
  · exact raise_perf ..
  · exact raise_perf ..
  all_goals rfl

theorem triggerAt_perf (s : State) (at_ : Nat) (x : CapSet) : (s.triggerAt at_ x).obs.perf = s.obs.perf :=
  foldl_perf (fun t i => triggerOne_perf t _ at_ i) x.members
    { s with mon := { s.mon with seq := (s.mon.seq + 1) % 2 ^ 32, trigOut := at_ } }

theorem trigger_perf (s : State) (x : CapSet) : (s.trigger x).obs.perf = s.obs.perf := by
  unfold State.trigger
  split
  · exact triggerAt_perf ..
  · rfl

theorem immediates_perf (s : State) : s.immediates.obs.perf = s.obs.perf := by
  refine foldl_perf (fun t x => ?_) _ s
  unfold State.immediate
  split
  · exact triggerAt_perf ..
  · rfl

theorem noted_perf (s : State) : s.noted.obs.perf = s.obs.perf := by
  unfold State.noted
  split
  · unfold State.noteAll
    exact foldl_obs_perf (fun e => (s.unit e.cls e.inst).mask) _ s.obs
  · rfl

theorem fireAll_passed {k : Fin 64} {wrap : Bool} {n : Nat} {sets : List CapSet} {s : State} (h : s.obs.perf[k].passed wrap) :
    (s.fireAll n sets).obs.perf[k].passed wrap := by
  induction n generalizing sets s with
  | zero => exact h
  | succ n ih =>
    unfold State.fireAll
    split
    · exact h
    · refine ih ?_
      rw [foldl_perf trigger_perf]
      have hu : s.unfired.obs.perf[k].passed wrap := h
      have hp := perfMap_passed hu fun _ p => firedAmt s.obs.fired (s.obs.queued - s.obs.seen) p
      have he : s.countFired.obs = s.unfired.perfMap fun _ p => firedAmt s.obs.fired (s.obs.queued - s.obs.seen) p := rfl
      rw [he]
      exact hp

theorem finish_passed {k : Fin 64} {wrap : Bool} {s : State} (h : s.obs.perf[k].passed wrap) : (finish s).obs.perf[k].passed wrap := by
  refine fireAll_passed (s := s.noted.immediates) ?_
  rw [immediates_perf, noted_perf]
  exact h

/-! ### A counter passes its end (R330) -/

section
variable {s : State} {amt : Nat → PerfCtr → Nat} {k : Fin 64}

theorem foldl_raises {f : Fin 64 → Nat} {g : Fin 64 → Word} (l : List (Fin 64)) (hk : k ∈ l) {u : State} (hp : u.power = s.power)
    (hu : u.units = s.units) (hn : u.now = s.now) :
    Raises s (l.foldl (fun t (k : Fin 64) => t.raise .perf k (f k) (g k)) u) .perf k (f k) (g k) := by
  induction l generalizing u with
  | nil => cases hk
  | cons a l ih =>
    rw [List.foldl_cons]
    obtain rfl | hk := List.mem_cons.1 hk
    · exact (raises_raise u hp hu hn).mono (foldl_queue _ (fun t (j : Fin 64) => raise_queue t ..) l _)
    · exact ih hk hp hu hn

/-- R330, R335: the event of a counter that passes its end with EVT_EN. -/
theorem perfMap_raises (hs : (s.perfStep amt k s.obs.perf[k]).2 = true) (he : bit s.obs.perf[k].cfg 25 = true) :
    Raises s { s with obs := s.perfMap amt } .perf k (if bit s.obs.perf[k].cfg 24 then 0x11 else 0x10)
      (w32 (fld s.obs.perf[k].cfg 0 24)) := by
  have hk : k ∈ (fins 64).filter fun k : Fin 64 => (s.perfStep amt k.val s.obs.perf[k]).2 && bit s.obs.perf[k].cfg 25 :=
    List.mem_filter.2 ⟨mem_fins k, Bool.and_eq_true_iff.2 ⟨hs, he⟩⟩
  exact foldl_raises (f := fun k : Fin 64 => if bit s.obs.perf[k].cfg 24 then 0x11 else 0x10)
    (g := fun k : Fin 64 => w32 (fld s.obs.perf[k].cfg 0 24)) _ hk rfl rfl rfl

end

/-- What a counter does when it gains occurrences: it passes its end, with its flag up for the event, or goes on. -/
theorem add_cases (p : PerfCtr) (n : Nat) :
    (p.add n).1.passed (bit p.cfg 24) ∧ (p.add n).2 = (bit p.cfg 24 || !p.sat) ∨ (p.add n).1 = { p with val := p.val + n } := by
  by_cases h : p.val + n < 2 ^ 48
  · exact .inr (by unfold PerfCtr.add; rw [if_pos h])
  · refine .inl ⟨add_passes (Nat.le_of_not_lt h), ?_⟩
    unfold PerfCtr.add
    rw [if_neg h]
    cases bit p.cfg 24 <;> rfl

section
variable {s : State} {i : Fin 64} {wrap : Bool} {n : Nat}

theorem perfPass_turns (s : State) (i : Fin 64) (wrap : Bool) (n : Nat) : Turns s (s.perfPass i wrap n) := by
  unfold State.perfPass
  dsimp only
  split <;> rfl

theorem perfPass_goesOn (s : State) (i : Fin 64) (wrap : Bool) (n : Nat) : s.obs.GoesOn (s.perfPass i wrap n).obs := by
  unfold State.perfPass
  dsimp only
  split
  · exact goesOn_refl _
  · exact perfMap_goesOn s fun k _ => if k = i.val then n else 0

theorem perfPass_keeps (h : s.obs.perf[i].passed wrap) (w : Bool) (n : Nat) : (s.perfPass i w n).obs.perf[i].passed wrap := by
  unfold State.perfPass
  dsimp only
  split
  · exact h
  · exact perfMap_passed h fun k _ => if k = i.val then n else 0

theorem perfPass_passes (hup : s.admin .perf i = .up)
    (hlive : s.live (clsOf (fld s.obs.perf[i].cfg 12 4)) (fld s.obs.perf[i].cfg 0 12) = true)
    (hcfg : s.obs.perf[i].cfg ≠ 0 ∨ s.obs.perf[i].code ≠ 0) (hn : 1 ≤ n) (hv : 2 ^ 48 ≤ s.obs.perf[i].val + n)
    (hw : bit s.obs.perf[i].cfg 24 = wrap) :
    (s.perfPass i wrap n).obs.perf[i].passed wrap ∧
    (bit s.obs.perf[i].cfg 25 = true → wrap = true ∨ s.obs.perf[i].sat = false →
      Raises s (s.perfPass i wrap n) .perf i (if wrap then 0x11 else 0x10) (w32 (fld s.obs.perf[i].cfg 0 24))) := by
  have hx : s.perfPass i wrap n = { s with obs := s.perfMap fun k _ => if k = i.val then n else 0 } := by
    unfold State.perfPass
    refine if_neg ?_
    rw [hw, bne_self_eq_false, Bool.false_or, decide_eq_false (Nat.not_lt.2 hv)]
    exact Bool.false_ne_true
  have hstep : s.perfStep (fun k _ => if k = i.val then n else 0) i s.obs.perf[i] = s.obs.perf[i].add n := by
    have hc : ¬ (s.obs.perf[i].cfg = 0 ∧ s.obs.perf[i].code = 0) := fun h => hcfg.elim (· h.1) (· h.2)
    have h0 : n ≠ 0 := by omega
    unfold State.perfStep
    rw [if_neg hc]
    simp only [if_true, hup, hlive, decide_eq_false h0, bne_self_eq_false, Bool.not_true, Bool.or_self, Bool.false_eq_true, if_false]
  rw [hx]
  refine ⟨?_, fun he hs => ?_⟩
  · rw [perfMap_at, hstep, ← hw]
    exact add_passes hv
  · have hflag : (s.obs.perf[i].add n).2 = true := by
      have hlt : ¬ s.obs.perf[i].val + n < 2 ^ 48 := Nat.not_lt.2 hv
      unfold PerfCtr.add
      rw [if_neg hlt, hw]
      obtain rfl | hs := hs
      · rfl
      · cases wrap
        · rw [hs]; rfl
        · rfl
    have hr := perfMap_raises (by rw [hstep]; exact hflag) he
    rw [hw] at hr
    exact hr

theorem advance_obs (s : State) (dt : Nat) : (s.advance dt).obs = (s.later dt).perfMap fun _ p => s.levelAmt dt p := rfl

/-- R329, R330: the same once time has passed, in which the counter may have passed its end already. -/
theorem perfPass_later (dt : Nat) (hup : s.admin .perf i = .up)
    (hlive : s.live (clsOf (fld s.obs.perf[i].cfg 12 4)) (fld s.obs.perf[i].cfg 0 12) = true)
    (hcfg : s.obs.perf[i].cfg ≠ 0 ∨ s.obs.perf[i].code ≠ 0) (hn : 1 ≤ n) (hv : 2 ^ 48 ≤ s.obs.perf[i].val + n)
    (hw : bit s.obs.perf[i].cfg 24 = wrap) :
    ((s.advance dt).perfPass i wrap n).obs.perf[i].passed wrap ∧
    (bit s.obs.perf[i].cfg 25 = true → wrap = true ∨ s.obs.perf[i].sat = false →
      Raises (s.later dt) ((s.advance dt).perfPass i wrap n) .perf i (if wrap then 0x11 else 0x10)
        (w32 (fld s.obs.perf[i].cfg 0 24))) := by
  have hgo := advance_goesOn s dt
  have hc := hgo.cfg i
  have hcode := hgo.code i
  have hlater (hp : 2 ^ 48 ≤ (s.advance dt).obs.perf[i].val + n) (hs : (s.advance dt).obs.perf[i].sat = s.obs.perf[i].sat) := by
    have h := perfPass_passes (s := s.advance dt) (i := i) (wrap := wrap) (n := n) hup (by rw [hc]; exact hlive)
      (by rw [hc, hcode]; exact hcfg) hn hp (by rw [hc]; exact hw)
    rw [hc, hs] at h
    exact h
  have hat : (s.advance dt).obs.perf[i] = ((s.later dt).perfStep (fun _ p => s.levelAmt dt p) i s.obs.perf[i]).1 := by
    rw [advance_obs]
    exact perfMap_at (s.later dt) (fun _ p => s.levelAmt dt p) i
  obtain hp | ⟨m, hp⟩ := perfStep_cases (s.later dt) (fun _ p => s.levelAmt dt p) i s.obs.perf[i]
  · rw [hp] at hat
    exact hlater (by rw [hat]; exact hv) (by rw [hat])
  · rw [hp] at hat
    obtain ⟨hpass, hflag⟩ | hadd := add_cases s.obs.perf[i] m
    · rw [hw] at hpass
      refine ⟨perfPass_keeps (by rw [hat]; exact hpass) wrap n, fun he hs => ?_⟩
      have hf : ((s.later dt).perfStep (fun _ p => s.levelAmt dt p) i s.obs.perf[i]).2 = true := by
        rw [hp, hflag, hw]
        obtain rfl | hs := hs
        · rfl
        · rw [hs, Bool.not_false, Bool.or_true]
      have hr := perfMap_raises (s := s.later dt) (k := i) hf he
      rw [show bit (s.later dt).obs.perf[i].cfg 24 = wrap from hw] at hr
      exact Raises.mono (x := s.advance dt) hr (perfPass_goesOn (s.advance dt) i wrap n).queue
    · rw [hadd] at hat
      exact hlater (by rw [hat]; dsimp only; omega) (by rw [hat])

end

/-! ### The commands -/

/-- R55, R325: a command that asks for both permits. -/
theorem level_both {s : State} {sp : CmdSpec} {r : Req} (hc : s.allows .counter) (hx : s.allows .expert)
    (hs : sp.secure s r = false) (hd : sp.denied s r = false) (hl : sp.locked s r = false) : s.level sp r = none := by
  obtain h | h := hc
  · simp [State.level, hs, hd, hl, h]
  · obtain h' | h' := hx <;> simp [State.level, hs, hd, hl, h, h']

theorem instances_perf (i : Fin 64) : i.val ∈ instances .perf := List.mem_range.2 i.isLt

theorem perfCtr_val (i : Fin 64) : perfCtr i = i := Fin.ofNat_val_eq_self i

theorem perfSet_at (s : State) (i : Fin 64) (f : PerfCtr → PerfCtr) : (s.setPerf i f).obs.perf[i] = f s.obs.perf[i] := upd_at ..

/-- Settles O49, by the commands' effects and what a counter does that passes its end. -/
theorem programmableCountersCount : Obligations.ProgrammableCountersCount := by
  unfold Obligations.ProgrammableCountersCount
  intro s dt i g f w v n
  have hi := instances_perf i
  refine ⟨fun ht hrun ha => ⟨fun hok => ?_, fun hw => ?_, fun hx hv => ?_⟩, fun hp => ?_⟩
  · obtain ⟨h1, h2, h3, h4, h5⟩ := hok
    refine unit_gives_to specPerfSet (g := g) (f := f) (ps := [w, v]) ht hrun hi ha (fun _ _ _ => meets_of_nil)
      (fun o m x _ => ⟨rfl, ?_, rfl, rfl, rfl, rfl⟩) (fun o m x _ => ?_)
    · refine firstBad_none_iff.2 (List.forall_mem_cons.2 ⟨?_, List.forall_mem_cons.2 ⟨?_, nofun⟩⟩)
      · exact Bool.and_eq_true_iff.2 ⟨Bool.and_eq_true_iff.2 ⟨List.contains_iff_mem.2 h1, decide_eq_true h2⟩, h3⟩
      · refine Bool.and_eq_true_iff.2 ⟨h4, Bool.or_eq_true_iff.2 (h5.imp beq_iff_eq.2 beq_iff_eq.2)⟩
    · refine ⟨(s.heard dt o m x).setPerf i fun _ => { cfg := w, code := v, val := 0, sat := false, wrap := false }, [],
        by simp only [specPerfSet, change, perfCtr_val]; rfl, rfl, ?_⟩
      have hx := answered_effects (s := s) (e := s.later dt) (c := .perf) (i := i) (g := g) (f := f) (ps := [w, v]) (pay := [])
        (x := (s.heard dt o m x).setPerf i fun _ => { cfg := w, code := v, val := 0, sat := false, wrap := false }) ht.2.2.1 rfl
      exact ⟨hx.1, hx.2, _, rfl, perfSet_at ..⟩
  · refine unit_gives_to specPerfRead (g := g) (f := f) (ps := [w]) ht hrun hi ha (fun _ _ _ => meets_of_nil)
      (fun o m x _ => ⟨rfl, firstBad_one hw, rfl, rfl, rfl, rfl⟩) (fun o m x hk => ?_)
    refine ⟨if bit w 0 then (s.heard dt o m x).perfClear i else s.heard dt o m x, (s.heard dt o m x).perfBlock i,
      by simp only [specPerfRead, perfCtr_val]; rfl, by simp only [specPerfRead, perfCtr_val], ?_⟩
    have hx := answered_effects (s := s) (e := s.later dt) (c := .perf) (i := i) (g := g) (f := f) (ps := [w])
      (pay := (s.heard dt o m x).perfBlock i)
      (x := if bit w 0 then (s.heard dt o m x).perfClear i else s.heard dt o m x) ht.2.2.1 (by split <;> rfl)
    refine ⟨hx.1, ⟨s.heard dt o m x, heard_arrives hk m x, ?_⟩, fun hb => ?_⟩
    · have hnow : (finish ((if bit w 0 then (s.heard dt o m x).perfClear i else s.heard dt o m x).answered .perf (cmdTo i g f [w])
          ((s.heard dt o m x).perfBlock i))).now = s.now + dt := by
        rw [finish_now]
        cases bit w 0 <;> rfl
      rw [hnow]
      exact hx.2
    · rw [if_pos hb]
      refine ⟨_, rfl, (perfSet_at ..).trans ?_⟩
      rw [hk.cfg i, hk.code i]
  · refine unit_gives_leveled specPerfLoad (g := g) (f := f) (ps := [w, v]) ht hrun hi (fun o m x => ?_) (fun _ _ _ => meets_of_nil)
      (fun o m x _ => ⟨rfl, firstBad_one hv, rfl, rfl, rfl, rfl⟩) (fun o m x hk => ?_)
    · exact level_both ha hx rfl rfl rfl
    · simp only [specPerfLoad, change, perfCtr_val]
      have hx := answered_effects (s := s) (e := s.later dt) (c := .perf) (i := i) (g := g) (f := f) (ps := [w, v]) (pay := [])
        (x := (s.heard dt o m x).setPerf i fun p => { p with val := w.toNat + 2 ^ 32 * fld v 0 16, sat := false, wrap := false })
        ht.2.2.1 rfl
      refine ⟨hx.1, hx.2, _, rfl, (perfSet_at ..).trans ?_⟩
      rw [hk.cfg i, hk.code i]
      rfl
  · obtain ⟨hup, hlive, hcfg, hn, hv, -⟩ := hp
    have hpass (wrap : Bool) (hw : bit s.obs.perf[i].cfg 24 = wrap) := perfPass_later dt hup hlive hcfg hn hv hw
    refine ⟨fun hw => ?_, fun hw => ?_⟩
    · obtain ⟨hd, hr⟩ := hpass false hw
      refine ⟨_, rfl, ?_⟩
      obtain ⟨-, hval, hsat⟩ := finish_passed hd
      exact ⟨eventRow_leaves (turns_iff.1 (perfPass_turns (s.advance dt) i false n)), hval, hsat,
        fun he hs => finish_raised (hr he (.inr hs)) (perfPass_turns (s.advance dt) i false n).now⟩
    · obtain ⟨hd, hr⟩ := hpass true hw
      refine ⟨_, rfl, ?_⟩
      obtain ⟨-, hwrap⟩ := finish_passed hd
      exact ⟨eventRow_leaves (turns_iff.1 (perfPass_turns (s.advance dt) i true n)), hwrap,
        fun he => finish_raised (hr he (.inl rfl)) (perfPass_turns (s.advance dt) i true n).now⟩

end Sys2Proof.Machine

/-! ## Commands that a check refuses -/

namespace Sys2Proof.Machine

/-! ### What a command to one unit answers, check by check -/

/-- R49: a command that a check refuses: nothing of the state changes. -/
abbrev Fail.answer (f : Fail) (b : State) : Answer := { st := b, status := f.status, pay := f.pay }

section
variable {b : State} {sp : CmdSpec} {p : Packet}

theorem members_one (h1 : p.cmd.inst.toNat < 0x100) (hi : p.cmd.inst.toNat ∈ instances p.cls) :
    b.members p.cls p.cmd.inst.toNat = [p.cmd.inst.toNat] := by
  unfold State.members
  rw [if_pos h1, if_pos (by simpa using hi)]

theorem early_unaccepted (h : b.power.dev ≠ .shutdown) (h1 : p.cmd.inst.toNat < 0x100) (hg : sp.groupCmd = false)
    (hi : p.cmd.inst.toNat ∈ instances p.cls) (hacc : sp.accepts p.cls p.cmd.inst.toNat = false) :
    b.early sp p.req = some { status := .badTarget } := by
  have hm : b.members p.req.cls p.req.inst = [p.cmd.inst.toNat] := members_one h1 hi
  have ha : (!sp.accepts p.req.cls p.cmd.inst.toNat) = true := by rw [show p.req.cls = p.cls from rfl, hacc]; rfl
  unfold State.early
  rw [if_neg fun h' => h h'.1, hm, hg, if_neg (by simp), if_neg (by simp)]
  exact if_pos (by simpa using ha)

/-- R49: past checks 5 to 7, check 8 decides. -/
theorem early_avail (h : b.power.dev ≠ .shutdown) (h1 : p.cmd.inst.toNat < 0x100) (hg : sp.groupCmd = false)
    (hi : p.cmd.inst.toNat ∈ instances p.cls) (hacc : sp.accepts p.cls p.cmd.inst.toNat = true) :
    b.early sp p.req = (sp.avail b p.req).map b.devConflict := by
  have hm : b.members p.req.cls p.req.inst = [p.cmd.inst.toNat] := members_one h1 hi
  have ha : sp.accepts p.req.cls p.cmd.inst.toNat = true := hacc
  unfold State.early
  rw [if_neg fun h' => h h'.1, hm, hg, if_neg (by simp), if_neg (by simp), if_neg (by simpa using ha)]
  cases sp.avail b p.req <;> rfl

theorem perform_early {f : Fail} (h : b.early sp p.req = some f) : b.perform sp p = some (f.answer b) := by
  unfold State.perform
  dsimp only
  rw [h]

/-- R49: past check 8, a command without a trailer that check 10 or 11 refuses. -/
theorem perform_level {x : Fail} (he : b.early sp p.req = none) (ha : p.cmd.auth = none)
    (hl : ∀ all, b.level sp { p.req with all := all } = some x) : b.perform sp p = some (x.answer b) := by
  have hwait : b.waits sp p.req = false := by
    unfold State.waits
    rw [hl p.req.all]
    rfl
  unfold State.perform
  dsimp only
  rw [he, ha]
  simp only [hwait, Bool.false_eq_true, if_false]
  unfold State.runChecked
  dsimp only
  rw [hl]

end

/-! ### What is left of a refused command -/

/-- R46, R49: a row whose command is answered without success, in words of the state it was heard in. -/
theorem hostRow_failed {s : State} (hs : s.takes) {dt : Nat} {sp : CmdSpec} {c : Cls} {cmd : Cmd} {x : Answer}
    (hp : (s.taken dt { op := BitVec.ofNat 8 sp.op, cls := c, cmd := cmd }).perform sp
      { op := BitVec.ofNat 8 sp.op, cls := c, cmd := cmd } = some x)
    (hst : x.status ≠ .ok) (hsil : x.silent = false) (hbit : x.bitmap = false)
    (hsig : (s.taken dt { op := BitVec.ofNat 8 sp.op, cls := c, cmd := cmd }).signer sp
      { op := BitVec.ofNat 8 sp.op, cls := c, cmd := cmd } = none) :
    hostRow dt sp c cmd s = finish { x.st with
      free := x.st.free + 1
      port := { x.st.port with
        waiting := []
        replies := x.st.port.replies ++ [x.st.reply none x.status.code
          (Packet.target { op := BitVec.ofNat 8 sp.op, cls := c, cmd := cmd }) cmd.tag false x.pay] } } := by
  have hrow := hostRow_served hs dt sp c cmd hp
  have hport : (s.taken dt { op := BitVec.ofNat 8 sp.op, cls := c, cmd := cmd }).port =
      { s.port with waiting := [.good { op := BitVec.ofNat 8 sp.op, cls := c, cmd := cmd }] } := by
    rw [taken_frame hs]
  simp only [hst, if_false, hsig] at hrow
  rw [hrow]
  unfold State.deliver
  simp only [hsil, hst, hport, hbit, false_and, Bool.false_eq_true, if_false, List.tail_cons]
  rw [settle_empty rfl]

theorem code_ne_zero {st : Status} (h : st ≠ .ok) : st.code ≠ 0 := by
  revert h
  cases st <;> decide

/-- R42, R49: what such a row leaves and replies, where the command changed nothing but counters, events and its slot. -/
theorem failed_leaves {s : State} (hs : s.takes) {dt : Nat} {sp : CmdSpec} {c : Cls} {cmd : Cmd} {x : Answer}
    (hp : (s.taken dt { op := BitVec.ofNat 8 sp.op, cls := c, cmd := cmd }).perform sp
      { op := BitVec.ofNat 8 sp.op, cls := c, cmd := cmd } = some x)
    (hst : x.status ≠ .ok) (hsil : x.silent = false) (hbit : x.bitmap = false)
    (hsig : (s.taken dt { op := BitVec.ofNat 8 sp.op, cls := c, cmd := cmd }).signer sp
      { op := BitVec.ofNat 8 sp.op, cls := c, cmd := cmd } = none)
    (hx : ∃ o k w q, x.st = { s with now := s.now + dt, obs := o, stats := k, port := { s.port with waiting := w, deferred := q } }) :
    Leaves dt s (hostRow dt sp c cmd s) ∧ ∃ w,
      replyIs w (hostRow dt sp c cmd s).now c cmd.inst.toNat cmd.tag x.status.code x.pay ∧
      (hostRow dt sp c cmd s).port =
        { s.port with replies := s.port.replies ++ [w], deferred := x.st.port.deferred } := by
  obtain ⟨o, k, w, q, hx⟩ := hx
  rw [hostRow_failed hs hp hst hsil hbit hsig]
  refine ⟨by rw [hx]; rfl, _, reply_replyIs x.st { op := BitVec.ofNat 8 sp.op, cls := c, cmd := cmd } _ _, ?_⟩
  change ({ x.st.port with waiting := [], replies := _ } : Port) = _
  rw [hx]
  dsimp only
  rw [← hs.2.2.1]

/-- R42, R49: a command that a check refuses. -/
theorem refused_leaves {s : State} (hs : s.takes) {dt : Nat} {sp : CmdSpec} {c : Cls} {cmd : Cmd} {f : Fail}
    (ha : cmd.auth = none) (hst : f.status ≠ .ok)
    (hp : (s.taken dt { op := BitVec.ofNat 8 sp.op, cls := c, cmd := cmd }).perform sp
      { op := BitVec.ofNat 8 sp.op, cls := c, cmd := cmd } =
        some (f.answer (s.taken dt { op := BitVec.ofNat 8 sp.op, cls := c, cmd := cmd }))) :
    Leaves dt s (hostRow dt sp c cmd s) ∧ Replies s (hostRow dt sp c cmd s) cmd c f.status.code f.pay := by
  have hframe := taken_frame hs dt { op := BitVec.ofNat 8 sp.op, cls := c, cmd := cmd }
  have hsig : (s.taken dt { op := BitVec.ofNat 8 sp.op, cls := c, cmd := cmd }).signer sp
      { op := BitVec.ofNat 8 sp.op, cls := c, cmd := cmd } = none := by
    simp [State.signer, ha]
  obtain ⟨hl, w, hw, hport⟩ := failed_leaves hs hp hst rfl rfl hsig ⟨_, _, _, s.port.deferred, hframe⟩
  refine ⟨hl, ?_⟩
  unfold Replies
  rw [if_neg fun h => code_ne_zero hst h.1]
  refine ⟨w, hw, hport.trans ?_⟩
  change ({ s.port with replies := _, deferred := (s.taken dt _).port.deferred } : Port) = _
  rw [hframe]

/-! ### The need that a command is itself -/

/-- R372: SC is off as the host ordered, and nothing needs it but the command that comes. -/
def secureOff : State :=
  let s : State := { State.reset with power := { State.reset.power with dev := .active } }
  { s with dom := { s.dom with powered := ~~~(1#80 <<< 71), hostOff := 1#80 <<< 71 } }

/-- R373: SEC_STAGE needs SC, which the device powers up for it: it waits, and is not answered. -/
theorem secureOff_waits : (hostRow 0 specSecStage .dev (cmdTo 0 0 0 [0, 5]) secureOff).port.replies.length = 0 := by
  decide +kernel

/-- Refutes O8: SEC_STAGE to an island that is off as the host ordered is not answered UNIT_OFF. Before the command arrives the
device does not need SC; with it in its slot the device powers SC up, and the command waits (R372, R373). -/
theorem not_refusedCommandsChangeNothing : ¬ Obligations.RefusedCommandsChangeNothing := by
  unfold Obligations.RefusedCommandsChangeNothing
  intro h
  obtain ⟨-, hchecks, -⟩ := h secureOff 0 specSecStage .dev 0 0 0 [0, 5]
  obtain ⟨-, -, -, hrun⟩ := hchecks (by decide +kernel) (by decide) (by decide) rfl (fun _ => rfl) rfl (by decide +kernel)
  obtain ⟨-, -, -, hlast⟩ := hrun (by decide +kernel) (by decide) rfl
  obtain ⟨hoff, -⟩ := hlast (by decide +kernel) (by decide +kernel) (by decide +kernel)
  obtain ⟨-, hreply⟩ := hoff rfl ⟨71, List.mem_singleton.2 rfl, by decide +kernel⟩
  unfold Replies at hreply
  rw [if_neg (by decide)] at hreply
  obtain ⟨w, -, hport⟩ := hreply
  have hlen := congrArg (fun p : Port => p.replies.length) hport
  dsimp only at hlen
  rw [secureOff_waits, List.length_append] at hlen
  exact absurd hlen (by simp)

end Sys2Proof.Machine

/-! ## Mailboxes -/

namespace Sys2Proof.Machine

/-! ### Commands to one unit that are not served -/

theorem instances_small {c : Cls} {i : Nat} (h : i ∈ instances c) : i < 0x100 := by
  have hall : ∀ c, ∀ j ∈ instances c, j < 0x100 := by intro c; cases c <;> decide
  exact hall c i h

section
variable {s : State} {dt : Nat} {sp : CmdSpec} {c : Cls} {i : Nat} {g f : Byte} {ps : List Word}

theorem cmdTo_inst (h : i < 0x100) : (cmdTo i g f ps).inst.toNat = i := by
  simp only [cmdTo, BitVec.toNat_ofNat]
  omega

/-- R49: check 10 or 11 refuses the command. -/
theorem unit_level_refuses {instr : Instr} {x : Fail} (sp : CmdSpec) (ht : s.takes) (hd : s.power.dev ≠ .shutdown) (hi : i ∈ instances c)
    (hacc : sp.accepts c i = true)
    (hlev : ∀ o m w all, (s.heard dt o m w).level sp { unitReq c i sp.op g ps with all := all } = some x)
    (hst : x.status ≠ .ok) (hrow : exec instr s = .next (hostRow dt sp c (cmdTo i g f ps) s) := by rfl)
    (hav : ∀ b q, b.power.dev = s.power.dev → sp.avail b q = none)
    (hop : (BitVec.ofNat 8 sp.op).toNat = sp.op := by rfl) (hg : sp.groupCmd = false := by rfl) :
    Gives instr s fun t => Leaves dt s t ∧ Replies s t (cmdTo i g f ps) c x.status.code x.pay := by
  obtain ⟨o, m, hb, -⟩ := taken_heard ht dt { op := BitVec.ofNat 8 sp.op, cls := c, cmd := cmdTo i g f ps }
  have hsmall := instances_small hi
  have hinst := cmdTo_inst (g := g) (f := f) (ps := ps) hsmall
  have hreq : Packet.req { op := BitVec.ofNat 8 sp.op, cls := c, cmd := cmdTo i g f ps } = { unitReq c i sp.op g ps with all := [] } := by
    rw [req_cmdTo (by omega), hop]
  refine ⟨_, hrow, refused_leaves ht rfl hst ?_⟩
  rw [hb]
  refine perform_level ?_ rfl (fun all => by rw [hreq]; exact hlev o m _ all)
  rw [early_avail (b := s.heard dt o m _) hd (by rw [hinst]; exact hsmall) hg (by rw [hinst]; exact hi) (by rw [hinst]; exact hacc),
    hav (s.heard dt o m _) _ rfl]
  rfl

/-- R49: check 7 refuses the command. -/
theorem unit_target_refuses {instr : Instr} (sp : CmdSpec) (ht : s.takes) (hd : s.power.dev ≠ .shutdown) (hi : i ∈ instances c)
    (hacc : sp.accepts c i = false) (hrow : exec instr s = .next (hostRow dt sp c (cmdTo i g f ps) s) := by rfl)
    (hg : sp.groupCmd = false := by rfl) :
    Gives instr s fun t => Leaves dt s t ∧ Replies s t (cmdTo i g f ps) c 0x22 [] := by
  obtain ⟨o, m, hb, -⟩ := taken_heard ht dt { op := BitVec.ofNat 8 sp.op, cls := c, cmd := cmdTo i g f ps }
  have hsmall := instances_small hi
  have hinst := cmdTo_inst (g := g) (f := f) (ps := ps) hsmall
  refine ⟨_, hrow, refused_leaves (f := { status := .badTarget }) ht rfl (by simp) ?_⟩
  rw [hb]
  exact perform_early (early_unaccepted hd (by rw [hinst]; exact hsmall) hg (by rw [hinst]; exact hi) (by rw [hinst]; exact hacc))

/-- R42, R49: what a row leaves and replies whose command its chapter answers without success, though it changed the state. -/
theorem failed_effects {cmd : Cmd} {x : Answer} {e : State} (hs : s.takes)
    (hp : (s.taken dt { op := BitVec.ofNat 8 sp.op, cls := c, cmd := cmd }).perform sp
      { op := BitVec.ofNat 8 sp.op, cls := c, cmd := cmd } = some x)
    (hst : x.status ≠ .ok) (hsil : x.silent = false) (hbit : x.bitmap = false) (ha : cmd.auth = none) (hx : Effects s e x.st) :
    Leaves 0 e (hostRow dt sp c cmd s) ∧ Replies s (hostRow dt sp c cmd s) cmd c x.status.code x.pay := by
  rw [hostRow_failed hs hp hst hsil hbit (by simp [State.signer, ha])]
  obtain ⟨o, m, k, q, w, hx⟩ := effects_iff.1 hx
  refine ⟨by rw [hx]; rfl, ?_⟩
  unfold Replies
  rw [if_neg fun h => code_ne_zero hst h.1]
  refine ⟨_, reply_replyIs x.st { op := BitVec.ofNat 8 sp.op, cls := c, cmd := cmd } _ _, ?_⟩
  change ({ x.st.port with waiting := [], replies := _ } : Port) = _
  rw [hx]
  dsimp only
  rw [← hs.2.2.1]

/-- R49: the command passes every check, and its chapter answers it with a status that is not OK. -/
theorem unit_fails_with {instr : Instr} {k : Level} {st : Status} {pay : List Word} {e : State} (sp : CmdSpec) (ht : s.takes)
    (hrun : s.anyRun = true) (hi : i ∈ instances c) (ha : s.allows k)
    (hu : ∀ o m w, s.meets sp (sp.isl (s.heard dt o m w) (unitReq c i sp.op g ps)))
    (h : ∀ o m w, let b := s.heard dt o m w
      let r := unitReq c i sp.op g ps
      sp.count b r = true ∧ sp.bad b r = none ∧ sp.busy b r = none ∧ sp.cond b r = none ∧
        ∃ x, sp.act b r = { st := x, status := st, pay := pay } ∧ Effects s e x)
    (hst : st ≠ .ok)
    (hrow : exec instr s = .next (hostRow dt sp c (cmdTo i g f ps) s) := by rfl)
    (hav : sp.avail = availRun := by rfl)
    (hk : sp.hasLevel k := by simp only [CmdSpec.hasLevel] <;> constructorm* _ ∧ _ <;> rfl)
    (hd : ∀ b : State, sp.denied b (unitReq c i sp.op g ps) = false := by intros; rfl)
    (hl : ∀ b : State, sp.locked b (unitReq c i sp.op g ps) = false := by intros; rfl)
    (hacc : sp.accepts c i = true := by rfl)
    (hop : (BitVec.ofNat 8 sp.op).toNat = sp.op := by rfl) (hg : sp.groupCmd = false := by rfl)
    (hisl : ∀ b : State, sp.isl b { unitReq c i sp.op g ps with all := [] } = sp.isl b (unitReq c i sp.op g ps) := by
      intros; rfl) :
    Gives instr s fun t => Leaves 0 e t ∧ Replies s t (cmdTo i g f ps) c st.code pay := by
  obtain ⟨o, m, hb, -⟩ := taken_heard ht dt { op := BitVec.ofNat 8 sp.op, cls := c, cmd := cmdTo i g f ps }
  have hsmall := instances_small hi
  have hinst := cmdTo_inst (g := g) (f := f) (ps := ps) hsmall
  have hreq : Packet.req { op := BitVec.ofNat 8 sp.op, cls := c, cmd := cmdTo i g f ps } = { unitReq c i sp.op g ps with all := [] } := by
    rw [req_cmdTo (by omega), hop]
  have hone : Packet.reqOne { op := BitVec.ofNat 8 sp.op, cls := c, cmd := cmdTo i g f ps } = unitReq c i sp.op g ps := by
    rw [reqOne_cmdTo (by omega), hop]
  obtain ⟨hcount, hbad, hbusy, hcond, x, hact, hx⟩ :=
    h o m [.good { op := BitVec.ofNat 8 sp.op, cls := c, cmd := cmdTo i g f ps }]
  rw [← hb, ← hone] at hcount hbad hbusy hcond hact
  have hlev : (s.taken dt { op := BitVec.ofNat 8 sp.op, cls := c, cmd := cmdTo i g f ps }).level sp
      (Packet.reqOne { op := BitVec.ofNat 8 sp.op, cls := c, cmd := cmdTo i g f ps }) = none := by
    rw [hb, hone]
    exact level_allowed rfl rfl ha hk (hd _) (hl _)
  have hp := perform_passes (takes_passes (dt := dt) ht rfl (by rw [hinst]; simpa using hi) (by rw [hinst]; exact hsmall) rfl
    (.inl (anyRun_dev hrun)) (by rw [hb, hav]; exact if_pos hrun) hg (by rw [hinst]; exact hacc)
    (by rw [hreq, hone]; exact hisl _) (by rw [hb, hone]; exact hu _ _ _) hlev hcount hbad hbusy hcond)
  dsimp only at hp
  rw [hact] at hp
  simp only [hst, if_false] at hp
  exact ⟨_, hrow, failed_effects ht hp hst rfl rfl rfl hx⟩

/-- The same where the effect changes nothing but counters. -/
theorem unit_fails {instr : Instr} {k : Level} {st : Status} {pay : List Word} (sp : CmdSpec) (ht : s.takes) (hrun : s.anyRun = true)
    (hi : i ∈ instances c) (ha : s.allows k)
    (hu : ∀ o m w, s.meets sp (sp.isl (s.heard dt o m w) (unitReq c i sp.op g ps)))
    (h : ∀ o m w, let b := s.heard dt o m w
      let r := unitReq c i sp.op g ps
      sp.count b r = true ∧ sp.bad b r = none ∧ sp.busy b r = none ∧ sp.cond b r = none ∧
        ∃ m', sp.act b r = { st := { b with stats := m' }, status := st, pay := pay })
    (hst : st ≠ .ok)
    (hrow : exec instr s = .next (hostRow dt sp c (cmdTo i g f ps) s) := by rfl)
    (hav : sp.avail = availRun := by rfl)
    (hk : sp.hasLevel k := by simp only [CmdSpec.hasLevel] <;> constructorm* _ ∧ _ <;> rfl)
    (hd : ∀ b : State, sp.denied b (unitReq c i sp.op g ps) = false := by intros; rfl)
    (hl : ∀ b : State, sp.locked b (unitReq c i sp.op g ps) = false := by intros; rfl)
    (hacc : sp.accepts c i = true := by rfl)
    (hop : (BitVec.ofNat 8 sp.op).toNat = sp.op := by rfl) (hg : sp.groupCmd = false := by rfl)
    (hisl : ∀ b : State, sp.isl b { unitReq c i sp.op g ps with all := [] } = sp.isl b (unitReq c i sp.op g ps) := by
      intros; rfl) :
    Gives instr s fun t => Leaves dt s t ∧ Replies s t (cmdTo i g f ps) c st.code pay := by
  refine unit_fails_with (e := s.later dt) sp ht hrun hi ha hu (fun o m w => ?_) hst hrow hav hk hd hl hacc hop hg hisl
  obtain ⟨hcount, hbad, hbusy, hcond, m', hact⟩ := h o m w
  exact ⟨hcount, hbad, hbusy, hcond, _, hact, rfl⟩

end

/-- What follows an effect and changes only what MC and the counting hardware keep is part of it. -/
theorem Effects.turns {s e y x : State} (h : Effects s e y) (ht : Turns y x) : Effects s e x := by
  obtain ⟨o, m, k, p, w, rfl⟩ := effects_iff.1 h
  obtain ⟨o', m', k', p', rfl⟩ := turns_iff.1 ht
  rfl

/-! ### Channels -/

theorem channels_instances {ch : Nat} (h : ch ∈ channels) : ch ∈ instances .mbx := List.mem_append_left _ h

theorem chIx_inj {a b : Nat} (ha : a ∈ channels) (hb : b ∈ channels) (h : chIx a = chIx b) : a = b := by
  have hall : ∀ a ∈ channels, ∀ b ∈ channels, chIx a = chIx b → a = b := by decide
  exact hall a ha b hb h

theorem channels_getD_chIx {ch : Nat} (h : ch ∈ channels) : channels.getD (chIx ch).val 0 = ch := by
  have hall : ∀ ch ∈ channels, channels.getD (chIx ch).val 0 = ch := by decide
  exact hall ch h

/-- R336: a channel to a core has a reverse one. -/
theorem back_channels {ch : Nat} (h : ch ∈ channels) (hs : senderOf ch < 2) (hr : 2 ≤ receiverOf ch) :
    receiverOf ch * 16 + senderOf ch ∈ channels ∧ receiverOf ch * 16 + senderOf ch ≠ ch ∧
      senderOf (receiverOf ch * 16 + senderOf ch) = receiverOf ch := by
  have hall : ∀ ch ∈ channels, senderOf ch < 2 → 2 ≤ receiverOf ch →
    receiverOf ch * 16 + senderOf ch ∈ channels ∧ receiverOf ch * 16 + senderOf ch ≠ ch ∧
      senderOf (receiverOf ch * 16 + senderOf ch) = receiverOf ch := by decide
  exact hall ch h hs hr

theorem isChannel_of {p : Nat → Bool} {ch : Nat} (h : ch ∈ channels) (hp : p ch = true) : isChannel p .mbx ch = true :=
  Bool.and_eq_true_iff.2 ⟨by simpa using h, hp⟩

section
variable {s : State} {ch : Nat}

theorem chFull_of_lt (h : s.mbx.ch[chIx ch].length < 8) : s.chFull ch = false := decide_eq_false (by omega)

theorem chFull_of_le (h : 8 ≤ s.mbx.ch[chIx ch].length) : s.chFull ch = true := decide_eq_true h

theorem secretDenied_open {op : Nat} {g : Byte} {ps : List Word} (h : hostSide ch = false) (b : State) :
    secretDenied b (unitReq .mbx ch op g ps) = false ∧ secretLocked b (unitReq .mbx ch op g ps) = false := by
  simp only [secretDenied, secretLocked, h, Bool.false_and, and_self]

theorem hostSide_false (h1 : senderOf ch ≠ 1) (h2 : receiverOf ch ≠ 1) : hostSide ch = false := by
  simp [hostSide, h1, h2]

/-- R337: a HOST-S channel without a trailer: DENIED in OWNED, else LOCKED. -/
theorem level_secret {b : State} {sp : CmdSpec} {r : Req} (ho : b.owned = s.owned) (hop : sp.op < 0x80) (hs : sp.secure b r = false)
    (hc : sp.counter = false) (hd : sp.denied b r = s.owned) (hl : sp.locked b r = !s.owned) :
    b.level sp r = some { status := if s.owned = true then .denied else .locked } := by
  have hlow : decide (0x80 ≤ sp.op) = false := decide_eq_false (by omega)
  unfold State.level
  rw [ho, hs, hc, hd, hl, hlow]
  cases s.owned <;> simp

/-- R337: such a command is refused, whatever it asks for. -/
theorem secret_refuses {instr : Instr} {dt : Nat} {g f : Byte} {ps : List Word} (sp : CmdSpec) (ht : s.takes) (hrun : s.anyRun = true)
    (hch : ch ∈ channels) (hacc : sp.accepts .mbx ch = true) (hh : hostSide ch = true) (hop : sp.op < 0x80)
    (hs : sp.secure = fun _ _ => false) (hc : sp.counter = false)
    (hd : ∀ b all, sp.denied b { unitReq .mbx ch sp.op g ps with all := all } =
      secretDenied b { unitReq .mbx ch sp.op g ps with all := all })
    (hl : ∀ b all, sp.locked b { unitReq .mbx ch sp.op g ps with all := all } =
      secretLocked b { unitReq .mbx ch sp.op g ps with all := all })
    (hrow : exec instr s = .next (hostRow dt sp .mbx (cmdTo ch g f ps) s))
    (hav : ∀ b q, b.anyRun = true → sp.avail b q = none) (hg : sp.groupCmd = false := by rfl) :
    Gives instr s fun t => Leaves dt s t ∧
      Replies s t (cmdTo ch g f ps) .mbx (if s.owned = true then 0x30 else 0x31) [] := by
  have hcode : (if s.owned = true then Status.denied else .locked).code = if s.owned = true then 0x30 else 0x31 := by
    cases s.owned <;> rfl
  rw [← hcode]
  refine unit_level_refuses (x := { status := if s.owned = true then .denied else .locked }) sp ht (anyRun_dev hrun)
    (channels_instances hch) hacc (fun o m v all => level_secret (s := s) rfl hop (by rw [hs]) hc ?_ ?_)
    (by cases s.owned <;> decide) hrow (fun b q hb => hav b q ?_) (by rw [BitVec.toNat_ofNat]; omega) hg
  · rw [hd, secretDenied, hh]
    simp only [Bool.true_and, Bool.not_false, Bool.and_true]
    rfl
  · rw [hl, secretLocked, hh]
    rfl
  · unfold State.anyRun at hrun ⊢
    rw [hb]
    exact hrun

theorem hostOpen_of_hostSide (h : hostSide ch = true) : hostOpen .mbx ch = true := by
  simp only [hostSide, Bool.or_eq_true, beq_iff_eq] at h
  simp only [hostOpen, bne_self_eq_false, Bool.false_or, Bool.or_eq_true, decide_eq_true_eq]
  omega

/-- R82: MC's records are read while firmware runs. -/
theorem availRecord_of {b : State} {q : Req} (h : b.anyRun = true) : availRecord b q = none := by
  unfold availRecord
  split
  · rfl
  · exact if_pos h

/-- R338, R339: a message stands at the end of its channel. -/
theorem post_ch {p : Nat} (hs : senderOf ch = p) (s : State) (service : Byte) (id : BitVec 16) (data : List Word) :
    (s.post ch service id data).mbx = { s.mbx with ch := upd s.mbx.ch (chIx ch) fun q => q ++
      [{ service := service, id := id, data := data, sender := p, epoch := s.mbx.epoch[Fin.ofNat 5 p], posted := s.now }] } := by
  subst hs
  unfold State.post
  dsimp only
  rw [raiseIf_mbx, count_mbx]
  rfl

theorem deliverMsg_tail (s : State) :
    (s.deliverMsg ch).mbx = { s.mbx with ch := upd s.mbx.ch (chIx ch) fun _ => s.mbx.ch[chIx ch].tail } := by
  unfold State.deliverMsg
  cases hq : s.mbx.ch[chIx ch] with
  | nil =>
    rw [show upd s.mbx.ch (chIx ch) (fun _ => [].tail) = s.mbx.ch from
      (congrArg (fun l => upd s.mbx.ch (chIx ch) fun _ => l) hq.symm).trans (upd_self ..)]
    rfl
  | cons m rest =>
    change ({ s.mbx with ch := upd s.mbx.ch (chIx ch) List.tail } : Mbx) = _
    rw [upd_congr (g := fun _ => rest) (by rw [hq]; rfl)]
    rfl

/-- R338: what a message that is posted turns. -/
theorem post_turns (s : State) (service : Byte) (id : BitVec 16) (data : List Word) :
    Turns { s with mbx := (s.post ch service id data).mbx } (s.post ch service id data) := by
  unfold State.post
  dsimp only
  exact .raiseIf (.count rfl)

theorem deliverMsg_turns (s : State) : Turns { s with mbx := (s.deliverMsg ch).mbx } (s.deliverMsg ch) := by
  unfold State.deliverMsg
  cases s.mbx.ch[chIx ch].isEmpty
  · exact .count rfl
  · rfl

/-- R339: a core answers the oldest request of its channel. -/
theorem answerService_of {m : Msg} {rest : List Msg} (hch : ch ∈ channels) (hs : senderOf ch < 2) (hr : 2 ≤ receiverOf ch)
    (hq : s.mbx.ch[chIx ch] = m :: rest) (hrun : s.anyRun = true)
    (hisl : ∀ k, partyIsland (receiverOf ch) = some k → s.islandOn k = true ∧ s.underTest k = false ∧ s.islandFailed k = false)
    (hroom : s.mbx.ch[chIx (receiverOf ch * 16 + senderOf ch)].length < 8)
    (hup : s.isUp .mbx (receiverOf ch * 16 + senderOf ch) = true) (log : List Word) :
    s.answerService ch log = (s.deliverMsg ch).post (receiverOf ch * 16 + senderOf ch) (serviceAnswer (receiverOf ch) m log).1 m.id
      (serviceAnswer (receiverOf ch) m log).2 := by
  have hon : s.partyOn (receiverOf ch) = true ∧
      ((partyIsland (receiverOf ch)).any fun k => s.underTest k || s.islandFailed k) = false := by
    unfold State.partyOn
    cases hp : partyIsland (receiverOf ch) with
    | none => exact ⟨rfl, rfl⟩
    | some k =>
      obtain ⟨h1, h2, h3⟩ := hisl k hp
      refine ⟨h1, ?_⟩
      simp [h2, h3]
  unfold State.answerService
  rw [hq]
  dsimp only
  rw [show channels.contains ch = true by simpa using hch, decide_eq_false (show ¬2 ≤ senderOf ch by omega),
    decide_eq_false (show ¬receiverOf ch < 2 by omega), hon.1, hon.2, hrun, chFull_of_lt hroom, hup]
  rfl

/-- R339: what the answer of a core makes of the channels. -/
theorem answerService_effect {m : Msg} {rest : List Msg} (hch : ch ∈ channels) (hs : senderOf ch < 2) (hr : 2 ≤ receiverOf ch)
    (hq : s.mbx.ch[chIx ch] = m :: rest) (log : List Word) {x : State}
    (hx : x = (s.deliverMsg ch).post (receiverOf ch * 16 + senderOf ch) (serviceAnswer (receiverOf ch) m log).1 m.id
      (serviceAnswer (receiverOf ch) m log).2) :
    let back := receiverOf ch * 16 + senderOf ch
    Turns { s with mbx := { s.mbx with ch := x.mbx.ch } } x ∧ x.mbx.ch[chIx ch] = rest ∧
      (∃ a, x.mbx.ch[chIx back] = s.mbx.ch[chIx back] ++ [a] ∧ a.id = m.id ∧ a.posted = s.now ∧
        (a.service, a.data) = serviceAnswer (receiverOf ch) m log) ∧
      ∀ k ∈ channels, k ≠ ch → k ≠ back → x.mbx.ch[chIx k] = s.mbx.ch[chIx k] := by
  intro back
  obtain ⟨hback, hne, hsb⟩ := back_channels hch hs hr
  have hd := deliverMsg_turns (ch := ch) s
  have hp := post_turns (ch := back) (s.deliverMsg ch) (serviceAnswer (receiverOf ch) m log).1 m.id
    (serviceAnswer (receiverOf ch) m log).2
  have hmbx := post_ch hsb (s.deliverMsg ch) (serviceAnswer (receiverOf ch) m log).1 m.id (serviceAnswer (receiverOf ch) m log).2
  rw [← hx] at hp hmbx
  rw [deliverMsg_tail, hq] at hmbx
  have hnow : (s.deliverMsg ch).now = s.now := hd.now
  rw [hnow] at hmbx
  have hone {k : Nat} (hk : k ∈ channels) (h : k ≠ ch) : chIx ch ≠ chIx k := fun e => h (chIx_inj hch hk e).symm
  have htwo {k : Nat} (hk : k ∈ channels) (h : k ≠ back) : chIx back ≠ chIx k := fun e => h (chIx_inj hback hk e).symm
  refine ⟨?_, ?_, ⟨{ service := (serviceAnswer (receiverOf ch) m log).1, id := m.id, data := (serviceAnswer (receiverOf ch) m log).2
                     sender := receiverOf ch, epoch := s.mbx.epoch[Fin.ofNat 5 (receiverOf ch)], posted := s.now }, ?_, rfl, rfl, rfl⟩, fun k hk h1 h2 => ?_⟩
  · obtain ⟨o, mo, k, n, hd⟩ := turns_iff.1 hd
    obtain ⟨o', mo', k', n', hp⟩ := turns_iff.1 hp
    rw [hd] at hp
    rw [hmbx] at hp ⊢
    exact hp ▸ rfl
  · rw [hmbx]
    exact (upd_get_ne _ _ (htwo hch hne.symm)).trans (upd_at ..)
  · rw [hmbx]
    refine (upd_at ..).trans ?_
    rw [upd_get_ne _ _ (hone hback hne)]
  · rw [hmbx]
    exact (upd_get_ne _ _ (htwo hk h2)).trans (upd_get_ne _ _ (hone hk h1))

/-- R343: a command that acts for HOST-NS. -/
theorem who_open {i op : Nat} {g : Byte} (b : State) :
    whoDenied b (unitReq .mbx i op g [0]) = false ∧ whoLocked b (unitReq .mbx i op g [0]) = false := by
  have h : bit ((unitReq .mbx i op g [0]).p 0) 0 = false := by rw [unitReq_p]; decide
  simp only [whoDenied, whoLocked, h, Bool.false_and, and_self]

/-- R342: MC's answer does not change while events are queued and counters count. -/
theorem legacyAnswer_goesOn {o : Obs} (h : s.obs.GoesOn o) (w : Word) : { s with obs := o }.legacyAnswer w = s.legacyAnswer w := by
  have hrec (n : Nat) : ({ s with obs := o } : State).recOf .lrx n = s.recOf .lrx n := by
    simp only [State.recOf, h.recs]
  unfold State.legacyAnswer
  simp only [hrec]
  rfl

/-- R342: MC answers the legacy request. -/
theorem legacyRow_of {w : Word} (hrun : s.anyRun = true) (hmc : s.power.mcSilent = false) (ha : s.mbx.legacy.again = [])
    (hr : s.mbx.legacy.request = some w) (hn : s.nearWrite s.mbx.legacy.hostAt = false) :
    s.legacyRow = ((s.setLegacy fun g => { g with request := none }).setLegacy fun g => { g with
      data := s.legacyAnswer w, writer := 2, unread := true, mcAt := some s.now, overwrite := g.overwrite || g.unreadNow }).raise
        .mbx 0xF0 0x12 (w32 (s.legacyAnswer w).length) := by
  unfold State.legacyRow
  simp only [hrun, hmc, ha, hr, Bool.not_true, Bool.or_self, Bool.false_eq_true, if_false, ne_eq, not_true_eq_false]
  exact if_neg fun h => absurd (hn.symm.trans (Bool.and_eq_true_iff.1 h).2) (by decide)

end

theorem legacy_header {n : Nat} (h : n ≤ 16) : clear (w32 n) 5 = true ∧ fld (w32 n) 0 5 = n := by
  have hall : ∀ n < 17, clear (w32 n) 5 = true ∧ fld (w32 n) 0 5 = n := by decide
  exact hall n (by omega)

/-- Settles O50. -/
theorem mailboxesCarryMessages : Obligations.MailboxesCarryMessages := by
  intro s dt g f ch w ws put q
  refine ⟨fun ht hrun hch => ?_, fun ht hrun => ?_, fun hrun hmc ha hr hn => ?_, ?_⟩
  · have hi := channels_instances hch
    have hd := anyRun_dev hrun
    have hw := ht.2.2.1
    refine ⟨fun hs hr h15 hlen hmax => ?_, fun hr hs => ?_, fun hs hr h4 h4' hx => ?_, fun hs => ?_, fun hh => ?_, fun hs hr => ?_⟩
    · have hopen := secretDenied_open (op := 0x10) (g := g) (ps := w :: ws) (hostSide_false (by omega) hr)
      have hacc : specMbxSend.accepts .mbx ch = true := isChannel_of (p := fun i => decide (senderOf i < 2)) hch (by simp [hs])
      have hcount (b : State) : specMbxSend.count b (unitReq .mbx ch 0x10 g (w :: ws)) = true := by
        simp [specMbxSend]
        omega
      have hbad (b : State) : specMbxSend.bad b (unitReq .mbx ch 0x10 g (w :: ws)) = none := by
        refine firstBad_one ?_
        have h15' : bit ((unitReq .mbx ch 0x10 g (w :: ws)).p 0) 15 = false := h15
        have hlen' : fld ((unitReq .mbx ch 0x10 g (w :: ws)).p 0) 8 7 = ws.length := hlen
        simp [h15', hlen', hmax, Nat.add_comm]
      refine ⟨fun hroom hup => ?_, fun hfull => ?_⟩
      · refine unit_does specMbxSend (k := .basic) ht hrun hi trivial (fun _ _ _ => meets_of_nil)
          (fun o m v _ => ?_) (fun o m v _ => ?_) (hd := fun b => (hopen b).1) (hl := fun b => (hopen b).2) (hacc := hacc)
        · have hroom' : (s.heard dt o m v).chFull ch = false := chFull_of_lt hroom
          refine ⟨hcount _, hbad _, rfl, ?_, ?_, ?_⟩
          · simp only [specMbxSend, hroom', Bool.false_eq_true, if_false, require]
            exact if_pos hup
          · simp only [specMbxSend, hroom', Bool.false_eq_true, if_false]
          · simp only [specMbxSend, hroom', Bool.false_eq_true, if_false]
        · have hroom' : (s.heard dt o m v).chFull ch = false := chFull_of_lt hroom
          simp only [specMbxSend, hroom', Bool.false_eq_true, if_false, true_and]
          refine Effects.turns ?_ (post_turns ..)
          rw [post_ch hs]
          rfl
      · refine unit_fails (st := .busy) specMbxSend (k := .basic) ht hrun hi trivial (fun _ _ _ => meets_of_nil) (fun o m v => ?_)
          (by decide) (hd := fun b => (hopen b).1) (hl := fun b => (hopen b).2) (hacc := hacc)
        have hfull' : (s.heard dt o m v).chFull ch = true := chFull_of_le hfull
        refine ⟨hcount _, hbad _, rfl, if_pos hfull', ((s.heard dt o m v).count .mbx ch 3).stats, ?_⟩
        exact if_pos hfull'
    · have hopen := secretDenied_open (op := 0x11) (g := g) (ps := []) (hostSide_false hs (by omega))
      refine unit_does specMbxReceive (k := .basic) ht hrun hi trivial (fun _ _ _ => meets_of_nil)
        (fun o m v _ => ⟨rfl, rfl, rfl, rfl, rfl, rfl⟩) (fun o m v _ => ⟨rfl, ?_⟩) (hd := fun b => (hopen b).1)
        (hl := fun b => (hopen b).2) (hacc := isChannel_of (p := fun i => decide (receiverOf i < 2)) hch (by simp [hr]))
      refine Effects.turns ?_ (deliverMsg_turns (ch := ch) (s.heard dt o m v))
      rw [deliverMsg_tail]
      rfl
    · exact unit_does specMbxPeek (k := .expert) ht hrun hi hx (fun _ _ _ => meets_of_nil)
        (fun o m v _ => ⟨rfl, rfl, rfl, rfl, rfl, rfl⟩) (fun o m v _ => ⟨rfl, rfl⟩) (hd := fun b => by simp [specMbxPeek, h4, h4'])
        (hacc := isChannel_of (p := fun i => decide (2 ≤ senderOf i) && decide (2 ≤ receiverOf i)) hch (by simp [hs, hr]))
    · exact secret_refuses specMbxSend ht hrun hch (isChannel_of (p := fun i => decide (senderOf i < 2)) hch (by simp [hs]))
        (by simp [hostSide, hs]) (by decide) rfl rfl (fun _ _ => rfl) (fun _ _ => rfl) rfl (fun b q hb => if_pos hb)
    · exact secret_refuses specStateGet ht hrun hch (hostOpen_of_hostSide hh) hh (by decide) rfl rfl (fun _ _ => rfl)
        (fun _ _ => rfl) rfl (fun b q hb => availRecord_of hb)
    · refine unit_target_refuses specStateGet ht hd hi ?_
      have : ¬senderOf ch < 2 ∧ ¬receiverOf ch < 2 := by omega
      simp [specStateGet, hostOpen, this, hch]
  · have hacc : isControl .mbx 0xFF = true := rfl
    refine ⟨?_, ?_, fun h1 h16 hw => ?_, ?_⟩
    · refine unit_does specMbxDoorbellGet (k := .basic) ht hrun (by decide) trivial (fun _ _ _ => meets_of_nil)
        (fun o m v _ => ⟨rfl, firstBad_one (by rw [unitReq_p]; decide), rfl, rfl, rfl, rfl⟩) (fun o m v _ => ?_)
        (hd := fun b => (who_open b).1)
        (hl := fun b => (who_open b).2)
      have hwho : fld ((unitReq .mbx 0xFF 0x12 g [0]).p 0) 0 1 = 0 := by rw [unitReq_p]; decide
      simp only [specMbxDoorbellGet, hwho]
      exact ⟨rfl, rfl⟩
    · have hwho : fld ((unitReq .mbx 0xFF 0x13 g [0]).p 0) 0 1 = 0 := by rw [unitReq_p]; decide
      refine unit_gives_to specMbxHostReset (c := .mbx) (i := 0xFF) (g := g) (f := f) (ps := [0]) (k := .basic) ht hrun (by decide) trivial
        (fun _ _ _ => meets_of_nil) (fun o m v _ => ⟨rfl, firstBad_one (by rw [unitReq_p]; decide), rfl, rfl, rfl, rfl⟩)
        (fun o m v _ => ?_) (hd := fun b => (who_open b).1) (hl := fun b => (who_open b).2)
      refine ⟨(s.heard dt o m v).partyReset 0, [], by simp only [specMbxHostReset, change, hwho], rfl, ?_⟩
      have heff : Effects s { s.later dt with mbx := ((s.heard dt o m v).partyReset 0).mbx } ((s.heard dt o m v).partyReset 0) := rfl
      obtain ⟨hleaves, hreplies⟩ := answered_effects (c := .mbx) (i := 0xFF) (g := g) (f := f) (ps := [0]) (pay := []) ht.2.2.1 heff
      refine ⟨hleaves, fun k hk => ?_, hreplies⟩
      refine (vmapIx_get (fun k q => if receiverOf (channels.getD k 0) = 0 then [] else q) s.mbx.ch (chIx k)).trans ?_
      rw [channels_getD_chIx hk]
    · obtain ⟨hc5, hf5⟩ := legacy_header h16
      rw [← hw] at hc5 hf5
      refine unit_gives_to specMbxLegacyWrite (c := .mbx) (i := 0xF0) (g := g) (f := f) (ps := w :: ws) (k := .basic) ht hrun
        (by decide) trivial (fun _ _ _ => meets_of_nil) (fun o m v _ => ⟨?_, firstBad_one ?_, rfl, rfl, rfl, rfl⟩)
        (fun o m v _ => ?_)
      · simp [specMbxLegacyWrite]
        omega
      · simp [unitReq_p, hc5, hf5, h1, h16, Nat.add_comm]
      · obtain ⟨x, hx⟩ : ∃ x, (s.heard dt o m v).hostWrites ws = x := ⟨_, rfl⟩
        refine ⟨x, [], by rw [← hx]; rfl, rfl, ?_⟩
        have hturns : Turns { s.heard dt o m v with mbx := x.mbx } x := by
          rw [← hx]
          unfold State.hostWrites
          dsimp only
          exact .raiseIf rfl
        have hleg : x.mbx = { s.mbx with legacy := x.mbx.legacy } ∧ x.mbx.legacy.data = ws ∧ x.mbx.legacy.writer = 1 ∧
            x.mbx.legacy.request = some (ws.headD 0) ∧ x.mbx.legacy.hostAt = some (s.now + dt) := by
          rw [← hx]
          unfold State.hostWrites
          dsimp only
          rw [raiseIf_mbx]
          exact ⟨rfl, rfl, rfl, rfl, rfl⟩
        obtain ⟨hmbx, hdata, hwriter, hreq, hat⟩ := hleg
        have heff : Effects s { s.later dt with mbx := { s.mbx with legacy := x.mbx.legacy } } x := by
          have hheard : Effects s { s.later dt with mbx := x.mbx } { s.heard dt o m v with mbx := x.mbx } := rfl
          rw [← hmbx]
          exact hheard.turns hturns
        have hnow : x.now = s.now + dt := congrArg State.now hturns
        obtain ⟨hleaves, hreplies⟩ := answered_effects (c := .mbx) (i := 0xF0) (g := g) (f := f) (ps := w :: ws) (pay := [])
          ht.2.2.1 heff
        exact ⟨hleaves, hdata, hwriter, hreq, hat.trans (congrArg some hnow.symm), hreplies⟩
    · refine unit_does specMbxLegacyRead (k := .basic) ht hrun (by decide) trivial (fun _ _ _ => meets_of_nil)
        (fun o m v _ => ⟨rfl, rfl, rfl, rfl, rfl, rfl⟩) (fun o m v _ => ⟨rfl, rfl⟩)
  · refine event_gives (·.legacyRow) fun o ho => ?_
    have hrow := legacyRow_of (s := { s.later dt with obs := o }) hrun hmc ha hr hn
    have hans : { s.later dt with obs := o }.legacyAnswer w = s.legacyAnswer w := legacyAnswer_goesOn (s := s.later dt) ho w
    rw [hans] at hrow
    simp only [hrow]
    refine ⟨turns_becomes ?_, rfl, rfl, rfl, rfl, finish_raised (s' := s.later dt) ?_ rfl⟩
    · exact Turns.raise rfl
    · exact raises_raise _ rfl rfl rfl
  · intro m rest hch hs hr hq hrun hisl back hroom hup
    refine event_gives (·.answerService (BitVec.ofNat 12 ch).toNat ws) fun o ho => ?_
    have hnum : (BitVec.ofNat 12 ch).toNat = ch := by
      have := instances_small (channels_instances hch)
      rw [BitVec.toNat_ofNat]
      omega
    rw [hnum]
    have hrow := answerService_of (s := { s.later dt with obs := o }) hch hs hr hq hrun hisl hroom hup ws
    obtain ⟨hturns, hrest, ⟨a, ha, hid, hposted, hans⟩, hothers⟩ :=
      answerService_effect (s := { s.later dt with obs := o }) hch hs hr hq ws hrow
    have hnow : (finish (State.answerService { s.later dt with obs := o } ch ws)).now = s.now + dt := congrArg State.now hturns
    refine ⟨turns_becomes ?_, hrest, ⟨a, ha, hid, ?_, hans⟩, hothers⟩
    · exact hturns.trans rfl
    · exact hposted.trans hnow.symm

end Sys2Proof.Machine

/-! ## Power and reset -/

namespace Sys2Proof.Machine

section
variable {s : State}

/-- Right after a reset MC does not run, and nothing waits for a trigger. -/
theorem finish_reset {x : State} (hm : x.mcRuns = false) (hmon : x.mon = State.reset.mon) (hobs : x.obs = obsReset) : finish x = x :=
  finish_still hm (by rw [hmon]; rfl) (by rw [hobs]; rfl) (by rw [hobs]; rfl)

theorem mcRuns_held {x : State} (h : x.power.inReset = true) : x.mcRuns = false := by
  unfold State.mcRuns
  rw [h, Bool.not_true, Bool.and_false, Bool.false_and, Bool.false_and]

theorem mcRuns_boot {x : State} (h : x.power.dev = .boot) : x.mcRuns = false := by
  unfold State.mcRuns
  rw [h, Bool.and_false]

/-- R80, R81: what is left while reset is held; in OFF the device stays in OFF. -/
theorem resetNow_held (s : State) : s.resetNow true = { s.cleared with
    power := { s.power with dev := if s.power.dev = .off then .off else .boot, inReset := true, mcSilent := false } } := by
  unfold State.resetNow
  by_cases h : s.power.dev = .off
  · simp only [h, decide_true, Bool.true_and, if_true]
    rfl
  · simp only [h, decide_false, Bool.false_and, Bool.false_eq_true, if_false, if_true]
    rfl

/-- R80, R81: what is left once reset has ended: BOOT at device time 0. -/
theorem resetNow_ended (s : State) : s.resetNow false = { s.cleared with
    now := 0, power := { s.power with dev := .boot, inReset := false, mcSilent := false } } := by
  unfold State.resetNow
  simp only [Bool.and_false, Bool.false_eq_true, if_false]

theorem finish_resetNow (hold : Bool) : finish (s.resetNow hold) = s.resetNow hold := by
  refine finish_reset ?_ rfl rfl
  cases hold
  · exact mcRuns_boot (if_neg (by simp))
  · exact mcRuns_held rfl

theorem finish_powerLost (on : Bool) : finish (s.powerLost on) = s.powerLost on := finish_reset (mcRuns_held rfl) rfl rfl

theorem resetFalls_of (hp : s.power.powered = true) (hl : s.power.latch = false) :
    s.resetFalls = { s.cleared with
      power := { s.power with
        dev := if s.power.dev = .off then .off else .boot, inReset := true, pinLow := true, mcSilent := false } } := by
  unfold State.resetFalls
  rw [hp, hl, resetNow_held]
  rfl

theorem supplyResets_of {rails : BitVec 12} (hp : s.power.powered = true) (hl : s.power.latch = false) (hr : rails ≠ 0) :
    s.supplyResets rails = { s.cleared with
      power := { s.power with
        dev := if s.power.dev = .off then .off else .boot, inReset := true, mcSilent := false
        railsLow := s.power.railsLow ||| rails } } := by
  unfold State.supplyResets
  rw [hp, hl, beq_eq_false_iff_ne.2 hr, resetNow_held]
  rfl

theorem resetRises_of (hp : s.power.powered = true) (hl : s.power.latch = false) (hpin : s.power.pinLow = true) :
    s.resetRises = { s with power := { s.power with pinLow := false } }.resetEnds := by
  unfold State.resetRises
  rw [hp, hl, hpin]
  rfl

theorem supplyResetEnds_of (hp : s.power.powered = true) (hl : s.power.latch = false) (hr : s.power.railsLow ≠ 0) :
    s.supplyResetEnds = { s with power := { s.power with railsLow := 0 } }.resetEnds := by
  unfold State.supplyResetEnds
  rw [hp, hl, beq_eq_false_iff_ne.2 hr]
  rfl

theorem resetEnds_of (hpin : s.power.pinLow = false) (hr : s.power.railsLow = 0) : s.resetEnds = s.resetNow false := by
  unfold State.resetEnds
  rw [hpin, hr]
  rfl

theorem resetEnds_held (h : s.power.pinLow = true ∨ s.power.railsLow ≠ 0) : s.resetEnds = s := by
  unfold State.resetEnds
  refine if_pos ?_
  simpa using h

/-- R384: in SHUTDOWN a reset row has no effect. -/
theorem reset_latched (hl : s.power.latch = true) (rails : BitVec 12) :
    s.resetFalls = s ∧ s.resetRises = s ∧ s.supplyResets rails = s ∧ s.supplyResetEnds = s := by
  simp only [State.resetFalls, State.resetRises, State.supplyResets, State.supplyResetEnds, hl, Bool.or_true, Bool.true_or, if_true,
    and_self]

/-- An event that does nothing: only time passes. -/
theorem event_still {instr : Instr} {dt : Nat} (f : State → State)
    (h : ∀ o, f { s.later dt with obs := o } = { s.later dt with obs := o })
    (hrow : exec instr s = .next (eventRow dt f s)) : Gives instr s (Becomes dt s) :=
  event_gives f (fun o _ => by rw [h]; exact ⟨rfl, rfl⟩) hrow

/-- R80, R100: DEV_RESET passes every check outside SHUTDOWN, and is not answered. -/
theorem devReset_row (ht : s.takes) (hd : s.power.dev ≠ .shutdown) (dt : Nat) (g f : Byte) :
    ∃ o m w, hostRow dt specDevReset .dev (cmdTo 0 g f []) s = finish ((s.heard dt o m w).resetNow false) := by
  obtain ⟨o, m, hb, -⟩ := taken_heard ht dt { op := BitVec.ofNat 8 specDevReset.op, cls := .dev, cmd := cmdTo 0 g f [] }
  refine ⟨o, m, [.good { op := BitVec.ofNat 8 specDevReset.op, cls := .dev, cmd := cmdTo 0 g f [] }], ?_⟩
  have hp := perform_passes (takes_passes (sp := specDevReset) (dt := dt) (c := .dev) (cmd := cmdTo 0 g f []) ht rfl rfl (Nat.zero_lt_succ _)
    rfl (.inl hd) rfl rfl rfl rfl meets_of_nil (level_basic (by decide) rfl rfl rfl rfl) rfl rfl rfl rfl)
  have hrow := hostRow_served ht dt specDevReset .dev (cmdTo 0 g f []) hp
  rw [hrow, hb]
  exact congrArg finish (settle_empty rfl)

end

/-- Settles O52. -/
theorem powerAndResetClearTheDevice : Obligations.PowerAndResetClearTheDevice := by
  intro s dt rails g f wiped dark
  refine ⟨⟨_, rfl, finish_powerLost true⟩, ⟨_, rfl, finish_powerLost false⟩, fun hp hl => ⟨?_, fun hr => ?_, fun hpin hr => ?_,
    fun hpin hr => ?_, fun hpin hr => ?_, fun hpin hr => ?_⟩, fun ht hd => ?_, fun hl i hi => ?_⟩
  · refine event_gives (·.resetFalls) fun o _ => ?_
    exact (congrArg finish (resetFalls_of (s := { s.later dt with obs := o }) hp hl)).trans (finish_reset (mcRuns_held rfl) rfl rfl)
  · refine event_gives (·.supplyResets rails) fun o _ => ?_
    exact (congrArg finish (supplyResets_of (s := { s.later dt with obs := o }) hp hl hr)).trans
      (finish_reset (mcRuns_held rfl) rfl rfl)
  · refine event_gives (·.resetRises) fun o _ => ?_
    have h := (resetRises_of (s := { s.later dt with obs := o }) hp hl hpin).trans (resetEnds_of rfl hr)
    exact (congrArg finish h).trans ((finish_resetNow false).trans (resetNow_ended _))
  · refine event_gives (·.resetRises) fun o _ => ?_
    have h := (resetRises_of (s := { s.later dt with obs := o }) hp hl hpin).trans (resetEnds_held (.inr hr))
    simp only [h]
    exact ⟨rfl, rfl⟩
  · refine event_gives (·.supplyResetEnds) fun o _ => ?_
    have h := (supplyResetEnds_of (s := { s.later dt with obs := o }) hp hl hr).trans (resetEnds_of hpin rfl)
    exact (congrArg finish h).trans ((finish_resetNow false).trans (resetNow_ended _))
  · refine event_gives (·.supplyResetEnds) fun o _ => ?_
    have h := (supplyResetEnds_of (s := { s.later dt with obs := o }) hp hl hr).trans (resetEnds_held (.inl hpin))
    simp only [h]
    exact ⟨rfl, rfl⟩
  · obtain ⟨o, m, w, hrow⟩ := devReset_row ht hd dt g f
    have hr : s.power.inReset = false := by
      have hready := ht.1
      simp only [State.ready, Bool.and_eq_true, Bool.not_eq_true'] at hready
      exact hready.1.1.2
    have hpow : ({ s.power with dev := .boot, inReset := false, mcSilent := false } : Power) =
        { s.power with dev := .boot, mcSilent := false } := by rw [← hr]
    exact ⟨_, rfl, hrow.trans ((finish_resetNow false).trans ((resetNow_ended _).trans (congrArg (wiped · 0) hpow)))⟩
  · have hstill (o : Obs) := reset_latched (s := { s.later dt with obs := o }) hl rails
    simp only [List.mem_cons, List.not_mem_nil, or_false] at hi
    rcases hi with rfl | rfl | rfl | rfl
    · exact event_still (dt := dt) (·.resetFalls) (fun o => (hstill o).1) rfl
    · exact event_still (dt := dt) (·.resetRises) (fun o => (hstill o).2.1) rfl
    · exact event_still (dt := dt) (·.supplyResets rails) (fun o => (hstill o).2.2.1) rfl
    · exact event_still (dt := dt) (·.supplyResetEnds) (fun o => (hstill o).2.2.2) rfl

end Sys2Proof.Machine

/-! ## Boot and firmware load -/

namespace Sys2Proof.Machine

/-! ### Commands that the device takes before firmware runs -/

/-- A command to one unit, in whatever device states its chapter admits it. -/
theorem unit_gives_in {instr : Instr} {s : State} {dt : Nat} (sp : CmdSpec) {c : Cls} {i : Nat} {g f : Byte} {ps : List Word}
    {k : Level} {P : State → Prop} (ht : s.takes) (hdev : s.power.dev ≠ .shutdown) (hi : i ∈ instances c) (ha : s.allows k)
    (hu : ∀ o m w, s.meets sp (sp.isl (s.heard dt o m w) (unitReq c i sp.op g ps)))
    (h : ∀ o m w, s.obs.GoesOn o → Served sp (s.heard dt o m w) (unitReq c i sp.op g ps))
    (hav : ∀ o m w, sp.avail (s.heard dt o m w) { unitReq c i sp.op g ps with all := [] } = none)
    (hP : ∀ o m w, s.obs.GoesOn o → ∃ x pay, sp.after (sp.act (s.heard dt o m w) (unitReq c i sp.op g ps)).st [i] = x ∧
      (sp.act (s.heard dt o m w) (unitReq c i sp.op g ps)).pay = pay ∧ P (finish (x.answered c (cmdTo i g f ps) pay)))
    (hrow : exec instr s = .next (hostRow dt sp c (cmdTo i g f ps) s) := by rfl)
    (hk : sp.hasLevel k := by simp only [CmdSpec.hasLevel] <;> constructorm* _ ∧ _ <;> rfl)
    (hd : ∀ b : State, sp.denied b (unitReq c i sp.op g ps) = false := by intros; rfl)
    (hl : ∀ b : State, sp.locked b (unitReq c i sp.op g ps) = false := by intros; rfl)
    (hacc : sp.accepts c i = true := by rfl)
    (hop : (BitVec.ofNat 8 sp.op).toNat = sp.op := by rfl) (hg : sp.groupCmd = false := by rfl)
    (hisl : ∀ b : State, sp.isl b { unitReq c i sp.op g ps with all := [] } = sp.isl b (unitReq c i sp.op g ps) := by
      intros; rfl)
    (hlate : sp.late = fun t _ => t := by rfl) : Gives instr s P := by
  obtain ⟨o, m, w, hkeep, ht'⟩ := unit_command (f := f) ht (.inl hdev) hi
    (fun _ _ _ => level_allowed rfl rfl ha hk (hd _) (hl _)) hu h (fun o m w _ => hav o m w) hacc hop hg hisl hlate
  obtain ⟨x, pay, rfl, rfl, hp⟩ := hP o m w hkeep
  exact ⟨_, hrow, ht' ▸ hp⟩

/-- R82: a command that READY alone admits. -/
theorem availReadyOnly_of {s b : State} {q : Req} (hd : s.power.dev = .ready) (hb : b.power = s.power := by rfl) :
    availReadyOnly b q = none := by
  unfold availReadyOnly
  rw [hb]
  exact if_pos hd

/-! ### The boot ROM -/

/-- The bits that are set one by one. -/
theorem foldl_bits (l : List (Fin 78)) (b : BitVec 78) (i : Fin 78) :
    (l.foldl (fun b i => b ||| (1#78 <<< i.val)) b).getLsbD i = (b.getLsbD i || decide (i ∈ l)) := by
  induction l generalizing b with
  | nil => simp
  | cons j l ih =>
    have hbit : (1#78 <<< j.val).getLsbD i.val = decide (i = j) := by
      have hi := i.isLt
      simp only [Fin.ext_iff, BitVec.getLsbD_shiftLeft, BitVec.getLsbD_one, hi, decide_true, Bool.true_and]
      rcases Nat.lt_trichotomy i.val j.val with h | h | h
      · simp [h, h.ne]
      · simp [h]
      · simp [h.ne', Nat.not_lt.2 h.le, Nat.sub_ne_zero_of_lt h]
    rw [List.foldl_cons, ih, BitVec.getLsbD_or, hbit, Bool.or_assoc]
    simp [List.mem_cons]

section
variable {s : State}

theorem boots_of {m : BootResult} (hp : s.power.powered = true) (hr : s.power.inReset = false) (hd : s.power.dev = .boot) :
    s.boots m = { s with
      power := { s.power with dev := .ready }
      boot := { repaired := m.repaired, failed := m.failed, ms := m.ms
                islands := m.islands.foldl (fun b i => b ||| (1#78 <<< i.val)) 0 }
      repairs := m.repairs
      cal := { s.cal with repairs :=
        ((s.fuse.tagged 0x510 0x7F0 ++ m.repairs).filter fun w => tagKind w == 3 || tagKind w == 9).eraseDups }
      mem := { s.mem with spares := 64 - spmRows (s.fuse.tagged 0x510 0x7F0 ++ m.repairs) }
      sec := { s.sec with identity := !m.tamperLow && s.lifecycle != 3, zeroised := s.sec.zeroised && m.tamperLow } } := by
  unfold State.boots
  rw [hp, hr, hd]
  rfl

/-! ### The image -/

theorem imageResult_incomplete (h : s.fw.declared = 0 ∨ s.fw.stage.length < s.fw.declared) : s.imageResult = (1, none) := if_pos h

theorem imageResult_ok {h : ImageHeader} (h0 : s.fw.declared ≠ 0) (hs : s.fw.declared ≤ s.fw.stage.length)
    (hh : Config.imageHeader s.fw.stage = some h) (hr : h.rollback ≤ 256) (hsig : Config.imageSigned s.fw.stage = true)
    (hc : s.fuse.counter ≤ h.rollback) (hp : 0x3141 ∈ h.personalities) : s.imageResult = (0, some h) := by
  have hne : offeredBy h ≠ [] := by
    have : offeredBy h = [0x3141] := by
      unfold offeredBy siliconNames
      rw [List.filter_cons, if_pos (by simpa using hp)]
      rfl
    rw [this]
    exact List.cons_ne_nil _ _
  unfold State.imageResult
  rw [if_neg (by omega), hh]
  dsimp only
  rw [if_neg (by omega), hsig, if_neg (by simp), if_neg (by omega), if_neg hne]

/-- What is raised in a state in which MC runs where it ran before. -/
theorem raises_of_mcRuns (u : State) {s : State} {c : Cls} {i code : Nat} {arg : Word} (hr : s.mcRuns = true → u.mcRuns = true)
    (hu : u.units = s.units) (hn : u.now = s.now) : Raises s (u.raise c i code arg) c i code arg := by
  intro h hm
  rw [← hn]
  refine raise_enters (hr h) ?_
  unfold State.unit at hm ⊢
  rw [hu]
  exact hm

/-- R81, R102: the device state changes, and what it raises. -/
theorem enter_of (s : State) {d : DevState} (hd : s.mcRuns = true → ({ s with power := { s.power with dev := d } } : State).mcRuns = true) :
    Tells { s with power := { s.power with dev := d } } (s.enter d) ∧
      Raises s (s.enter d) .dev 0 0x1C (pk [(d.code, 0), (s.power.dev.code, 3)]) ∧
      (d = .active → Raises s (s.enter d) .dev 0 0x18 (w32 (sat32 (s.now / 1000000)))) := by
  have h0 := raises_of_mcRuns { s with power := { s.power with dev := d } } (s := s) (c := .dev) (i := 0) (code := 0x1C)
    (arg := pk [(d.code, 0), (s.power.dev.code, 3)]) hd rfl rfl
  unfold State.enter
  refine ⟨(raise_tells ..).trans (raiseIf_tells ..), h0.raiseIf, fun h => ?_⟩
  subst h
  exact raises_of_mcRuns (s := s) _ hd rfl rfl

/-- R82: MC runs in every state from READY on but SHUTDOWN. -/
theorem mcRuns_moved {d : DevState} (h : s.mcRuns = true) (hd : d ≠ .off ∧ d ≠ .boot ∧ d ≠ .shutdown) {x : State}
    (hx : x.power = { s.power with dev := d }) : x.mcRuns = true := by
  simp only [State.mcRuns, Bool.and_eq_true] at h
  simp only [State.mcRuns, hx, h.1.1.1, h.1.1.2, h.1.2, Bool.and_self, Bool.true_and]
  obtain ⟨h1, h2, h3⟩ := hd
  cases d <;> simp_all

/-- R87, R102: the firmware of the image starts, in CONFIG. -/
theorem firmwareStarts_of (hd : s.power.dev = .ready) (h : ImageHeader) (m : Hash) :
    Tells { s with
      fw := { declared := 0, stage := [], image := some (h, m) }
      power := { s.power with dev := .config }
      setup := { step := 0, entered := s.now, persSet := none, persInForce := 0 } } (s.firmwareStarts h m) ∧
    Raises s (s.firmwareStarts h m) .dev 0 0x1C (pk [(2, 0), (1, 3)]) ∧
    (s.boot.repaired ≠ 0 ∨ s.boot.failed ≠ 0 →
      Raises s (s.firmwareStarts h m) .dev 0 0x1B (pk [(s.boot.repaired.toNat, 0), (s.boot.failed.toNat, 8)])) := by
  let t : State := { s with
    fw := { declared := 0, stage := [], image := some (h, m) }
    setup := { step := 0, entered := s.now, persSet := none, persInForce := 0 } }
  have hrun : s.mcRuns = true → ({ t with power := { t.power with dev := .config } } : State).mcRuns = true := fun h =>
    mcRuns_moved h (by decide) rfl
  obtain ⟨htell, hraise, -⟩ := enter_of t hrun
  have hlow := sparesLow_tells (t.enter .config) { s with cal := { s.cal with repairs := [] } }
  have hall := htell.trans hlow
  have hdev : (pk [(DevState.config.code, 0), (t.power.dev.code, 3)] : Word) = pk [(2, 0), (1, 3)] := by
    rw [show t.power.dev = .ready from hd]
    rfl
  rw [hdev] at hraise
  unfold State.firmwareStarts
  refine ⟨hall.trans (raiseIf_tells ..), Raises.raiseIf (.mono hraise hlow.queue), fun hr => ?_⟩
  rw [show (s.boot.repaired != 0 || s.boot.failed != 0) = true by simpa using hr]
  exact raises_of_mcRuns (s := s) _ (fun h => mcRuns_moved h (by decide) hall.power) hall.units hall.now

end

/-- Settles O53. -/
theorem firmwareIsLoadedAndStarted : Obligations.FirmwareIsLoadedAndStarted := by
  intro s dt g f w ws m h
  refine ⟨fun hp hr hd => ?_, fun ht hd => ⟨fun h1 h2 h4 hb => ?_, fun h1 h2 hs hle => ?_, fun h0 hs hh hr hsig hc hp => ?_, fun hinc => ?_⟩⟩
  · refine event_gives (·.boots m) fun o _ => ?_
    have hx := boots_of (s := { s.later dt with obs := o }) (m := m) hp hr hd
    simp only [hx]
    refine ⟨⟨rfl, rfl⟩, fun i => ?_⟩
    exact (foldl_bits m.islands 0 i).trans (by simp)
  · refine unit_gives_in (c := .dev) (i := 0) (g := g) (f := f) (ps := [w]) specFwLoadBegin (k := .basic) ht (by rw [hd]; decide)
      (by decide) trivial (fun _ _ _ => meets_of_nil) (fun o m v _ => ⟨rfl, firstBad_one ?_, ?_, rfl, rfl, rfl⟩)
      (fun o m v => availReadyOnly_of (s := s) (q := { unitReq .dev 0 0x11 g [w] with all := [] }) hd)
      (fun o m v _ => ⟨_, [], rfl, rfl, answered_effects ht.2.2.1 rfl⟩)
    · rw [unitReq_p]
      simp [h1, h2, h4]
    · refine if_pos ?_
      have hcore : (s.heard dt o m v).coreBroken = false := List.any_eq_false.2 fun i hi => by
        rw [show (s.heard dt o m v).boot = s.boot from rfl, hb i hi]
        decide
      rw [hcore]
      rfl
  · refine unit_gives_in (c := .dev) (i := 0) (g := g) (f := f) (ps := w :: ws) specFwLoadData (k := .basic) ht (by rw [hd]; decide)
      (by decide) trivial (fun _ _ _ => meets_of_nil) (fun o m v _ => ⟨?_, firstBad_one ?_, rfl, rfl, rfl, rfl⟩)
      (fun o m v => availReadyOnly_of (s := s) (q := { unitReq .dev 0 0x12 g (w :: ws) with all := [] }) hd) (fun o m v _ => ⟨_, [], rfl, rfl, answered_effects ht.2.2.1 rfl⟩)
    · simp [specFwLoadData]
      omega
    · rw [unitReq_p]
      simp [hs, hle]
  · refine unit_gives_in (c := .dev) (i := 0) (g := g) (f := f) (ps := []) specFwLoadEnd (k := .basic) ht (by rw [hd]; decide)
      (by decide) trivial (fun _ _ _ => meets_of_nil) (fun o m v _ => ?_)
      (fun o m v => availReadyOnly_of (s := s) (q := { unitReq .dev 0 0x13 g [] with all := [] }) hd) (fun o m v _ => ?_)
    · have hx := imageResult_ok (s := s.heard dt o m v) h0 hs hh hr hsig hc hp
      refine ⟨rfl, rfl, rfl, rfl, ?_, ?_⟩
      · simp only [specFwLoadEnd, hx]
      · simp only [specFwLoadEnd, hx]
    · have hx := imageResult_ok (s := s.heard dt o m v) h0 hs hh hr hsig hc hp
      obtain ⟨htell, hraise, hboot⟩ := firmwareStarts_of (s := s.heard dt o m v) hd h (Config.sha384 s.fw.stage)
      generalize hy : State.firmwareStarts _ h _ = y at htell hraise hboot
      refine ⟨y, [0, h.version, pk [(h.rollback, 0), (s.fuse.counter, 16)]] ++ (Config.sha384 s.fw.stage).toList,
        by simp only [specFwLoadEnd, hx, hy], by simp only [specFwLoadEnd, hx]; rfl, ?_⟩
      obtain ⟨o', k', hy⟩ := htell.elim
      obtain ⟨hleaves, hreplies⟩ := answered_effects (s := s) (x := y) (c := .dev) (i := 0) (g := g) (f := f) (ps := [])
        (pay := [0, h.version, pk [(h.rollback, 0), (s.fuse.counter, 16)]] ++ (Config.sha384 s.fw.stage).toList) ht.2.2.1
        (effects_iff.2 ⟨o', _, k', _, _, hy⟩)
      exact ⟨hleaves, answered_raised hraise htell.now, fun hr => answered_raised (hboot hr) htell.now, hreplies⟩
  · refine unit_gives_in (c := .dev) (i := 0) (g := g) (f := f) (ps := []) specFwLoadEnd (k := .basic) ht (by rw [hd]; decide)
      (by decide) trivial (fun _ _ _ => meets_of_nil) (fun o m v _ => ?_)
      (fun o m v => availReadyOnly_of (s := s) (q := { unitReq .dev 0 0x13 g [] with all := [] }) hd) (fun o m v _ => ?_)
    · have hx := imageResult_incomplete (s := s.heard dt o m v) hinc
      refine ⟨rfl, rfl, rfl, rfl, ?_, ?_⟩
      · simp only [specFwLoadEnd, hx]
      · simp only [specFwLoadEnd, hx]
    · have hx := imageResult_incomplete (s := s.heard dt o m v) hinc
      refine ⟨{ s.heard dt o m v with fw := { s.fw with declared := 0, stage := [] } }, _, by simp only [specFwLoadEnd, hx],
        by simp only [specFwLoadEnd, hx]; rfl, ?_⟩
      obtain ⟨hleaves, hreplies⟩ := answered_effects (s := s) (c := .dev) (i := 0) (g := g) (f := f) (ps := [])
        (x := { s.heard dt o m v with fw := { s.fw with declared := 0, stage := [] } })
        (e := { s.later dt with fw := { s.fw with declared := 0, stage := [] } })
        (pay := [1, Config.freeAt s.free 0, pk [((Config.freeAt s.free 1).toNat % 257, 0), (s.fuse.counter, 16)]] ++
          List.replicate 12 0) ht.2.2.1 rfl
      exact ⟨hleaves, _, _, hreplies⟩

end Sys2Proof.Machine

/-! ## What switching a domain leaves of the device -/

namespace Sys2Proof.Machine

/-- From `s` to `x` nothing changes that a power domain does not hold: configuration, secrets, units, scratchpad, fuses,
device state, time, the packets in their slots, the modes of the groups; no event leaves the queue. -/
structure Rests (s x : State) : Prop where
  setup : x.setup = s.setup
  sec   : x.sec = s.sec
  units : x.units = s.units
  mem   : x.mem = s.mem
  fuse  : x.fuse = s.fuse
  power : x.power = s.power
  now   : x.now = s.now
  slots : x.port.sameSlots s.port
  modes : ∀ j : Fin 8, x.grp[j].mode = s.grp[j].mode
  queue : s.obs.queue <+: x.obs.queue

section
variable {s x y : State}

theorem rests_refl (s : State) : Rests s s :=
  ⟨rfl, rfl, rfl, rfl, rfl, rfl, rfl, ⟨rfl, rfl, rfl⟩, fun _ => rfl, List.prefix_refl _⟩

theorem Rests.trans (h : Rests s x) (h' : Rests x y) : Rests s y :=
  ⟨h'.setup.trans h.setup, h'.sec.trans h.sec, h'.units.trans h.units, h'.mem.trans h.mem, h'.fuse.trans h.fuse,
    h'.power.trans h.power, h'.now.trans h.now,
    ⟨h'.slots.1.trans h.slots.1, h'.slots.2.1.trans h.slots.2.1, h'.slots.2.2.trans h.slots.2.2⟩,
    fun j => (h'.modes j).trans (h.modes j), h.queue.trans h'.queue⟩

theorem CalMoves.rests (h : CalMoves s x) (hq : s.obs.queue <+: x.obs.queue) : Rests s x := by
  obtain ⟨c, o, m, k, n, rfl⟩ := calMoves_iff.1 h
  exact ⟨rfl, rfl, rfl, rfl, rfl, rfl, rfl, ⟨rfl, rfl, rfl⟩, fun _ => rfl, hq⟩

theorem Tells.rests (h : Tells s x) : Rests s x := by
  obtain ⟨o, k, rfl⟩ := h.elim
  exact ⟨rfl, rfl, rfl, rfl, rfl, rfl, rfl, ⟨rfl, rfl, rfl⟩, fun _ => rfl, h.queue⟩

theorem foldl_rests {α : Type} {f : State → α → State} (h : ∀ s a, Rests s (f s a)) (l : List α) (s : State) :
    Rests s (l.foldl f s) := by
  induction l generalizing s with
  | nil => exact rests_refl s
  | cons a l ih => exact (h s a).trans (ih _)

end

section
variable {s : State}

theorem roundOpens_rests (s : State) : Rests s s.roundOpens :=
  (roundOpens_moves s).rests (by rw [roundOpens_frame])

theorem traceCheck_rests (s : State) : Rests s s.traceCheck :=
  (traceCheck_moves s).rests (raiseIf_queue { s with cal := { s.cal with traced := s.tracedNow } } ..)

theorem captureAbort_rests (s : State) (i : Fin 24) (cause : Nat) : Rests s (s.captureAbort i cause) := by
  unfold State.captureAbort
  extract_lets t
  have ht : Rests s t := ⟨rfl, rfl, rfl, rfl, rfl, rfl, rfl, ⟨rfl, rfl, rfl⟩, fun _ => rfl, List.prefix_refl _⟩
  split
  · exact rests_refl s
  · exact rests_refl s
  all_goals exact ht.trans ((count_tells ..).trans (raise_tells ..)).rests

theorem capturesGone_rests (s : State) (l : List Nat) (cause : Nat) : Rests s (s.capturesGone l cause) := by
  refine foldl_rests (fun t i => ?_) _ s
  split
  · exact captureAbort_rests t i cause
  · exact rests_refl t

theorem fadeOver_rests (s : State) (l : Fin 8) : Rests s (s.fadeOver l) := by
  refine (fadeOver_moves s l).rests ?_
  unfold State.fadeOver
  dsimp only
  split
  · unfold State.swap
    dsimp only
    refine .trans ?_ (signal_queue ..)
    generalize hx : State.setCal _ _ _ = x
    have hx' : x.obs = s.obs := by rw [← hx]; rfl
    rw [← hx']
    exact (foldl_rests (f := fun (t : State) e => t.replaced _ e) (fun t e => ⟨rfl, rfl, rfl, rfl, rfl, rfl, rfl, ⟨rfl, rfl, rfl⟩, fun _ => rfl, List.prefix_refl _⟩) _ x).queue
  · exact List.prefix_refl _

theorem coldLane_rests (s : State) (l : Fin 8) : Rests s (s.coldLane l) :=
  .trans (x := s.setLrx l _) ⟨rfl, rfl, rfl, rfl, rfl, rfl, rfl, ⟨rfl, rfl, rfl⟩, fun _ => rfl, List.prefix_refl _⟩ (fadeOver_rests _ l)

theorem GroupMoves.rests {g l : Fin 8} {x : State} (h : GroupMoves g l s x) (hm : x.grp[g].mode = s.grp[g].mode) : Rests s x := by
  obtain ⟨o, m, k, n, hx⟩ := turns_iff.1 h.frame
  obtain ⟨hunits, hport, hmem, -, hfuse, -, hpower, hnow⟩ := h.keeps
  have hg := congrArg State.grp hx
  have hsetup := congrArg State.setup hx
  have hsec := congrArg State.sec hx
  refine ⟨hsetup, hsec, hunits, hmem, hfuse, hpower, hnow, ?_, fun j => ?_, h.queue⟩
  · rw [hport]
    exact ⟨rfl, rfl, rfl⟩
  · rw [hg]
    by_cases hj : j = g
    · subst hj
      rw [upd_at]
      exact hm
    · rw [upd_get_ne _ _ (Ne.symm hj)]

theorem groupUnlock_rests (s : State) (g : Fin 8) : Rests s (s.groupUnlock g) := by
  refine (groupUnlock_moves (s := s) (g := g) (l := g)).1.rests ?_
  unfold State.groupUnlock
  extract_lets p a t b u
  have hu : u.grp = t.grp := by
    simp only [u]
    split <;> rfl
  rw [raiseIf_grp, hu]
  change (upd s.grp g _)[g].mode = _
  rw [upd_at]

theorem lfdOff_rests (s : State) (l : Fin 8) : Rests s (s.lfdOff l) := by
  unfold State.lfdOff
  extract_lets t
  have ht : Rests s t := ⟨rfl, rfl, rfl, rfl, rfl, rfl, rfl, ⟨rfl, rfl, rfl⟩, fun _ => rfl, List.prefix_refl _⟩
  split
  · split
    · exact ht.trans (groupUnlock_rests t _)
    · exact ht
  · exact ht

/-- R373: a group without power keeps its mode. -/
theorem dark_mode (v : Vector Grp 8) (j : Fin 8) : (v.map Grp.dark)[j].mode = v[j].mode := by
  simp [Grp.dark]

theorem lost_rests (s : State) (d : Nat) : Rests s (s.lost d) := by
  unfold State.lost
  split
  · exact (coldLane_rests s _).trans (lfdOff_rests _ _)
  · split
    · exact ⟨rfl, rfl, rfl, rfl, rfl, rfl, rfl, ⟨rfl, rfl, rfl⟩, fun _ => rfl, List.prefix_refl _⟩
    · split
      · exact ⟨rfl, rfl, rfl, rfl, rfl, rfl, rfl, ⟨rfl, rfl, rfl⟩, fun _ => rfl, List.prefix_refl _⟩
      · split
        · exact ⟨rfl, rfl, rfl, rfl, rfl, rfl, rfl, ⟨rfl, rfl, rfl⟩, fun _ => rfl, List.prefix_refl _⟩
        · split
          · exact ⟨rfl, rfl, rfl, rfl, rfl, rfl, rfl, ⟨rfl, rfl, rfl⟩, dark_mode s.grp, List.prefix_refl _⟩
          · split
            · exact ⟨rfl, rfl, rfl, rfl, rfl, rfl, rfl, ⟨rfl, rfl, rfl⟩, fun _ => rfl, List.prefix_refl _⟩
            · split <;> exact ⟨rfl, rfl, rfl, rfl, rfl, rfl, rfl, ⟨rfl, rfl, rfl⟩, fun _ => rfl, List.prefix_refl _⟩

theorem switchOff_rests (s : State) (d cause : Nat) : Rests s (s.switchOff d cause) := by
  unfold State.switchOff
  split
  · exact rests_refl s
  · extract_lets o c cl t u
    have ho : Rests o t := ⟨rfl, rfl, rfl, rfl, rfl, rfl, rfl, ⟨rfl, rfl, rfl⟩, fun _ => rfl, List.prefix_refl _⟩
    have hu : Rests t u := by
      simp only [u]
      split
      · exact ⟨rfl, rfl, rfl, rfl, rfl, rfl, rfl, ⟨rfl, rfl, rfl⟩, fun _ => rfl, List.prefix_refl _⟩
      · exact rests_refl t
    exact (roundOpens_rests s).trans (ho.trans (hu.trans ((capturesGone_rests u _ _).trans ((lost_rests _ d).trans
      ((traceCheck_rests _).trans (raise_tells ..).rests)))))

theorem sendersStart_rests (s : State) (d : Nat) : Rests s (s.sendersStart d) := by
  unfold State.sendersStart
  dsimp only
  split <;> exact ⟨rfl, rfl, rfl, rfl, rfl, rfl, rfl, ⟨rfl, rfl, rfl⟩, fun _ => rfl, List.prefix_refl _⟩

theorem roundsResume_rests (s : State) : Rests s s.roundsResume := by
  obtain ⟨hm, ho, -⟩ := roundsResume_keeps s
  exact hm.rests (by rw [ho])

theorem switchOn_rests (s : State) (d cause : Nat) : Rests s (s.switchOn d cause) := by
  unfold State.switchOn
  split
  · exact rests_refl s
  · extract_lets o c t lanes u
    have ho : Rests s.roundOpens t := ⟨rfl, rfl, rfl, rfl, rfl, rfl, rfl, ⟨rfl, rfl, rfl⟩, fun _ => rfl, List.prefix_refl _⟩
    have hf : Rests t (lanes.foldl State.applyForced t) :=
      foldl_rests (f := State.applyForced) (fun s k => ⟨rfl, rfl, rfl, rfl, rfl, rfl, rfl, ⟨rfl, rfl, rfl⟩, fun _ => rfl, List.prefix_refl _⟩) lanes t
    refine (roundOpens_rests s).trans (ho.trans (hf.trans ((traceCheck_rests _).trans ((sendersStart_rests _ d).trans
      (.trans ?_ (raise_tells ..).rests)))))
    split
    · exact roundsResume_rests u
    · exact rests_refl u

end

end Sys2Proof.Machine

/-! ## Configuration and device states -/

namespace Sys2Proof.Machine

section
variable {s : State}

/-! ### SLEEP and the wake (R93) -/

theorem foldl_switchOff (L : List Nat) (hL : ∀ d ∈ L, d < 80) (cause : Nat) (s : State) :
    Rests s (L.foldl (fun t d => t.switchOff d cause) s) ∧ ∀ k < 80,
      (L.foldl (fun t d => t.switchOff d cause) s).dom.powered.getLsbD k = (s.dom.powered.getLsbD k && decide (k ∉ L)) := by
  induction L generalizing s with
  | nil => exact ⟨rests_refl s, fun k _ => by simp⟩
  | cons d L ih =>
    obtain ⟨hr, hp⟩ := ih (fun e he => hL e (List.mem_cons_of_mem d he)) (s.switchOff d cause)
    refine ⟨(switchOff_rests s d cause).trans hr, fun k hk => ?_⟩
    rw [List.foldl_cons, hp k hk, (switchOff_of s (hL d List.mem_cons_self) cause).2.2.2.2.2.2 k hk]
    by_cases h : k = d
    · simp [h]
    · have hb : (k == d) = false := beq_eq_false_iff_ne.2 h
      simp [h, hb, bne]

/-- R93: one domain at a wake. -/
def State.wakesDomain (t : State) (d : Nat) : State :=
  if t.dom.hostOff.getLsbD d || (d == 70 && !t.needs d) then t else t.switchOn d 2

theorem wakesDomain_of (t : State) {d : Nat} :
    Rests t (t.wakesDomain d) ∧ (t.wakesDomain d).dom.hostOff = t.dom.hostOff ∧
    ∀ k < 70, (t.wakesDomain d).dom.powered.getLsbD k = (t.dom.powered.getLsbD k || (k == d && !t.dom.hostOff.getLsbD k)) := by
  unfold State.wakesDomain
  split
  next h =>
    refine ⟨rests_refl t, rfl, fun k hk => ?_⟩
    by_cases hd : k = d
    · subst hd
      have h70 : (k == 70) = false := beq_eq_false_iff_ne.2 (by omega)
      rw [h70, Bool.false_and, Bool.or_false] at h
      simp [h]
    · simp [hd]
  next h =>
    obtain ⟨-, -, -, hoff, -, -, hp⟩ := switchOn_of t d 2
    refine ⟨switchOn_rests t d 2, hoff, fun k hk => (hp k (by omega)).trans ?_⟩
    by_cases hd : k = d
    · subst hd
      have h' : t.dom.hostOff.getLsbD k = false := by
        cases hk : t.dom.hostOff.getLsbD k
        · rfl
        · rw [hk] at h
          exact absurd rfl h
      rw [h', beq_self_eq_true]
      rfl
    · rw [beq_eq_false_iff_ne.2 hd, Bool.false_and]

theorem foldl_wakesDomain (L : List Nat) (s : State) :
    Rests s (L.foldl State.wakesDomain s) ∧ ∀ k < 70, (L.foldl State.wakesDomain s).dom.powered.getLsbD k =
      (s.dom.powered.getLsbD k || (decide (k ∈ L) && !s.dom.hostOff.getLsbD k)) := by
  induction L generalizing s with
  | nil => exact ⟨rests_refl s, fun k _ => by simp⟩
  | cons d L ih =>
    obtain ⟨hr, hoff, hone⟩ := wakesDomain_of s (d := d)
    obtain ⟨hrest, hp⟩ := ih (s.wakesDomain d)
    refine ⟨hr.trans hrest, fun k hk => ?_⟩
    rw [List.foldl_cons, hp k hk, hone k hk, hoff]
    by_cases h : k = d
    · cases s.dom.powered.getLsbD k <;> cases s.dom.hostOff.getLsbD k <;> simp [h]
    · have hb : (k == d) = false := beq_eq_false_iff_ne.2 h
      simp [h, hb]

/-! ### What entry to SLEEP takes with it -/

theorem failClose_rests (s : State) (g : Fin 8) (why : Closed) : Rests s (s.failClose g why) ∧
    (s.failClose g why).dom = s.dom ∧ (s.failClose g why).seals[g].keys = none ∧
    ∀ j : Fin 8, j ≠ g → (s.failClose g why).seals[j] = s.seals[j] := by
  unfold State.failClose
  extract_lets had h t
  have ht : Rests s t := by
    refine ⟨rfl, rfl, rfl, rfl, rfl, rfl, rfl, ⟨rfl, rfl, rfl⟩, fun j => ?_, List.prefix_refl _⟩
    by_cases hj : j = g
    · subst hj
      change (upd s.grp j _)[j].mode = _
      rw [upd_at]
    · change (upd s.grp g _)[j].mode = _
      rw [upd_get_ne _ _ (Ne.symm hj)]
  refine ⟨ht.trans (raiseIf_tells ..).rests, rfl, ?_, fun j hj => ?_⟩
  · rw [raiseIf_seals]
    change (upd s.seals g _)[g].keys = none
    rw [upd_at]
  · rw [raiseIf_seals]
    exact upd_get_ne s.seals _ (Ne.symm hj)

/-- R93, R254: one group that fails closed if it is in SEALED. -/
theorem failCloseOne_of (t : State) (g : Fin 8) (why : Closed) (x : State)
    (hx : x = if t.grp[g].mode = 3 then t.failClose g why else t) :
    Rests t x ∧ x.dom = t.dom ∧ (t.grp[g].mode = 3 → x.seals[g].keys = none) ∧ ∀ j : Fin 8, t.seals[j].keys = none → x.seals[j].keys = none := by
  obtain ⟨hr, hd, hk, ho⟩ := failClose_rests t g why
  split at hx
  next h =>
    subst hx
    refine ⟨hr, hd, fun _ => hk, fun j hj => ?_⟩
    by_cases e : j = g
    · rw [e]; exact hk
    · rw [ho j e]; exact hj
  next h =>
    rw [hx]
    exact ⟨rests_refl t, rfl, fun h' => absurd h' h, fun j hj => hj⟩

theorem failCloseAll_of (s : State) (why : Closed) :
    Rests s (s.failCloseAll why) ∧ (s.failCloseAll why).dom = s.dom ∧ ∀ j : Fin 8, s.grp[j].mode = 3 → (s.failCloseAll why).seals[j].keys = none := by
  have hall (L : List (Fin 8)) : ∀ s : State,
      Rests s (L.foldl (fun t g => if t.grp[g].mode = 3 then t.failClose g why else t) s) ∧
      (L.foldl (fun t g => if t.grp[g].mode = 3 then t.failClose g why else t) s).dom = s.dom ∧
      ∀ j : Fin 8, (j ∈ L ∧ s.grp[j].mode = 3 ∨ s.seals[j].keys = none) →
        (L.foldl (fun t g => if t.grp[g].mode = 3 then t.failClose g why else t) s).seals[j].keys = none := by
    induction L with
    | nil => exact fun s => ⟨rests_refl s, rfl, fun j h => h.resolve_left fun h => nomatch h.1⟩
    | cons g L ih =>
      intro s
      obtain ⟨hr, hd, hg, hkeep⟩ := failCloseOne_of s g why _ rfl
      obtain ⟨hr', hd', hk'⟩ := ih (if s.grp[g].mode = 3 then s.failClose g why else s)
      refine ⟨hr.trans hr', hd'.trans hd, fun j h => hk' j ?_⟩
      rcases h with ⟨hj, hm⟩ | h
      · rcases List.mem_cons.1 hj with rfl | hj
        · exact .inr (hg hm)
        · exact .inl ⟨hj, (hr.modes j).trans hm⟩
      · exact .inr (hkeep j h)
  exact ⟨(hall (fins 8) s).1, (hall (fins 8) s).2.1, fun j h => (hall (fins 8) s).2.2 j (.inl ⟨mem_fins j, h⟩)⟩

/-- R231, R341: what a session that closes leaves. -/
theorem closeSession_of (s : State) (why : Nat) :
    Rests { s with sec := { s.sec with session := none } } (s.closeSession why) ∧ (s.closeSession why).seals = s.seals ∧
      (s.closeSession why).dom = s.dom := by
  unfold State.closeSession
  extract_lets q t
  refine ⟨⟨rfl, rfl, rfl, rfl, rfl, rfl, rfl, ⟨rfl, rfl, rfl⟩, fun _ => rfl, ?_⟩, rfl, rfl⟩
  simp only [t]
  split
  · exact (partyReset_stays s 1).queue.trans (raise_queue ..)
  · exact List.prefix_refl _

/-! ### The device state changes -/

/-- R81, R102: from `s` to `x` the device enters a state: it raises what it raises then, and keeps what no state change touches. -/
structure MovedTo (d : DevState) (s x : State) : Prop where
  changed : Raises s x .dev 0 0x1C (pk [(d.code, 0), (s.power.dev.code, 3)])
  entered : d = .active → Raises s x .dev 0 0x18 (w32 (sat32 (s.now / 1000000)))
  power   : x.power = { s.power with dev := d }
  units   : x.units = s.units
  mem     : x.mem = s.mem
  cells   : x.fuse.cells = s.fuse.cells
  step    : x.setup.step = s.setup.step
  now     : x.now = s.now

variable {d : DevState} {u v x y : State}

theorem Raises.of_eq {c : Cls} {i code : Nat} {arg : Word} (h : Raises u x c i code arg) (hp : u.power = s.power)
    (hu : u.units = s.units) (hn : u.now = s.now) : Raises s x c i code arg := by
  intro hr hm
  rw [← hn]
  refine h ?_ ?_
  · unfold State.mcRuns at hr ⊢; rw [hp]; exact hr
  · unfold State.unit at hm ⊢; rw [hu]; exact hm

theorem enter_moved (hd : d ≠ .off ∧ d ≠ .boot ∧ d ≠ .shutdown) (s : State) : MovedTo d s (s.enter d) := by
  obtain ⟨ht, hc, he⟩ := enter_of s fun h => mcRuns_moved h hd rfl
  obtain ⟨o, k, hx⟩ := ht.elim
  exact ⟨hc, he, ht.power, ht.units, ht.rests.mem, congrArg Fuse.cells ht.rests.fuse, congrArg Setup.step ht.rests.setup, ht.now⟩

/-- What has the device in the same place before the change. -/
theorem MovedTo.before (h : MovedTo d u x) (hp : u.power = s.power) (hu : u.units = s.units) (hm : u.mem = s.mem)
    (hc : u.fuse.cells = s.fuse.cells) (hs : u.setup.step = s.setup.step) (hn : u.now = s.now) : MovedTo d s x where
  changed := by
    have := h.changed.of_eq (s := s) hp hu hn
    rw [hp] at this
    exact this
  entered := fun e => by
    have := (h.entered e).of_eq (s := s) hp hu hn
    rw [hn] at this
    exact this
  power := by rw [h.power, hp]
  units := h.units.trans hu
  mem := h.mem.trans hm
  cells := h.cells.trans hc
  step := h.step.trans hs
  now := h.now.trans hn

/-- What follows the change and keeps as much. -/
theorem MovedTo.after (h : MovedTo d s x) (hq : x.obs.queue <+: y.obs.queue) (hp : y.power = x.power) (hu : y.units = x.units)
    (hm : y.mem = x.mem) (hc : y.fuse.cells = x.fuse.cells) (hs : y.setup.step = x.setup.step) (hn : y.now = x.now) :
    MovedTo d s y :=
  ⟨h.changed.mono hq, fun e => (h.entered e).mono hq, hp.trans h.power, hu.trans h.units, hm.trans h.mem, hc.trans h.cells,
    hs.trans h.step, hn.trans h.now⟩

/-- R93: what the entry to SLEEP closes. -/
theorem sessionEnds_of (t : State) (why : Closed) (n : Nat) :
    Rests { t with sec := { t.sec with session := none } } ((t.failCloseAll why).closeSession n) ∧
    ((t.failCloseAll why).closeSession n).dom = t.dom ∧
    ∀ j : Fin 8, t.grp[j].mode = 3 → ((t.failCloseAll why).closeSession n).seals[j].keys = none := by
  obtain ⟨hc, hcd, hk⟩ := failCloseAll_of t why
  generalize t.failCloseAll why = u at hc hcd hk
  obtain ⟨hs, hss, hsd⟩ := closeSession_of u n
  refine ⟨.trans (x := { u with sec := { u.sec with session := none } }) ?_ hs, hsd.trans hcd, fun j hj => ?_⟩
  · exact ⟨hc.setup, by rw [hc.sec], hc.units, hc.mem, hc.fuse, hc.power, hc.now, hc.slots, hc.modes, hc.queue⟩
  · rw [hss]
    exact hk j hj

/-- R93: entry to SLEEP. -/
theorem sleeps_of (s : State) : MovedTo .sleep s s.sleeps ∧ (∀ d < 71, s.sleeps.dom.powered.getLsbD d = false) ∧
    s.sleeps.sec.session = none ∧ (∀ j : Fin 8, s.grp[j].mode = 3 → s.sleeps.seals[j].keys = none) ∧
    s.sleeps.port.sameSlots s.port := by
  obtain ⟨ho, hp⟩ := foldl_switchOff (List.range 71) (fun d hd => by have := List.mem_range.1 hd; omega) 2 s
  have hx : s.sleeps =
    ((((List.range 71).foldl (fun t d => t.switchOff d 2) s).failCloseAll .sleep).closeSession 4).enter .sleep := rfl
  rw [hx]
  generalize (List.range 71).foldl (fun t d => t.switchOff d 2) s = t at ho hp
  obtain ⟨hs, hsd, hk⟩ := sessionEnds_of t .sleep 4
  generalize (t.failCloseAll .sleep).closeSession 4 = v at hs hsd hk
  have hm := enter_moved (d := .sleep) (by decide) v
  obtain ⟨o, k, he⟩ := (enter_of (d := .sleep) v fun h => mcRuns_moved h (by decide) rfl).1.elim
  have hv : MovedTo .sleep t (v.enter .sleep) :=
    hm.before hs.power hs.units hs.mem (congrArg Fuse.cells hs.fuse) (congrArg Setup.step hs.setup) hs.now
  refine ⟨hv.before ho.power ho.units ho.mem (congrArg Fuse.cells ho.fuse) (congrArg Setup.step ho.setup) ho.now, fun d hd => ?_, ?_,
    fun j hj => ?_, ?_⟩
  · rw [he]
    change v.dom.powered.getLsbD d = false
    rw [hsd, hp d (by omega)]
    simp [hd]
  · rw [he]
    exact congrArg Secure.session hs.sec
  · rw [he]
    exact hk j ((ho.modes j).trans hj)
  · rw [he]
    exact (ho.trans (y := { v with sec := t.sec })
      ⟨hs.setup, rfl, hs.units, hs.mem, hs.fuse, hs.power, hs.now, hs.slots, hs.modes, hs.queue⟩).slots

/-- R93: the wake. -/
theorem wakes_of (s : State) : MovedTo .active s s.wakes ∧
    ∀ d < 70, s.wakes.dom.powered.getLsbD d = (s.dom.powered.getLsbD d || !s.dom.hostOff.getLsbD d) := by
  have hm := enter_moved (d := .active) (by decide) s
  have he := (enter_of (d := .active) s fun h => mcRuns_moved h (by decide) rfl).1
  obtain ⟨hr, hp⟩ := foldl_wakesDomain (List.range 71) (s.enter .active)
  have hx : s.wakes = ((List.range 71).foldl State.wakesDomain (s.enter .active)).rollbackRetries := rfl
  rw [hx]
  refine ⟨hm.after hr.queue hr.power hr.units hr.mem (congrArg Fuse.cells hr.fuse :) (congrArg Setup.step hr.setup) hr.now,
    fun d hd => (hp d hd).trans ?_⟩
  have hmem : decide (d ∈ List.range 71) = true := decide_eq_true (List.mem_range.2 (by omega))
  rw [hmem, Bool.true_and]
  obtain ⟨o, k, he⟩ := he.elim
  rw [he]

/-- R92, R95, R270: CONFIG_DONE. -/
theorem configured_of (s : State) : MovedTo .active s s.configured ∧ s.configured.cal.fgStart = some s.configured.now ∧
    s.configured.setup.persInForce = (if s.persLock ≠ 0 then s.persLock else s.setup.persSet.getD 0x3141) := by
  unfold State.configured
  extract_lets name q t
  have hm := (enter_moved (d := .active) (by decide) t).before (s := s) rfl rfl rfl rfl rfl rfl
  exact ⟨hm.after (List.prefix_refl _) rfl rfl rfl rfl rfl rfl, rfl, rfl⟩

end

/-- R47, R81: a command that has moved the device, in the words of the statements. -/
theorem moved_answered {d : DevState} {s x : State} {dt : Nat} {o : Obs} {m : Vector Stats 321} {w : List Waiting} {g f : Byte}
    {ps pay : List Word} (h : MovedTo d (s.heard dt o m w) x) :
    let t := finish (x.answered .dev (cmdTo 0 g f ps) pay)
    Raised s t .dev 0 0x1C (pk [(d.code, 0), (s.power.dev.code, 3)]) ∧
      (d = .active → Raised s t .dev 0 0x18 (w32 (min (t.now / 1000000) 0xFFFFFFFF))) ∧ t.power = { s.power with dev := d } ∧
      t.units = s.units ∧ t.mem = s.mem ∧ t.fuse.cells = s.fuse.cells ∧ t.setup.step = s.setup.step := by
  refine ⟨answered_raised h.changed h.now, fun e => ?_, h.power, h.units, h.mem, h.cells, h.step⟩
  have hr := answered_raised (c' := .dev) (cmd := cmdTo 0 g f ps) (pay := pay) (s := s) (h.entered e) h.now
  rw [show (finish (x.answered .dev (cmdTo 0 g f ps) pay)).now = s.now + dt from h.now]
  exact hr

end Sys2Proof.Machine

/-! ## The commands that configure the device and move it among its states -/

namespace Sys2Proof.Machine

section
variable {s : State}

/-- R93: the states among which DEV_STATE_SET moves. -/
theorem devStateSet_avail {b : State} (q : Req) (hb : b.power.dev = .active ∨ b.power.dev = .sleep ∨ b.power.dev = .maint) :
    specDevStateSet.avail b q = none := by
  rcases hb with h | h | h <;> simp [specDevStateSet, State.anyRun, h]

/-- DEV_STATE_SET to the state in which the device is. -/
theorem devStateSet_same {dt : Nat} {g f : Byte} {w : Word} (ht : s.takes)
    (hd : s.power.dev = .active ∨ s.power.dev = .sleep ∨ s.power.dev = .maint) (hc : clear w 3 = true) (hw : fld w 0 3 = s.power.dev.code) :
    Does .devStateSet .dev s dt (cmdTo 0 g f [w]) id (fun _ => []) := by
  have hrange : 3 ≤ fld w 0 3 ∧ fld w 0 3 ≤ 5 := by
    rw [hw]
    rcases hd with h | h | h <;> simp [h, DevState.code]
  refine unit_gives_in (c := .dev) (i := 0) (g := g) (f := f) (ps := [w]) specDevStateSet (k := .basic) ht ?_ (by decide) trivial
    (fun _ _ _ => meets_of_nil) (fun o m v _ => ⟨rfl, firstBad_one ?_, ?_, ?_, rfl, rfl⟩)
    (fun o m v => devStateSet_avail _ hd) (fun o m v _ => ⟨s.heard dt o m v, [], ?_, rfl, answered_effects ht.2.2.1 rfl⟩)
  · rcases hd with h | h | h <;> rw [h] <;> decide
  · rw [unitReq_p]
    simp [hc, hrange]
  · simp only [specDevStateSet, unitReq_p]
    refine if_pos ?_
    rw [hw]
    rcases hd with h | h | h <;> simp [h, DevState.code]
  · simp only [specDevStateSet, unitReq_p]
    exact if_pos (.inl hw)
  · simp only [specDevStateSet, change, unitReq_p]
    exact if_pos hw

section
variable {b : State} {r : Req}

theorem devStateSet_maint (hw : fld (r.p 0) 0 3 = 5) (hd : b.power.dev = .active) (hth : b.throttled = false)
    (hup : ∀ j : Fin 8, b.isUp .grp j = false) :
    specDevStateSet.busy b r = none ∧ specDevStateSet.cond b r = none ∧ (specDevStateSet.act b r).st = b.enter .maint := by
  have hfind : (List.range 8).find? (fun g => b.isUp .grp g) = none :=
    List.find?_eq_none.2 fun j hj => by
      rw [hup ⟨j, List.mem_range.1 hj⟩]
      decide
  simp [specDevStateSet, change, hw, hd, hth, hfind, DevState.code, require]

/-- R93, R94: no island of the first `n` is in one of the phases. -/
theorem testsAmong_none {n : Nat} {p : Phase → Bool} (hn : n ≤ 78) (h : ∀ i : Fin 78, i.val < n → p b.bist[i].phase = false) :
    b.testsAmong n p = false := by
  refine List.any_eq_false.2 fun j hj => ?_
  have hj' := List.mem_range.1 hj
  have hix : Fin.ofNat 78 j = ⟨j, by omega⟩ := Fin.ext (Nat.mod_eq_of_lt (by omega))
  have hp := h (Fin.ofNat 78 j) (by rw [hix]; exact hj')
  simpa using hp

theorem devStateSet_sleep (hw : fld (r.p 0) 0 3 = 4) (hd : b.power.dev = .active)
    (ht : (b.testsAmong 71 fun p => p == .queued || p == .running) = false) :
    specDevStateSet.busy b r = none ∧ specDevStateSet.cond b r = none ∧ (specDevStateSet.act b r).st = b.sleeps := by
  simp [specDevStateSet, change, hw, hd, ht, DevState.code, require]

theorem devStateSet_wake (hw : fld (r.p 0) 0 3 = 3) (hd : b.power.dev = .sleep) :
    specDevStateSet.busy b r = none ∧ specDevStateSet.cond b r = none ∧ (specDevStateSet.act b r).st = b.wakes := by
  simp [specDevStateSet, change, hw, hd, DevState.code, require]

theorem devStateSet_active (hw : fld (r.p 0) 0 3 = 3) (hd : b.power.dev = .maint)
    (ht : (b.testsAmong 78 fun p => p != .idle) = false) :
    specDevStateSet.busy b r = none ∧ specDevStateSet.cond b r = none ∧
      (specDevStateSet.act b r).st = (b.enter .active).rollbackRetries := by
  simp [specDevStateSet, change, hw, hd, ht, DevState.code, require]

end

/-- DEV_STATE_SET to another state, which the last checks allow. -/
theorem devStateSet_gives {dt : Nat} {g f : Byte} {w : Word} {P : State → Prop} (ht : s.takes)
    (hd : s.power.dev = .active ∨ s.power.dev = .sleep ∨ s.power.dev = .maint) (hc : clear w 3 = true)
    (h3 : 3 ≤ fld w 0 3) (h5 : fld w 0 3 ≤ 5)
    (hP : ∀ o m v, ∃ x, specDevStateSet.busy (s.heard dt o m v) (unitReq .dev 0 0x17 g [w]) = none ∧
      specDevStateSet.cond (s.heard dt o m v) (unitReq .dev 0 0x17 g [w]) = none ∧
      (specDevStateSet.act (s.heard dt o m v) (unitReq .dev 0 0x17 g [w])).st = x ∧
      P (finish (x.answered .dev (cmdTo 0 g f [w]) []))) :
    Gives (.devStateSet dt (cmdTo 0 g f [w])) s P := by
  refine unit_gives_in (c := .dev) (i := 0) (g := g) (f := f) (ps := [w]) specDevStateSet (k := .basic) ht ?_ (by decide) trivial
    (fun _ _ _ => meets_of_nil) (fun o m v _ => ?_)
    (fun o m v => devStateSet_avail _ hd) (fun o m v _ => ?_)
  · rcases hd with h | h | h <;> rw [h] <;> decide
  · obtain ⟨x, hbusy, hcond, -, -⟩ := hP o m v
    refine ⟨rfl, firstBad_one ?_, hbusy, hcond, rfl, rfl⟩
    rw [unitReq_p]
    simp [hc, h3, h5]
  · obtain ⟨x, -, -, hx, hp⟩ := hP o m v
    exact ⟨x, [], hx, rfl, hp⟩

end

/-- Settles O54. -/
theorem deviceStatesChange : Obligations.DeviceStatesChange := by
  intro s dt g f w ht moved
  have hq := ht.2.2.1
  refine ⟨fun hrun => ?_, fun hd => ⟨fun hl hw hm hs => ?_, fun hdone => ?_⟩, fun hd => ⟨?_, fun hth hup => ?_, fun hb => ?_⟩,
    fun hd => ⟨?_, ?_⟩, fun hd => ⟨?_, fun hb => ?_⟩⟩
  · exact unit_does specPersonalityList (k := .basic) ht hrun (by decide) trivial (fun _ _ _ => meets_of_nil)
      (fun _ _ _ _ => ⟨rfl, rfl, rfl, rfl, rfl, rfl⟩) (fun _ _ _ _ => ⟨rfl, rfl⟩)
  · have hrun : s.anyRun = true := by unfold State.anyRun; rw [hd]
    have hlev (o : Obs) (m : Vector Stats 321) (v : List Waiting) :
        (s.heard dt o m v).level specPersonalitySet (unitReq .dev 0 0x14 g [w]) = none := by
      refine level_basic (by decide) rfl rfl rfl ?_
      have hlock : (s.heard dt o m v).persLock = s.persLock := rfl
      simp only [specPersonalitySet, unitReq_p, hlock]
      rcases hl with h | h <;> simp [h]
    refine unit_does_leveled specPersonalitySet ht hrun (by decide) hlev (fun _ _ _ => meets_of_nil)
      (fun o m v _ => ⟨rfl, firstBad_one ?_, rfl, ?_, rfl, rfl⟩) (fun o m v _ => ⟨rfl, ?_⟩)
    · rw [unitReq_p]
      exact List.contains_iff_mem.2 hw
    · refine (if_pos hd).trans ?_
      exact stepRefused_inOrder (s := s.heard dt o m v) hm hs
    · have hstep : ((s.heard dt o m v).beginStep 3).setup = { s.setup with step := 3 } := by
        unfold State.beginStep
        rw [if_pos hd]
      simp only [specPersonalitySet, change, unitReq_p, hstep]
      rfl
  · have hmiss (b : State) (hb : ∀ k < 8, b.stepDone k = true) : b.missingStep 8 = none := by
      refine List.find?_eq_none.2 fun j hj => ?_
      have := List.mem_range.1 (List.mem_of_mem_drop hj)
      simp [hb j this]
    refine unit_gives_in (c := .dev) (i := 0) (g := g) (f := f) (ps := []) specConfigDone (k := .basic) ht (by rw [hd]; decide)
      (by decide) trivial (fun _ _ _ => meets_of_nil) (fun o m v _ => ⟨rfl, rfl, rfl, ?_, rfl, rfl⟩) (fun o m v => if_pos hd)
      (fun o m v _ => ?_)
    · simp only [specConfigDone, hmiss (s.heard dt o m v) hdone, Option.map_none]
    · obtain ⟨hmoved, hfg, hpers⟩ := configured_of (s.heard dt o m v)
      have hport : (s.heard dt o m v).configured.port = { s.port with waiting := v } := rfl
      refine ⟨(s.heard dt o m v).configured, [w32 (sat32 ((s.now + dt - s.setup.entered) / 1000000))], rfl, rfl,
        moved_answered hmoved, hfg, hpers, ?_⟩
      have hnow := hmoved.now
      generalize (s.heard dt o m v).configured = x at hport hnow
      have heff : Effects s x x := by
        unfold Effects
        rw [hport, ← hport]
      have hreply := (answered_effects (c := .dev) (i := 0) (g := g) (f := f) (ps := [])
        (pay := [w32 (sat32 ((s.now + dt - s.setup.entered) / 1000000))]) hq heff).2
      exact hnow ▸ hreply
  · exact devStateSet_same ht (.inl hd) (by decide) (by rw [hd]; decide)
  · refine devStateSet_gives ht (.inl hd) (by decide) (by decide) (by decide) (fun o m v => ?_)
    obtain ⟨hbusy, hcond, hact⟩ := devStateSet_maint (b := s.heard dt o m v) (r := unitReq .dev 0 0x17 g [5])
      (by rw [unitReq_p]; decide) hd hth hup
    refine ⟨_, hbusy, hcond, hact, ?_⟩
    have hmoved := enter_moved (d := .maint) (by decide) (s.heard dt o m v)
    obtain ⟨o', k', he⟩ := (enter_of (d := .maint) (s.heard dt o m v) fun h => mcRuns_moved h (by decide) rfl).1.elim
    obtain ⟨hleaves, hreplies⟩ := answered_effects (c := .dev) (i := 0) (g := g) (f := f) (ps := [5]) (pay := []) hq
      (x := (s.heard dt o m v).enter .maint) (e := { s.later dt with power := { s.power with dev := .maint } })
      (effects_iff.2 ⟨o', _, k', _, _, he⟩)
    exact ⟨moved_answered hmoved, hleaves, hreplies⟩
  · refine devStateSet_gives ht (.inl hd) (by decide) (by decide) (by decide) (fun o m v => ?_)
    have htests := testsAmong_none (b := s.heard dt o m v) (n := 71) (p := fun p => p == .queued || p == .running) (by decide)
      fun i hi => by simpa using hb i hi
    obtain ⟨hbusy, hcond, hact⟩ := devStateSet_sleep (b := s.heard dt o m v) (r := unitReq .dev 0 0x17 g [4])
      (by rw [unitReq_p]; decide) hd htests
    obtain ⟨hmoved, hoff, hsess, hkeys, hslots⟩ := sleeps_of (s.heard dt o m v)
    generalize (s.heard dt o m v).sleeps = x at hact hmoved hoff hsess hkeys hslots
    exact ⟨_, hbusy, hcond, hact, moved_answered hmoved, hoff, hsess, hkeys, hslots.2.2⟩
  · exact devStateSet_same ht (.inr (.inl hd)) (by decide) (by rw [hd]; decide)
  · refine devStateSet_gives ht (.inr (.inl hd)) (by decide) (by decide) (by decide) (fun o m v => ?_)
    obtain ⟨hbusy, hcond, hact⟩ := devStateSet_wake (b := s.heard dt o m v) (r := unitReq .dev 0 0x17 g [3])
      (by rw [unitReq_p]; decide) hd
    obtain ⟨hmoved, hon⟩ := wakes_of (s.heard dt o m v)
    generalize (s.heard dt o m v).wakes = x at hact hmoved hon
    exact ⟨_, hbusy, hcond, hact, moved_answered hmoved, hon⟩
  · exact devStateSet_same ht (.inr (.inr hd)) (by decide) (by rw [hd]; decide)
  · refine devStateSet_gives ht (.inr (.inr hd)) (by decide) (by decide) (by decide) (fun o m v => ?_)
    have htests := testsAmong_none (b := s.heard dt o m v) (n := 78) (p := fun p => p != .idle) (by decide)
      fun i _ => by simpa using hb i
    obtain ⟨hbusy, hcond, hact⟩ := devStateSet_active (b := s.heard dt o m v) (r := unitReq .dev 0 0x17 g [3])
      (by rw [unitReq_p]; decide) hd htests
    refine ⟨_, hbusy, hcond, hact, ?_⟩
    have hmoved := (enter_moved (d := .active) (by decide) (s.heard dt o m v)).after
      (y := ((s.heard dt o m v).enter .active).rollbackRetries) (List.prefix_refl _) rfl rfl rfl rfl rfl rfl
    obtain ⟨o', k', he⟩ := (enter_of (d := .active) (s.heard dt o m v) fun h => mcRuns_moved h (by decide) rfl).1.elim
    obtain ⟨hleaves, hreplies⟩ := answered_effects (c := .dev) (i := 0) (g := g) (f := f) (ps := [3]) (pay := []) hq
      (x := ((s.heard dt o m v).enter .active).rollbackRetries)
      (e := { s.later dt with
        power := { s.power with dev := .active }, fuse := { s.fuse with rollbackWait := false } })
      (effects_iff.2 ⟨o', _, k', _, _, congrArg State.rollbackRetries he⟩)
    exact ⟨moved_answered hmoved, hleaves, hreplies⟩

end Sys2Proof.Machine

/-! ## Events and raw registers -/

namespace Sys2Proof.Machine

/-! ### Registers -/

section
variable {s : State}

/-- R76: which registers are published, and which are pairs, is fixed. -/
theorem register_published (s : State) (n : Nat) (i off : Nat) :
    (({ s with now := n } : State).register i off).map (·.2) = (s.register i off).map (·.2) := by
  unfold State.register
  dsimp only
  repeat' split
  all_goals rfl

/-- R75, R76: so is which addresses can be read. -/
theorem rawWord_published (s : State) (n a : Nat) : (({ s with now := n } : State).rawWord a).isSome = (s.rawWord a).isSome := by
  have h1 := register_published s n (regIsland a) (regOffset a)
  have h2 := register_published s n (regIsland a) (regOffset a - 4)
  unfold State.rawWord
  split
  · rfl
  · obtain ⟨x, hx⟩ : ∃ x, ({ s with now := n } : State).register (regIsland a) (regOffset a) = x := ⟨_, rfl⟩
    obtain ⟨y, hy⟩ : ∃ y, s.register (regIsland a) (regOffset a) = y := ⟨_, rfl⟩
    obtain ⟨u, hu⟩ : ∃ u, ({ s with now := n } : State).register (regIsland a) (regOffset a - 4) = u := ⟨_, rfl⟩
    obtain ⟨v, hv⟩ : ∃ v, s.register (regIsland a) (regOffset a - 4) = v := ⟨_, rfl⟩
    rw [hx, hy] at h1 ⊢
    rw [hu, hv] at h2 ⊢
    rcases x with _ | ⟨⟨x, p⟩⟩ <;> rcases y with _ | ⟨⟨y, q⟩⟩
    · dsimp only
      split
      · rcases u with _ | ⟨⟨u, p⟩⟩ <;> rcases v with _ | ⟨⟨v, q⟩⟩
        · rfl
        · exact nomatch h2
        · exact nomatch h2
        · obtain rfl : p = q := Option.some.inj h2
          cases p <;> rfl
      · rfl
    · exact nomatch h1
    · exact nomatch h1
    · rfl

/-- R75: what a read gives does not depend on events, counters or the packet itself. -/
theorem readRaws_heard (s : State) (dt : Nat) (o : Obs) (m : Vector Stats 321) (v : List Waiting) (n : Nat) :
    ∀ hold a, (s.heard dt o m v).readRaws hold a n = (s.later dt).readRaws hold a n := by
  induction n with
  | zero => exact fun _ _ => rfl
  | succ n ih =>
    intro hold a
    have hreg (i off : Nat) : (s.heard dt o m v).register i off = (s.later dt).register i off := by
      unfold State.register
      rfl
    have h : (s.heard dt o m v).readRaw hold a = (s.later dt).readRaw hold a := by
      simp only [State.readRaw, State.rawWord, hreg]
    simp only [State.readRaws, h, ih]

theorem rawWord_heard (s : State) (dt : Nat) (o : Obs) (m : Vector Stats 321) (v : List Waiting) (a : Nat) :
    ((s.heard dt o m v).rawWord a).isSome = (s.rawWord a).isSome := by
  have hreg (i off : Nat) : (s.heard dt o m v).register i off = (s.later dt).register i off := by
    unfold State.register
    rfl
  have h : (s.heard dt o m v).rawWord a = (s.later dt).rawWord a := by
    simp only [State.rawWord, hreg]
  rw [h]
  exact rawWord_published s (s.now + dt) a

/-- R75: the STALE flags, one for each word. -/
theorem staleFlags_zipIdx (l : List (Word × Bool)) (k : Nat) :
    mapIxGo (fun k (p : Nat × Nat) => (p.1, k)) k (l.map fun v => (b2n v.2, 0)) = (l.zipIdx k).map fun v => (b2n v.1.2, v.2) := by
  induction l generalizing k with
  | nil => rfl
  | cons x l ih =>
    rw [List.map_cons, List.zipIdx_cons, List.map_cons, ← ih (k + 1)]
    rfl

/-- R74: the byte that a byte enable picks. -/
def pickByte (old new e : Word) (k : Nat) : Nat := if e.getLsbD k then fld new (8 * k) 8 else fld old (8 * k) 8

theorem pickByte_lt (old new e : Word) (k : Nat) : pickByte old new e k < 256 := by
  unfold pickByte
  split <;> exact fld_lt _ _ _

/-- R74: the merged word holds the picked bytes in order. -/
theorem mergeBytes_pick (old new e : Word) (he : e.toNat < 16) :
    mergeBytes old new (fld e 0 4) = pk [(pickByte old new e 0, 0), (pickByte old new e 1, 8), (pickByte old new e 2, 16),
      (pickByte old new e 3, 24)] := by
  have hfe : fld e 0 4 = e.toNat := by
    unfold fld
    omega
  have hbit (k : Nat) : (e.toNat / 2 ^ k % 2 = 1) = (e.getLsbD k = true) := by
    simp only [BitVec.getLsbD, Nat.testBit_eq_decide_div_mod_eq, decide_eq_true_eq]
  simp only [mergeBytes, pickByte, hfe, hbit]

/-- R74: bytes under their enables. -/
theorem mergeBytes_byte (old new e : Word) (he : e.toNat < 16) {k : Nat} (hk : k < 4) :
    fld (mergeBytes old new (fld e 0 4)) (8 * k) 8 = if e.getLsbD k then fld new (8 * k) 8 else fld old (8 * k) 8 := by
  change _ = pickByte old new e k
  have h := pickByte_lt old new e
  have h0 := h 0
  have h1 := h 1
  have h2 := h 2
  have h3 := h 3
  rw [mergeBytes_pick old new e he, fld, pk_four_toNat]
  obtain rfl | rfl | rfl | rfl : k = 0 ∨ k = 1 ∨ k = 2 ∨ k = 3 := by omega
  all_goals
    dsimp only
    omega

/-- R72, R75: a command that only changes the port, beside the queue of events. -/
theorem answered_port {x e : State} {dt : Nat} {g f : Byte} {ps pay : List Word} {p : Port} (hw : p.waiting = [])
    (hx : ∃ o m k n w, x = { s.later dt with obs := o, mon := m, stats := k, free := n, port := { p with waiting := w } })
    (he : e = { s with port := p }) :
    Leaves dt s (finish (x.answered .dev (cmdTo 0 g f ps) pay)) ∧
      Replies e (finish (x.answered .dev (cmdTo 0 g f ps) pay)) (cmdTo 0 g f ps) .dev 0 pay := by
  obtain ⟨o, m, k, n, w, rfl⟩ := hx
  subst he
  exact answered_does (s := { s with port := p }) (e := s.later dt) hw ⟨o, m, k, n, w, rfl⟩

end

theorem count_header {n : Nat} (h : n ≤ 16) : clear (w32 n) 5 = true ∧ fld (w32 n) 0 5 = n := legacy_header h

/-- Settles O55. -/
theorem eventsAndRegistersAreAccessed : Obligations.EventsAndRegistersAreAccessed := by
  intro s dt g f w a e ht hrun
  have hq := ht.2.2.1
  have h0 : (0 : Nat) ∈ instances .dev := by decide
  refine ⟨fun h1 h16 => ?_, ?_, fun hx => ⟨?_, fun i ha h1 h16 hon htest => ?_⟩⟩
  · refine unit_gives_to specEventRead (c := .dev) (i := 0) (g := g) (f := f) (ps := [w]) (k := .basic) ht hrun h0 trivial
      (fun _ _ _ => meets_of_nil) (fun o m v _ => ⟨rfl, firstBad_one (by rw [unitReq_p]; simp [h1, h16]), rfl, rfl, rfl, rfl⟩)
      (fun o m v hk => ?_)
    let x : State := { s.heard dt o m v with obs := { o with queue := o.queue.drop w.toNat } }
    refine ⟨x, _, rfl, rfl, ?_⟩
    obtain ⟨hleaves, hreplies⟩ := answered_effects (s := s) (c := .dev) (i := 0) (g := g) (f := f) (ps := [w])
      (e := s.later dt) (x := x) (pay := (specEventRead.act (s.heard dt o m v) (unitReq .dev 0 0x40 g [w])).pay) hq rfl
    exact ⟨hleaves, s.heard dt o m v, heard_arrives hk m v, hk.queue, finish_queue (x.answered .dev (cmdTo 0 g f [w]) _), hreplies⟩
  · intro hc u
    refine unit_gives_to specEventConfig (c := .dev) (i := 0) (g := g) (f := f) (ps := [w]) (k := .basic) ht hrun h0 trivial
      (fun _ _ _ => meets_of_nil) (fun o m v _ => ⟨rfl, firstBad_one (by rw [unitReq_p]; exact hc), rfl, rfl, rfl, rfl⟩)
      (fun o m v hk => ?_)
    let x : State := { s.heard dt o m v with
      port := { (s.heard dt o m v).port with irqOnEvent := bit w 0, irqOnReply := bit w 1 }
      obs := { o with lost := if bit w 2 then 0 else o.lost, queue := if bit w 3 then [] else o.queue } }
    refine ⟨x, [], rfl, rfl, ?_⟩
    obtain ⟨hleaves, hreplies⟩ := answered_port (s := s) (x := x) (e := u) (dt := dt) (g := g) (f := f) (ps := [w]) (pay := [])
      (p := u.port) hq ⟨_, _, _, _, v, rfl⟩ rfl
    refine ⟨hleaves, hreplies, x.answered .dev (cmdTo 0 g f [w]) [], rfl, fun h2 => if_pos h2, fun h3 => if_pos h3, fun h3 => ?_⟩
    have hkeep : x.obs.queue = o.queue := if_neg (by rw [h3]; decide)
    exact hkeep ▸ hk.queue
  · intro n hn h1 h16 hend hreg hisl x
    obtain ⟨hc5, hf5⟩ := count_header h16
    rw [← hn] at hc5 hf5
    have haddr : rawAddrs (unitReq .dev 0 specRegRead32.op g [a, w]) = (List.range n).map fun k => a.toNat + 4 * k := by
      change (List.range (max 1 (fld w 0 5))).map _ = _
      rw [hf5, Nat.max_eq_right h1]
      rfl
    refine unit_gives_to specRegRead32 (c := .dev) (i := 0) (g := g) (f := f) (ps := [a, w]) (k := .expert) ht hrun h0 hx
      (fun o m v j hj => ?_) (fun o m v _ => ⟨rfl, ?_, rfl, rfl, rfl, rfl⟩) (fun o m v hk => ?_) (hd := fun b => ?_)
    · replace hj : j ∈ rawIsl a.toNat (fld w 0 5) := hj
      rw [hf5] at hj
      exact ⟨fun _ => (hisl j hj).1, fun h => absurd h (by decide), fun _ => (hisl j hj).2⟩
    · refine firstBad_none_iff.2 fun p hp => ?_
      simp only [haddr, List.mem_cons, List.not_mem_nil, or_false] at hp
      rcases hp with rfl | rfl
      · simp only [List.all_map, List.all_eq_true, List.mem_range, Function.comp_apply]
        intro k hk
        rw [rawWord_heard]
        exact (hreg k hk).1
      · change (clear w 5 && decide (1 ≤ fld w 0 5) && decide (fld w 0 5 ≤ 16)) = true
        simp [hc5, hf5, h1, h16]
    · have hread := readRaws_heard s dt o m v n s.port.hold a.toNat
      refine ⟨{ s.heard dt o m v with port := { (s.heard dt o m v).port with hold := x.2 } }, _, ?_, rfl, ?_⟩
      · simp only [specRegRead32]
        change ({ s.heard dt o m v with port := { (s.heard dt o m v).port with
          hold := ((s.heard dt o m v).readRaws s.port.hold a.toNat (fld w 0 5)).2 } } : State) = _
        rw [hf5, hread]
      · have hpay : (specRegRead32.act (s.heard dt o m v) (unitReq .dev 0 0x80 g [a, w])).pay =
            pk (x.1.zipIdx.map fun v => (b2n v.1.2, v.2)) :: x.1.map (·.1) := by
          change pk (mapIxGo (fun k (p : Nat × Nat) => (p.1, k)) 0
            (((s.heard dt o m v).readRaws s.port.hold a.toNat (fld w 0 5)).1.map fun v => (b2n v.2, 0))) ::
            ((s.heard dt o m v).readRaws s.port.hold a.toNat (fld w 0 5)).1.map (·.1) = _
          rw [hf5, hread, staleFlags_zipIdx]
        rw [show specRegRead32.op = 0x80 from rfl, hpay]
        exact answered_port (p := { s.port with hold := x.2 }) hq ⟨_, _, _, _, v, rfl⟩ rfl
    · change (rawAddrs (unitReq .dev 0 specRegRead32.op g [a, w])).any keyRange = false
      rw [haddr]
      simp only [List.any_map, List.any_eq_false, List.mem_range, Function.comp_apply]
      exact fun k hk => by rw [(hreg k hk).2]; decide
  · have hisl : regIsland a.toNat = i ∧ regOffset a.toNat = 0x18 := by
      have := i.isLt
      unfold regIsland regOffset
      omega
    have hfe : fld e 0 4 = e.toNat ∧ clear e 4 = true := by
      unfold clear fld
      simp only [Nat.pow_zero, Nat.div_one, beq_iff_eq]
      omega
    refine unit_gives_to specRegWrite32 (c := .dev) (i := 0) (g := g) (f := f) (ps := [a, w, e]) (k := .expert) ht hrun h0 hx
      (fun o m v j hj => ?_) (fun o m v _ => ⟨rfl, ?_, rfl, rfl, rfl, rfl⟩) (fun o m v hk => ?_) (hd := fun b => ?_)
    · replace hj : j ∈ [regIsland a.toNat] := hj
      rw [List.mem_singleton, hisl.1] at hj
      subst hj
      exact ⟨fun _ => hon, fun h => absurd h (by decide), fun _ => htest⟩
    · refine firstBad_none_iff.2 fun p hp => ?_
      simp only [List.mem_cons, List.not_mem_nil, or_false] at hp
      rcases hp with rfl | rfl
      · change (decide (0x4000_0000 ≤ a.toNat) && decide (regIsland a.toNat < 78) && regOffset a.toNat == 0x18) = true
        rw [hisl.1, hisl.2]
        have := i.isLt
        simp
        omega
      · change (clear e 4 && fld e 0 4 != 0) = true
        rw [hfe.1, hfe.2]
        simp
        omega
    · have hix : Fin.ofNat 78 (regIsland a.toNat) = i := by
        rw [hisl.1]
        exact Fin.ofNat_val_eq_self i
      let q : Port := { s.port with scratch := upd s.port.scratch i fun old => mergeBytes old w (fld e 0 4) }
      refine ⟨{ s.heard dt o m v with port := { q with waiting := v } }, [], ?_, rfl, ?_⟩
      · simp only [specRegWrite32, change]
        change ({ s.heard dt o m v with port := { (s.heard dt o m v).port with
          scratch := upd s.port.scratch (Fin.ofNat 78 (regIsland a.toNat)) fun old => mergeBytes old w (fld e 0 4) } } : State) = _
        rw [hix]
      · obtain ⟨hleaves, hreplies⟩ := answered_port (s := s) (dt := dt) (g := g) (f := f) (ps := [a, w, e]) (pay := [])
          (x := { s.heard dt o m v with port := { q with waiting := v } }) (p := q) hq ⟨_, _, _, _, v, rfl⟩ rfl
        refine ⟨hleaves, hreplies, fun j hj => upd_get_ne s.port.scratch _ (Ne.symm hj), fun k hk => ?_⟩
        change fld (upd s.port.scratch i _)[i] (8 * k) 8 = _
        rw [upd_at]
        exact mergeBytes_byte _ w e h16 hk
    · change keyRange a.toNat = false
      unfold keyRange
      rw [hisl.2]
      simp

end Sys2Proof.Machine

/-! ## SPI transactions -/

namespace Sys2Proof.Machine

section
variable {s : State} {dt : Nat}

/-- R35, R404: what an SPI transaction drives, in the words of the statements; `v` is the state once the row's time has passed. -/
theorem drives_miso (v : State) (n : Nat) (tail : List Byte) :
    (v.drives n tail).port.miso =
      if v.power.powered = true ∧ v.power.inReset = false ∧ v.scanHolds = false then
        ([0, BitVec.ofNat 8 v.fastStatus, BitVec.ofNat 8 (v.fastStatus / 256)] ++ tail ++ List.replicate n 0).take n
      else [] := by
  unfold State.drives
  dsimp only
  refine ite_congr (propext ?_) (fun _ => rfl) (fun _ => rfl)
  simp [and_assoc]

/-- R37: whether a reply has been clocked out. -/
theorem replyTaken_port (v : State) (n : Nat) {r : List Word} {rest : List (List Word)} (h : v.port.replies = r :: rest) :
    v.replyTaken n = { v.drives n (r.flatMap wordBytes) with port := { v.port with
      miso := (v.drives n (r.flatMap wordBytes)).port.miso
      replies := if v.power.powered = true ∧ v.power.inReset = false ∧ v.scanHolds = false ∧ 3 + 4 * r.length ≤ n
        then rest else v.port.replies } } := by
  have hlen : (r.flatMap wordBytes).length = 4 * r.length := length_flatMap_wordBytes r
  unfold State.replyTaken
  simp only [h, List.headD_cons, hlen]
  have hiff : ((v.power.powered && !v.power.inReset && !v.scanHolds && (r :: rest) != [] && decide (3 + 4 * r.length ≤ n)) = true) ↔
      (v.power.powered = true ∧ v.power.inReset = false ∧ v.scanHolds = false ∧ 3 + 4 * r.length ≤ n) := by
    simp [and_assoc]
  by_cases hc : v.power.powered = true ∧ v.power.inReset = false ∧ v.scanHolds = false ∧ 3 + 4 * r.length ≤ n
  · rw [if_pos (hiff.2 hc), if_pos hc, show (v.drives n (r.flatMap wordBytes)).port.replies = r :: rest from h]
    rfl
  · rw [if_neg (fun h => hc (hiff.1 h)), if_neg hc, ← h]
    rfl

/-- R36: a packet that is taken in has the free slot. -/
theorem takeIn_taken {v : State} (ht : v.takes) (w : Waiting) :
    Tells { v with port := { v.port with waiting := [w] } } (v.takeIn w) := by
  obtain ⟨hr, hj, hw, hq⟩ := ht
  have hfree : v.qfree ≠ 0 := by
    unfold State.qfree
    rw [hw, List.length_nil]
    omega
  unfold State.takeIn
  simp only [hr, hj, hfree, hw, Bool.not_true, Bool.or_self, Bool.false_eq_true, if_false, List.nil_append]
  exact (count_tells ..).trans (signal_tells ..)

/-- R46: a queue whose head a row executes stands as it is. -/
theorem settle_of_head {p : Packet} {rest : List Waiting} (h : s.port.waiting = .good p :: rest)
    (hd : opDefined p.cls p.op.toNat = true) : s.settle = s := by
  have h1 : s.settleOne = s := by
    unfold State.settleOne
    rw [h]
    exact if_pos hd
  simp only [State.settle, h1]

/-- R42, R46: a packet that checks 1 to 4 refuse is answered. -/
theorem settle_of_bad {st : Nat} {target : BitVec 16} {tag : Byte} (h : s.port.waiting = [.bad st target tag]) :
    ∃ k, s.settle = { s with
      stats := k
      port := { s.port with waiting := [], replies := s.port.replies ++ [s.reply none st target tag false []] } } := by
  obtain ⟨k, hk⟩ : ∃ k, s.settleOne = { s with
      stats := k
      port := { s.port with waiting := [], replies := s.port.replies ++ [s.reply none st target tag false []] } } := by
    unfold State.settleOne
    rw [h]
    exact ⟨_, rfl⟩
  refine ⟨k, ?_⟩
  have hnil : s.settleOne.port.waiting = [] := by rw [hk]
  unfold State.settle
  rw [settleOne_empty hnil, settleOne_empty hnil, settleOne_empty hnil, hk]

end

/-- Settles O56. -/
theorem transactionsDriveAndDeliver : Obligations.TransactionsDriveAndDeliver := by
  intro s dt n bytes code drives
  refine ⟨?_, fun hc => ?_, fun r rest hr => ?_, fun ht => ⟨fun p hp hd => ?_, fun st target tag hp => ?_⟩⟩
  · exact event_gives (·.drives n []) fun o ho => ⟨rfl, ⟨_, rfl, ho.queue, drives_miso _ n []⟩, rfl⟩
  · refine event_gives (·.unknownCode code n) fun o ho => ?_
    have hx : State.unknownCode { s.later dt with obs := o } code n = State.drives { s.later dt with obs := o } n [] :=
      if_neg (by simpa using hc)
    simp only [hx]
    exact ⟨rfl, ⟨_, rfl, ho.queue, drives_miso _ n []⟩, rfl⟩
  · refine event_gives (·.replyTaken n) fun o ho => ?_
    have hx := replyTaken_port { s.later dt with obs := o } n hr
    simp only [hx]
    exact ⟨rfl, ⟨_, rfl, ho.queue, drives_miso _ n _⟩, rfl⟩
  · refine event_gives (·.packetArrives bytes) fun o ho => ?_
    obtain ⟨q, k, hx⟩ := (takeIn_taken (v := State.drives { s.later dt with obs := o } (1 + bytes.length) []) ht (.good p)).elim
    have hset : State.packetArrives { s.later dt with obs := o } bytes =
        (State.drives { s.later dt with obs := o } (1 + bytes.length) []).takeIn (.good p) := by
      unfold State.packetArrives
      rw [hp]
      exact settle_of_head (rest := []) (by rw [hx]) hd
    simp only [hset, hx]
    exact ⟨rfl, ⟨_, rfl, ho.queue, drives_miso _ _ []⟩, rfl⟩
  · refine event_gives (·.packetArrives bytes) fun o ho => ?_
    obtain ⟨q, k, hx⟩ := (takeIn_taken (v := State.drives { s.later dt with obs := o } (1 + bytes.length) []) ht
      (.bad st target tag)).elim
    obtain ⟨k', hset⟩ := settle_of_bad (st := st) (target := target) (tag := tag) (s :=
      (State.drives { s.later dt with obs := o } (1 + bytes.length) []).takeIn (.bad st target tag)) (by rw [hx])
    have harr : State.packetArrives { s.later dt with obs := o } bytes =
        ((State.drives { s.later dt with obs := o } (1 + bytes.length) []).takeIn (.bad st target tag)).settle := by
      unfold State.packetArrives
      rw [hp]
    rw [hx] at hset
    simp only [harr, hx, hset]
    have hw := ht.2.2.1
    refine ⟨rfl, ⟨_, rfl, ho.queue, drives_miso _ _ []⟩, _,
      congrArg (fun w => ({ s.port with miso := _, waiting := w, replies := s.port.replies ++ [_] } : Port)) hw.symm, rfl, rfl⟩

end Sys2Proof.Machine

/-! ## Fuse words -/

namespace Sys2Proof.Machine

/-! ### Words of the array -/

theorem insertKey_find {α : Type} (k : Nat) (v : α) (l : List (Nat × α)) (a : Nat) :
    (insertKey k v l).find? (fun p => p.1 == a) = if a = k then some (k, v) else l.find? (fun p => p.1 == a) := by
  induction l with
  | nil => by_cases h : a = k <;> simp [insertKey, h, Ne.symm]
  | cons p r ih =>
    unfold insertKey
    by_cases hak : a = k
    · subst hak
      split
      · simp
      · split
        · simp
        · rw [List.find?_cons_of_neg (by simp; omega), ih, if_pos rfl, if_pos rfl]
    · have hka : ((k, v).1 == a) = false := by simp; omega
      simp only [hak, if_false] at ih ⊢
      split
      · rw [List.find?_cons_of_neg (by simp; omega)]
      · split
        · rw [List.find?_cons_of_neg (by simp; omega), List.find?_cons_of_neg (by simp; omega)]
        · rw [List.find?_cons, List.find?_cons, ih]

theorem put_at_same (f : Fuse) (a : Nat) (w : FuseWord) : (f.put a w).at a = w := by
  unfold Fuse.at Fuse.put
  rw [insertKey_find, if_pos rfl]

theorem put_at_other (f : Fuse) {a b : Nat} (w : FuseWord) (h : b ≠ a) : (f.put a w).at b = f.at b := by
  unfold Fuse.at Fuse.put
  rw [insertKey_find, if_neg h]

/-- R362: what a slot holds that is left uncommitted (entry 9). -/
def State.spoiled (s : State) : FuseWord :=
  { data := s.freeWord, committed := false, corrected := bit (Config.freeAt s.free 1) 0
    uncorrectable := bit (Config.freeAt s.free 1) 1, blank := false }

theorem leaveSlot_effects {s b : State} {a : Nat} {stop : Bool} (h : Effects s b b) :
    Effects s { b with fuse := b.fuse.put a b.spoiled } (b.leaveSlot a stop) := by
  obtain ⟨o, m, k, p, q, h⟩ := effects_iff.1 h
  unfold State.leaveSlot
  refine Effects.raise (effects_iff.2 ⟨o, m, k, b.free + 1, q, ?_⟩)
  rw [h]
  rfl

/-! ### Commands that read and program words -/

/-- A command to one unit, in whatever device states its chapter admits it, run to its effect and its reply. -/
theorem unit_does_in {row : Nat → Cmd → Instr} {s : State} {dt : Nat} (sp : CmdSpec) {c : Cls} {i : Nat} {g f : Byte}
    {ps : List Word} {k : Level} {e : State → State} {pay : State → List Word} (ht : s.takes) (hdev : s.power.dev ≠ .shutdown)
    (hi : i ∈ instances c) (ha : s.allows k)
    (hu : ∀ o m w, s.meets sp (sp.isl (s.heard dt o m w) (unitReq c i sp.op g ps)))
    (h : ∀ o m w, s.obs.GoesOn o → Served sp (s.heard dt o m w) (unitReq c i sp.op g ps))
    (hav : ∀ o m w, sp.avail (s.heard dt o m w) { unitReq c i sp.op g ps with all := [] } = none)
    (hx : ∀ o m w, s.obs.GoesOn o → (sp.act (s.heard dt o m w) (unitReq c i sp.op g ps)).pay = pay (s.later dt) ∧
      Effects s (e (s.later dt)) (sp.after (sp.act (s.heard dt o m w) (unitReq c i sp.op g ps)).st [i]))
    (hd : ∀ b : State, sp.denied b (unitReq c i sp.op g ps) = false := by intros; rfl)
    (hrow : exec (row dt (cmdTo i g f ps)) s = .next (hostRow dt sp c (cmdTo i g f ps) s) := by rfl)
    (hk : sp.hasLevel k := by simp only [CmdSpec.hasLevel] <;> constructorm* _ ∧ _ <;> rfl)
    (hl : ∀ b : State, sp.locked b (unitReq c i sp.op g ps) = false := by intros; rfl)
    (hacc : sp.accepts c i = true := by rfl)
    (hop : (BitVec.ofNat 8 sp.op).toNat = sp.op := by rfl) (hg : sp.groupCmd = false := by rfl)
    (hisl : ∀ b : State, sp.isl b { unitReq c i sp.op g ps with all := [] } = sp.isl b (unitReq c i sp.op g ps) := by
      intros; rfl)
    (hlate : sp.late = fun t _ => t := by rfl) : Does row c s dt (cmdTo i g f ps) e pay := by
  refine unit_gives_in sp ht hdev hi ha hu h hav (fun o m w hkeep => ?_) hrow hk hd hl hacc hop hg hisl hlate
  obtain ⟨hpay, heff⟩ := hx o m w hkeep
  exact ⟨_, _, rfl, hpay, answered_effects ht.2.2.1 heff⟩

section
variable {s : State} {dt : Nat} {w v : Word} {g f : Byte} {env : FuseEnv}

/-- R370: the checks of FUSE_READ. -/
theorem fuseRead_good (h1 : fld w 11 5 = 0) (h2 : clear w 25 = true) (h3 : 1 ≤ fld w 16 9) (h4 : fld w 16 9 ≤ 500)
    (h5 : fld w 0 11 + fld w 16 9 ≤ 2048) (b : State) (i : Nat) :
    specFuseRead.bad b (unitReq .dev i 0x30 g [w]) = none :=
  firstBad_one (by simp [unitReq_p, h1, h2, h3, h4, h5])

theorem fuseRead_admitted (h : 0x020 ≤ fld w 0 11 ∨ fld w 0 11 + fld w 16 9 ≤ 0x010) (b : State) (i : Nat) :
    specFuseRead.denied b (unitReq .dev i 0x30 g [w]) = false := by
  change (decide (fld w 0 11 < 0x020) && decide (0x010 < fld w 0 11 + fld w 16 9)) = false
  rw [Bool.and_eq_false_iff, decide_eq_false_iff_not, decide_eq_false_iff_not]
  omega

/-- R362: the checks of FUSE_PROGRAM. -/
theorem fuseProgram_good {b : State} (hf : b.fuse = s.fuse) (h1 : clear w 11 = true) (h2 : 0x7F0 ≤ fld w 0 11)
    (h3 : (s.fuse.at (fld w 0 11)).blank = true) (i : Nat) :
    (specFuseProgram env).bad b (unitReq .dev i 0x32 g [w, v]) = none :=
  firstBad_one (by simp [unitReq_p, h1, h2, h3, hf])

theorem programWord_strong {b : State} {a : Nat} (he : env.stop = none) (ha : a ∉ env.weak) :
    b.programWord env a v = { st := b.commitSlot a v } := by
  simp [State.programWord, he, ha]

theorem programWord_weak {b : State} {a : Nat} (he : env.stop = none) (ha : a ∈ env.weak) :
    b.programWord env a v = { st := b.leaveSlot a false, status := .locked } := by
  simp [State.programWord, he, ha]

theorem heard_effects (o : Obs) (m : Vector Stats 321) (q : List Waiting) :
    Effects s (s.heard dt o m q) (s.heard dt o m q) := rfl

end

/-- Settles O57. -/
theorem fuseWordsAreReadAndProgrammed : Obligations.FuseWordsAreReadAndProgrammed := by
  intro s dt g f w v env ht hdev hu ha
  have hi : 0 ∈ instances .dev := List.mem_singleton.2 rfl
  refine ⟨fun h1 h2 h3 h4 h5 h6 => ?_, ?_, fun hrun hhold h1 h2 h3 he => ⟨fun hw => ?_, fun hw => ?_⟩⟩
  · exact unit_does_in specFuseRead (k := .secure) ht hdev hi ha (fun _ _ _ => meets_of_workable hu)
      (fun o m q _ => ⟨rfl, fuseRead_good h1 h2 h3 h4 h5 _ _, rfl, rfl, rfl, rfl⟩) (fun _ _ _ => rfl)
      (fun _ _ _ _ => ⟨rfl, rfl⟩) (fun b => fuseRead_admitted h6 b 0)
  · exact unit_does_in specFuseStatusGet (k := .secure) ht hdev hi ha (fun _ _ _ => meets_of_workable hu)
      (fun o m q _ => ⟨rfl, rfl, rfl, rfl, rfl, rfl⟩) (fun _ _ _ => rfl) (fun _ _ _ _ => ⟨rfl, rfl⟩)
  · refine unit_does_in (specFuseProgram env) (k := .secure) ht hdev hi ha (fun _ _ _ => meets_of_workable hu)
      (fun o m q _ => ⟨rfl, fuseProgram_good (env := env) (s := s) rfl h1 h2 h3 _, rfl, hhold, ?_, ?_⟩) (fun o m q => if_pos hrun)
      (fun o m q _ => ?_)
    · exact congrArg Effect.status (programWord_strong he hw)
    · exact congrArg Effect.silent (programWord_strong he hw)
    · have hact : (specFuseProgram env).act (s.heard dt o m q) (unitReq .dev 0 0x32 g [w, v]) =
          { st := (s.heard dt o m q).commitSlot (fld w 0 11) v } := programWord_strong he hw
      exact ⟨congrArg Effect.pay hact, (congrArg Effect.st hact).symm ▸ rfl⟩
  · have hgives := unit_fails_with (instr := .fuseProgram dt (cmdTo 0 g f [w, v]) env) (k := .secure) (dt := dt) (g := g) (f := f)
      (ps := [w, v]) (st := .locked) (pay := []) (e := { s.later dt with fuse := s.fuse.put (fld w 0 11) (s.spoiled) })
      (specFuseProgram env) ht hrun hi ha (fun _ _ _ => meets_of_workable hu)
      (fun o m q => ⟨rfl, fuseProgram_good (env := env) (s := s) rfl h1 h2 h3 _, rfl, hhold, _, programWord_weak he hw,
        leaveSlot_effects (heard_effects o m q)⟩) (by simp)
    obtain ⟨t, hrow, hleaves, hreply⟩ := hgives
    have hf : t.fuse = s.fuse.put (fld w 0 11) s.spoiled := congrArg State.fuse hleaves
    refine ⟨t, hrow, ?_, hreply, ?_, ?_, fun a hne => ?_⟩
    · rw [hf]; exact hleaves
    · rw [hf, put_at_same]; rfl
    · rw [hf, put_at_same]; rfl
    · rw [hf, put_at_other _ _ hne]

end Sys2Proof.Machine

/-! ## Tagged fuse words -/

namespace Sys2Proof.Machine

/-! ### A step word in a slot that is still counted as unused -/

/-- R361: a slot that holds the first anti-rollback step as committed, and is marked blank as well. -/
def markedBlank : FuseWord :=
  { data := tagWord 2 0 1, committed := true, corrected := false, uncorrectable := false, blank := true }

/-- R88: the anti-rollback counter is 1, by a word that is also an unused slot, and the image in force asks for 2. -/
def rollbackDue : State :=
  { State.reset with
    power := { State.reset.power with dev := .active }
    thm := { State.reset.thm with fuseMv := 1800 }
    fuse := { cells := [(0x100, markedBlank)], rollbackStop := false, rollbackWait := false }
    fw := { State.reset.fw with
      image := some ({ version := 0, rollback := 2, advance := true, personalities := [] }, .replicate 12 0) } }

/-- R362: the step is written into the first unused slot, over the step before it, and the counter reads 0. -/
theorem rollbackDue_counter (t : State) (h : exec (.rollbackStep 0 { weak := [], stop := none }) rollbackDue = .next t) :
    rollbackDue.fuse.counter = 1 ∧ t.fuse.counter = 0 := by
  obtain rfl := Host.Outcome.next.inj h
  decide +kernel

/-- Refutes O58: nothing in a state keeps a committed word from being marked blank. Where such a word is the first
anti-rollback step, the second step is written over it, and the counter falls from 1 to 0. -/
theorem not_taggedWordsAreCommitted : ¬ Obligations.TaggedWordsAreCommitted := by
  unfold Obligations.TaggedWordsAreCommitted
  intro h
  obtain ⟨-, hroll⟩ := h rollbackDue 0 0 0 0 [] { weak := [], stop := none } rfl rfl (by decide +kernel) (by decide +kernel)
  obtain ⟨t, hrow, -, -, hless, -⟩ := hroll rfl (by decide +kernel) (by decide +kernel) rfl (by decide +kernel) (by decide +kernel)
    rfl rfl (by decide +kernel)
  obtain ⟨h1, h0⟩ := rollbackDue_counter t hrow
  omega

end Sys2Proof.Machine

/-! ## Secrets: challenges, sessions, the tamper pin, attestation -/

namespace Sys2Proof.Machine

/-! ### Commands with an effect after their reply -/

/-- R46, R231: a command that has an effect after its reply, to one unit: what its row makes of the state. -/
theorem unit_gives_late {instr : Instr} {s : State} {dt : Nat} (sp : CmdSpec) {c : Cls} {i : Nat} {g f : Byte} {ps : List Word}
    {P : State → Prop} (ht : s.takes) (hrun : s.anyRun = true) (hi : i ∈ instances c)
    (hlev : ∀ o m w, (s.heard dt o m w).level sp (unitReq c i sp.op g ps) = none)
    (hu : ∀ o m w, s.meets sp (sp.isl (s.heard dt o m w) (unitReq c i sp.op g ps)))
    (h : ∀ o m w, s.obs.GoesOn o → Served sp (s.heard dt o m w) (unitReq c i sp.op g ps))
    (hP : ∀ o m w, s.obs.GoesOn o → ∃ x pay, sp.after (sp.act (s.heard dt o m w) (unitReq c i sp.op g ps)).st [i] = x ∧
      (sp.act (s.heard dt o m w) (unitReq c i sp.op g ps)).pay = pay ∧
      P (finish (sp.late (x.answered c (cmdTo i g f ps) pay) { unitReq c i sp.op g ps with all := [] })))
    (hlate : ∀ t r, (sp.late t r).port = t.port)
    (hrow : exec instr s = .next (hostRow dt sp c (cmdTo i g f ps) s) := by rfl)
    (hav : sp.avail = availRun := by rfl)
    (hacc : sp.accepts c i = true := by rfl)
    (hop : (BitVec.ofNat 8 sp.op).toNat = sp.op := by rfl) (hg : sp.groupCmd = false := by rfl)
    (hisl : ∀ b : State, sp.isl b { unitReq c i sp.op g ps with all := [] } = sp.isl b (unitReq c i sp.op g ps) := by
      intros; rfl) : Gives instr s P := by
  obtain ⟨o, m, hb, hkeep⟩ := taken_heard ht dt { op := BitVec.ofNat 8 sp.op, cls := c, cmd := cmdTo i g f ps }
  have hsmall := instances_small hi
  have hinst := cmdTo_inst (g := g) (f := f) (ps := ps) hsmall
  have hreq : Packet.req { op := BitVec.ofNat 8 sp.op, cls := c, cmd := cmdTo i g f ps } = { unitReq c i sp.op g ps with all := [] } := by
    rw [req_cmdTo (by omega), hop]
  have hone : Packet.reqOne { op := BitVec.ofNat 8 sp.op, cls := c, cmd := cmdTo i g f ps } = unitReq c i sp.op g ps := by
    rw [reqOne_cmdTo (by omega), hop]
  obtain ⟨hcount, hbad, hbusy, hcond, hst, hsil⟩ := h o m [.good { op := BitVec.ofNat 8 sp.op, cls := c, cmd := cmdTo i g f ps }] hkeep
  obtain ⟨x, pay, hx, hpay, hp⟩ := hP o m [.good { op := BitVec.ofNat 8 sp.op, cls := c, cmd := cmdTo i g f ps }] hkeep
  have hrun := perform_passes (takes_passes (dt := dt) ht rfl (by rw [hinst]; simpa using hi) (by rw [hinst]; exact hsmall) rfl
    (.inl (anyRun_dev hrun)) (by rw [hb, hav]; exact if_pos hrun) hg (by rw [hinst]; exact hacc)
    (by rw [hreq, hone]; exact hisl _) (by rw [hb, hone]; exact hu _ _ _) (by rw [hb, hone]; exact hlev _ _ _)
    (by rw [hb, hone]; exact hcount) (by rw [hb, hone]; exact hbad) (by rw [hb, hone]; exact hbusy)
    (by rw [hb, hone]; exact hcond))
  have hserved := hostRow_served ht dt sp c (cmdTo i g f ps) hrun
  have hsig : (s.taken dt { op := BitVec.ofNat 8 sp.op, cls := c, cmd := cmdTo i g f ps }).signer sp
      { op := BitVec.ofNat 8 sp.op, cls := c, cmd := cmdTo i g f ps } = none := rfl
  dsimp only at hserved
  rw [hsig] at hserved
  simp only [hb, hone, hreq, hinst, hst, hsil, hx, hpay, if_true] at hserved
  have hdel : (s.heard dt o m [.good { op := BitVec.ofNat 8 sp.op, cls := c, cmd := cmdTo i g f ps }]).deliver none
      { op := BitVec.ofNat 8 sp.op, cls := c, cmd := cmdTo i g f ps } { st := x, status := .ok, pay := pay, silent := false } =
      x.answered c (cmdTo i g f ps) pay := by
    simp [State.deliver, State.answered, Packet.target, Status.code]
  rw [hdel, settle_empty (by rw [hlate]; rfl)] at hserved
  exact ⟨_, hrow, hserved ▸ hp⟩


/-- R42: a reply depends on the port and the time alone. -/
theorem Replies.congr {s t u : State} {cmd : Cmd} {c : Cls} {st : Nat} {pay : List Word} (h : Replies s t cmd c st pay)
    (hp : u.port = t.port) (hn : u.now = t.now) : Replies s u cmd c st pay := by
  unfold Replies at h ⊢
  rw [hp, hn]
  exact h

/-- R42: what is replied of a state `y` that follows the answer and leaves port and time. -/
theorem answered_replies {s x y : State} {c : Cls} {i : Nat} {g f : Byte} {ps pay : List Word} {w : List Waiting}
    (hw : s.port.waiting = []) (hx : x.port = { s.port with waiting := w }) (hp : y.port = (x.answered c (cmdTo i g f ps) pay).port)
    (hn : y.now = x.now) : Replies s (finish y) (cmdTo i g f ps) c 0 pay := by
  have he : Effects s x x := effects_iff.2 ⟨x.obs, x.mon, x.stats, x.free, w, by rw [← hx]⟩
  exact (answered_effects hw he).2.congr hp hn

/-! ### Erasure -/

/-- R254: the identity and the keys of the groups in SEALED in `s` are erased in `x`; what else a state is made of stays. -/
structure Erased (s x : State) : Prop where
  sec   : x.sec = { s.sec with identity := false, zeroised := true, challenge := none, session := x.sec.session }
  keys  : ∀ j : Fin 8, s.grp[j].mode = 3 → x.seals[j].keys = none
  lay   : x.lay = .replicate 8 []
  fuse  : x.fuse = s.fuse
  mem   : x.mem = s.mem
  units : x.units = s.units
  power : x.power = s.power
  now   : x.now = s.now
  port  : x.port = s.port
  queue : s.obs.queue <+: x.obs.queue

section
variable {s x : State}

theorem failClose_port (s : State) (g : Fin 8) (why : Closed) : (s.failClose g why).port = s.port := by
  unfold State.failClose
  exact raiseIf_port ..

theorem failCloseAll_port (s : State) (why : Closed) : (s.failCloseAll why).port = s.port := by
  unfold State.failCloseAll
  refine List.foldlRecOn _ _ (motive := fun t : State => t.port = s.port) rfl fun t ht g _ => ?_
  split
  · exact (failClose_port t g why).trans ht
  · exact ht

theorem zeroise_erased (s : State) : Erased s s.zeroise := by
  let t := s.mapSec fun x => { x with identity := false, zeroised := true, challenge := none }
  obtain ⟨hr, -, hk⟩ := failCloseAll_of t .zeroised
  have hp := failCloseAll_port t .zeroised
  have hx : s.zeroise = { t.failCloseAll .zeroised with lay := .replicate 8 [], srx := .replicate 8 [] } := rfl
  generalize t.failCloseAll .zeroised = u at hr hk hp hx
  rw [hx]
  exact ⟨by dsimp only; rw [hr.sec]; rfl, hk, rfl, hr.fuse, hr.mem, hr.units, hr.power, hr.now, hp, hr.queue⟩

theorem Erased.raise (h : Erased s x) {c : Cls} {i code : Nat} {arg : Word} : Erased s (x.raise c i code arg) :=
  ⟨h.sec, h.keys, h.lay, h.fuse, h.mem, h.units, h.power, h.now, h.port, h.queue.trans (raise_queue ..)⟩

theorem Erased.closeSession (h : Erased s x) (why : Nat) : Erased s (x.closeSession why) := by
  have hq := (closeSession_of x why).1.queue
  refine ⟨?_, h.keys, h.lay, h.fuse, h.mem, h.units, h.power, h.now, h.port, h.queue.trans hq⟩
  change { x.sec with session := none } = _
  rw [h.sec]
  rfl

end

section
variable {s : State}

/-- R229: the challenge that is over goes. -/
theorem challengeExpires_of {c : Challenge} (hc : s.sec.challenge = some c) (ho : c.since + 10000000000 ≤ s.now) :
    s.challengeExpires = { s with sec := { s.sec with challenge := none } } := by
  simp only [State.challengeExpires, hc, State.challengeOver, decide_eq_true ho, if_true]
  rfl

/-- R254: the tamper pin, low for 200 ns or more. -/
theorem tampered_of {width : Nat} (hp : s.power.powered = true) (hd : s.power.dev ≠ .off) (hw : 200 ≤ width) :
    Erased s (s.tampered width) ∧ (s.tampered width).sec.session = none ∧
      Raises s (s.tampered width) .dev 0 0x20 (w32 (min width 2000)) := by
  have hoff : (s.power.dev == .off) = false := by simpa using hd
  have hx : s.tampered width = (s.useFree.zeroise.closeSession 3).raise .dev 0 0x20 (w32 (min width 2000)) := by
    simp only [State.tampered, hp, hoff, decide_eq_true hw, Bool.not_true, Bool.true_or, Bool.or_self, Bool.false_eq_true, if_false]
    rfl
  have he := (zeroise_erased s.useFree).closeSession 3
  rw [hx]
  have hr := he.raise (c := .dev) (i := 0) (code := 0x20) (arg := w32 (min width 2000))
  exact ⟨⟨hr.sec, hr.keys, hr.lay, hr.fuse, hr.mem, hr.units, hr.power, hr.now, hr.port, hr.queue⟩, rfl,
    raises_raise _ he.power he.units he.now⟩

/-- R377: SC has paused: more time has passed. -/
theorem afterPause_heard (s : State) (dt : Nat) (o : Obs) (m : Vector Stats 321) (w : List Waiting) :
    ∃ o', (s.heard dt o m w).afterPause = s.heard (dt + s.pauseNs 2 10) o' m w := by
  unfold State.afterPause
  have hpause : (s.heard dt o m w).pauseNs 2 10 = s.pauseNs 2 10 := rfl
  split
  · rw [advance_frame, hpause]
    exact ⟨((s.heard dt o m w).advance (s.pauseNs 2 10)).obs, by simp only [State.heard, Nat.add_assoc]⟩
  next h =>
    have hstage : s.thm.stage = 0 := by
      have h' : ¬ (s.thm.stage != 0) = true := h
      simpa using h'
    have h0 : s.pauseNs 2 10 = 0 := by simp [State.pauseNs, hstage]
    exact ⟨o, by rw [h0, Nat.add_zero]⟩

theorem attest_level {b : State} {r : Req} (h : b.lifecycle ≠ 3) : b.level specAttestGet r = none :=
  level_basic (by decide) rfl rfl rfl (by simpa [specAttestGet] using h)

/-! ### SESSION_CLOSE under its trailer -/

/-- R49: SESSION_CLOSE under a trailer that verified passes every further check. -/
theorem sessionClose_checked {b : State} {r : Req} {cmd : Cmd} (hr : r.cls = .dev ∧ r.inst = 0 ∧ r.params = [] ∧ r.authed = true)
    (hl : b.lifecycle ≠ 3) (hu : b.workable [71]) : b.runChecked specSessionClose r cmd = { st := b, status := .ok } := by
  obtain ⟨c, i, op, tag, ps, authed, all⟩ := r
  obtain ⟨rfl, rfl, rfl, rfl⟩ : c = .dev ∧ i = 0 ∧ ps = [] ∧ authed = true := hr
  let q : Req := { cls := .dev, inst := 0, op := op, tag := tag, params := [], authed := true, all := [0] }
  have hlev : b.level specSessionClose q = none := by
    simp [q, State.level, specSessionClose, isSecure, hl]
  have hone : b.lastChecks specSessionClose q = none := by
    obtain ⟨w1, w2, w3, -⟩ := meets_any (meets_of_workable (sp := specSessionClose) hu)
    unfold State.lastChecks State.unitCheck
    simp only [specSessionClose, scIsl] at w1 w2 w3 ⊢
    simp only [w1, w2, w3, Bool.false_eq_true, if_false]
  have hrun : b.runOne specSessionClose q cmd = { st := b, status := .ok } := by
    unfold State.runOne
    rw [hone]
    rfl
  unfold State.runChecked
  change (match b.level specSessionClose q with
    | some f => ({ st := b, status := f.status, pay := f.pay } : Answer)
    | none => b.runOne specSessionClose q cmd) = _
  rw [hlev]
  exact hrun

/-- R56, R57: SESSION_CLOSE under a trailer that verifies executes, once its sequence is consumed. -/
theorem sessionClose_performs {b : State} {p : Packet} {a : Auth} (ha : p.cmd.auth = some a) (hv : b.verifies p a = true)
    (hr : p.cls = .dev ∧ p.cmd.inst.toNat = 0 ∧ p.cmd.params = []) (hrun : b.anyRun = true) (hl : b.lifecycle ≠ 3)
    (hu : b.workable [71]) :
    b.perform specSessionClose p = some { st := (b.consume a).expire (some a), status := .ok } := by
  obtain ⟨hc, hi, hps⟩ := hr
  have hmem : p.cmd.inst.toNat ∈ instances p.cls := by
    rw [hc, hi]
    exact List.mem_singleton.2 rfl
  have hearly : b.early specSessionClose p.req = none := by
    rw [early_avail (anyRun_dev hrun) (by rw [hi]; decide) rfl hmem rfl]
    exact congrArg (Option.map b.devConflict) (if_pos hrun : availRun b p.req = none)
  have hw : b.waits specSessionClose p.req = false := by
    obtain ⟨-, -, -, w4⟩ := meets_any (meets_of_workable (sp := specSessionClose) hu)
    have haims : b.aims specSessionClose p.req = [0] := by
      change ((b.members p.cls p.cmd.inst.toNat).filter _) = _
      rw [members_one (by rw [hi]; decide) hmem, hi]
      rfl
    unfold State.waits
    rw [haims, Bool.and_assoc]
    simp only [List.any_cons, List.any_nil, Bool.or_false, specSessionClose, scIsl] at w4 ⊢
    rw [w4, Bool.and_false]
  have hchecked := sessionClose_checked (b := b.consume a) (r := p.req) (cmd := p.cmd)
    ⟨hc, hi, hps, by simp [Packet.req, ha]⟩ hl hu
  unfold State.perform
  dsimp only
  rw [hearly, ha]
  dsimp only
  rw [hv, hw, hchecked]
  rfl

/-- R57: the last sequence closes the session; before it, the session stands. -/
theorem expire_of (s : State) (a : Auth) :
    ({ (s.expire (some a)).sec with session := none } : Secure) = { s.sec with session := none } ∧
    (a.seq ≠ 0xFFFFFFFF → s.expire (some a) = s) := by
  unfold State.expire
  split
  next a' k ha hk =>
    obtain rfl := Option.some.inj ha
    constructor
    · split <;> rfl
    · exact fun h => if_neg fun h' => h h'.1
  · exact ⟨rfl, fun _ => rfl⟩

theorem closeSession_raises {s : State} {why : Nat} (h : s.inSession = true) :
    Raises s (s.closeSession why) .dev 0 0x23 (w32 why) := by
  have hx : (s.closeSession why).obs = ((s.partyReset 1).raise .dev 0 0x23 (w32 why)).obs := by
    unfold State.closeSession
    rw [if_pos h]
  have hr : Raises s ((s.partyReset 1).raise .dev 0 0x23 (w32 why)) .dev 0 0x23 (w32 why) := raises_raise _ rfl rfl rfl
  unfold Raises at hr ⊢
  rw [hx]
  exact hr

end

/-- R254: what is erased, in the words of the statement. -/
theorem Erased.fields {s x : State} (h : Erased s x) : x.sec.identity = false ∧ x.sec.zeroised = true ∧ x.sec.challenge = none := by
  rw [h.sec]
  exact ⟨rfl, rfl, rfl⟩

/-- R231, R57: SESSION_CLOSE under its trailer, in the state in which it is heard. -/
theorem sessionClose_row {s : State} (dt : Nat) {cmd : Cmd} {a : Auth} {k : Session} (ht : s.takes) (hrun : s.anyRun = true)
    (hu : s.workable [71]) (hl : s.lifecycle ≠ 3) (hk : s.sec.session = some k) (ha : cmd.auth = some a)
    (hr : cmd.inst.toNat = 0 ∧ cmd.params = [])
    (hv : s.verifies { op := 0x25, cls := .dev, cmd := cmd } a = true) :
    (hostRow dt specSessionClose .dev cmd s).sec = { s.sec with session := none } ∧
      (a.seq ≠ 0xFFFFFFFF → Raised s (hostRow dt specSessionClose .dev cmd s) .dev 0 0x23 1) := by
  obtain ⟨o, m, hb, -⟩ := taken_heard ht dt { op := BitVec.ofNat 8 specSessionClose.op, cls := .dev, cmd := cmd }
  have hrow := hostRow_served ht dt specSessionClose .dev cmd (by
    rw [hb]
    exact sessionClose_performs ha hv ⟨rfl, hr.1, hr.2⟩ hrun hl hu)
  dsimp only at hrow
  rw [if_pos rfl, hb] at hrow
  generalize State.signer _ specSessionClose _ = key at hrow
  obtain ⟨hsec, hstay⟩ := expire_of ((s.heard dt o m
    [.good { op := BitVec.ofNat 8 specSessionClose.op, cls := .dev, cmd := cmd }]).consume a) a
  obtain ⟨y, hy⟩ : ∃ y, ((s.heard dt o m
    [.good { op := BitVec.ofNat 8 specSessionClose.op, cls := .dev, cmd := cmd }]).consume a).expire (some a) = y := ⟨_, rfl⟩
  rw [hy] at hrow hsec hstay
  rw [hrow, settle_empty rfl]
  refine ⟨hsec.trans rfl, fun hne => ?_⟩
  obtain rfl := hstay hne
  exact finish_raised (closeSession_raises (by simp [State.inSession, State.deliver, State.consume, hk])) rfl rfl rfl

/-- Settles O60. -/
theorem secretsAreErasedAndAttested : Obligations.SecretsAreErasedAndAttested := by
  intro s dt g f nonce width erased
  have hi : 0 ∈ instances .dev := List.mem_singleton.2 rfl
  refine ⟨fun c hc ho => ?_, fun hp hd hw => ?_, fun ht hrun hu => ⟨fun hl hn hid => ?_, fun ha => ⟨?_, ?_⟩, fun a k hk hl => ?_⟩⟩
  · refine event_gives (·.challengeExpires) fun o _ => ?_
    rw [challengeExpires_of (s := { s.later dt with obs := o }) hc ho]
    exact turns_becomes rfl
  · refine event_gives (·.tampered width) fun o _ => ?_
    obtain ⟨he, hn, hr⟩ := tampered_of (s := { s.later dt with obs := o }) hp hd hw
    obtain ⟨h1, h2, h3⟩ := he.fields
    exact ⟨⟨h1, h2, h3, hn, he.keys, he.lay, he.fuse, he.mem, he.units, he.power⟩, finish_raised hr he.now⟩
  · intro u body
    refine unit_gives_leveled specAttestGet (c := .dev) (i := 0) (g := g) (f := f) (ps := nonce) ht hrun hi
      (fun o m w => attest_level (b := s.heard dt o m w) hl) (fun _ _ _ => meets_of_workable hu)
      (fun o m w _ => ⟨?_, rfl, rfl, if_pos hid, rfl, rfl⟩) (fun o m w _ => ?_)
    · exact decide_eq_true hn
    · obtain ⟨o', hpause⟩ := afterPause_heard s dt o m w
      have hpay : (specAttestGet.act (s.heard dt o m w) (unitReq .dev 0 0x26 g nonce)).pay =
          body ++ fit 852 (Config.identitySign body) := by
        simp only [specAttestGet, hpause]
        rfl
      have hst : (specAttestGet.act (s.heard dt o m w) (unitReq .dev 0 0x26 g nonce)).st =
          s.heard (dt + s.pauseNs 2 10) o' m w := hpause
      rw [show specAttestGet.op = 0x26 from rfl, hpay, hst]
      exact answered_effects ht.2.2.1 rfl
  · refine unit_gives_late specZeroise (c := .dev) (i := 0) (g := g) (f := f) (ps := []) ht hrun hi
      (fun o m w => level_allowed (k := .secure) (s := s) rfl rfl ha trivial rfl rfl) (fun _ _ _ => meets_of_workable hu)
      (fun _ _ _ _ => ⟨rfl, rfl, rfl, rfl, rfl, rfl⟩) (fun o m w _ => ?_) (fun _ _ => rfl)
    have hz := zeroise_erased (s.heard dt o m w)
    obtain ⟨z, hz'⟩ : ∃ z, (s.heard dt o m w).zeroise = z := ⟨_, rfl⟩
    rw [hz'] at hz
    refine ⟨z.raise .dev 0 0x21 0, [], ?_, rfl, ?_⟩
    · rw [← hz']; rfl
    · have he := (hz.raise (c := .dev) (i := 0) (code := 0x21) (arg := 0))
      obtain ⟨h1, h2, h3⟩ := he.fields
      refine ⟨⟨h1, h2, h3, rfl, he.keys, he.lay, he.fuse, he.mem, he.units, he.power⟩, ?_, ?_⟩
      · have hr : Raises (s.heard dt o m w) (z.raise .dev 0 0x21 0) .dev 0 0x21 0 := raises_raise z hz.power hz.units hz.now
        exact finish_raised (hr.mono (closeSession_of ((z.raise .dev 0 0x21 0).answered .dev (cmdTo 0 g f []) []) 3).1.queue) hz.now
      · exact answered_replies (x := z.raise .dev 0 0x21 0) (w := w) ht.2.2.1 hz.port rfl rfl
  · refine unit_gives_late specSessionClose (c := .dev) (i := 0) (g := g) (f := f) (ps := []) ht hrun hi
      (fun o m w => level_allowed (k := .secure) (s := s) rfl rfl ha trivial rfl rfl) (fun _ _ _ => meets_of_workable hu)
      (fun _ _ _ _ => ⟨rfl, rfl, rfl, rfl, rfl, rfl⟩) (fun o m w _ => ⟨_, _, rfl, rfl, ?_⟩) (fun _ _ => rfl)
    exact ⟨rfl, answered_replies (x := s.heard dt o m w) (w := w) ht.2.2.1 rfl rfl rfl⟩
  · intro cmd p hmac hlast
    refine ⟨_, rfl, sessionClose_row dt ht hrun hu hl hk rfl ⟨rfl, rfl⟩ ?_⟩
    simp only [State.verifies, hk, Bool.and_eq_true, decide_eq_true_eq]
    exact ⟨hmac, hlast⟩

end Sys2Proof.Machine

/-! ## Event masks and user groups -/

namespace Sys2Proof.Machine

/-! ### Masks as words -/

theorem wordsNat_append (a b : List Word) : wordsNat (a ++ b) = wordsNat a + 2 ^ (32 * a.length) * wordsNat b := by
  induction a with
  | nil => simp [wordsNat]
  | cons w r ih =>
    rw [List.cons_append, wordsNat, wordsNat, ih, List.length_cons, Nat.mul_add, ← Nat.mul_assoc, ← Nat.pow_add, Nat.add_assoc,
      show 32 + 32 * r.length = 32 * (r.length + 1) by omega]

/-- R61: the words of a number, low word first, form that number. -/
theorem wordsNat_words {n : Nat} (m : BitVec n) (k : Nat) :
    wordsNat ((List.range k).map fun j => m.extractLsb' (32 * j) 32) = m.toNat % 2 ^ (32 * k) := by
  induction k with
  | zero => simp [wordsNat, Nat.mod_one]
  | succ k ih =>
    rw [List.range_succ, List.map_append, wordsNat_append, ih, List.length_map, List.length_range, Nat.mul_succ, Nat.pow_add,
      Nat.mod_mul]
    simp [wordsNat, BitVec.extractLsb'_toNat, Nat.shiftRight_eq_div_pow]

theorem ofNat_words {k : Nat} (m : BitVec (32 * k)) :
    BitVec.ofNat (32 * k) (wordsNat ((List.range k).map fun j => m.extractLsb' (32 * j) 32)) = m := by
  rw [wordsNat_words]
  apply BitVec.eq_of_toNat_eq
  rw [BitVec.toNat_ofNat, Nat.mod_mod, Nat.mod_eq_of_lt m.isLt]

/-- R337: a unit that is no channel of HOST-S takes the common opcodes without a trailer. -/
theorem common_open {c : Cls} {i op : Nat} {g : Byte} {ps : List Word} (h : c = .mbx → hostSide i = false) (b : State) :
    commonDenied b (unitReq c i op g ps) = false ∧ commonLocked b (unitReq c i op g ps) = false := by
  by_cases hc : c = .mbx
  · simp [commonDenied, commonLocked, secretDenied, secretLocked, h hc]
  · simp [commonDenied, commonLocked, hc]

/-! ### Commands to a user group as such -/

section
variable {s : State} {dt : Nat} {sp : CmdSpec} {c : Cls} {cmd : Cmd}

/-- R46, R49: a command without a trailer that answered OK: what its row makes of the state. -/
theorem served_answers {x : State} {pay : List Word} (ht : s.takes) (ha : cmd.auth = none)
    (hp : (s.taken dt { op := BitVec.ofNat 8 sp.op, cls := c, cmd := cmd }).perform sp
      { op := BitVec.ofNat 8 sp.op, cls := c, cmd := cmd } = some { st := x, status := .ok, pay := pay })
    (hlate : sp.late = fun t _ => t) : hostRow dt sp c cmd s = finish (x.answered c cmd pay) := by
  have hrow := hostRow_served ht dt sp c cmd hp
  dsimp only at hrow
  rw [if_pos rfl, hlate] at hrow
  have hsig : (s.taken dt { op := BitVec.ofNat 8 sp.op, cls := c, cmd := cmd }).signer sp
      { op := BitVec.ofNat 8 sp.op, cls := c, cmd := cmd } = none := by simp [State.signer, ha]
  have hdel : (s.taken dt { op := BitVec.ofNat 8 sp.op, cls := c, cmd := cmd }).deliver none
      { op := BitVec.ofNat 8 sp.op, cls := c, cmd := cmd } { st := x, status := .ok, pay := pay } = x.answered c cmd pay := by
    rw [taken_frame ht]
    simp [State.deliver, State.answered, Packet.target, Status.code]
  rw [hsig, hdel, settle_empty rfl] at hrow
  exact hrow

/-- R50, R61: a command to a user group as such, in a state `b`, that passes every check. -/
theorem perform_group {b : State} {p : Packet} (hg : sp.groupCmd = true) (ha : p.cmd.auth = none)
    (hd : b.power.dev ≠ .shutdown) (ht : groupTarget p.cls p.cmd.inst.toNat = true) (hav : sp.avail b p.req = none)
    (hlev : b.level sp p.reqOne = none) (hcount : sp.count b p.reqOne = true) (hbad : sp.bad b p.reqOne = none)
    (hisl : sp.isl = fun _ _ => []) (hbusy : sp.busy b p.reqOne = none) (hcond : sp.cond b p.reqOne = none)
    (hst : (sp.act b p.reqOne).status = .ok) (hsil : (sp.act b p.reqOne).silent = false) :
    b.perform sp p = some { st := sp.after (sp.act b p.reqOne).st [p.cmd.inst.toNat], status := .ok, pay := (sp.act b p.reqOne).pay } := by
  have haims : b.aims sp p.req = [p.cmd.inst.toNat] := if_pos hg
  have hearly : b.early sp p.req = none := by
    have ht' : groupTarget p.req.cls p.req.inst = true := ht
    unfold State.early
    rw [if_neg fun h => hd h.1]
    simp only [hg, ht', hav, Bool.and_self, Bool.not_true, Bool.false_and, Bool.and_false, Bool.false_eq_true, and_false, if_false]
  have hwait : b.waits sp p.req = false := by
    unfold State.waits
    rw [haims, hisl]
    exact Bool.and_false _
  have hlast : b.lastChecks sp p.reqOne = none := by
    unfold State.lastChecks State.unitCheck
    simp only [hisl, List.any_nil, Bool.and_false, Bool.false_eq_true, if_false, hbusy, hcond]
  have hshape : b.shape sp p.reqOne [p.cmd.inst.toNat] = none := by
    have hone : ({ p.reqOne with inst := p.cmd.inst.toNat } : Req) = p.reqOne := rfl
    simp [State.shape, hcount, hone, hbad]
  have hrun : b.runOne sp p.reqOne p.cmd =
      { st := sp.after (sp.act b p.reqOne).st [p.cmd.inst.toNat], status := .ok, pay := (sp.act b p.reqOne).pay } := by
    unfold State.runOne
    rw [hlast]
    simp only [hst, hsil, if_true]
    rfl
  unfold State.perform
  dsimp only
  rw [hearly, ha]
  dsimp only
  rw [hwait]
  unfold State.runChecked
  rw [haims]
  change some (match b.level sp p.reqOne with
    | some f => ({ st := b, status := f.status, pay := f.pay } : Answer)
    | none => match b.shape sp p.reqOne [p.cmd.inst.toNat] with
      | some f => { st := b, status := f.status, pay := f.pay }
      | none => if manyTarget p.cmd.inst.toNat && !sp.groupCmd then b.runMany sp p.reqOne else b.runOne sp p.reqOne p.cmd) = _
  rw [hlev]
  dsimp only
  rw [hshape]
  dsimp only
  rw [hg, hrun, Bool.not_true, Bool.and_false]
  rfl

end

theorem groupTarget_of {c : Cls} (h : hasGroups c = true) (k : Fin 16) : groupTarget c (0x800 + k.val) = true := by
  have := k.isLt
  simp [groupTarget, h]
  omega

/-- R50, R61: a command to a user group as such, run to what it leaves. -/
theorem group_gives {instr : Instr} {s : State} {dt : Nat} {c : Cls} {g f : Byte} {ps : List Word} {P : State → Prop} (sp : CmdSpec)
    (ht : s.takes) (hrun : s.anyRun = true) (hc : hasGroups c = true) (k : Fin 16)
    (h : ∀ o m w, Served sp (s.heard dt o m w) (unitReq c (0x800 + k.val) sp.op g ps))
    (hP : ∀ o m w, ∃ x pay, sp.after (sp.act (s.heard dt o m w) (unitReq c (0x800 + k.val) sp.op g ps)).st [0x800 + k.val] = x ∧
      (sp.act (s.heard dt o m w) (unitReq c (0x800 + k.val) sp.op g ps)).pay = pay ∧
      P (finish (x.answered c (cmdTo (0x800 + k.val) g f ps) pay)))
    (hrow : exec instr s = .next (hostRow dt sp c (cmdTo (0x800 + k.val) g f ps) s) := by rfl)
    (hg : sp.groupCmd = true := by rfl) (hav : sp.avail = availRun := by rfl)
    (hk : sp.hasLevel .basic := by simp only [CmdSpec.hasLevel] <;> constructorm* _ ∧ _ <;> rfl)
    (hd : ∀ b : State, sp.denied b (unitReq c (0x800 + k.val) sp.op g ps) = false := by intros; rfl)
    (hl : ∀ b : State, sp.locked b (unitReq c (0x800 + k.val) sp.op g ps) = false := by intros; rfl)
    (hop : (BitVec.ofNat 8 sp.op).toNat = sp.op := by rfl) (hisl : sp.isl = fun _ _ => [] := by rfl)
    (hlate : sp.late = fun t _ => t := by rfl) : Gives instr s P := by
  obtain ⟨o, m, hb, -⟩ := taken_heard ht dt
    { op := BitVec.ofNat 8 sp.op, cls := c, cmd := cmdTo (0x800 + k.val) g f ps }
  have hk' := k.isLt
  have hinst : (cmdTo (0x800 + k.val) g f ps).inst.toNat = 0x800 + k.val := by
    simp only [cmdTo, BitVec.toNat_ofNat]
    omega
  have hone : Packet.reqOne { op := BitVec.ofNat 8 sp.op, cls := c, cmd := cmdTo (0x800 + k.val) g f ps } =
      unitReq c (0x800 + k.val) sp.op g ps := by
    rw [reqOne_cmdTo (by omega), hop]
  obtain ⟨hcount, hbad, hbusy, hcond, hst, hsil⟩ :=
    h o m [.good { op := BitVec.ofNat 8 sp.op, cls := c, cmd := cmdTo (0x800 + k.val) g f ps }]
  obtain ⟨x, pay, hx, hpay, hp⟩ :=
    hP o m [.good { op := BitVec.ofNat 8 sp.op, cls := c, cmd := cmdTo (0x800 + k.val) g f ps }]
  rw [← hone, ← hb] at hcount hbad hbusy hcond hst hsil hx hpay
  have hrun' := perform_group (p := { op := BitVec.ofNat 8 sp.op, cls := c, cmd := cmdTo (0x800 + k.val) g f ps }) hg rfl
    (b := s.taken dt { op := BitVec.ofNat 8 sp.op, cls := c, cmd := cmdTo (0x800 + k.val) g f ps })
    (by rw [hb]; exact anyRun_dev hrun) (by rw [hinst]; exact groupTarget_of hc k) (by rw [hb, hav]; exact if_pos hrun)
    (by rw [hone, hb]; exact level_allowed (k := .basic) (s := s) rfl rfl trivial hk (hd _) (hl _))
    hcount hbad hisl hbusy hcond hst hsil
  rw [hinst, hx, hpay] at hrun'
  exact ⟨_, hrow, served_answers ht rfl hrun' hlate ▸ hp⟩

/-! ### User groups -/

/-- R51: the mask of a class holds the bits of its instances. -/
theorem maskOf_bit (c : Cls) {b : Nat} (hb : b < 128) :
    (maskOf c).getLsbD b = true ↔ ∃ i ∈ instances c, maskBit i = b := by
  have hall (l : List Nat) : ∀ m : BitVec 128, ((l.foldl (fun m i => m ||| (1#128 <<< maskBit i)) m).getLsbD b = true ↔
      m.getLsbD b = true ∨ ∃ i ∈ l, maskBit i = b) := by
    induction l with
    | nil => simp
    | cons i l ih =>
      intro m
      rw [List.foldl_cons, ih, BitVec.getLsbD_or, BitVec.getLsbD_shiftLeft, BitVec.getLsbD_one, Bool.or_eq_true]
      simp only [hb, decide_true, Bool.true_and, Bool.and_eq_true, Bool.not_eq_true', decide_eq_false_iff_not, decide_eq_true_eq,
        List.mem_cons, exists_eq_or_imp]
      rw [show (¬b < maskBit i ∧ 0 < 128 ∧ b - maskBit i = 0) ↔ maskBit i = b by omega, or_assoc]
  simpa [maskOf] using hall (instances c) 0

/-- R61: a mask of instances that exist is no bad parameter. -/
theorem groupBad_none {c : Cls} {op : Nat} {g : Byte} {i : Nat} {m : BitVec 128}
    (h : ∀ b : Fin 128, m.getLsbD b = true → ∃ i ∈ instances c, maskBit i = b.val) (s : State) :
    groupBad s (unitReq c i op g ((List.range 4).map fun j => m.extractLsb' (32 * j) 32)) = none := by
  have hand (j : Nat) : m.extractLsb' (32 * j) 32 &&& (maskOf c).extractLsb' (32 * j) 32 = m.extractLsb' (32 * j) 32 := by
    apply BitVec.eq_of_getLsbD_eq
    intro b hb
    simp only [BitVec.getLsbD_and, BitVec.getLsbD_extractLsb', hb, decide_true, Bool.true_and]
    cases hm : m.getLsbD (32 * j + b) with
    | false => rfl
    | true =>
      have hlt : 32 * j + b < 128 := BitVec.lt_of_getLsbD hm
      rw [(maskOf_bit c hlt).2 (h ⟨32 * j + b, hlt⟩ hm)]
      rfl
  unfold groupBad
  rw [List.find?_eq_none]
  intro j hj
  have hp : (unitReq c i op g ((List.range 4).map fun j => m.extractLsb' (32 * j) 32)).p j = m.extractLsb' (32 * j) 32 := by
    have := List.mem_range.1 hj
    simp [Req.p, this]
  have hw : (maskOf c).toNat / 2 ^ (32 * j) % 2 ^ 32 = ((maskOf c).extractLsb' (32 * j) 32).toNat := by
    rw [BitVec.extractLsb'_toNat, Nat.shiftRight_eq_div_pow]
  rw [hp, hw, ← BitVec.toNat_and, hand]
  simp

section
variable {s : State} {c : Cls} {k : Nat} {m : BitVec 128}

theorem setGroup_mask_same (s : State) (c : Cls) (k : Nat) (m : BitVec 128) : (s.setGroup c k m).groupMask c k = m := by
  have hrest : (s.groups.filter fun g => !(g.1 == c && g.2.1 == k)).find? (fun g => g.1 == c && g.2.1 == k) = none := by
    rw [List.find?_eq_none]
    intro g hg
    have := (List.mem_filter.1 hg).2
    rw [Bool.not_eq_true'] at this
    rw [this]
    exact Bool.false_ne_true
  by_cases h : m = 0
  · simp only [State.setGroup, State.groupMask, if_pos h, hrest]
    exact h.symm
  · simp only [State.setGroup, State.groupMask, if_neg h, List.find?_append, hrest]
    simp

theorem setGroup_mask_other (s : State) (m : BitVec 128) {c c' : Cls} {k k' : Nat} (h : (c', k') ≠ (c, k)) :
    (s.setGroup c k m).groupMask c' k' = s.groupMask c' k' := by
  have hrest : (s.groups.filter fun g => !(g.1 == c && g.2.1 == k)).find? (fun g => g.1 == c' && g.2.1 == k') =
      s.groups.find? (fun g => g.1 == c' && g.2.1 == k') := by
    rw [List.find?_filter]
    congr 1
    funext g
    rw [Bool.eq_iff_iff]
    simp only [Bool.and_eq_true, Bool.not_eq_true', Bool.and_eq_false_iff, beq_iff_eq, beq_eq_false_iff_ne, decide_eq_true_eq]
    refine ⟨And.right, fun hg => ⟨?_, hg⟩⟩
    rw [hg.1, hg.2, ← not_and_or]
    exact fun hck => h (Prod.ext hck.1 hck.2)
  have hnew : (c == c' && k == k') = false := by
    rw [Bool.and_eq_false_iff, beq_eq_false_iff_ne, beq_eq_false_iff_ne]
    by_contra hcon
    push Not at hcon
    exact h (Prod.ext hcon.1.symm hcon.2.symm)
  by_cases hm : m = 0
  · simp only [State.setGroup, State.groupMask, if_pos hm, hrest]
  · simp only [State.setGroup, State.groupMask, if_neg hm, List.find?_append, hrest]
    rw [List.find?_cons_of_neg (by simpa using hnew), List.find?_nil, Option.or_none]

end

/-- R61: the four words of a mask. -/
theorem groupWords (m : BitVec 128) : lohi m.toNat ++ lohi (m.toNat / 2 ^ 64) = (List.range 4).map fun j => m.extractLsb' (32 * j) 32 := by
  have hword (j : Nat) : m.extractLsb' (32 * j) 32 = w32 (m.toNat / 2 ^ (32 * j)) := by
    apply BitVec.eq_of_toNat_eq
    rw [BitVec.extractLsb'_toNat, Nat.shiftRight_eq_div_pow]
    exact (BitVec.toNat_ofNat ..).symm
  simp only [hword, lohi, Nat.div_div_eq_div_mul]
  simp [List.range_succ]

/-- Settles O14. -/
theorem masksAndUserGroupsAreSet : Obligations.MasksAndUserGroupsAreSet := by
  intro s dt c g f ht hrun
  refine ⟨fun i m hi hh hopen => ?_, fun k m hc => ?_⟩
  · have hmask := ofNat_words (k := 8) m
    refine unit_does specEventMaskSet (k := .basic) ht hrun hi trivial (fun _ _ _ => meets_of_nil)
      (fun _ _ _ _ => ⟨rfl, rfl, rfl, rfl, rfl, rfl⟩) (fun o m' v _ => ⟨rfl, ?_⟩) (hd := fun b => (common_open hh b).1)
      (hl := fun b => (common_open hh b).2) (hacc := hopen)
    simp only [specEventMaskSet, change]
    rw [hmask]
    exact rfl
  · have hi : 0x800 + k.val - 0x800 = k.val := by omega
    have hmask := ofNat_words (k := 4) m
    refine ⟨fun hm => ?_, ?_⟩
    · refine group_gives specGroupDefine ht hrun hc k (fun o m v => ⟨rfl, groupBad_none hm (s.heard dt o m v), rfl, rfl, rfl, rfl⟩) (fun o m' v => ?_)
      have hact : (specGroupDefine.act (s.heard dt o m' v) (unitReq c (0x800 + k.val) 0x0E g
          ((List.range 4).map fun j => m.extractLsb' (32 * j) 32))).st = (s.heard dt o m' v).setGroup c k m := by
        simp only [specGroupDefine, change]
        rw [hi, hmask]
      refine ⟨_, [], hact, rfl, ?_⟩
      obtain ⟨hleaves, hreplies⟩ := answered_effects (s := s) (c := c) (i := 0x800 + k.val) (g := g) (f := f)
        (ps := (List.range 4).map fun j => m.extractLsb' (32 * j) 32) (pay := []) (e := (s.later dt).setGroup c k m)
        (x := (s.heard dt o m' v).setGroup c k m) ht.2.2.1 rfl
      exact ⟨hleaves, hreplies, setGroup_mask_same s c k m,
        fun c' k' hne => setGroup_mask_other s m fun h => hne (Prod.ext (congrArg (·.1) h) (Fin.ext (congrArg (·.2) h)))⟩
    · refine group_gives specGroupGet ht hrun hc k (fun o m v => ⟨rfl, rfl, rfl, rfl, rfl, rfl⟩) (fun o m' v => ?_)
      refine ⟨s.heard dt o m' v, _, rfl, ?_, answered_effects (e := s.later dt) (x := s.heard dt o m' v) ht.2.2.1 rfl⟩
      simp only [specGroupGet, answer]
      rw [hi]
      exact (groupWords _)

end Sys2Proof.Machine

/-! ## Counters read and cleared -/

namespace Sys2Proof.Machine

section
variable {s : State} {c : Cls} {i : Nat}

/-- R322, R324: clearing a unit's counters touches MC's records and the counting hardware alone. -/
theorem countersZero_effects {e b : State} (h : Effects s e b) : Effects s e (b.countersZero c i) := by
  unfold State.countersZero
  cases c
  case perf => exact h.withObs
  case dev | htx => exact (h.withStats (k := upd b.stats _ _)).withObs
  all_goals exact h.withStats

theorem countersZero_now (b : State) : (b.countersZero c i).now = b.now := by
  cases c <;> rfl

theorem countersZero_stats (b : State) (h : c ≠ .perf) :
    (b.countersZero c i).stats[uix c i] = { vals := .replicate 9 0, start := b.now } := by
  have hclear : (b.clearStats c i).stats[uix c i] = { vals := .replicate 9 0, start := b.now } := upd_at _ _ _
  cases c
  case perf => exact absurd rfl h
  all_goals exact hclear

theorem countersZero_dev (b : State) : (b.countersZero .dev i).obs.queued = 0 := rfl

theorem countersZero_htx (b : State) (n : Fin 16) : (b.countersZero .htx n).obs.lf[n].episodes = 0 := by
  change (upd b.obs.lf (hostLane n) _)[n].episodes = 0
  rw [hostLane_val, upd_at]

theorem countersZero_perf (b : State) (n : Fin 64) :
    (b.countersZero .perf n).obs.perf[n] = { b.obs.perf[n] with val := 0, sat := false, wrap := false } := by
  have hn : perfCtr n = n := Fin.ofNat_val_eq_self n
  change (upd b.obs.perf (perfCtr n) _)[n] = _
  rw [hn, upd_at]

/-- R390: what check 13 asks of the islands of a counter command. -/
theorem counter_meets {sp : CmdSpec} {b : State} {r : Req} (hisl : sp.isl = counterIsl) (hoff : sp.off = !neverOff c)
    (hr : r.cls = c ∧ r.inst = i)
    (h : c = .thm ∨ (s.sound (unitIslands c i) ∧ (c ≠ .ltx → ∀ k ∈ unitIslands c i, s.islandOn k = true))) :
    s.meets sp (sp.isl b r) := by
  have hl : sp.isl b r = if c = .thm then [] else unitIslands c i := by rw [hisl, ← hr.1, ← hr.2]; rfl
  rw [hl]
  split
  · exact meets_of_nil
  next hthm =>
    obtain ⟨hsound, hon⟩ := h.resolve_left hthm
    refine fun j hj => ⟨fun ho => hon (fun hltx => ?_) j hj, fun _ => ⟨(hsound j hj).1, (hsound j hj).2.1⟩,
      fun _ => (hsound j hj).2.2⟩
    rw [hoff, hltx] at ho
    exact absurd ho (by decide)

end

/-- Settles O12. -/
theorem countersAreReadAndCleared : Obligations.CountersAreReadAndCleared := by
  intro s dt c i g f w ht hi hrun ha hh hu zero
  have hzero (o : Obs) (m : Vector Stats 321) (q : List Waiting) (hk : s.obs.GoesOn o) (ps pay : List Word) :
      zero (((s.heard dt o m q).countersZero c i).answered c (cmdTo i g f ps) pay) := by
    refine ⟨fun hc => ?_, fun hc => ?_, fun n hc hn => ?_, fun n hc hn => ?_⟩
    · exact (countersZero_stats (s.heard dt o m q) hc).trans (by rw [← countersZero_now (c := c) (i := i)]; rfl)
    · subst hc
      exact countersZero_dev (s.heard dt o m q)
    · subst hc hn
      exact countersZero_htx (s.heard dt o m q) n
    · subst hc hn
      refine (countersZero_perf (s.heard dt o m q) n).trans ?_
      rw [← hk.cfg n, ← hk.code n]
  refine ⟨fun hw => ?_, fun hopen => ?_⟩
  · refine unit_gives_to (specCountersGet c) (k := .counter) (g := g) (f := f) (ps := [w]) ht hrun hi ha
      (fun _ _ _ => counter_meets rfl rfl ⟨rfl, rfl⟩ hu) (fun _ _ _ _ => ⟨rfl, firstBad_one hw, rfl, rfl, rfl, rfl⟩)
      (fun o m q hk => ?_) (hd := fun b => (common_open hh b).1) (hl := fun b => (common_open hh b).2)
    have heff := heard_effects (s := s) (dt := dt) o m q
    refine ⟨if bit w 0 then (s.heard dt o m q).countersZero c i else s.heard dt o m q, (s.heard dt o m q).counterBlock c i, rfl, rfl, ?_⟩
    have hx : Effects s (s.heard dt o m q) (if bit w 0 then (s.heard dt o m q).countersZero c i else s.heard dt o m q) := by
      split
      · exact countersZero_effects heff
      · exact heff
    obtain ⟨hleaves, hreplies⟩ := answered_effects (c := c) (i := i) (g := g) (f := f) (ps := [w])
      (pay := (s.heard dt o m q).counterBlock c i) ht.2.2.1 hx
    exact ⟨hleaves, ⟨_, heard_arrives hk m q, hreplies⟩, fun hb => ⟨_, rfl, by rw [if_pos hb]; exact hzero o m q hk _ _⟩⟩
  · refine unit_gives_to (specCountersClear c) (k := .counter) (g := g) (f := f) (ps := []) ht hrun hi ha
      (fun _ _ _ => counter_meets rfl rfl ⟨rfl, rfl⟩ hu) (fun _ _ _ _ => ⟨rfl, rfl, rfl, rfl, rfl, rfl⟩)
      (fun o m q hk => ?_) (hd := fun b => (common_open hh b).1) (hl := fun b => (common_open hh b).2) (hacc := hopen)
    refine ⟨(s.heard dt o m q).countersZero c i, [], rfl, rfl, ?_⟩
    obtain ⟨hleaves, hreplies⟩ := answered_effects (c := c) (i := i) (g := g) (f := f) (ps := []) (pay := [])
      ht.2.2.1 (countersZero_effects (c := c) (i := i) (heard_effects (s := s) (dt := dt) o m q))
    exact ⟨hleaves, hreplies, _, rfl, hzero o m q hk [] []⟩

end Sys2Proof.Machine

/-! ## Presets -/

namespace Sys2Proof.Machine

section
variable {s b : State} {w : Word} {g : Byte} {i : Nat}

/-- R4: a word whose upper bits are RSVD is its low byte. -/
theorem toNat_of_clear (h : clear w 8 = true) : w.toNat = fld w 0 8 := by
  have hw := w.isLt
  simp only [clear, fld, beq_iff_eq] at h ⊢
  omega

/-- R61: PRESET_APPLY to a unit of a class that is not MBX passes the checks of the level. -/
theorem preset_open (c : Cls) {ps : List Word} (h : c ≠ .mbx) (b : State) :
    (specPresetApply c).denied b (unitReq c i (specPresetApply c).op g ps) = false ∧
      (specPresetApply c).locked b (unitReq c i (specPresetApply c).op g ps) = false :=
  common_open (fun h' => absurd h' h) b

/-- R112: the ID names a profile of the table, or the DEFAULT. -/
theorem profileBad_none {r : Req} (hr : r.p 0 = w) (hw : clear w 8 = true)
    (h : fld w 0 8 = 0xFF ∨ (fld w 0 8 < 4 ∧ fld w 0 8 < b.profiles)) : b.profileBad r = none := by
  refine firstBad_one ?_
  rw [hr, hw]
  simp only [Bool.true_and, Bool.or_eq_true, Bool.and_eq_true, beq_iff_eq, decide_eq_true_eq]
  tauto

/-- R112: the ADMIN states in which a host lane takes a profile. -/
theorem presetHostCond_none {r : Req} (ha : b.admin r.cls r.inst = .down ∨ b.admin r.cls r.inst = .test) (hb : b.board ≠ []) :
    b.presetHostCond r = none := by
  have h1 : adminIn [.down, .test] b r = none := adminIn_pass (by rcases ha with h | h <;> rw [h] <;> rfl)
  have h2 : (b.board != []) = true := by simpa using hb
  unfold State.presetHostCond
  rw [h1, h2]
  rfl

theorem presetChoice_getD (w : Word) (d : Nat) : (presetChoice w).getD d = if fld w 0 8 = 0xFF then d else fld w 0 8 := by
  unfold presetChoice
  split <;> rfl

theorem presetHrx_down {n : Fin 16} (h : s.admin .hrx n = .down) :
    s.presetHrx n w = s.setHrx n fun x => { x with chosen := presetChoice w, kept := none } := by
  unfold State.presetHrx
  rw [hostLane_val]
  dsimp only
  rw [h]
  rfl

/-- R112: a host receiver in TEST that takes a profile acquires with it. -/
theorem presetHrx_test {n : Fin 16} (h : s.admin .hrx n = .test) : ∃ x : Hrx,
    s.presetHrx n w = { s with hrx := upd s.hrx n fun _ => x } ∧ x.chosen = presetChoice w ∧
    x.profile = (if fld w 0 8 = 0xFF then s.defaultProfile n else fld w 0 8) ∧ x.eq = s.seedEq x.profile n ∧ x.timing = false ∧
    x.acqStart = s.now := by
  let p := if fld w 0 8 = 0xFF then s.defaultProfile n else fld w 0 8
  let f : Hrx → Hrx := fun x => { x with chosen := presetChoice w, kept := none, profile := p }
  let u := s.setHrx n f
  let x : Hrx := { (f s.hrx[n]).unlock with inverted := u.startPol n, searched := false, acqStart := s.now, eq := s.seedEq p n }
  have hu : s.presetHrx n w = u.acquireHrx n := by
    unfold State.presetHrx
    rw [hostLane_val]
    dsimp only
    rw [if_pos h, presetChoice_getD]
    simp only [u, State.setHrx, upd_upd]
    rfl
  have hx : u.acquireHrx n = { s with hrx := upd s.hrx n fun _ => x } := by
    change ({ s with hrx := upd (upd s.hrx n f) n _ } : State) = _
    rw [upd_upd]
    rfl
  exact ⟨x, hu.trans hx, rfl, rfl, rfl, rfl, rfl⟩

theorem presetHtx_down {n : Fin 16} (h : s.admin .htx n = .down) :
    s.presetHtx n w = s.setHtx n fun x => { x with chosen := presetChoice w } := by
  unfold State.presetHtx
  rw [hostLane_val]
  dsimp only
  rw [h]
  rfl

theorem presetHtx_test {n : Fin 16} (h : s.admin .htx n = .test) (p : Nat)
    (hp : p = if fld w 0 8 = 0xFF then s.defaultProfile n else fld w 0 8) :
    s.presetHtx n w = s.setHtx n fun x =>
      { x with chosen := presetChoice w, profile := p, fir := Vector.ofFn fun k => s.htxEntry p n k.val } := by
  unfold State.presetHtx
  rw [hostLane_val]
  dsimp only
  rw [if_pos h, presetChoice_getD, ← hp]

end

/-- Settles O13. -/
theorem presetApplyTakesEffect : Obligations.PresetApplyTakesEffect := by
  intro s dt g f w ht hrun hw id
  refine ⟨fun n hu hid hb => ⟨fun ha => ?_, fun ha => ?_⟩, fun n hu hid hb => ⟨fun ha => ?_, fun ha => ?_⟩,
    fun l hu a b hab => ?_, fun l hu hid => ?_, fun i hu hid => ?_⟩
  · exact unit_does (specPresetApply .hrx) (k := .basic) ht hrun (instances_hrx n) trivial (fun _ _ _ => meets_of_sound hu rfl)
      (fun o m v _ => ⟨rfl, profileBad_none rfl hw hid, rfl, presetHostCond_none (.inl ha) hb, rfl, rfl⟩)
      (fun o m v _ => ⟨rfl, by
        simp only [specPresetApply, change, State.presetChange, unitReq_p]
        rw [presetHrx_down (s := s.heard dt o m v) ha]
        rfl⟩)
      (hd := fun b => (preset_open .hrx (by decide) b).1) (hl := fun b => (preset_open .hrx (by decide) b).2)
  · refine unit_gives_to (specPresetApply .hrx) (g := g) (f := f) (ps := [w]) (k := .basic) ht hrun (instances_hrx n) trivial
      (fun _ _ _ => meets_of_sound hu rfl)
      (fun o m v _ => ⟨rfl, profileBad_none rfl hw hid, rfl, presetHostCond_none (.inr ha) hb, rfl, rfl⟩) (fun o m v _ => ?_)
      (hd := fun b => (preset_open .hrx (by decide) b).1) (hl := fun b => (preset_open .hrx (by decide) b).2)
    obtain ⟨x, hx, h1, h2, h3, h4, h5⟩ := presetHrx_test (s := s.heard dt o m v) (w := w) ha
    obtain ⟨hleaves, hreplies⟩ := answered_effects (s := s) (c := .hrx) (i := n) (g := g) (f := f) (ps := [w]) (pay := [])
      (e := { s.later dt with hrx := upd s.hrx n fun _ => x }) ht.2.2.1 (x := (s.heard dt o m v).presetHrx n w) (by rw [hx]; rfl)
    refine ⟨(s.heard dt o m v).presetHrx n w, [], rfl, rfl, ?_⟩
    have hlane : (finish (((s.heard dt o m v).presetHrx n w).answered .hrx (cmdTo n g f [w]) [])).hrx[n] = x := by
      rw [hx]
      exact upd_at ..
    rw [hlane]
    exact ⟨hleaves, h1, h2, h3, h4, h5.trans (congrArg State.now hx).symm, hreplies⟩
  · exact unit_does (specPresetApply .htx) (k := .basic) ht hrun (instances_htx n) trivial (fun _ _ _ => meets_of_sound hu rfl)
      (fun o m v _ => ⟨rfl, profileBad_none rfl hw hid, rfl, presetHostCond_none (.inl ha) hb, rfl, rfl⟩)
      (fun o m v _ => ⟨rfl, by
        simp only [specPresetApply, change, State.presetChange, unitReq_p]
        rw [presetHtx_down (s := s.heard dt o m v) ha]
        rfl⟩)
      (hd := fun b => (preset_open .htx (by decide) b).1) (hl := fun b => (preset_open .htx (by decide) b).2)
  · intro p
    exact unit_does (specPresetApply .htx) (k := .basic) ht hrun (instances_htx n) trivial (fun _ _ _ => meets_of_sound hu rfl)
      (fun o m v _ => ⟨rfl, profileBad_none rfl hw hid, rfl, presetHostCond_none (.inr ha) hb, rfl, rfl⟩)
      (fun o m v _ => ⟨rfl, by
        simp only [specPresetApply, change, State.presetChange, unitReq_p]
        rw [presetHtx_test (s := s.heard dt o m v) ha p rfl]
        rfl⟩)
      (hd := fun b => (preset_open .htx (by decide) b).1) (hl := fun b => (preset_open .htx (by decide) b).2)
  · exact unit_does (specPresetApply .ltx) (k := .basic) ht hrun (instances_ltx l) trivial (fun _ _ _ => meets_of_sound hu rfl)
      (fun o m v _ => ⟨rfl, firstBad_one (by simp only [unitReq_p, hw, id] at hab ⊢; rw [hab]; rfl), rfl, rfl, rfl, rfl⟩)
      (fun o m v _ => ⟨rfl, by
        simp only [specPresetApply, change, State.presetChange, State.presetLtx, lineLane_val, unitReq_p]
        rw [show ltxPreset (fld w 0 8) = some (a, b) from hab]
        simp only [State.ltxChange, stages_iff]
        rfl⟩)
      (hd := fun b => (preset_open .ltx (by decide) b).1) (hl := fun b => (preset_open .ltx (by decide) b).2)
  · exact unit_does (specPresetApply .lrx) (k := .basic) ht hrun (instances_lrx l) trivial (fun _ _ _ => meets_of_sound hu rfl)
      (fun o m v _ => ⟨rfl, firstBad_one (by rw [unitReq_p, toNat_of_clear hw]; exact decide_eq_true hid), rfl, rfl, rfl, rfl⟩)
      (fun o m v _ => ⟨rfl, by
        simp only [specPresetApply, change, State.presetChange, State.presetLrx, lineLane_val]
        rfl⟩)
      (hd := fun b => (preset_open .lrx (by decide) b).1) (hl := fun b => (preset_open .lrx (by decide) b).2)
  · refine unit_gives_to (specPresetApply .mon) (g := g) (f := f) (ps := [w]) (k := .basic) ht hrun (instances_mon i) trivial
      (fun _ _ _ => meets_of_workable hu)
      (fun o m v _ => ⟨rfl, firstBad_one (by rw [unitReq_p, toNat_of_clear hw]; exact decide_eq_true hid), rfl, rfl, rfl, rfl⟩)
      (fun o m v _ => ?_) (hd := fun b => (preset_open .mon (by decide) b).1) (hl := fun b => (preset_open .mon (by decide) b).2)
      (hacc := ?_)
    · have hpre : fld w 0 2 = id := by
        have hlow : fld w 0 8 < 4 := hid
        change fld w 0 2 = fld w 0 8
        unfold fld at hlow ⊢
        omega
      refine ⟨_, [], by simp only [specPresetApply, change, State.presetChange, State.presetMon, monLane_val, unitReq_p, hpre]; rfl,
        rfl, ?_⟩
      exact answered_ends (k := s.mem) (n := { s.mon with taps := upd s.mon.taps i fun p =>
        { p.restart (s.now + dt) with preset := id, gaps := 0 } }) ht.2.2.1
    · have := i.isLt
      simp [specPresetApply, presetAccepts, hostOpen, this]

end Sys2Proof.Machine

/-! ## ADMIN_SET -/

namespace Sys2Proof.Machine

/-! ### What a change of ADMIN does is the same whatever events, counts and packets wait -/

section
variable {s x : State} (h : Alike s x)
include h

theorem Alike.setAdmin (c : Cls) (i : Nat) (a : Admin) : Alike (s.setAdmin c i a) (x.setAdmin c i a) := by
  obtain ⟨o, k, w, rfl⟩ := h.elim; rfl

theorem Alike.setHrx (n : Fin 16) (f : Hrx → Hrx) : Alike (s.setHrx n f) (x.setHrx n f) := by
  obtain ⟨o, k, w, rfl⟩ := h.elim; rfl

theorem Alike.setHtx (n : Fin 16) (f : Htx → Htx) : Alike (s.setHtx n f) (x.setHtx n f) := by
  obtain ⟨o, k, w, rfl⟩ := h.elim; rfl

theorem Alike.setLrx (l : Fin 8) (f : Lrx → Lrx) : Alike (s.setLrx l f) (x.setLrx l f) := by
  obtain ⟨o, k, w, rfl⟩ := h.elim; rfl

theorem Alike.setGrp (g : Fin 8) (f : Grp → Grp) : Alike (s.setGrp g f) (x.setGrp g f) := by
  obtain ⟨o, k, w, rfl⟩ := h.elim; rfl

theorem Alike.setSeal (g : Fin 8) (f : Seal → Seal) : Alike (s.setSeal g f) (x.setSeal g f) := by
  obtain ⟨o, k, w, rfl⟩ := h.elim; rfl

theorem Alike.setTst (i : Fin 24) (f : Tst → Tst) : Alike (s.setTst i f) (x.setTst i f) := by
  obtain ⟨o, k, w, rfl⟩ := h.elim; rfl

theorem Alike.beginStep (k : Nat) : Alike (s.beginStep k) (x.beginStep k) := by
  obtain ⟨o, k, w, rfl⟩ := h.elim; rfl

theorem Alike.units : x.units = s.units := by
  obtain ⟨o, k, w, rfl⟩ := h.elim; rfl

theorem Alike.lrx : x.lrx = s.lrx := by
  obtain ⟨o, k, w, rfl⟩ := h.elim; rfl

theorem Alike.admin (c : Cls) (i : Nat) : x.admin c i = s.admin c i := by
  unfold State.admin State.unit
  rw [h.units]

theorem Alike.isUp (c : Cls) (i : Nat) : x.isUp c i = s.isUp c i := by
  unfold State.isUp
  rw [h.admin]

theorem Alike.acquireHrx (n : Fin 16) : Alike (s.acquireHrx n) (x.acquireHrx n) := by
  obtain ⟨o, k, w, rfl⟩ := h.elim; rfl

theorem Alike.sourceCheck (k : Fin 48) : Alike (s.sourceCheck k) (x.sourceCheck k) := by
  have hf : x.fgRuns = s.fgRuns := by obtain ⟨o, k, w, rfl⟩ := h.elim; rfl
  have hw : x.wantsSource k = s.wantsSource k := by obtain ⟨o, n, w, rfl⟩ := h.elim; rfl
  unfold State.sourceCheck
  dsimp only
  rw [hf, h.cal, hw, h.isUp]
  exact alike_ite h (alike_ite ((h.voidLane k 5).setCal k _) (alike_ite (h.setCal k _) h))

theorem Alike.snapFade (l : Fin 8) (k : Nat) : Alike (s.snapFade l false k) (x.snapFade l false k) := by
  have ho := h.roundOpens
  unfold State.snapFade
  dsimp only
  rw [h.lrx, h.now]
  cases s.lrx[l].fade with
  | none => exact h
  | some f => exact (((ho.setLrx l _).fadeOver l).count .lrx l 7 _).raise ..

theorem Alike.voidRound (l : Fin 8) : Alike (s.voidRound l) (x.voidRound l) := by
  unfold State.voidRound
  rw [h.lrx]
  exact alike_ite ((h.setLrx l _).count ..) h

theorem Alike.relock (l : Fin 8) (warm : Bool) (k : Nat) : Alike (s.relock l warm k) (x.relock l warm k) := by
  have hl := (h.snapFade l k).voidRound l
  unfold State.relock
  rw [h.now]
  exact hl.setLrx l _

theorem Alike.loopChanged (i : Nat) : Alike (s.loopChanged i) (x.loopChanged i) := by
  unfold State.loopChanged
  rw [h.isUp, h.isUp]
  exact alike_ite (alike_ite (h.acquireHrx _) h) (alike_ite (h.relock _ _ _) h)

theorem Alike.loopOn (i : Nat) : x.loopOn i = s.loopOn i := by
  obtain ⟨o, k, w, rfl⟩ := h.elim; rfl

theorem Alike.tstStop (i : Fin 24) : Alike (s.tstStop i) (x.tstStop i) := by
  have hr : x.tstRuns i = s.tstRuns i := by obtain ⟨o, k, w, rfl⟩ := h.elim; rfl
  have ht : x.tst = s.tst := by obtain ⟨o, k, w, rfl⟩ := h.elim; rfl
  have hu (t : Tst) (b : Bool) : x.tstUnits i t b = s.tstUnits i t b := by obtain ⟨o, k, w, rfl⟩ := h.elim; rfl
  have ha : (fun u : Cls × Nat => x.admin u.1 u.2 != .test) = fun u => s.admin u.1 u.2 != .test :=
    funext fun u => by rw [h.admin]
  unfold State.tstStop
  dsimp only
  rw [hr, ht, hu, ha, h.loopOn]
  refine alike_ite h ?_
  split
  · exact h
  · exact (alike_ite (h.setTst i _) ((h.setTst i _).loopChanged _)).raise ..

theorem Alike.tstCheck : Alike s.tstCheck x.tstCheck := foldl_alike (fun _ _ i ht => ht.tstStop i) _ h

theorem Alike.adminHrx (i : Nat) (a : Admin) : Alike (s.adminHrx i a) (x.adminHrx i a) := by
  have hb : x.board = s.board := by obtain ⟨o, k, w, rfl⟩ := h.elim; rfl
  have hx : x.hrx = s.hrx := by obtain ⟨o, k, w, rfl⟩ := h.elim; rfl
  have hd (n : Nat) : x.defaultProfile n = s.defaultProfile n := by unfold State.defaultProfile State.tableWord; rw [hb]
  refine Alike.sourceCheck ?_ _
  unfold State.adminHrxLane
  dsimp only
  rw [h.admin, hx, hd]
  have hs : State.sdThresh ((x.setAdmin .hrx (hostLane i) a).setHrx (hostLane i) fun v =>
      { v with profile := v.chosen.getD (s.defaultProfile (hostLane i)) }) (hostLane i) =
      State.sdThresh ((s.setAdmin .hrx (hostLane i) a).setHrx (hostLane i) fun v =>
      { v with profile := v.chosen.getD (s.defaultProfile (hostLane i)) }) (hostLane i) := by
    obtain ⟨o, k, w, rfl⟩ := h.elim; rfl
  rw [hs]
  have ha := h.setAdmin .hrx (hostLane i) a
  exact alike_ite (ha.setHrx _ _) (alike_ite (((ha.setHrx _ _).acquireHrx _).raiseIf ..) (ha.setHrx _ _))

theorem Alike.adminHtx (i : Nat) (a : Admin) : Alike (s.adminHtx i a) (x.adminHtx i a) := by
  have hadm := h.admin .htx (hostLane i)
  have ha := h.setAdmin .htx (hostLane i) a
  have hup : Alike ((s.setAdmin .htx (hostLane i) a).setHtx (hostLane i) fun v =>
      let p := v.chosen.getD (s.defaultProfile (hostLane i))
      { v with profile := p, fir := Vector.ofFn fun k => s.htxEntry p (hostLane i) k.val, recovered := s.groupFreq (hostLane i) })
      ((x.setAdmin .htx (hostLane i) a).setHtx (hostLane i) fun v =>
      let p := v.chosen.getD (x.defaultProfile (hostLane i))
      { v with profile := p, fir := Vector.ofFn fun k => x.htxEntry p (hostLane i) k.val, recovered := x.groupFreq (hostLane i) }) := by
    obtain ⟨o, k, w, rfl⟩ := h.elim; rfl
  unfold State.adminHtx
  dsimp only
  rw [hadm]
  exact alike_ite (ha.setHtx _ _) (alike_ite hup ha)

theorem Alike.adminLrx (i : Nat) (a : Admin) : Alike (s.adminLrx i a) (x.adminLrx i a) := by
  refine Alike.sourceCheck ?_ _
  have ha := h.setAdmin .lrx (lineLane i) a
  have hc : x.lrx[lineLane i] = s.lrx[lineLane i] := by rw [h.lrx]
  unfold State.adminLrxLane
  dsimp only
  rw [h.admin, h.now, hc]
  exact alike_ite ((ha.setLrx _ _).fadeOver _) (alike_ite ((ha.setLrx _ _).raiseIf ..) (ha.setLrx _ _))

theorem Alike.failClose (g : Fin 8) (why : Closed) : Alike (s.failClose g why) (x.failClose g why) := by
  obtain ⟨o, k, w, rfl⟩ := h.elim
  unfold State.failClose
  extract_lets b r t b' r' t'
  exact Alike.raiseIf (s := t) (x := t') rfl b .seal g 0x1B _

theorem Alike.grp : x.grp = s.grp := by
  obtain ⟨o, k, w, rfl⟩ := h.elim; rfl

theorem Alike.sec : x.sec = s.sec := by
  obtain ⟨o, k, w, rfl⟩ := h.elim; rfl

theorem Alike.adminGrp (i : Nat) (a : Admin) : Alike (s.adminGrp i a) (x.adminGrp i a) := by
  have ha := h.setAdmin .grp (lineLane i) a
  have hu := ha.setGrp (lineLane i) fun p => { p with running := false, sent := [], slot := 0, txIdle := true, ingress := [] }
  unfold State.adminGrp
  dsimp only
  rw [h.sec]
  generalize (State.setGrp (s.setAdmin .grp (lineLane i) a) (lineLane i) _) = u at hu ⊢
  generalize (State.setGrp (x.setAdmin .grp (lineLane i) a) (lineLane i) _) = v at hu ⊢
  rw [hu.grp]
  exact alike_ite (alike_ite (hu.failClose _ _) hu).ltxSettle ha

theorem Alike.adminSeal (i : Nat) (a : Admin) : Alike (s.adminSeal i a) (x.adminSeal i a) := by
  have hu := (h.setAdmin .seal (lineLane i) a).setSeal (lineLane i) fun c => { c with corrupt := if a = .test then c.corrupt else 0 }
  have hs : x.seals = s.seals := by obtain ⟨o, k, w, rfl⟩ := h.elim; rfl
  unfold State.adminSeal
  dsimp only
  rw [h.sec, h.grp, hs]
  exact alike_ite (hu.failClose _ _) hu

theorem Alike.adminCal (a : Admin) : Alike (s.adminCal a) (x.adminCal a) := by
  have ho := h.roundOpens
  unfold State.adminCal
  generalize s.roundOpens = u at *
  generalize x.roundOpens = v at *
  have ht := ho.setAdmin .cal 0 a
  dsimp only
  rw [ho.admin, ho.calRuns, ho.cal, ht.cal]
  exact alike_ite (ht.putCal _).roundsResume (alike_ite (ht.putCal _) ht.roundsStop)

theorem Alike.adminMon (i : Nat) (a : Admin) : Alike (s.adminMon i a) (x.adminMon i a) :=
  alike_ite ((h.setAdmin .mon i a).captureAbort _ _) (h.setAdmin .mon i a)

theorem Alike.adminTst (i : Nat) (a : Admin) : Alike (s.adminTst i a) (x.adminTst i a) := by
  have ht := h.setAdmin .tst i a
  unfold State.adminTst
  dsimp only
  rw [h.loopOn, h.admin, h.now]
  have hu := alike_ite (p := a = .down) (ht.setTst (tstPair i) fun x => { x with locked := false, stopped := false, slip := 0 })
    (alike_ite (p := s.admin .tst i = .down)
      (ht.setTst (tstPair i) fun x => { x with locked := false, stopped := false, since := s.now }) ht)
  rw [hu.loopOn]
  exact (alike_ite hu (hu.loopChanged i)).ltxSettle

/-- R64: what a change of ADMIN does. -/
theorem Alike.adminChange (c : Cls) (i : Nat) (a : Admin) : Alike (s.adminChange c i a) (x.adminChange c i a) := by
  cases c with
  | dev => exact alike_ite ((h.setAdmin .dev 0 a).beginStep 7) (h.setAdmin .dev 0 a)
  | hrx => exact (h.adminHrx i a).tstCheck
  | htx => exact (h.adminHtx i a).tstCheck
  | ltx => exact (h.setAdmin .ltx i a).ltxSettle.tstCheck
  | lrx => exact (h.adminLrx i a).tstCheck
  | grp => exact h.adminGrp i a
  | cal => exact h.adminCal a
  | mon => exact h.adminMon i a
  | tst => exact h.adminTst i a
  | fec => exact h.setAdmin .fec i a
  | thm => exact h.setAdmin .thm i a
  | bist => exact h.setAdmin .bist i a
  | perf => exact h.setAdmin .perf i a
  | mbx => exact h.setAdmin .mbx i a
  | mem => exact h.setAdmin .mem i a
  | _ => exact h.adminSeal i a -- the class SEAL, whose constructor bears the name of a command of Lean

end

/-! ### What it leaves -/

section
variable {s x : State}

theorem setHrx_keeps (s : State) (n : Fin 16) (f : Hrx → Hrx) : Keeps s (s.setHrx n f) := ⟨rfl, rfl, rfl, rfl, rfl, rfl, rfl, rfl⟩

theorem setTst_keeps (s : State) (i : Fin 24) (f : Tst → Tst) : Keeps s (s.setTst i f) := ⟨rfl, rfl, rfl, rfl, rfl, rfl, rfl, rfl⟩

theorem setCal_keeps (s : State) (k : Fin 48) (f : CalLane → CalLane) : Keeps s (s.setCal k f) :=
  ⟨rfl, rfl, rfl, rfl, rfl, rfl, rfl, rfl⟩

theorem setLrx_keeps (s : State) (l : Fin 8) (f : Lrx → Lrx) : Keeps s (s.setLrx l f) := ⟨rfl, rfl, rfl, rfl, rfl, rfl, rfl, rfl⟩

theorem setGrp_keeps (s : State) (g : Fin 8) (f : Grp → Grp) : Keeps s (s.setGrp g f) := ⟨rfl, rfl, rfl, rfl, rfl, rfl, rfl, rfl⟩

theorem setSeal_keeps (s : State) (g : Fin 8) (f : Seal → Seal) : Keeps s (s.setSeal g f) := ⟨rfl, rfl, rfl, rfl, rfl, rfl, rfl, rfl⟩

theorem ltxSettle_keeps (s : State) : Keeps s s.ltxSettle := ⟨rfl, rfl, rfl, rfl, rfl, rfl, rfl, rfl⟩

theorem keeps_ite {p : Prop} [Decidable p] {y : State} (h : Keeps s x) (h' : Keeps s y) : Keeps s (if p then x else y) := by
  split
  · exact h
  · exact h'

theorem sourceCheck_keeps (s : State) (k : Fin 48) : Keeps s (s.sourceCheck k) :=
  keeps_ite (keeps_refl s) (keeps_ite ((voidLane_moves s k 5).keeps.trans (setCal_keeps _ k _))
    (keeps_ite (setCal_keeps s k _) (keeps_refl s)))

theorem loopChanged_keeps (s : State) (i : Nat) : Keeps s (s.loopChanged i) :=
  keeps_ite (keeps_ite (setHrx_keeps s _ _) (keeps_refl s)) (keeps_ite (relock_moves (s := s) (l := lineLane (i - 16)) true 1).keeps (keeps_refl s))

theorem tstStop_keeps (s : State) (i : Fin 24) : Keeps s (s.tstStop i) := by
  unfold State.tstStop
  dsimp only
  refine keeps_ite (keeps_refl s) ?_
  split
  · exact keeps_refl s
  · exact (keeps_ite (setTst_keeps s i _) ((setTst_keeps s i _).trans (loopChanged_keeps _ i))).trans (raise_tells ..).keeps

theorem tstCheck_keeps (s : State) : Keeps s s.tstCheck := foldl_keeps tstStop_keeps _ s

theorem failClose_keeps (s : State) (g : Fin 8) (why : Closed) : Keeps s (s.failClose g why) := by
  unfold State.failClose
  extract_lets b r t
  exact Keeps.trans (x := t) ⟨rfl, rfl, rfl, rfl, rfl, rfl, rfl, rfl⟩ (raiseIf_tells ..).keeps

theorem hostLane_of_lt {i : Nat} (h : i < 16) : (hostLane i).val = i := Nat.mod_eq_of_lt h

theorem lineLane_of_lt {i : Nat} (h : i < 8) : (lineLane i).val = i := Nat.mod_eq_of_lt h

/-- R64: beyond ADMIN of the unit itself, a change keeps every unit, the port, power and time. -/
theorem adminChange_keeps {c : Cls} {i : Nat} (hi : i ∈ instances c) (s : State) (a : Admin) :
    Keeps (s.setAdmin c i a) (s.adminChange c i a) := by
  cases c with
  | dev =>
    obtain rfl := List.mem_singleton.1 hi
    exact keeps_ite ⟨rfl, rfl, rfl, rfl, rfl, rfl, rfl, rfl⟩ (keeps_refl _)
  | hrx =>
    have hl := hostLane_of_lt (List.mem_range.1 hi)
    refine .trans ?_ (tstCheck_keeps _)
    refine .trans ?_ (sourceCheck_keeps _ _)
    unfold State.adminHrxLane
    dsimp only
    rw [hl]
    refine keeps_ite (setHrx_keeps _ _ _) (keeps_ite (.trans ?_ (raiseIf_tells ..).keeps) (setHrx_keeps _ _ _))
    exact (setHrx_keeps _ _ _).trans (setHrx_keeps _ _ _)
  | htx =>
    have hl := hostLane_of_lt (List.mem_range.1 hi)
    refine .trans ?_ (tstCheck_keeps _)
    unfold State.adminHtx
    dsimp only
    rw [hl]
    exact keeps_ite ⟨rfl, rfl, rfl, rfl, rfl, rfl, rfl, rfl⟩ (keeps_ite ⟨rfl, rfl, rfl, rfl, rfl, rfl, rfl, rfl⟩ (keeps_refl _))
  | ltx => exact (ltxSettle_keeps _).trans (tstCheck_keeps _)
  | lrx =>
    have hl := lineLane_of_lt (List.mem_range.1 hi)
    refine .trans ?_ (tstCheck_keeps _)
    refine .trans ?_ (sourceCheck_keeps _ _)
    unfold State.adminLrxLane
    dsimp only
    rw [hl]
    exact keeps_ite ((setLrx_keeps _ _ _).trans (fadeOver_moves _ _).keeps)
      (keeps_ite ((setLrx_keeps _ _ _).trans (raiseIf_tells ..).keeps) (setLrx_keeps _ _ _))
  | grp =>
    have hl := lineLane_of_lt (List.mem_range.1 hi)
    change Keeps _ (s.adminGrp i a)
    unfold State.adminGrp
    dsimp only
    rw [hl]
    refine keeps_ite (.trans ?_ (ltxSettle_keeps _)) (keeps_refl _)
    exact .trans (setGrp_keeps _ _ _) (keeps_ite (failClose_keeps ..) (keeps_refl _))
  | cal =>
    obtain rfl := List.mem_singleton.1 hi
    obtain ⟨k, ho⟩ : ∃ k, s.roundOpens = { s with cal := k } := ⟨_, roundOpens_frame s⟩
    have ht (k : Cal) : Keeps (s.setAdmin .cal 0 a) { s.setAdmin .cal 0 a with cal := k } := ⟨rfl, rfl, rfl, rfl, rfl, rfl, rfl, rfl⟩
    change Keeps _ (s.adminCal a)
    unfold State.adminCal
    rw [ho]
    exact keeps_ite ((ht _).trans (roundsResume_keeps _).1.keeps) (keeps_ite (ht _) (ht _))
  | mon => exact keeps_ite (captureAbort_keeps _ _ _) (keeps_refl _)
  | tst =>
    refine .trans (.trans ?_ (keeps_ite (keeps_refl _) (loopChanged_keeps _ _))) (ltxSettle_keeps _)
    exact keeps_ite (setTst_keeps _ _ _) (keeps_ite (setTst_keeps _ _ _) (keeps_refl _))
  | fec | thm | bist | perf | mbx | mem => exact keeps_refl _
  | _ => -- the class SEAL
    have hl := lineLane_of_lt (List.mem_range.1 hi)
    change Keeps _ (s.adminSeal i a)
    unfold State.adminSeal
    dsimp only
    rw [hl]
    exact .trans (setSeal_keeps _ _ _) (keeps_ite (failClose_keeps ..) (keeps_refl _))

end

section
variable {s : State} {dt : Nat} {c : Cls} {i : Nat} {a : Admin} {g : Byte} {o : Obs} {m : Vector Stats 321} {w : List Waiting}

theorem adminParam_code {r : Req} (h : r.p 0 = w32 a.code) : adminParam r = a := by
  unfold adminParam
  rw [h]
  cases a <;> rfl

/-- R82, R83: the device states that allow the change. -/
theorem availAdmin_none {b : State} {r : Req} (ha : adminParam r = a) (hc : r.cls = c)
    (h : b.power.dev = .active ∨ (b.power.dev = .config ∧ (a = .down ∨ carriesTraffic c = false)) ∨
      (b.power.dev = .sleep ∧ a = .down ∧ c ≠ .dev) ∨ (b.power.dev = .maint ∧ (a = .down ∨ c ≠ .grp))) :
    availAdmin b r = none := by
  unfold availAdmin
  rw [ha, hc]
  rcases h with h | ⟨h, h'⟩ | ⟨h, rfl, h'⟩ | ⟨h, h'⟩
  · simp only [h]
  · simp only [h]
    rcases h' with rfl | h'
    · rfl
    · rw [h', Bool.and_false]; rfl
  · simp only [h]
    simp [h']
  · simp only [h]
    rcases h' with rfl | h'
    · rfl
    · simp [h']

/-- R61: the value is one that the class takes. -/
theorem adminBad_none {b : State} (h : adminTaken c a = true) : adminBad b (unitReq c i 0x02 g [w32 a.code]) = none := by
  refine firstBad_one ?_
  rw [adminParam_code (a := a) rfl, h, unitReq_p]
  cases a <;> decide

theorem admin_meets (hu : a = .down ∨ c = .thm ∨
      (s.sound (unitIslands c i) ∧ (adminPowers c = false → ∀ k ∈ unitIslands c i, s.islandOn k = true))) (b : State) :
    s.meets (specAdminSet c) ((specAdminSet c).isl b (unitReq c i 0x02 g [w32 a.code])) := by
  have hl : (specAdminSet c).isl b (unitReq c i 0x02 g [w32 a.code]) = if a = .down ∨ c = .thm then [] else unitIslands c i := by
    change (if adminParam (unitReq c i 0x02 g [w32 a.code]) = .down ∨ c = .thm then [] else unitIslands c i) = _
    rw [adminParam_code (a := a) rfl]
  rw [hl]
  split
  · exact meets_of_nil
  next hn =>
    obtain ⟨hsound, hon⟩ := (hu.resolve_left fun h => hn (.inl h)).resolve_left fun h => hn (.inr h)
    refine fun j hj => ⟨fun ho => hon ?_ j hj, fun _ => ⟨(hsound j hj).1, (hsound j hj).2.1⟩, fun _ => (hsound j hj).2.2⟩
    simpa [specAdminSet] using ho

theorem tstUpRefused_heard (h : s.tstUpRefused i = none) : (s.heard dt o m w).tstUpRefused i = none := by
  obtain ⟨h1, h2⟩ := Option.or_eq_none_iff.1 h
  refine or_none ?_ (tstBlocked_heard h2 dt o m w)
  unfold State.tstSealed at h1 ⊢
  by_cases hi : i < 16
  · exact if_pos hi
  · rw [if_neg hi] at h1 ⊢
    change (match s.groupOf (i - 16) with
      | some g => require (s.grp[Fin.ofNat 8 g].mode != 3) _
      | none => none) = none
    cases hgr : s.groupOf (i - 16) with
    | none => rfl
    | some g =>
      rw [hgr] at h1
      exact require_of (require_none_iff.1 h1)

/-- R83, R91, R214, R259, R305: check 14 passes. -/
theorem adminCond_none (hcdev : c = .dev → if a = .up then s.power.dev = .config → s.missingStep 7 = none ∧ s.setup.step ≤ 7
      else s.power.dev = .config)
    (hgrp : c = .grp → a ≠ .down → s.gsize i ≠ 0 ∧ s.grp[lineLane i].mode ≠ 0)
    (hseal : c = .seal → a ≠ .down → s.grp[lineLane i].mode = 3) (htst : c = .tst → a = .up → s.tstUpRefused i = none) :
    adminCond (s.heard dt o m w) (unitReq c i 0x02 g [w32 a.code]) = none := by
  unfold adminCond
  dsimp only
  rw [adminParam_code (a := a) rfl]
  cases c with
  | dev =>
    have h := hcdev rfl
    by_cases ha : a = .up
    · rw [if_pos ha] at h
      dsimp only
      rw [if_pos ha]
      by_cases hc : s.power.dev = .config
      · exact stepRefused_inOrder (s := s.heard dt o m w) (h hc).1 (h hc).2
      · exact stepRefused_outside (s := s.heard dt o m w) hc 7
    · rw [if_neg ha] at h
      dsimp only
      rw [if_neg ha, if_pos h]
  | grp =>
    by_cases ha : a = .down
    · exact if_pos ha
    · obtain ⟨h1, h2⟩ := hgrp rfl ha
      exact (if_neg ha).trans ((if_neg h1).trans (require_of (bne_iff_ne.2 h2)))
  | tst =>
    by_cases ha : a = .up
    · exact (if_pos ha).trans (tstUpRefused_heard (htst rfl ha))
    · exact if_neg ha
  | hrx | htx | ltx | lrx | fec | cal | mon | thm | bist | perf | mbx | mem => rfl
  | _ => -- the class SEAL
    by_cases ha : a = .down
    · exact if_pos ha
    · exact (if_neg ha).trans (require_of (beq_iff_eq.2 (hseal rfl ha)))

end

/-- Settles O11. -/
theorem adminSetChangesOneUnit : Obligations.AdminSetChangesOneUnit := by
  intro s dt c i a g f ht hi hta hh hopen hdev hu hcdev hgrp hseal htst
  have hd : s.power.dev ≠ .shutdown := by
    rcases hdev with h | ⟨h, -⟩ | ⟨h, -⟩ | ⟨h, -⟩ <;> rw [h] <;> decide
  obtain ⟨o, m, w, -, hrow⟩ := unit_command (dt := dt) (sp := specAdminSet c) (c := c) (i := i) (g := g) (f := f) (ps := [w32 a.code]) ht (.inl hd) hi
    (fun o m w => level_allowed (k := .basic) (s := s) rfl rfl trivial ⟨rfl, rfl, rfl⟩ (common_open hh _).1 (common_open hh _).2)
    (fun o m w => admin_meets hu _) (fun o m w _ => ⟨rfl, adminBad_none (b := s.heard dt o m w) hta, rfl, adminCond_none hcdev hgrp hseal htst, rfl, rfl⟩)
    (fun o m w _ => availAdmin_none (a := a) (c := c) (adminParam_code rfl) rfl hdev) hopen
  refine ⟨_, rfl, ?_⟩
  rw [hrow]
  have hx : ((specAdminSet c).act (s.heard dt o m w) (unitReq c i 0x02 g [w32 a.code])).st = (s.heard dt o m w).adminChange c i a := by
    change (s.heard dt o m w).adminChange c i (adminParam _) = _
    rw [adminParam_code (a := a) rfl]
  have hk := adminChange_keeps hi (s.later dt) a
  have hlike : Alike (s.later dt) (s.heard dt o m w) := rfl
  obtain ⟨o', m', w', hx'⟩ := (hlike.adminChange c i a).elim
  have heff : Effects s ((s.later dt).adminChange c i a) ((specAdminSet c).act (s.heard dt o m w) (unitReq c i 0x02 g [w32 a.code])).st := by
    rw [hx, hx', hk.port]
    rfl
  obtain ⟨hleaves, hreplies⟩ := answered_effects (c := c) (i := i) (g := g) (f := f) (ps := [w32 a.code]) (pay := []) ht.2.2.1 heff
  have hunits := (congrArg State.units hleaves).trans hk.units
  have hunit := (congrArg (fun v : Vector UnitSet 321 => v[uix c i]) hunits).trans (upd_at ..)
  exact ⟨hleaves, hreplies, (congrArg UnitSet.admin hunit).trans rfl, (congrArg UnitSet.mask hunit).trans rfl,
    fun u hu => (congrArg (fun v : Vector UnitSet 321 => v[u]) hunits).trans (upd_get_ne s.units _ (Ne.symm hu))⟩

end Sys2Proof.Machine

/-! ## What is answered from MC's records -/

namespace Sys2Proof.Machine

section
variable {s : State} {dt : Nat} {c : Cls} {i : Nat} {o : Obs} {m : Vector Stats 321} {w : List Waiting}

theorem recOf_heard (h : s.obs.GoesOn o) : (s.heard dt o m w).recOf c i = s.recOf c i := by
  unfold State.recOf
  rw [h.recs]

theorem remoteOf_heard : (s.heard dt o m w).remoteOf c i = (s.later dt).remoteOf c i := rfl

/-- R82: MC's records of DEV are read whatever the device state; those of the other units while firmware runs. -/
theorem record_avail (h : c = .dev ∨ s.anyRun = true) {r : Req} (hr : r.cls = c) : availRecord (s.heard dt o m w) r = none := by
  rcases h with rfl | h
  · exact if_pos hr
  · exact availRecord_of h

end

/-- Settles O10. -/
theorem recordsAreReadWithoutEffect : Obligations.RecordsAreReadWithoutEffect := by
  intro s dt c i g f ht hi hrun hh
  refine ⟨?_, fun hd hopen => ⟨?_, ?_⟩⟩
  · have hdev : s.power.dev ≠ .shutdown ∨ specStatusGet.op = 0 ∧ c = .dev ∧ i = 0 := by
      rcases hrun with rfl | hrun
      · exact .inr ⟨rfl, rfl, List.mem_singleton.1 hi⟩
      · exact .inl (anyRun_dev hrun)
    obtain ⟨o, m, w, hk, hrow⟩ := unit_command (dt := dt) (sp := specStatusGet) (g := g) (f := f) (ps := []) ht hdev hi
      (fun o m w => level_allowed (k := .basic) (s := s) rfl rfl trivial ⟨rfl, rfl, rfl⟩ (common_open hh _).1 (common_open hh _).2)
      (fun _ _ _ => meets_of_nil) (fun o m w _ => ⟨rfl, rfl, rfl, rfl, rfl, rfl⟩) (fun o m w _ => record_avail hrun rfl)
    obtain ⟨hleaves, hreplies⟩ := answered_effects (c := c) (i := i) (g := g) (f := f) (ps := [])
      (pay := (s.heard dt o m w).statusReply c i) ht.2.2.1 (heard_effects (s := s) (dt := dt) o m w)
    obtain ⟨t, hx⟩ : ∃ t, finish ((s.heard dt o m w).answered c (cmdTo i g f []) ((s.heard dt o m w).statusReply c i)) = t := ⟨_, rfl⟩
    rw [hx] at hleaves hreplies
    have hpay : (s.heard dt o m w).statusReply c i =
        pk [((s.admin c i).code, 0), ((s.recOf c i).oper.code, 4), ((s.heard dt o m w).remoteOf c i, 8), ((s.recOf c i).reason, 16),
          (((s.heard dt o m w).classWords c i).length, 24)] :: (s.heard dt o m w).classWords c i := by
      unfold State.statusReply
      rw [recOf_heard hk]
      rfl
    rw [hpay] at hreplies
    exact ⟨t, congrArg Host.Outcome.next (hrow.trans hx), hleaves, s.heard dt o m w, heard_arrives hk m w, hreplies⟩
  · exact unit_does_in specInfoGet (k := .basic) ht hd hi trivial (fun _ _ _ => meets_of_nil)
      (fun o m w _ => ⟨rfl, rfl, rfl, rfl, rfl, rfl⟩) (fun o m w => record_avail hrun rfl)
      (fun o m w _ => ⟨rfl, rfl⟩) (fun b => (common_open hh b).1) (hl := fun b => (common_open hh b).2) (hacc := hopen)
  · refine unit_does_in specStateGet (k := .basic) ht hd hi trivial (fun _ _ _ => meets_of_nil)
      (fun o m w _ => ⟨rfl, rfl, rfl, rfl, rfl, rfl⟩) (fun o m w => record_avail hrun rfl)
      (fun o m w hk => ⟨?_, rfl⟩) (fun b => (common_open hh b).1) (hl := fun b => (common_open hh b).2) (hacc := hopen)
    have hr : (s.heard dt o m w).recOf c i = (s.later dt).recOf c i := recOf_heard hk
    change (s.heard dt o m w).stateBlock c i = _
    unfold State.stateBlock State.stateWord
    rw [hr]
    generalize (s.later dt).recOf c i = r
    dsimp only
    cases r.misSince <;> rfl

end Sys2Proof.Machine

/-! ## What follows every row -/

namespace Sys2Proof.Machine

/-- R287 to R291, R328: counting and triggering leave the taps, the housekeeping ADC and the unit records as they are. -/
structure Triggers (s x : State) : Prop where
  taps : x.mon.taps = s.mon.taps
  hk : x.mon.hk = s.mon.hk
  recs : x.obs.recs = s.obs.recs

section
variable {s x y : State}

theorem triggers_refl (s : State) : Triggers s s := ⟨rfl, rfl, rfl⟩

theorem Triggers.trans (h : Triggers s x) (h' : Triggers x y) : Triggers s y :=
  ⟨h'.taps.trans h.taps, h'.hk.trans h.hk, h'.recs.trans h.recs⟩

theorem foldl_triggers {α : Type} {f : State → α → State} (h : ∀ (s : State) a, Triggers s (f s a)) (l : List α) (s : State) :
    Triggers s (l.foldl f s) := by
  induction l generalizing s with
  | nil => exact triggers_refl s
  | cons a l ih => exact (h s a).trans (ih _)

theorem triggerOne_triggers (s : State) (seq at_ i : Nat) : Triggers s (s.triggerOne seq at_ i) := by
  unfold State.triggerOne
  extract_lets k c
  have hraise (t : State) (hm : t.mon.taps = s.mon.taps ∧ t.mon.hk = s.mon.hk) (hr : t.obs.recs = s.obs.recs) :
      Triggers s ((t.count .mon i 1).raise .mon i 0x11 (w32 seq)) :=
    ⟨hm.1, hm.2, (raise_goesOn (t.count .mon i 1) .mon i 0x11 (w32 seq)).recs.trans hr⟩
  cases c.state with
  | armed => exact ⟨rfl, rfl, rfl⟩
  | moving => exact hraise _ ⟨rfl, rfl⟩ rfl
  | held => exact hraise _ ⟨rfl, rfl⟩ rfl
  | idle => exact triggers_refl s
  | filling => exact triggers_refl s
  | aborted => exact triggers_refl s

theorem triggerAt_triggers (s : State) (at_ : Nat) (c : CapSet) : Triggers s (s.triggerAt at_ c) := by
  unfold State.triggerAt
  extract_lets seq m t
  exact .trans (x := t) ⟨rfl, rfl, rfl⟩ (foldl_triggers (fun t i => triggerOne_triggers t seq at_ i) _ _)

theorem trigger_triggers (s : State) (c : CapSet) : Triggers s (s.trigger c) := by
  unfold State.trigger
  split
  · exact triggerAt_triggers ..
  · exact triggers_refl s

theorem immediates_triggers (s : State) : Triggers s s.immediates := by
  refine foldl_triggers (fun t c => ?_) _ _
  unfold State.immediate
  split
  · exact triggerAt_triggers ..
  · exact triggers_refl t

theorem countFired_triggers (s : State) : Triggers s s.countFired := by
  have hrecs (o : Obs) (h : s.unfired.obs.GoesOn o) : Triggers s { s.unfired with obs := o } :=
    ⟨rfl, rfl, h.recs⟩
  unfold State.countFired
  exact hrecs _ (perfMap_goesOn _ _)

theorem fireAll_triggers (n : Nat) (sets : List CapSet) (s : State) : Triggers s (s.fireAll n sets) := by
  induction n generalizing sets s with
  | zero => exact triggers_refl s
  | succ n ih =>
    unfold State.fireAll
    extract_lets hit
    split
    · exact triggers_refl s
    · exact ((countFired_triggers s).trans (foldl_triggers trigger_triggers _ _)).trans (ih _ _)

/-- Without capture sets, conditions are counted and trigger nothing. -/
theorem fireAll_nil (n : Nat) (s : State) : (s.fireAll n []).mon = s.mon ∧ (s.fireAll n []).stats = s.stats := by
  induction n generalizing s with
  | zero => exact ⟨rfl, rfl⟩
  | succ n ih =>
    unfold State.fireAll
    split
    · exact ⟨rfl, rfl⟩
    · exact ih s.countFired

theorem immediates_nil (h : s.mon.sets = []) : s.immediates = s := by
  unfold State.immediates
  rw [h]
  rfl

/-! ### The records of the units -/

/-- The record beside the unit at place `k` of the table. -/
theorem mapRecs_get (f : Cls → Nat → UnitRec → UnitRec) : ∀ (rs : List UnitRec) (us : List (Cls × Nat)) (k : Nat)
    (hr : k < rs.length) (hu : k < us.length),
    (mapRecs f rs us)[k]'(by rw [mapRecs_length]; exact hr) = f us[k].1 us[k].2 rs[k]
  | _ :: _, _ :: _, 0, _, _ => rfl
  | _ :: rs, _ :: us, k + 1, hr, hu => mapRecs_get f rs us k (Nat.lt_of_succ_lt_succ hr) (Nat.lt_of_succ_lt_succ hu)

/-- Every unit of the table stands at the place that `uix` gives it. -/
theorem unitTable_uix : ∀ u ∈ unitTable, unitTable[(uix u.1 u.2).val]? = some u := by decide +kernel

/-- R62, R66: after a row the record of a unit is `newRec` of the record before. -/
theorem noteAll_recOf {u : Cls × Nat} (h : u ∈ unitTable) :
    s.noteAll.recOf u.1 u.2 = s.newRec u.1 u.2 (s.recOf u.1 u.2) := by
  obtain ⟨hk, hu⟩ := List.getElem?_eq_some_iff.1 (unitTable_uix u h)
  have hget := mapRecs_get s.newRec s.obs.recs.toArray.toList unitTable (uix u.1 u.2).val (by simp) hk
  rw [hu] at hget
  exact hget

/-- What follows a row, from the point where MC has brought its records up to date. -/
theorem finish_triggers (s : State) : Triggers (if s.mcRuns then s.noteAll else s) (finish s) := by
  unfold finish
  extract_lets t u
  have h : Triggers (if s.mcRuns then s.noteAll else s) u := (immediates_triggers _).trans (fireAll_triggers _ _ t)
  exact ⟨h.taps, h.hk, h.recs⟩

theorem finish_nil (h : s.mon.sets = []) : (finish s).mon = s.mon ∧ (finish s).stats = s.stats := by
  unfold finish
  obtain ⟨v, hv⟩ : ∃ v, (if s.mcRuns then s.noteAll else s) = v := ⟨_, rfl⟩
  have hm : v.mon = s.mon ∧ v.stats = s.stats := by
    rw [← hv]
    split
    · exact ⟨rfl, rfl⟩
    · exact ⟨rfl, rfl⟩
  have hsets : v.mon.sets = [] := by rw [hm.1, h]
  rw [hv, immediates_nil hsets]
  dsimp only
  rw [hsets]
  obtain ⟨hmon, hstats⟩ := fireAll_nil (0 + 64) v
  exact ⟨hmon.trans hm.1, hstats.trans hm.2⟩

end

/-- Settles O9. -/
theorem recordsFollowTheUnits : Obligations.RecordsFollowTheUnits := by
  intro s t
  have hkeep : t.mon.taps = s.mon.taps ∧ t.mon.hk = s.mon.hk := by
    have h := finish_triggers s
    split at h
    · exact ⟨h.taps, h.hk⟩
    · exact ⟨h.taps, h.hk⟩
  refine ⟨rfl, finish_queue s, rfl, hkeep.1, hkeep.2, finish_nil, fun hm => ?_, fun hm u hu => ?_⟩
  · have h := finish_triggers s
    rw [hm] at h
    exact h.recs
  · have h := finish_triggers s
    rw [if_pos hm] at h
    have hrec : t.recOf u.1 u.2 = s.newRec u.1 u.2 (s.recOf u.1 u.2) :=
      (congrArg (fun r : Vector UnitRec 321 => r[uix u.1 u.2]) h.recs).trans (noteAll_recOf hu)
    rw [hrec]
    refine ⟨rfl, rfl, ?_⟩
    by_cases ho : (s.operOf u.1 u.2).1 = (s.recOf u.1 u.2).oper ∧ (s.operOf u.1 u.2).2 = (s.recOf u.1 u.2).reason
    · rw [if_pos ho]
      simp [State.newRec, ho.1, ho.2]
    · rw [if_neg ho]
      simp only [State.newRec, bne_iff_ne, Bool.or_eq_true, ne_eq, ← not_and_or, if_pos ho]

end Sys2Proof.Machine

/-! ## What leaves the settings of the units, the scratchpad and the queue as they are -/

namespace Sys2Proof.Machine

/-- The scratchpad and what stands in the queue are as they were (R46, R69). -/
abbrev Quiet (s x : State) : Prop :=
  x.mem.cells = s.mem.cells ∧ x.port.replies = s.port.replies ∧ x.port.waiting = s.port.waiting ∧
    x.port.deferred = s.port.deferred

/-- So are the settings of every unit (R64). -/
abbrev Fixed (s x : State) : Prop := x.units = s.units ∧ Quiet s x

theorem fixed_refl (s : State) : Fixed s s := ⟨rfl, rfl, rfl, rfl, rfl⟩

theorem Fixed.trans {s x y : State} (h : Fixed s x) (h' : Fixed x y) : Fixed s y := by
  obtain ⟨hu, hm, hr, hw, hd⟩ := h
  obtain ⟨hu', hm', hr', hw', hd'⟩ := h'
  exact ⟨hu'.trans hu, hm'.trans hm, hr'.trans hr, hw'.trans hw, hd'.trans hd⟩

theorem Turns.fixed {s x : State} (h : Turns s x) : Fixed s x := by
  obtain ⟨o, m, k, n, rfl⟩ := turns_iff.1 h
  exact fixed_refl s

@[simp] theorem foldl_fixed {α : Type} {f : State → α → State} (h : ∀ s a, Fixed s (f s a)) (l : List α) (s : State) :
    Fixed s (l.foldl f s) := by
  induction l generalizing s with
  | nil => exact fixed_refl s
  | cons a l ih => exact (h s a).trans (ih _)

/-! ### What a condition changes, part by part -/

section
variable {p : Prop} [Decidable p]

@[simp] theorem ite_units (s x : State) : (if p then s else x).units = if p then s.units else x.units := apply_ite ..
@[simp] theorem ite_mem (s x : State) : (if p then s else x).mem = if p then s.mem else x.mem := apply_ite ..
@[simp] theorem ite_cells (s x : MemState) : (if p then s else x).cells = if p then s.cells else x.cells := apply_ite ..
@[simp] theorem ite_port (s x : State) : (if p then s else x).port = if p then s.port else x.port := apply_ite ..
@[simp] theorem ite_replies (s x : Port) : (if p then s else x).replies = if p then s.replies else x.replies := apply_ite ..
@[simp] theorem ite_waiting (s x : Port) : (if p then s else x).waiting = if p then s.waiting else x.waiting := apply_ite ..
@[simp] theorem ite_deferred (s x : Port) : (if p then s else x).deferred = if p then s.deferred else x.deferred := apply_ite ..

end

/-! ### Records and triggers -/

@[simp] theorem noteAll_fixed (s : State) : Fixed s s.noteAll :=
  ⟨rfl, rfl, rfl, rfl, rfl⟩

@[simp] theorem triggerOne_fixed (s : State) (seq at_ i : Nat) : Fixed s (s.triggerOne seq at_ i) := by
  unfold State.triggerOne
  dsimp only
  repeat' split
  all_goals simp [Fixed, Quiet]

@[simp] theorem triggerAt_fixed (s : State) (at_ : Nat) (x : CapSet) : Fixed s (s.triggerAt at_ x) := by
  simp [Fixed, Quiet, State.triggerAt]

@[simp] theorem trigger_fixed (s : State) (x : CapSet) : Fixed s (s.trigger x) := by
  simp [Fixed, Quiet, State.trigger]

@[simp] theorem triggerSets_fixed (s : State) (p : Vector Word 8 → Bool) : Fixed s (s.triggerSets p) := by
  simp [Fixed, Quiet, State.triggerSets]

@[simp] theorem triggerFrom_fixed (s : State) (src : Nat) (lane : Nat) : Fixed s (s.triggerFrom src lane) := by
  simp [Fixed, Quiet, State.triggerFrom]

@[simp] theorem immediate_fixed (s : State) (x : CapSet) : Fixed s (s.immediate x) := by
  simp [Fixed, Quiet, State.immediate]

@[simp] theorem immediates_fixed (s : State) : Fixed s s.immediates := by
  simp [Fixed, Quiet, State.immediates]

@[simp] theorem unfired_fixed (s : State) : Fixed s s.unfired :=
  ⟨rfl, rfl, rfl, rfl, rfl⟩

@[simp] theorem countFired_fixed (s : State) : Fixed s s.countFired :=
  ⟨rfl, rfl, rfl, rfl, rfl⟩

/-! ### Sessions and participants -/

@[simp] theorem consume_fixed (s : State) (a : Auth) : Fixed s (s.consume a) :=
  ⟨rfl, rfl, rfl, rfl, rfl⟩

@[simp] theorem partyReset_fixed (s : State) (party : Nat) : Fixed s (s.partyReset party) :=
  ⟨rfl, rfl, rfl, rfl, rfl⟩

@[simp] theorem closeSession_fixed (s : State) (why : Nat) : Fixed s (s.closeSession why) :=
  ⟨rfl, rfl, rfl, rfl, rfl⟩

@[simp] theorem expire_fixed (s : State) (a : Option Auth) : Fixed s (s.expire a) := by
  unfold State.expire
  split <;> simp [Fixed, Quiet]

/-! ### Configuration steps -/

@[simp] theorem beginStep_fixed (s : State) (k : Nat) : Fixed s (s.beginStep k) :=
  ⟨rfl, rfl, rfl, rfl, rfl⟩

/-! ### Calibration, as other chapters act on it -/

@[simp] theorem applyForcedAt_fixed (s : State) (k : Fin 48) (p : Nat → Bool) : Fixed s (s.applyForcedAt k p) :=
  ⟨rfl, rfl, rfl, rfl, rfl⟩

@[simp] theorem applyForced_fixed (s : State) (k : Fin 48) : Fixed s (s.applyForced k) :=
  ⟨rfl, rfl, rfl, rfl, rfl⟩

@[simp] theorem replaced_fixed (s : State) (k : Fin 48) (e : Nat) : Fixed s (s.replaced k e) :=
  ⟨rfl, rfl, rfl, rfl, rfl⟩

@[simp] theorem swap_fixed (s : State) (k : Fin 48) : Fixed s (s.swap k) := by
  simp [Fixed, Quiet, State.swap]

@[simp] theorem roundOpens_fixed (s : State) : Fixed s s.roundOpens := by
  unfold State.roundOpens
  split <;> simp [Fixed, Quiet]

@[simp] theorem roundsResume_fixed (s : State) : Fixed s s.roundsResume := by
  simp [Fixed, Quiet, State.roundsResume]

@[simp] theorem roundsStop_fixed (s : State) : Fixed s s.roundsStop :=
  ⟨rfl, rfl, rfl, rfl, rfl⟩

@[simp] theorem voidLane_fixed (s : State) (k : Fin 48) (cause : Nat) : Fixed s (s.voidLane k cause) := by
  simp [Fixed, Quiet, State.voidLane]

@[simp] theorem voidAll_fixed (s : State) (cause : Nat) : Fixed s (s.voidAll cause) := by
  simp [Fixed, Quiet, State.voidAll]

@[simp] theorem fadeOver_fixed (s : State) (l : Fin 8) : Fixed s (s.fadeOver l) := by
  simp [Fixed, Quiet, State.fadeOver]

@[simp] theorem sourceCheck_fixed (s : State) (k : Fin 48) : Fixed s (s.sourceCheck k) := by
  simp [Fixed, Quiet, State.sourceCheck]

@[simp] theorem traceCheck_fixed (s : State) : Fixed s s.traceCheck :=
  ⟨rfl, rfl, rfl, rfl, rfl⟩

@[simp] theorem calrefRead_fixed (s : State) (v : Nat) : Fixed s (s.calrefRead v) := by
  simp [Fixed, Quiet, State.calrefRead]

/-! ### Host lanes -/

@[simp] theorem acquireHrx_fixed (s : State) (n : Fin 16) : Fixed s (s.acquireHrx n) :=
  ⟨rfl, rfl, rfl, rfl, rfl⟩

@[simp] theorem loadBoard_fixed (s : State) (t : List Word) : Fixed s (s.loadBoard t) :=
  ⟨rfl, rfl, rfl, rfl, rfl⟩

@[simp] theorem hrxPolarity_fixed (s : State) (n : Fin 16) (mode : Nat) : Fixed s (s.hrxPolarity n mode) := by
  simp [Fixed, Quiet, State.hrxPolarity]

@[simp] theorem presetHrx_fixed (s : State) (i : Nat) (w : Word) : Fixed s (s.presetHrx i w) := by
  simp [Fixed, Quiet, State.presetHrx]

@[simp] theorem presetHtx_fixed (s : State) (i : Nat) (w : Word) : Fixed s (s.presetHtx i w) := by
  simp [Fixed, Quiet, State.presetHtx]

@[simp] theorem hostDetected_fixed (s : State) (n : Fin 16) : Fixed s (s.hostDetected n) := by
  simp [Fixed, Quiet, State.hostDetected]

@[simp] theorem hostLost_fixed (s : State) (n : Fin 16) : Fixed s (s.hostLost n) := by
  simp [Fixed, Quiet, State.hostLost]

@[simp] theorem hrxAcquired_fixed (s : State) (n : Fin 16) (m : HrxAcq) : Fixed s (s.hrxAcquired n m) := by
  simp [Fixed, Quiet, State.hrxAcquired]

@[simp] theorem hrxTry_fixed (s : State) (n : Fin 16) : Fixed s (s.hrxTry n) := by
  simp [Fixed, Quiet, State.hrxTry]

@[simp] theorem amLost_fixed (s : State) (n : Fin 16) (bad : Nat) : Fixed s (s.amLost n bad) := by
  simp [Fixed, Quiet, State.amLost]

@[simp] theorem hrxMs_fixed (s : State) (n : Fin 16) (m : HmiMeasure) : Fixed s (s.hrxMs n m) := by
  simp [Fixed, Quiet, State.hrxMs]

@[simp] theorem hrxLow_fixed (s : State) (n : Fin 16) : Fixed s (s.hrxLow n) := by
  simp [Fixed, Quiet, State.hrxLow]

@[simp] theorem hrxOk_fixed (s : State) (n : Fin 16) : Fixed s (s.hrxOk n) := by
  simp [Fixed, Quiet, State.hrxOk]

@[simp] theorem hostUnlocked_fixed (s : State) (n : Fin 16) : Fixed s (s.hostUnlocked n) := by
  simp [Fixed, Quiet, State.hostUnlocked]

/-! ### Line transmitters -/

@[simp] theorem ltxChange_fixed (s : State) (l : Fin 8) (g : LtxStaged) : Fixed s (s.ltxChange l g) :=
  ⟨rfl, rfl, rfl, rfl, rfl⟩

@[simp] theorem ltxSettle_fixed (s : State) : Fixed s s.ltxSettle :=
  ⟨rfl, rfl, rfl, rfl, rfl⟩

@[simp] theorem presetLtx_fixed (s : State) (i : Nat) (w : Word) : Fixed s (s.presetLtx i w) := by
  unfold State.presetLtx
  split <;> simp [Fixed, Quiet]

@[simp] theorem addClips_fixed (s : State) (l : Fin 8) (ms : List Nat) : Fixed s (s.addClips l ms) :=
  ⟨rfl, rfl, rfl, rfl, rfl⟩

@[simp] theorem ltxClips_fixed (s : State) (l : Fin 8) (ms : List Nat) : Fixed s (s.ltxClips l ms) := by
  simp [Fixed, Quiet, State.ltxClips]

@[simp] theorem ltxClipsEnd_fixed (s : State) (l : Fin 8) (ms : List Nat) : Fixed s (s.ltxClipsEnd l ms) := by
  simp [Fixed, Quiet, State.ltxClipsEnd]

/-! ### Line receivers -/

@[simp] theorem voidRound_fixed (s : State) (l : Fin 8) : Fixed s (s.voidRound l) := by
  simp [Fixed, Quiet, State.voidRound]

@[simp] theorem voidRestored_fixed (s t : State) : Fixed t (s.voidRestored t) := by
  simp [Fixed, Quiet, State.voidRestored]

@[simp] theorem gateSide_fixed (s : State) (l : Fin 8) (hi : Bool) (cause : Nat) (offset : BitVec 16) :
    Fixed s (s.gateSide l hi cause offset) := by
  unfold State.gateSide
  split <;> simp [Fixed, Quiet]

@[simp] theorem startFade_fixed (s : State) (l : Fin 8) (len cause : Nat) (prof : Option Nat) :
    Fixed s (s.startFade l len cause prof) := by
  simp [Fixed, Quiet, State.startFade]

@[simp] theorem inForce_fixed (s : State) (l : Fin 8) (prof : Option Nat) : Fixed s (s.inForce l prof) := by
  unfold State.inForce
  split <;> simp [Fixed, Quiet]

@[simp] theorem fadeStepped_fixed (s : State) (l : Fin 8) : Fixed s (s.fadeStepped l) := by
  unfold State.fadeStepped
  split <;> simp [Fixed, Quiet]

@[simp] theorem snapFade_fixed (s : State) (l : Fin 8) (toTarget : Bool) (trigger : Nat) :
    Fixed s (s.snapFade l toTarget trigger) := by
  unfold State.snapFade
  split <;> simp [Fixed, Quiet]

@[simp] theorem keepPol_fixed (s : State) (l : Fin 8) : Fixed s (s.keepPol l) :=
  ⟨rfl, rfl, rfl, rfl, rfl⟩

@[simp] theorem relock_fixed (s : State) (l : Fin 8) (warm : Bool) (trigger : Nat) : Fixed s (s.relock l warm trigger) := by
  simp [Fixed, Quiet, State.relock]

@[simp] theorem coldLane_fixed (s : State) (l : Fin 8) : Fixed s (s.coldLane l) := by
  simp [Fixed, Quiet, State.coldLane]

@[simp] theorem acquiredLrx_fixed (s : State) (l : Fin 8) (m : LrxAcq) (warm : Bool) (f : Lrx → Lrx) :
    Fixed s (s.acquiredLrx l m warm f) :=
  ⟨rfl, rfl, rfl, rfl, rfl⟩

@[simp] theorem lrxCold_fixed (s : State) (l : Fin 8) (m : LrxAcq) : Fixed s (s.lrxCold l m) := by
  simp [Fixed, Quiet, State.lrxCold]

@[simp] theorem lrxWarm_fixed (s : State) (l : Fin 8) (m : LrxAcq) : Fixed s (s.lrxWarm l m) := by
  simp [Fixed, Quiet, State.lrxWarm]

@[simp] theorem lrxTry_fixed (s : State) (l : Fin 8) : Fixed s (s.lrxTry l) := by
  simp [Fixed, Quiet, State.lrxTry]

@[simp] theorem lineDetected_fixed (s : State) (l : Fin 8) : Fixed s (s.lineDetected l) := by
  simp [Fixed, Quiet, State.lineDetected]

@[simp] theorem lineLost_fixed (s : State) (l : Fin 8) : Fixed s (s.lineLost l) := by
  simp [Fixed, Quiet, State.lineLost]

@[simp] theorem lineUnlocked_fixed (s : State) (l : Fin 8) (range : Bool) : Fixed s (s.lineUnlocked l range) := by
  simp [Fixed, Quiet, State.lineUnlocked]

@[simp] theorem dropSide_fixed (s : State) (l : Fin 8) (hi : Bool) (cause : Nat) (offset : BitVec 16) :
    Fixed s (s.dropSide l hi cause offset) := by
  simp [Fixed, Quiet, State.dropSide]

@[simp] theorem agcMs_fixed (s : State) (l : Fin 8) (m : AgcMeasure) : Fixed s (s.agcMs l m) := by
  simp [Fixed, Quiet, State.agcMs]

@[simp] theorem overdrive_fixed (s : State) (l : Fin 8) : Fixed s (s.overdrive l) := by
  simp [Fixed, Quiet, State.overdrive]

@[simp] theorem lmiValid_fixed (s : State) (l : Fin 8) (m : LmiMeasure) : Fixed s (s.lmiValid l m) := by
  unfold State.lmiValid
  repeat' split
  all_goals simp [Fixed, Quiet]

@[simp] theorem lmiMs_fixed (s : State) (l : Fin 8) (m : LmiMeasure) : Fixed s (s.lmiMs l m) := by
  simp [Fixed, Quiet, State.lmiMs]

@[simp] theorem lmiLowers_fixed (s : State) (l : Fin 8) : Fixed s (s.lmiLowers l) := by
  simp [Fixed, Quiet, State.lmiLowers]

@[simp] theorem lmiRestores_fixed (s : State) (l : Fin 8) : Fixed s (s.lmiRestores l) := by
  simp [Fixed, Quiet, State.lmiRestores]

@[simp] theorem roundStart_fixed (s : State) (l : Fin 8) : Fixed s (s.roundStart l) := by
  simp [Fixed, Quiet, State.roundStart]

@[simp] theorem trialStart_fixed (s : State) (l : Fin 8) (b : Bank) : Fixed s (s.trialStart l b) := by
  unfold State.trialStart
  dsimp only
  repeat' split
  all_goals simp [Fixed, Quiet]

@[simp] theorem roundEnds_fixed (s : State) (l : Fin 8) (m : TrialMeasure) : Fixed s (s.roundEnds l m) := by
  unfold State.roundEnds
  dsimp only
  repeat' split
  all_goals simp [Fixed, Quiet]

@[simp] theorem hostTrialEnds_fixed (s : State) (l : Fin 8) (m : TrialMeasure) : Fixed s (s.hostTrialEnds l m) := by
  unfold State.hostTrialEnds
  split <;> simp [Fixed, Quiet]

@[simp] theorem lrxSetup_fixed (s : State) (l : Fin 8) (w : Word) : Fixed s (s.lrxSetup l w) := by
  simp [Fixed, Quiet, State.lrxSetup]

@[simp] theorem lrxPolicy_fixed (s : State) (l : Fin 8) (w : Word) : Fixed s (s.lrxPolicy l w) := by
  simp [Fixed, Quiet, State.lrxPolicy]

@[simp] theorem presetLrx_fixed (s : State) (i : Nat) (w : Word) : Fixed s (s.presetLrx i w) :=
  ⟨rfl, rfl, rfl, rfl, rfl⟩

/-! ### Sealing, as other chapters act on it -/

@[simp] theorem failClose_fixed (s : State) (g : Fin 8) (why : Closed) : Fixed s (s.failClose g why) :=
  ⟨rfl, rfl, rfl, rfl, rfl⟩

@[simp] theorem failCloseAll_fixed (s : State) (why : Closed) : Fixed s (s.failCloseAll why) := by
  simp [Fixed, Quiet, State.failCloseAll]

@[simp] theorem announce_fixed (s : State) (g : Fin 8) (m : Nat) : Fixed s (s.announce g m) := by
  unfold State.announce
  dsimp only
  repeat' split
  all_goals simp [Fixed, Quiet]

@[simp] theorem withdraw_fixed (s : State) (g : Fin 8) : Fixed s (s.withdraw g) := by
  unfold State.withdraw
  split <;> simp [Fixed, Quiet]

@[simp] theorem switchTx_fixed (s : State) (g : Fin 8) : Fixed s (s.switchTx g) := by
  unfold State.switchTx
  repeat' split
  all_goals simp [Fixed, Quiet]

@[simp] theorem annEnds_fixed (s : State) (g : Fin 8) (next : Nat) : Fixed s (s.annEnds g next) := by
  unfold State.annEnds
  split <;> simp [Fixed, Quiet]

@[simp] theorem epochTick_fixed (s : State) (g : Fin 8) (next : Nat) : Fixed s (s.epochTick g next) := by
  simp [Fixed, Quiet, State.epochTick]

/-! ### Framing, sending -/

@[simp] theorem payloadsSent_fixed (s : State) (g : Fin 8) (seq : Nat) : Fixed s (s.payloadsSent g seq) :=
  ⟨rfl, rfl, rfl, rfl, rfl⟩

@[simp] theorem laneMilestone_fixed (s : State) (seq f : Nat) (idle : Bool) (l : Fin 8) :
    Fixed s (s.laneMilestone seq f idle l) := by
  simp [Fixed, Quiet, State.laneMilestone]

@[simp] theorem ingest_fixed (s : State) (g : Fin 8) : Fixed s (s.ingest g) := by
  simp [Fixed, Quiet, State.ingest]

@[simp] theorem prime_fixed (s : State) (g : Fin 8) : Fixed s (s.prime g) :=
  ⟨rfl, rfl, rfl, rfl, rfl⟩

@[simp] theorem fillSlots_fixed (s : State) (g : Fin 8) (r : Nat) : Fixed s (s.fillSlots g r) :=
  ⟨rfl, rfl, rfl, rfl, rfl⟩

@[simp] theorem endPeriod_fixed (s : State) (g : Fin 8) : Fixed s (s.endPeriod g) := by
  simp [Fixed, Quiet, State.endPeriod]

@[simp] theorem periodStart_fixed (s : State) (g : Fin 8) (m : PeriodMeasure) : Fixed s (s.periodStart g m) := by
  simp [Fixed, Quiet, State.periodStart]

@[simp] theorem hostCodeword_fixed (s : State) (g : Fin 8) (m : CodewordResult) : Fixed s (s.hostCodeword g m) := by
  simp [Fixed, Quiet, State.hostCodeword]

/-! ### Framing, receiving -/

@[simp] theorem groupUnlock_fixed (s : State) (g : Fin 8) : Fixed s (s.groupUnlock g) := by
  simp [Fixed, Quiet, State.groupUnlock]

@[simp] theorem queueWaypost_fixed (s : State) (g : Fin 8) (w : Waypost) : Fixed s (s.queueWaypost g w) := by
  simp [Fixed, Quiet, State.queueWaypost]

@[simp] theorem settleWayposts_fixed (s : State) (g : Fin 8) (seq : Nat) (ok : Bool) : Fixed s (s.settleWayposts g seq ok) := by
  simp [Fixed, Quiet, State.settleWayposts]

@[simp] theorem tagFail_fixed (s : State) (g : Fin 8) (seq pos : Nat) : Fixed s (s.tagFail g seq pos) :=
  ⟨rfl, rfl, rfl, rfl, rfl⟩

@[simp] theorem deliverOut_fixed (s : State) (g : Fin 8) (os : List Output) : Fixed s (s.deliverOut g os) :=
  ⟨rfl, rfl, rfl, rfl, rfl⟩

@[simp] theorem layDrop_fixed (s : State) (g : Fin 8) (seq : Nat) : Fixed s (s.layDrop g seq) :=
  ⟨rfl, rfl, rfl, rfl, rfl⟩

@[simp] theorem periodJudged_fixed (s : State) (g : Fin 8) (seq : Nat) : Fixed s (s.periodJudged g seq) := by
  simp [Fixed, Quiet, State.periodJudged]

@[simp] theorem settlePeriods_fixed (s : State) (g : Fin 8) : Fixed s (s.settlePeriods g) := by
  simp [Fixed, Quiet, State.settlePeriods]

@[simp] theorem judge_fixed (s : State) (g l : Fin 8) (seq : Nat) (v : Option Nat) : Fixed s (s.judge g l seq v) := by
  unfold State.judge
  split <;> simp [Fixed, Quiet]

@[simp] theorem loseLock_fixed (s : State) (g l : Fin 8) (byInner : Bool) : Fixed s (s.loseLock g l byInner) := by
  simp [Fixed, Quiet, State.loseLock]

@[simp] theorem innerWindowed_fixed (s : State) (l : Fin 8) (count : Nat) : Fixed s (s.innerWindowed l count) := by
  unfold State.innerWindowed
  repeat' split
  all_goals simp [Fixed, Quiet]

@[simp] theorem innerLost_fixed (s : State) (l : Fin 8) : Fixed s (s.innerLost l) := by
  unfold State.innerLost
  repeat' split
  all_goals simp [Fixed, Quiet]

@[simp] theorem groupConditions_fixed (s : State) (g l : Fin 8) (w : List Word) : Fixed s (s.groupConditions g l w) := by
  simp [Fixed, Quiet, State.groupConditions]

@[simp] theorem switchRx_fixed (s : State) (g : Fin 8) (seq : Nat) : Fixed s (s.switchRx g seq) := by
  unfold State.switchRx
  repeat' split
  all_goals simp [Fixed, Quiet]

@[simp] theorem epochsHeard_fixed (s : State) (g : Fin 8) (w : List Word) : Fixed s (s.epochsHeard g w) := by
  unfold State.epochsHeard
  repeat' split
  all_goals simp [Fixed, Quiet]

@[simp] theorem fragmentIn_fixed (s : State) (g : Fin 8) (d : List Word) : Fixed s (s.fragmentIn g d) := by
  simp [Fixed, Quiet, State.fragmentIn]

@[simp] theorem waypostIn_fixed (s : State) (g : Fin 8) (w : List Word) : Fixed s (s.waypostIn g w) := by
  unfold State.waypostIn
  split <;> simp [Fixed, Quiet]

@[simp] theorem flagsHeard_fixed (s : State) (g l : Fin 8) (w : List Word) : Fixed s (s.flagsHeard g l w) := by
  simp [Fixed, Quiet, State.flagsHeard]

@[simp] theorem useMilestone_fixed (s : State) (g l : Fin 8) (m : MilestoneArrival) : Fixed s (s.useMilestone g l m) :=
  (useMilestone_hears s g l m).1.frame.fixed

@[simp] theorem gainLock_fixed (s : State) (g l : Fin 8) (w : List Word) : Fixed s (s.gainLock g l w) :=
  ⟨rfl, rfl, rfl, rfl, rfl⟩

@[simp] theorem milestoneArrives_fixed (s : State) (l : Fin 8) (m : MilestoneArrival) : Fixed s (s.milestoneArrives l m) := by
  unfold State.milestoneArrives
  split <;> simp [Fixed, Quiet]

@[simp] theorem milestoneTrigger_fixed (s : State) (l : Fin 8) (m : MilestoneArrival) : Fixed s (s.milestoneTrigger l m) := by
  simp [Fixed, Quiet, State.milestoneTrigger]

@[simp] theorem milestoneMiss_fixed (s : State) (l : Fin 8) : Fixed s (s.milestoneMiss l) := by
  unfold State.milestoneMiss
  split <;> simp [Fixed, Quiet]

@[simp] theorem lineStats_fixed (s : State) (g : Fin 8) (n : Option Nat) : Fixed s (s.lineStats g n) := by
  unfold State.lineStats
  split <;> simp [Fixed, Quiet]

@[simp] theorem markersSeen_fixed (s : State) (g : Fin 8) (m : CodewordResult) (plain : BitVec 5140) :
    Fixed s (s.markersSeen g m plain) :=
  ⟨rfl, rfl, rfl, rfl, rfl⟩

@[simp] theorem lineCodeword_fixed (s : State) (l : Fin 8) (m : CodewordResult) : Fixed s (s.lineCodeword l m) := by
  unfold State.lineCodeword
  dsimp only
  repeat' split
  all_goals simp [Fixed, Quiet]

@[simp] theorem clockLocks_fixed (s : State) (g : Fin 8) (freq : Word) : Fixed s (s.clockLocks g freq) := by
  simp [Fixed, Quiet, State.clockLocks]

@[simp] theorem freqLeaves_fixed (s : State) (g : Fin 8) (o : Word) : Fixed s (s.freqLeaves g o) := by
  simp [Fixed, Quiet, State.freqLeaves]

@[simp] theorem freqReturns_fixed (s : State) (g : Fin 8) (o : Word) : Fixed s (s.freqReturns g o) := by
  simp [Fixed, Quiet, State.freqReturns]

@[simp] theorem marginWindow_fixed (s : State) (g : Fin 8) : Fixed s (s.marginWindow g) :=
  ⟨rfl, rfl, rfl, rfl, rfl⟩

@[simp] theorem marginFalls_fixed (s : State) (g : Fin 8) : Fixed s (s.marginFalls g) := by
  simp [Fixed, Quiet, State.marginFalls]

@[simp] theorem marginReturns_fixed (s : State) (g : Fin 8) : Fixed s (s.marginReturns g) := by
  simp [Fixed, Quiet, State.marginReturns]

/-! ### Tiling and modes -/

@[simp] theorem hostPll_fixed (s : State) : Fixed s s.hostPll :=
  ⟨rfl, rfl, rfl, rfl, rfl⟩

@[simp] theorem setTiling_fixed (s : State) (t : Nat × Nat) : Fixed s (s.setTiling t) :=
  ⟨rfl, rfl, rfl, rfl, rfl⟩

@[simp] theorem setXbar_fixed (s : State) (m : Vector Word 2) : Fixed s (s.setXbar m) :=
  ⟨rfl, rfl, rfl, rfl, rfl⟩

@[simp] theorem setMode_fixed (s : State) (g : Fin 8) (m : Nat) : Fixed s (s.setMode g m) := by
  simp [Fixed, Quiet, State.setMode]

/-! ### Handshakes and epochs -/

@[simp] theorem helloArrives_fixed (s : State) (g : Fin 8) (m : List Word) : Fixed s (s.helloArrives g m) := by
  unfold State.helloArrives
  dsimp only
  repeat' split
  all_goals simp [Fixed, Quiet]

@[simp] theorem peerLost_fixed (s : State) (g : Fin 8) : Fixed s (s.peerLost g) := by
  simp [Fixed, Quiet, State.peerLost]

@[simp] theorem failHandshake_fixed (s : State) (g : Fin 8) (cause : Nat) (byPeer : Bool) :
    Fixed s (s.failHandshake g cause byPeer) := by
  simp [Fixed, Quiet, State.failHandshake]

@[simp] theorem beginHandshake_fixed (s : State) (g : Fin 8) : Fixed s (s.beginHandshake g) := by
  simp [Fixed, Quiet, State.beginHandshake]

@[simp] theorem keyshareIArrives_fixed (s : State) (g : Fin 8) (m : List Word) : Fixed s (s.keyshareIArrives g m) := by
  simp [Fixed, Quiet, State.keyshareIArrives]

@[simp] theorem keyshareRArrives_fixed (s : State) (g : Fin 8) (m : List Word) : Fixed s (s.keyshareRArrives g m) := by
  simp [Fixed, Quiet, State.keyshareRArrives]

@[simp] theorem finishIArrives_fixed (s : State) (g : Fin 8) (m : List Word) : Fixed s (s.finishIArrives g m) := by
  simp [Fixed, Quiet, State.finishIArrives]

@[simp] theorem handshakeDone_fixed (s : State) (g : Fin 8) (initiator : Bool) (prk : Hash) :
    Fixed s (s.handshakeDone g initiator prk) :=
  ⟨rfl, rfl, rfl, rfl, rfl⟩

@[simp] theorem confirmArrives_fixed (s : State) (g : Fin 8) (m : List Word) : Fixed s (s.confirmArrives g m) := by
  unfold State.confirmArrives
  dsimp only
  repeat' split
  all_goals simp [Fixed, Quiet]

@[simp] theorem nackArrives_fixed (s : State) (g : Fin 8) (m : List Word) : Fixed s (s.nackArrives g m) := by
  unfold State.nackArrives
  dsimp only
  repeat' split
  all_goals simp [Fixed, Quiet]

@[simp] theorem abortArrives_fixed (s : State) (g : Fin 8) (m : List Word) : Fixed s (s.abortArrives g m) := by
  simp [Fixed, Quiet, State.abortArrives]

@[simp] theorem fragmentWait_fixed (s : State) (g : Fin 8) : Fixed s (s.fragmentWait g) := by
  unfold State.fragmentWait
  split <;> simp [Fixed, Quiet]

@[simp] theorem handshakeTimeout_fixed (s : State) (g : Fin 8) : Fixed s (s.handshakeTimeout g) := by
  simp [Fixed, Quiet, State.handshakeTimeout]

@[simp] theorem handshakeRetry_fixed (s : State) (g : Fin 8) : Fixed s (s.handshakeRetry g) := by
  simp [Fixed, Quiet, State.handshakeRetry]

@[simp] theorem deriveRx_fixed (s : State) (g : Fin 8) : Fixed s (s.deriveRx g) := by
  unfold State.deriveRx
  repeat' split
  all_goals simp [Fixed, Quiet]

@[simp] theorem tagLimitReached_fixed (s : State) (g : Fin 8) : Fixed s (s.tagLimitReached g) := by
  simp [Fixed, Quiet, State.tagLimitReached]

@[simp] theorem policyApplies_fixed (s : State) : Fixed s s.policyApplies := by
  simp [Fixed, Quiet, State.policyApplies]

/-! ### Calibration -/

@[simp] theorem setTrim_fixed (s : State) (lane kind elem idx : Nat) (v : BitVec 16) :
    Fixed s (s.setTrim lane kind elem idx v) :=
  ⟨rfl, rfl, rfl, rfl, rfl⟩

@[simp] theorem spareLow_fixed (s old : State) (k : Fin 48) (ph : Nat) : Fixed s (s.spareLow old k ph) :=
  ⟨rfl, rfl, rfl, rfl, rfl⟩

@[simp] theorem retire_fixed (s : State) (k : Fin 48) (kind elem : Nat) : Fixed s (s.retire k kind elem) :=
  ⟨rfl, rfl, rfl, rfl, rfl⟩

@[simp] theorem sparesLow_fixed (s old : State) : Fixed s (s.sparesLow old) := by
  simp [Fixed, Quiet, State.sparesLow]

@[simp] theorem withRepairs_fixed (s : State) (ws : List Word) : Fixed s (s.withRepairs ws) := by
  simp [Fixed, Quiet, State.withRepairs]

@[simp] theorem computed_fixed (s : State) (round : Bool) (w : TrimWrite) : Fixed s (s.computed round w) := by
  simp [Fixed, Quiet, State.computed]

@[simp] theorem commitLane_fixed (s : State) (trims : List TrimWrite) (k : Fin 48) : Fixed s (s.commitLane trims k) := by
  simp [Fixed, Quiet, State.commitLane]

@[simp] theorem roundCommits_fixed (s : State) (trims : List TrimWrite) : Fixed s (s.roundCommits trims) := by
  unfold State.roundCommits
  dsimp only
  repeat' split
  all_goals simp [Fixed, Quiet]

@[simp] theorem startForeground_fixed (s : State) : Fixed s s.startForeground :=
  ⟨rfl, rfl, rfl, rfl, rfl⟩

@[simp] theorem foregroundTrims_fixed (s : State) (trims : List TrimWrite) (p : Fin 48 → Bool) :
    Fixed s (s.foregroundTrims trims p) := by
  simp [Fixed, Quiet, State.foregroundTrims]

@[simp] theorem acquisitionStarts_fixed (s : State) (k : Fin 48) : Fixed s (s.acquisitionStarts k) := by
  simp [Fixed, Quiet, State.acquisitionStarts]

@[simp] theorem acquisitionsStart_fixed (s : State) : Fixed s s.acquisitionsStart := by
  simp [Fixed, Quiet, State.acquisitionsStart]

@[simp] theorem foregroundDone_fixed (s : State) (lane : Option (Fin 48)) (trims : List TrimWrite) :
    Fixed s (s.foregroundDone lane trims) := by
  unfold State.foregroundDone
  repeat' split
  all_goals simp [Fixed, Quiet]

@[simp] theorem occupancy_fixed (s : State) (k : Fin 48) (shares : Vector Byte 4) : Fixed s (s.occupancy k shares) := by
  unfold State.occupancy
  dsimp only
  repeat' split
  all_goals simp [Fixed, Quiet]

@[simp] theorem laneFed_fixed (s : State) (k : Fin 48) : Fixed s (s.laneFed k) := by
  simp [Fixed, Quiet, State.laneFed]

@[simp] theorem connectSource_fixed (s : State) (k : Fin 48) : Fixed s (s.connectSource k) := by
  simp [Fixed, Quiet, State.connectSource]

@[simp] theorem calrefBack_fixed (s : State) : Fixed s s.calrefBack := by
  simp [Fixed, Quiet, State.calrefBack]

@[simp] theorem startLane_fixed (s : State) (k : Fin 48) : Fixed s (s.startLane k) := by
  simp [Fixed, Quiet, State.startLane]

@[simp] theorem freezeLane_fixed (s : State) (on : Bool) (k : Fin 48) : Fixed s (s.freezeLane on k) := by
  simp [Fixed, Quiet, State.freezeLane]

/-! ### Captures, monitors and housekeeping -/

@[simp] theorem captureFilled_fixed (s0 : State) (i : Fin 24) (samples : List Word) (offset : Byte) :
    Fixed s0 (s0.captureFilled i samples offset) := by
  simp [Fixed, Quiet, State.captureFilled]

@[simp] theorem leaveSets_fixed (s : State) (is : List Nat) : Fixed s (s.leaveSets is) :=
  ⟨rfl, rfl, rfl, rfl, rfl⟩

@[simp] theorem captureAbort_fixed (s : State) (i : Fin 24) (cause : Nat) : Fixed s (s.captureAbort i cause) := by
  unfold State.captureAbort
  split <;> simp [Fixed, Quiet]

@[simp] theorem capturesGone_fixed (s : State) (isl : List Nat) (cause : Nat) : Fixed s (s.capturesGone isl cause) := by
  simp [Fixed, Quiet, State.capturesGone]

@[simp] theorem tapLoses_fixed (s : State) (i : Fin 24) : Fixed s (s.tapLoses i) :=
  ⟨rfl, rfl, rfl, rfl, rfl⟩

@[simp] theorem tapCross_fixed (s : State) (i : Fin 24) : Fixed s (s.tapCross i) := by
  simp [Fixed, Quiet, State.tapCross]

@[simp] theorem tapQueue_fixed (s : State) (i : Fin 24) (v : Int) : Fixed s (s.tapQueue i v) := by
  simp [Fixed, Quiet, State.tapQueue]

@[simp] theorem tapOutput_fixed (s : State) (i : Fin 24) (x : Int) : Fixed s (s.tapOutput i x) := by
  simp [Fixed, Quiet, State.tapOutput]

@[simp] theorem presetMon_fixed (s : State) (i : Nat) (w : Word) : Fixed s (s.presetMon i w) :=
  ⟨rfl, rfl, rfl, rfl, rfl⟩

@[simp] theorem hkBegin_fixed (s : State) : Fixed s s.hkBegin :=
  ⟨rfl, rfl, rfl, rfl, rfl⟩

@[simp] theorem hkTake_fixed (s : State) (m : HkReading) (ch after : Nat) : Fixed s (s.hkTake m ch after) :=
  ⟨rfl, rfl, rfl, rfl, rfl⟩

@[simp] theorem hkStore_fixed (s : State) (m : List HkReading) : Fixed s (s.hkStore m) := by
  have h : ∀ (t : State) (p : Nat × Nat), Fixed t (match m[p.1]? with | some x => t.hkTake x p.1 p.2 | none => t) := by
    intro t p
    split <;> simp [Fixed, Quiet]
  unfold State.hkStore
  extract_lets l b last o u
  have hb : Fixed s b := foldl_fixed h _ s
  have hu : Fixed s u := hb
  exact hu.trans (hkBegin_fixed u)

@[simp] theorem formSet_fixed (s : State) (is : List Nat) : Fixed s (s.formSet is) := by
  unfold State.formSet
  split <;> simp [Fixed, Quiet]

/-! ### Test units -/

@[simp] theorem loopChanged_fixed (s : State) (i : Nat) : Fixed s (s.loopChanged i) := by
  simp [Fixed, Quiet, State.loopChanged]

@[simp] theorem tstStop_fixed (s : State) (i : Fin 24) : Fixed s (s.tstStop i) := by
  unfold State.tstStop
  dsimp only
  repeat' split
  all_goals simp [Fixed, Quiet]

@[simp] theorem tstCheck_fixed (s : State) : Fixed s s.tstCheck := by
  simp [Fixed, Quiet, State.tstCheck]

@[simp] theorem chkLocks_fixed (s : State) (i : Fin 24) (m : CheckSeen) : Fixed s (s.chkLocks i m) := by
  simp [Fixed, Quiet, State.chkLocks]

@[simp] theorem chkCounts_fixed (s : State) (i : Fin 24) (m : CheckCounts) : Fixed s (s.chkCounts i m) := by
  simp [Fixed, Quiet, State.chkCounts]

@[simp] theorem chkLoses_fixed (s : State) (i : Fin 24) (m : CheckCounts) : Fixed s (s.chkLoses i m) := by
  simp [Fixed, Quiet, State.chkLoses]

@[simp] theorem patternStarts_fixed (s : State) (i : Fin 24) (m : CheckCounts) : Fixed s (s.patternStarts i m) := by
  simp [Fixed, Quiet, State.patternStarts]

@[simp] theorem injected_fixed (s : State) (i : Fin 24) : Fixed s (s.injected i) := by
  simp [Fixed, Quiet, State.injected]

@[simp] theorem clearStats_fixed (s : State) (c : Cls) (i : Nat) : Fixed s (s.clearStats c i) :=
  ⟨rfl, rfl, rfl, rfl, rfl⟩

@[simp] theorem clearChecks_fixed (s : State) (i : Fin 24) : Fixed s (s.clearChecks i) :=
  ⟨rfl, rfl, rfl, rfl, rfl⟩

/-! ### Programmable counters -/

@[simp] theorem perfClear_fixed (s : State) (i : Fin 64) : Fixed s (s.perfClear i) :=
  ⟨rfl, rfl, rfl, rfl, rfl⟩

@[simp] theorem perfPass_fixed (s : State) (i : Fin 64) (wrap : Bool) (n : Nat) : Fixed s (s.perfPass i wrap n) := by
  simp [Fixed, Quiet, State.perfPass]

/-! ### Mailboxes -/

@[simp] theorem post_fixed (s : State) (ch : Nat) (service : Byte) (id : BitVec 16) (data : List Word) :
    Fixed s (s.post ch service id data) :=
  ⟨rfl, rfl, rfl, rfl, rfl⟩

@[simp] theorem deliverMsg_fixed (s : State) (ch : Nat) : Fixed s (s.deliverMsg ch) := by
  simp [Fixed, Quiet, State.deliverMsg]

@[simp] theorem answerService_fixed (s : State) (ch : Nat) (log : List Word) : Fixed s (s.answerService ch log) := by
  unfold State.answerService
  split <;> simp [Fixed, Quiet]

@[simp] theorem hostWrites_fixed (s : State) (data : List Word) : Fixed s (s.hostWrites data) :=
  ⟨rfl, rfl, rfl, rfl, rfl⟩

@[simp] theorem mcWrites_fixed (s : State) (data : List Word) : Fixed s (s.mcWrites data) := by
  simp [Fixed, Quiet, State.mcWrites]

@[simp] theorem legacyRow_fixed (s : State) : Fixed s s.legacyRow := by
  unfold State.legacyRow
  dsimp only
  repeat' split
  all_goals simp [Fixed, Quiet]

/-! ### The scratchpad's test -/

@[simp] theorem collides_fixed (s : State) (p kind : Nat) : Fixed s (s.collides p kind) := by
  simp [Fixed, Quiet, State.collides]

@[simp] theorem mapRows_fixed (s : State) (rows : List Nat) : Fixed s (s.mapRows rows) := by
  simp [Fixed, Quiet, State.mapRows]

@[simp] theorem testSlice_fixed (s : State) (slice : Nat) (bad : List Nat) (busy : Nat) :
    Fixed s (s.testSlice slice bad busy) := by
  simp [Fixed, Quiet, State.testSlice]

@[simp] theorem testPinned_fixed (s : State) (slice : Nat) (bad : List Nat) (busy : Nat) :
    Fixed s (s.testPinned slice bad busy) := by
  simp [Fixed, Quiet, State.testPinned]

@[simp] theorem sliceTest_fixed (s : State) (bad : List Nat) (busy : Nat) : Fixed s (s.sliceTest bad busy) := by
  unfold State.sliceTest
  repeat' split
  all_goals simp [Fixed, Quiet]

@[simp] theorem testRunEnds_fixed (s : State) : Fixed s s.testRunEnds := by
  unfold State.testRunEnds
  split <;> simp [Fixed, Quiet]

/-! ### Domains, throttling and supplies -/

@[simp] theorem domainEvent_fixed (s : State) (d : Nat) (on : Bool) (cause : Nat) : Fixed s (s.domainEvent d on cause) :=
  ⟨rfl, rfl, rfl, rfl, rfl⟩

@[simp] theorem lfdOff_fixed (s : State) (l : Fin 8) : Fixed s (s.lfdOff l) := by
  unfold State.lfdOff
  split <;> simp [Fixed, Quiet]

@[simp] theorem lost_fixed (s : State) (d : Nat) : Fixed s (s.lost d) := by
  simp [Fixed, Quiet, State.lost]

@[simp] theorem switchOff_fixed (s : State) (d cause : Nat) : Fixed s (s.switchOff d cause) := by
  simp [Fixed, Quiet, State.switchOff]

@[simp] theorem islandStarts_fixed (s : State) (d : Nat) : Fixed s (s.islandStarts d) :=
  ⟨rfl, rfl, rfl, rfl, rfl⟩

@[simp] theorem sendersStart_fixed (s : State) (d : Nat) : Fixed s (s.sendersStart d) := by
  simp [Fixed, Quiet, State.sendersStart]

@[simp] theorem switchOn_fixed (s : State) (d cause : Nat) : Fixed s (s.switchOn d cause) := by
  simp [Fixed, Quiet, State.switchOn]

@[simp] theorem domainPowers_fixed (s : State) (d : Nat) : Fixed s (s.domainPowers d) := by
  simp [Fixed, Quiet, State.domainPowers]

@[simp] theorem domainRests_fixed (s : State) (d : Nat) : Fixed s (s.domainRests d) := by
  simp [Fixed, Quiet, State.domainRests]

@[simp] theorem sensorEvents_fixed (s : State) (old : Vector Sensor 24) (i : Fin 24) : Fixed s (s.sensorEvents old i) := by
  simp [Fixed, Quiet, State.sensorEvents]

@[simp] theorem setStage_fixed (s : State) (n : Nat) : Fixed s (s.setStage n) := by
  simp [Fixed, Quiet, State.setStage]

@[simp] theorem stageRound_fixed (s : State) (declared : Bool) : Fixed s (s.stageRound declared) := by
  simp [Fixed, Quiet, State.stageRound]

@[simp] theorem railReadings_fixed (s : State) (read : List Nat) (m : List HkReading) : Fixed s (s.railReadings read m) :=
  ⟨rfl, rfl, rfl, rfl, rfl⟩

@[simp] theorem round_fixed (s : State) (m : List HkReading) : Fixed s (s.round m) := by
  unfold State.round
  repeat' split
  all_goals simp [Fixed, Quiet]

@[simp] theorem stageFalls_fixed (s : State) : Fixed s s.stageFalls := by
  simp [Fixed, Quiet, State.stageFalls]

@[simp] theorem sensorReturns_fixed (s : State) (i : Fin 24) : Fixed s (s.sensorReturns i) := by
  simp [Fixed, Quiet, State.sensorReturns]

@[simp] theorem supplyVoids_fixed (s : State) : Fixed s s.supplyVoids := by
  simp [Fixed, Quiet, State.supplyVoids]

@[simp] theorem supplyFalls_fixed (s : State) (rail : Fin 12) (reading : Nat) : Fixed s (s.supplyFalls rail reading) := by
  simp [Fixed, Quiet, State.supplyFalls]

@[simp] theorem supplyWarned_fixed (s : State) (first : Nat) (ongoing : Bool) : Fixed s (s.supplyWarned first ongoing) :=
  ⟨rfl, rfl, rfl, rfl, rfl⟩

@[simp] theorem supplyOngoing_fixed (s : State) : Fixed s s.supplyOngoing := by
  unfold State.supplyOngoing
  split <;> simp [Fixed, Quiet]

@[simp] theorem supplyEnds_fixed (s : State) : Fixed s s.supplyEnds := by
  unfold State.supplyEnds
  split <;> simp [Fixed, Quiet]

@[simp] theorem supplyReturns_fixed (s : State) : Fixed s s.supplyReturns := by
  unfold State.supplyReturns
  split <;> simp [Fixed, Quiet]

@[simp] theorem fuseRail_fixed (s : State) (mv : Nat) : Fixed s (s.fuseRail mv) :=
  ⟨rfl, rfl, rfl, rfl, rfl⟩

@[simp] theorem avsStep_fixed (s : State) (fails : Bool) (status : Byte) : Fixed s (s.avsStep fails status) := by
  simp [Fixed, Quiet, State.avsStep]

@[simp] theorem avsHostDone_fixed (s : State) : Fixed s s.avsHostDone := by
  simp [Fixed, Quiet, State.avsHostDone]

@[simp] theorem avsRead_fixed (s : State) (mv : Nat) : Fixed s (s.avsRead mv) := by
  simp [Fixed, Quiet, State.avsRead]

@[simp] theorem setDomains_fixed (s : State) (ds : List Nat) (on : Bool) : Fixed s (s.setDomains ds on) := by
  simp [Fixed, Quiet, State.setDomains]

/-! ### Islands -/

@[simp] theorem heartbeat_fixed (s : State) : Fixed s s.heartbeat :=
  ⟨rfl, rfl, rfl, rfl, rfl⟩

@[simp] theorem islandFails_fixed (s : State) (i : Nat) : Fixed s (s.islandFails i) :=
  ⟨rfl, rfl, rfl, rfl, rfl⟩

@[simp] theorem islandSilent_fixed (s : State) (i : Fin 78) : Fixed s (s.islandSilent i) := by
  simp [Fixed, Quiet, State.islandSilent]

@[simp] theorem mcFallsSilent_fixed (s : State) : Fixed s s.mcFallsSilent := by
  simp [Fixed, Quiet, State.mcFallsSilent]

@[simp] theorem mismatchRaised_fixed (s : State) (c : Cls) (i : Nat) : Fixed s (s.mismatchRaised c i) := by
  unfold State.mismatchRaised
  dsimp only
  repeat' split
  all_goals simp [Fixed, Quiet]

/-! ### Secrets -/

@[simp] theorem policyAccepted_fixed (s : State) (p : List Word) : Fixed s (s.policyAccepted p) := by
  simp [Fixed, Quiet, State.policyAccepted]

@[simp] theorem challengeExpires_fixed (s : State) : Fixed s s.challengeExpires := by
  unfold State.challengeExpires
  split <;> simp [Fixed, Quiet]

@[simp] theorem zeroise_fixed (s : State) : Fixed s s.zeroise := by
  simp [Fixed, Quiet, State.zeroise]

@[simp] theorem tampered_fixed (s : State) (width : Nat) : Fixed s (s.tampered width) := by
  simp [Fixed, Quiet, State.tampered]

@[simp] theorem afterPause_fixed (s : State) : Fixed s s.afterPause := by
  simp [Fixed, Quiet, State.afterPause]

/-! ### Fuses -/

@[simp] theorem leaveSlot_fixed (s : State) (a : Nat) (byStop : Bool) : Fixed s (s.leaveSlot a byStop) :=
  ⟨rfl, rfl, rfl, rfl, rfl⟩

@[simp] theorem commitSlot_fixed (s : State) (a : Nat) (w : Word) : Fixed s (s.commitSlot a w) :=
  ⟨rfl, rfl, rfl, rfl, rfl⟩

@[simp] theorem lifeEvent_fixed (s : State) (old : Nat) : Fixed s (s.lifeEvent old) :=
  ⟨rfl, rfl, rfl, rfl, rfl⟩

@[simp] theorem retired_fixed (s : State) (old : Nat) : Fixed s (s.retired old) := by
  simp [Fixed, Quiet, State.retired]

@[simp] theorem bound_fixed (s : State) (slot : Nat) (old : State) : Fixed s (s.bound slot old) :=
  ⟨rfl, rfl, rfl, rfl, rfl⟩

@[simp] theorem rollbackDeferred_fixed (s : State) (why : Nat) : Fixed s (s.rollbackDeferred why) :=
  ⟨rfl, rfl, rfl, rfl, rfl⟩

theorem burnWord_fixed (env : FuseEnv) (r : Nat) (w : Word) (n : Nat) : ∀ (k : Nat) (s : State),
    Fixed s (burnWord env r w n k s).1
  | 0, s => fixed_refl s
  | k + 1, s => by
    have ih (t : State) : Fixed t (burnWord env r w n k t).1 := burnWord_fixed env r w n k t
    cases hfree : s.fuse.unused r with
    | nil => simp only [burnWord, hfree]; exact fixed_refl s
    | cons a l =>
      simp only [burnWord, hfree]
      obtain ⟨t, ht⟩ : ∃ t, s.raiseIf ((a :: l).length == 5) .dev 0 0x31 (w32 r) = t := ⟨_, rfl⟩
      have hs : Fixed s t := by rw [← ht]; exact fixed_refl s
      rw [ht]
      have hleave (b : Bool) : Fixed s (t.leaveSlot a b) := hs.trans (leaveSlot_fixed t a b)
      have hcommit : Fixed s (t.commitSlot a w) := hs.trans (commitSlot_fixed t a w)
      repeat' split
      · exact hleave true
      · exact (hleave false).trans (ih _)
      · exact hcommit
      · exact (hleave false).trans (ih _)
      · exact hcommit

@[simp] theorem rollbackStep_fixed (s : State) (env : FuseEnv) : Fixed s (s.rollbackStep env) := by
  have h := burnWord_fixed env 4 (tagWord 2 0 (s.fuse.counter + 1)) 0 ((s.fuse.unused 4).length + 1) s
  unfold State.rollbackStep
  extract_lets c
  split
  · exact fixed_refl s
  · split
    · exact rollbackDeferred_fixed ..
    · split
      · exact rollbackDeferred_fixed ..
      · split
        next t heq => rw [heq] at h; exact h
        next t f heq =>
          rw [heq] at h
          split
          · exact h.trans (rollbackDeferred_fixed ..)
          · exact h.trans (rollbackDeferred_fixed ..)

/-! ### Boot and device states -/


@[simp] theorem boots_fixed (s : State) (m : BootResult) : Fixed s (s.boots m) := by
  simp [Fixed, Quiet, State.boots]

@[simp] theorem enter_fixed (s : State) (d : DevState) : Fixed s (s.enter d) :=
  ⟨rfl, rfl, rfl, rfl, rfl⟩

@[simp] theorem firmwareStarts_fixed (s : State) (h : ImageHeader) (m : Hash) : Fixed s (s.firmwareStarts h m) := by
  simp [Fixed, Quiet, State.firmwareStarts]

@[simp] theorem rollbackRetries_fixed (s : State) : Fixed s s.rollbackRetries :=
  ⟨rfl, rfl, rfl, rfl, rfl⟩

@[simp] theorem configured_fixed (s : State) : Fixed s s.configured :=
  ⟨rfl, rfl, rfl, rfl, rfl⟩

@[simp] theorem sleeps_fixed (s : State) : Fixed s s.sleeps := by
  simp [Fixed, Quiet, State.sleeps]

@[simp] theorem wakes_fixed (s : State) : Fixed s s.wakes := by
  simp [Fixed, Quiet, State.wakes]

/-! ### The JTAG port -/

@[simp] theorem jtagIr_fixed (s : State) (ir : JtagIr) (boundary : BitVec 63) : Fixed s (s.jtagIr ir boundary) := by
  simp [Fixed, Quiet, State.jtagIr]

@[simp] theorem bypassed_fixed (s : State) (code : BitVec 8) : Fixed s (s.bypassed code) := by
  simp [Fixed, Quiet, State.bypassed]

/-! ### Common opcodes -/

@[simp] theorem countersZero_fixed (s : State) (c : Cls) (i : Nat) : Fixed s (s.countersZero c i) := by
  unfold State.countersZero
  split <;> simp [Fixed, Quiet]

@[simp] theorem presetChange_fixed (s : State) (c : Cls) (i : Nat) (w : Word) : Fixed s (s.presetChange c i w) := by
  unfold State.presetChange
  split <;> simp [Fixed, Quiet]

@[simp] theorem setGroup_fixed (s : State) (c : Cls) (k : Nat) (m : BitVec 128) : Fixed s (s.setGroup c k m) :=
  ⟨rfl, rfl, rfl, rfl, rfl⟩

/-! ### Self-test -/

@[simp] theorem bistQueued_fixed (s : State) (i : Nat) : Fixed s (s.bistQueued i) :=
  ⟨rfl, rfl, rfl, rfl, rfl⟩

@[simp] theorem inUse_fixed (s : State) (i : Nat) : Fixed s (s.inUse i) := by
  simp [Fixed, Quiet, State.inUse]

@[simp] theorem overridden_fixed (s : State) (i : Nat) : Fixed s (s.overridden i) := by
  simp [Fixed, Quiet, State.overridden]

@[simp] theorem bistVoids_fixed (s : State) (i : Fin 78) : Fixed s (s.bistVoids i) := by
  simp [Fixed, Quiet, State.bistVoids]

@[simp] theorem isolate_fixed (s : State) (i : Fin 78) : Fixed s (s.isolate i) := by
  simp [Fixed, Quiet, State.isolate]

@[simp] theorem bistStarts_fixed (s : State) (i : Fin 78) : Fixed s (s.bistStarts i) := by
  simp [Fixed, Quiet, State.bistStarts]

@[simp] theorem patternsEnd_fixed (s : State) (i : Fin 78) (applied : Nat) (signature : Word) :
    Fixed s (s.patternsEnd i applied signature) := by
  unfold State.patternsEnd
  repeat' split
  all_goals simp [Fixed, Quiet]

@[simp] theorem bistCounted_fixed (s : State) (i : Fin 78) (result : Nat) : Fixed s (s.bistCounted i result) :=
  ⟨rfl, rfl, rfl, rfl, rfl⟩

@[simp] theorem bistRecorded_fixed (s : State) (i : Fin 78) (answers : Bool) (repairs : List Word) :
    Fixed s (s.bistRecorded i answers repairs) := by
  simp [Fixed, Quiet, State.bistRecorded]

@[simp] theorem coreReset_fixed (s : State) (i : Fin 78) : Fixed s (s.coreReset i) := by
  simp [Fixed, Quiet, State.coreReset]

end Sys2Proof.Machine

/-! ## What every row keeps -/

namespace Sys2Proof.Machine

/-- No ADMIN_SET waits for the end of a self-test (R69). -/
def State.calm (s : State) : Prop := ∀ d ∈ s.port.deferred, d.op ≠ 0x02

/-- R46, R64: on the way from `s` to `x` the scratchpad stays canonical and no slot fills; under `ok` no ADMIN changes. -/
structure Sound (ok : Prop) (s x : State) : Prop where
  cells : Memory.wf s.mem.cells = true → Memory.wf x.mem.cells = true
  replies : x.port.replies.length ≤ s.port.replies.length
  waiting : x.port.waiting.length ≤ s.port.waiting.length
  admin : ok → s.calm → x.calm ∧ ∀ u : Fin 321, x.units[u].admin = s.units[u].admin

section
variable {ok : Prop} {s x y : State}

theorem Quiet.sound (h : Quiet s x) (ha : ok → ∀ u : Fin 321, x.units[u].admin = s.units[u].admin) : Sound ok s x := by
  obtain ⟨hm, hr, hw, hd⟩ := h
  refine ⟨fun h => by rw [hm]; exact h, by rw [hr], by rw [hw], fun hok hc => ⟨?_, ha hok⟩⟩
  unfold State.calm
  rw [hd]
  exact hc

theorem Fixed.sound (h : Fixed s x) : Sound ok s x := by
  obtain ⟨hu, hq⟩ := h
  exact Quiet.sound hq fun _ _ => by rw [hu]

theorem sound_refl (s : State) : Sound ok s s := (fixed_refl s).sound

theorem Sound.trans (h : Sound ok s x) (h' : Sound ok x y) : Sound ok s y :=
  ⟨fun hw => h'.cells (h.cells hw), h'.replies.trans h.replies, h'.waiting.trans h.waiting, fun hok hc => by
    obtain ⟨hx, ha⟩ := h.admin hok hc
    obtain ⟨hy, hb⟩ := h'.admin hok hx
    exact ⟨hy, fun u => (hb u).trans (ha u)⟩⟩

theorem Sound.mono {ok' : Prop} (h : Sound ok s x) (hi : ok' → ok) : Sound ok' s x :=
  ⟨h.cells, h.replies, h.waiting, fun hok => h.admin (hi hok)⟩

theorem foldl_sound {α : Type} {f : State → α → State} (h : ∀ s a, Sound ok s (f s a)) (l : List α) (s : State) :
    Sound ok s (l.foldl f s) := by
  induction l generalizing s with
  | nil => exact sound_refl s
  | cons a l ih => exact (h s a).trans (ih _)

end

/-! ### Commands -/

/-- What a command may do for the sake of R46 and R64; under `ok` it is not ADMIN_SET and changes no ADMIN. -/
structure CmdSpec.Sounds (ok : Prop) (sp : CmdSpec) : Prop where
  act : ∀ s r, Sound ok s (sp.act s r).st
  after : ∀ s l, Sound ok s (sp.after s l)
  late : ∀ s r, Sound ok s (sp.late s r)
  op : ok → BitVec.ofNat 8 sp.op ≠ 0x02

theorem sounds_of {ok : Prop} {sp : CmdSpec} (h : ∀ s r, Sound ok s (sp.act s r).st) (hafter : sp.after = fun s _ => s := by rfl)
    (hlate : sp.late = fun s _ => s := by rfl) (hop : BitVec.ofNat 8 sp.op ≠ 0x02 := by decide) : sp.Sounds ok :=
  ⟨h, fun s _ => by rw [hafter]; exact sound_refl s, fun s _ => by rw [hlate]; exact sound_refl s, fun _ => hop⟩

theorem fixed_sounds {ok : Prop} {sp : CmdSpec} (h : ∀ s r, Fixed s (sp.act s r).st) (hafter : sp.after = fun s _ => s := by rfl)
    (hlate : sp.late = fun s _ => s := by rfl) (hop : BitVec.ofNat 8 sp.op ≠ 0x02 := by decide) : sp.Sounds ok :=
  sounds_of (fun s r => (h s r).sound) hafter hlate hop

section
variable {ok : Prop} {sp : CmdSpec} (h : sp.Sounds ok) (s : State) (r : Req)
include h

theorem runOne_sound (cmd : Cmd) : Sound ok s (s.runOne sp r cmd).st := by
  unfold State.runOne
  split
  · extract_lets n
    split
    · refine ⟨id, Nat.le_refl _, Nat.le_refl _, fun hok hc => ⟨fun d hd => ?_, fun _ => rfl⟩⟩
      rcases List.mem_append.1 hd with hd | hd
      · exact hc d hd
      · rw [List.mem_singleton.1 hd]
        exact h.op hok
    · exact sound_refl s
  · extract_lets e
    dsimp only
    split
    · exact (h.act s r).trans (h.after _ _)
    · exact h.act s r

theorem gatherAdd_sound (x : Gather) (i : Nat) : Sound ok x.st (x.add sp r i).st := by
  unfold Gather.add
  extract_lets q
  split
  · exact sound_refl _
  · split
    · exact h.act x.st q
    · exact h.act x.st q

theorem gather_sound (l : List Nat) (x : Gather) : Sound ok x.st (l.foldl (Gather.add sp r) x).st := by
  induction l generalizing x with
  | nil => exact sound_refl _
  | cons i l ih => exact (gatherAdd_sound h r x i).trans (ih _)

theorem runMany_sound : Sound ok s (s.runMany sp r).st := by
  have hg := gather_sound h r (s.aims sp r) { st := s, done := [], parts := [], fail := none }
  unfold State.runMany
  extract_lets x pay
  split
  · exact sound_refl s
  · exact Sound.trans hg (h.after _ _)

theorem runChecked_sound (cmd : Cmd) : Sound ok s (s.runChecked sp r cmd).st := by
  unfold State.runChecked
  extract_lets q
  split
  · exact sound_refl s
  · split
    · exact sound_refl s
    · split
      · exact runMany_sound h s q
      · exact runOne_sound h s q cmd

theorem perform_sound (p : Packet) {x : Answer} (hx : s.perform sp p = some x) : Sound ok s x.st := by
  unfold State.perform at hx
  extract_lets q at hx
  split at hx
  · cases hx
    exact sound_refl s
  · split at hx
    · split at hx
      · cases hx
      · cases hx
        exact runChecked_sound h s q p.cmd
    · next a _ =>
      split at hx
      · split at hx
        · cases hx
        · cases hx
          exact ((consume_fixed s a).sound.trans (runChecked_sound h _ q p.cmd)).trans (expire_fixed ..).sound
      · cases hx
        have hf : Fixed s ((s.count .dev 0 3).raise .dev 0 0x11 a.seq) := fixed_refl s
        exact hf.sound

end

/-! ### Rows -/

/-- R46, R64: what a whole row keeps. -/
structure RowKeeps (ok : Prop) (s x : State) : Prop where
  cells : Memory.wf s.mem.cells = true → Memory.wf x.mem.cells = true
  slots : s.slots ≤ 4 → x.slots ≤ 4
  admin : ok → s.calm → x.calm ∧ ∀ u : Fin 321, x.units[u].admin = s.units[u].admin

section
variable {ok : Prop} {s x y : State}

theorem Sound.row (h : Sound ok s x) : RowKeeps ok s x :=
  ⟨h.cells, fun hs => (Nat.add_le_add h.replies h.waiting).trans hs, h.admin⟩

theorem RowKeeps.trans (h : RowKeeps ok s x) (h' : RowKeeps ok x y) : RowKeeps ok s y :=
  ⟨fun hw => h'.cells (h.cells hw), fun hs => h'.slots (h.slots hs), fun hok hc => by
    obtain ⟨hx, ha⟩ := h.admin hok hc
    obtain ⟨hy, hb⟩ := h'.admin hok hx
    exact ⟨hy, fun u => (hb u).trans (ha u)⟩⟩

/-- Only what stands in the slots changes. -/
theorem rowKeeps_of_slots (hu : x.units = s.units) (hm : x.mem = s.mem) (hd : x.port.deferred = s.port.deferred)
    (hs : s.slots ≤ 4 → x.slots ≤ 4) : RowKeeps ok s x :=
  ⟨fun hw => by rw [hm]; exact hw, hs, fun _ hc => ⟨by unfold State.calm; rw [hd]; exact hc, fun _ => by rw [hu]⟩⟩

theorem finish_row (s : State) : RowKeeps ok s (finish s) := by
  have h : Fixed s (finish s) := fixed_refl s
  exact h.sound.row

theorem advance_row (s : State) (dt : Nat) : RowKeeps ok s (s.advance dt) := by
  have h : Fixed s (s.advance dt) := fixed_refl s
  exact h.sound.row

theorem event_row {f : State → State} {dt : Nat} (h : ∀ s, Sound ok s (f s)) : RowKeeps ok s (eventRow dt f s) :=
  ((advance_row s dt).trans (h _).row).trans (finish_row _)

theorem event_fixed {f : State → State} {dt : Nat} (h : ∀ s, Fixed s (f s)) : RowKeeps ok s (eventRow dt f s) :=
  event_row fun s => (h s).sound

theorem takeIn_frame (s : State) (w : Waiting) : (s.takeIn w).units = s.units ∧ (s.takeIn w).mem = s.mem ∧
    (s.takeIn w).port.deferred = s.port.deferred := by
  unfold State.takeIn
  split
  · exact ⟨rfl, rfl, rfl⟩
  · split
    · exact ⟨rfl, rfl, rfl⟩
    · exact ⟨rfl, rfl, rfl⟩

theorem takeIn_row (s : State) (w : Waiting) : RowKeeps ok s (s.takeIn w) := by
  obtain ⟨hu, hm, hd⟩ := takeIn_frame s w
  exact rowKeeps_of_slots hu hm hd fun hs => takeIn_slots hs w

theorem settleOne_frame (s : State) : s.settleOne.units = s.units ∧ s.settleOne.mem = s.mem ∧
    s.settleOne.port.deferred = s.port.deferred := by
  unfold State.settleOne
  split
  · exact ⟨rfl, rfl, rfl⟩
  · split
    · exact ⟨rfl, rfl, rfl⟩
    · exact ⟨rfl, rfl, rfl⟩
  · exact ⟨rfl, rfl, rfl⟩

theorem settle_row (s : State) : RowKeeps ok s s.settle := by
  have h (s : State) : RowKeeps ok s s.settleOne := by
    obtain ⟨hu, hm, hd⟩ := settleOne_frame s
    exact rowKeeps_of_slots hu hm hd fun hs => (settleOne_slots s).trans_le hs
  exact (((h s).trans (h _)).trans (h _)).trans (h _)

/-- The answer of the packet at the head takes its slot, or frees it. -/
theorem deliver_row {key : Option (Key × Word)} {p : Packet} {x : Answer} (hw : s.port.waiting ≠ []) (h : Sound ok s x.st) :
    RowKeeps ok s (s.deliver key p x) := by
  unfold State.deliver
  split
  · exact h.row
  · extract_lets t quiet
    refine ⟨h.cells, fun hs => ?_, h.admin⟩
    have hr : t.port.replies.length ≤ s.port.replies.length := h.replies
    have hl : 0 < s.port.waiting.length := List.length_pos_of_ne_nil hw
    unfold State.slots at hs ⊢
    simp only [List.length_tail]
    split
    · omega
    · simp only [List.length_append, List.length_singleton]
      omega

theorem host_row {sp : CmdSpec} (h : sp.Sounds ok) {dt : Nat} {c : Cls} {cmd : Cmd} : RowKeeps ok s (hostRow dt sp c cmd s) := by
  unfold hostRow
  extract_lets p a b d
  have hb : RowKeeps ok s b := by
    refine (advance_row s dt).trans ?_
    simp only [b]
    split
    · exact Sound.row (sound_refl a)
    · exact takeIn_row a _
  have hd : RowKeeps ok b d := by
    simp only [d]
    split
    next hhead =>
      split
      next x hx =>
        have hw : b.port.waiting ≠ [] := by
          intro hnil
          rw [hnil] at hhead
          exact absurd hhead.1 (by simp)
        have hdel := deliver_row (key := b.signer sp p) (p := p) hw (perform_sound h b p hx)
        split
        · exact hdel.trans (h.late _ _).row
        · exact hdel
      next => exact Sound.row (sound_refl b)
    next => exact Sound.row (sound_refl b)
  exact ((hb.trans hd).trans (settle_row _)).trans (finish_row _)

end

end Sys2Proof.Machine

/-! ## Operations that change ADMIN, the scratchpad or what waits -/

namespace Sys2Proof.Machine

section
variable {ok : Prop}

/-! ### ADMIN (R64) -/

theorem adminHrxLane_quiet (s : State) (i : Nat) (a : Admin) : Quiet s (s.adminHrxLane i a) := by
  simp [Quiet, State.adminHrxLane]

theorem adminHrx_quiet (s : State) (i : Nat) (a : Admin) : Quiet s (s.adminHrx i a) := by
  simp [Quiet, State.adminHrx, adminHrxLane_quiet]

theorem adminHtx_quiet (s : State) (i : Nat) (a : Admin) : Quiet s (s.adminHtx i a) := by
  simp [Quiet, State.adminHtx]

theorem adminLtx_quiet (s : State) (i : Nat) (a : Admin) : Quiet s (s.adminLtx i a) := by
  simp [Quiet, State.adminLtx]

theorem adminLrxLane_quiet (s : State) (i : Nat) (a : Admin) : Quiet s (s.adminLrxLane i a) := by
  simp [Quiet, State.adminLrxLane]

theorem adminLrx_quiet (s : State) (i : Nat) (a : Admin) : Quiet s (s.adminLrx i a) := by
  simp [Quiet, State.adminLrx, adminLrxLane_quiet]

theorem adminGrp_quiet (s : State) (i : Nat) (a : Admin) : Quiet s (s.adminGrp i a) := by
  simp [Quiet, State.adminGrp]

theorem adminSeal_quiet (s : State) (i : Nat) (a : Admin) : Quiet s (s.adminSeal i a) := by
  simp [Quiet, State.adminSeal]

theorem adminCal_quiet (s : State) (a : Admin) : Quiet s (s.adminCal a) := by
  simp [Quiet, State.adminCal]

theorem adminMon_quiet (s : State) (i : Nat) (a : Admin) : Quiet s (s.adminMon i a) := by
  simp [Quiet, State.adminMon]

theorem adminTst_quiet (s : State) (i : Nat) (a : Admin) : Quiet s (s.adminTst i a) := by
  simp [Quiet, State.adminTst]

/-- R64: what ADMIN_SET does beside ADMIN leaves the scratchpad and the queue. -/
theorem adminChange_quiet (s : State) (c : Cls) (i : Nat) (a : Admin) : Quiet s (s.adminChange c i a) := by
  cases c with
  | dev => simp [Quiet, State.adminChange]
  | hrx => simp [Quiet, State.adminChange, adminHrx_quiet]
  | htx => simp [Quiet, State.adminChange, adminHtx_quiet]
  | ltx => simp [Quiet, State.adminChange, adminLtx_quiet]
  | lrx => simp [Quiet, State.adminChange, adminLrx_quiet]
  | grp => exact adminGrp_quiet s i a
  | cal => exact adminCal_quiet s a
  | mon => exact adminMon_quiet s i a
  | tst => exact adminTst_quiet s i a
  | fec => simp [Quiet, State.adminChange]
  | thm => simp [Quiet, State.adminChange]
  | bist => simp [Quiet, State.adminChange]
  | perf => simp [Quiet, State.adminChange]
  | mbx => simp [Quiet, State.adminChange]
  | mem => simp [Quiet, State.adminChange]
  | _ => exact adminSeal_quiet s i a -- the class SEAL, whose constructor bears the name of a command of Lean

/-! ### The scratchpad (R292, R348, R349) -/

/-- Only the scratchpad is written. -/
theorem sound_of_cells {s x : State} (h : Memory.wf s.mem.cells = true → Memory.wf x.mem.cells = true)
    (hu : x.units = s.units := by rfl) (hp : x.port = s.port := by rfl) : Sound ok s x :=
  ⟨h, by rw [hp], by rw [hp], fun _ hc => ⟨by unfold State.calm; rw [hp]; exact hc, fun _ => by rw [hu]⟩⟩

theorem ringInit_sound (s : State) (on : Bool) (base : Nat) : Sound ok s (s.ringInit on base) := by
  unfold State.ringInit
  split
  · exact sound_of_cells fun hw => writeBytes_wf hw _ _
  · exact sound_refl s

theorem writeWord_wf {m : List Host.Cell} (h : Memory.wf m = true) (a n : Nat) : Memory.wf (writeWord m a n) = true :=
  writeBytes_wf h _ _

theorem ringWrite_sound (s : State) (i base size dropped : Nat) (l : List Word) :
    Sound ok s (s.ringWrite i base size dropped l) := by
  unfold State.ringWrite
  extract_lets area p n laps lap a b d e m o t
  have he (hw : Memory.wf s.mem.cells = true) : Memory.wf e = true := by
    have ha : Memory.wf a = true := ringBytes_wf hw ..
    have hb : Memory.wf b = true := by
      simp only [b]
      split
      · exact ha
      · exact writeWord_wf ha _ _
    have hd : Memory.wf d = true := writeWord_wf (writeWord_wf hb _ _) _ _
    simp only [e]
    split
    · exact hd
    · exact writeWord_wf hd _ _
  have ht : Sound ok s t := sound_of_cells he
  exact ht.trans (Fixed.sound (by simp [Fixed, Quiet]))

theorem setTap_fixed (s : State) (i : Fin 24) (f : Tap → Tap) : Fixed s (s.setTap i f) := ⟨rfl, rfl, rfl, rfl, rfl⟩

theorem setCap_fixed (s : State) (i : Fin 24) (f : Capture → Capture) : Fixed s (s.setCap i f) := ⟨rfl, rfl, rfl, rfl, rfl⟩

theorem captureWritten_sound (s : State) (i : Fin 24) : Sound ok s (s.captureWritten i) := by
  unfold State.captureWritten
  extract_lets c
  split
  · exact sound_refl s
  · rename_i t u _
    have ht : Sound ok s t := ringWrite_sound ..
    have hu : Fixed t u := setCap_fixed ((t.count .mon i 0).raise .mon i 0x10 (w32 c.seq)) i _
    exact (ht.trans hu.sound).trans (setCap_fixed ..).sound

theorem tapRecord_sound (s : State) (i : Fin 24) : Sound ok s (s.tapRecord i) := by
  unfold State.tapRecord
  extract_lets t
  split
  · exact sound_refl s
  · extract_lets ready
    split
    · exact sound_refl s
    · exact Sound.trans (ringWrite_sound ..) (setTap_fixed ..).sound

theorem internal_sound (s : State) (m : Meet) (p kind : Nat) :
    Sound ok s ((s.mapMem fun y => { y with cells := internalBytes m y.cells }).collides p kind) :=
  .trans (x := s.mapMem fun y => { y with cells := internalBytes m y.cells }) (sound_of_cells fun hw => internalBytes_wf hw m)
    (collides_fixed ..).sound

theorem foldl_fst_sound {α β : Type} {f : State × β → α → State × β} (h : ∀ x a, Sound ok x.1 (f x a).1) (l : List α)
    (x : State × β) : Sound ok x.1 (l.foldl f x).1 := by
  induction l generalizing x with
  | nil => exact sound_refl _
  | cons a l ih => exact (h x a).trans (ih _)

theorem readMeets_sound (s : State) (meets : List Meet) (a n : Nat) : Sound ok s (s.readMeets meets a n).1 := by
  unfold State.readMeets
  refine foldl_fst_sound (fun x p => ?_) _ (s, [])
  split
  · split
    · exact internal_sound x.1 _ p 2
    · exact sound_refl _
  · exact sound_refl _

theorem writeMeets_sound (s : State) (meets : List Meet) (a n : Nat) : Sound ok s (s.writeMeets meets a n) := by
  refine foldl_sound (fun t p => ?_) _ _
  split
  · split
    · exact internal_sound ..
    · exact (collides_fixed ..).sound
  · exact sound_refl _

@[simp] theorem retries_fixed (s : State) : Fixed s s.retries := ⟨rfl, rfl, rfl, rfl, rfl⟩

/-! ### Handshakes at their pace (R377) -/

theorem paced_sound {f : State → State} (h : ∀ s, Fixed s (f s)) (g : Fin 8) (s : State) : Sound ok s (State.paced f g s) := by
  unfold State.paced
  extract_lets t
  have ht : Fixed s t := h s
  split
  · exact Fixed.sound ht
  · exact ht.sound

/-! ### Reset, shutdown and loss of power (R64, R80, R384) -/

theorem reset_wf : Memory.wf State.reset.mem.cells = true := by decide

/-- R80: everything volatile is as after a reset: the queue is empty. -/
theorem sound_of_cleared {s x : State} (hm : x.mem = State.reset.mem) (hp : x.port = State.reset.port)
    (ha : ok → ∀ u : Fin 321, x.units[u].admin = s.units[u].admin) : Sound ok s x :=
  ⟨fun _ => by rw [hm]; exact reset_wf, by rw [hp]; exact Nat.zero_le _, by rw [hp]; exact Nat.zero_le _, fun hok _ =>
    ⟨fun d hd => by rw [hp] at hd; exact absurd hd List.not_mem_nil, ha hok⟩⟩

theorem resetNow_sound (s : State) (hold : Bool) : Sound False s (s.resetNow hold) := sound_of_cleared rfl rfl False.elim

theorem powerLost_sound (s : State) (on : Bool) : Sound False s (s.powerLost on) := sound_of_cleared rfl rfl False.elim

theorem resetEnds_sound (s : State) : Sound False s s.resetEnds := by
  unfold State.resetEnds
  split
  · exact sound_refl s
  · exact resetNow_sound s false

theorem resetFalls_sound (s : State) : Sound False s s.resetFalls := by
  unfold State.resetFalls
  split
  · exact sound_refl s
  · exact sound_of_cleared rfl rfl False.elim

theorem supplyResets_sound (s : State) (rails : BitVec 12) : Sound False s (s.supplyResets rails) := by
  unfold State.supplyResets
  split
  · exact sound_refl s
  · exact sound_of_cleared rfl rfl False.elim

theorem resetRises_sound (s : State) : Sound False s s.resetRises := by
  unfold State.resetRises
  split
  · exact sound_refl s
  · have h : Fixed s { s with power := { s.power with pinLow := false } } := fixed_refl s
    exact h.sound.trans (resetEnds_sound _)

theorem supplyResetEnds_sound (s : State) : Sound False s s.supplyResetEnds := by
  unfold State.supplyResetEnds
  split
  · exact sound_refl s
  · have h : Fixed s { s with power := { s.power with railsLow := 0 } } := fixed_refl s
    exact h.sound.trans (resetEnds_sound _)

/-- R64, R384: a shutdown keeps ADMIN and the slots of the queue. -/
theorem shutsDown_sound (s : State) : Sound ok s s.shutsDown := by
  unfold State.shutsDown
  split
  · exact sound_refl s
  · exact ⟨fun _ => reset_wf, Nat.le_refl _, Nat.le_refl _, fun _ _ =>
      ⟨fun d hd => absurd hd List.not_mem_nil, fun _ => rfl⟩⟩

theorem digitalHot_sound (s : State) (i : Fin 24) : Sound ok s (s.digitalHot i) := by
  unfold State.digitalHot
  split
  · exact sound_refl s
  · exact shutsDown_sound s

/-! ### SPI transactions (R35 to R37) -/

theorem drives_fixed (s : State) (n : Nat) (l : List Byte) : Fixed s (s.drives n l) := ⟨rfl, rfl, rfl, rfl, rfl⟩

theorem unknownCode_fixed (s : State) (code : Byte) (n : Nat) : Fixed s (s.unknownCode code n) := by
  unfold State.unknownCode
  split
  · exact fixed_refl s
  · exact drives_fixed s n []

theorem replyTaken_sound (s : State) (n : Nat) : Sound ok s (s.replyTaken n) := by
  unfold State.replyTaken
  extract_lets bytes t
  have ht : Fixed s t := drives_fixed s n bytes
  split
  · exact ⟨ht.sound (ok := ok).cells, by simp [t, State.drives], ht.sound (ok := ok).waiting, ht.sound.admin⟩
  · exact ht.sound

theorem packetArrives_event (s : State) (dt : Nat) (bytes : List Byte) :
    RowKeeps ok s (eventRow dt (·.packetArrives bytes) s) :=
  ((((advance_row s dt).trans (drives_fixed _ _ []).sound.row).trans (takeIn_row _ _)).trans (settle_row _)).trans (finish_row _)

end

end Sys2Proof.Machine

/-! ## Every command keeps what the queue and the scratchpad hold -/

namespace Sys2Proof.Machine

theorem upd_admin (v : Vector UnitSet 321) (k u : Fin 321) (f : UnitSet → UnitSet) (h : ∀ x, (f x).admin = x.admin) :
    (upd v k f)[u].admin = v[u].admin := by
  by_cases hk : u = k
  · rw [hk, upd_at, h]
  · rw [upd_get_ne _ _ (Ne.symm hk)]

section
variable {ok : Prop}

@[simp] theorem specBoardTableLoad_sounds : specBoardTableLoad.Sounds ok :=
  fixed_sounds fun s r => by simp [Fixed, Quiet, specBoardTableLoad, change]

@[simp] theorem specBoardTableInfo_sounds : specBoardTableInfo.Sounds ok :=
  fixed_sounds fun s _ => fixed_refl s

@[simp] theorem specHrxMarginGet_sounds : specHrxMarginGet.Sounds ok :=
  fixed_sounds fun s r => by simp [Fixed, Quiet, specHrxMarginGet]

@[simp] theorem specHrxPolaritySet_sounds : specHrxPolaritySet.Sounds ok :=
  fixed_sounds fun s r => by simp [Fixed, Quiet, specHrxPolaritySet, change]

@[simp] theorem specHrxEqGet_sounds : specHrxEqGet.Sounds ok :=
  fixed_sounds fun s _ => fixed_refl s

@[simp] theorem specHrxEqForce_sounds : specHrxEqForce.Sounds ok :=
  fixed_sounds fun s r => by simp [Fixed, Quiet, specHrxEqForce, change]

@[simp] theorem specHrxAdaptFreeze_sounds : specHrxAdaptFreeze.Sounds ok :=
  fixed_sounds fun s r => by simp [Fixed, Quiet, specHrxAdaptFreeze, change]

@[simp] theorem specHrxAmMode_sounds : specHrxAmMode.Sounds ok :=
  fixed_sounds fun s r => by simp [Fixed, Quiet, specHrxAmMode, change]

@[simp] theorem specHrxSlip_sounds : specHrxSlip.Sounds ok :=
  fixed_sounds fun s r => by simp [Fixed, Quiet, specHrxSlip]

@[simp] theorem specHtxFaultForce_sounds : specHtxFaultForce.Sounds ok :=
  fixed_sounds fun s r => by simp [Fixed, Quiet, specHtxFaultForce, change]

@[simp] theorem specHtxPolaritySet_sounds : specHtxPolaritySet.Sounds ok :=
  fixed_sounds fun s r => by simp [Fixed, Quiet, specHtxPolaritySet, change]

@[simp] theorem specHtxFirGet_sounds : specHtxFirGet.Sounds ok :=
  fixed_sounds fun s _ => fixed_refl s

@[simp] theorem specHtxFirSet_sounds : specHtxFirSet.Sounds ok :=
  fixed_sounds fun s r => by simp [Fixed, Quiet, specHtxFirSet, change]

@[simp] theorem specHtxSquelch_sounds : specHtxSquelch.Sounds ok :=
  fixed_sounds fun s r => by simp [Fixed, Quiet, specHtxSquelch, change]

@[simp] theorem specLtxSwingSet_sounds : specLtxSwingSet.Sounds ok :=
  fixed_sounds fun s r => by simp [Fixed, Quiet, specLtxSwingSet, change]

@[simp] theorem specLtxPolaritySet_sounds : specLtxPolaritySet.Sounds ok :=
  fixed_sounds fun s r => by simp [Fixed, Quiet, specLtxPolaritySet, change]

@[simp] theorem specLtxPrecodeSet_sounds : specLtxPrecodeSet.Sounds ok :=
  fixed_sounds fun s r => by simp [Fixed, Quiet, specLtxPrecodeSet, change]

@[simp] theorem specLtxSquelch_sounds : specLtxSquelch.Sounds ok :=
  fixed_sounds fun s r => by simp [Fixed, Quiet, specLtxSquelch, change]

@[simp] theorem specLtxConfigGet_sounds : specLtxConfigGet.Sounds ok :=
  fixed_sounds fun s _ => fixed_refl s

@[simp] theorem specLtxShapeGet_sounds : specLtxShapeGet.Sounds ok :=
  fixed_sounds fun s _ => fixed_refl s

@[simp] theorem specLtxShapeSet_sounds : specLtxShapeSet.Sounds ok :=
  fixed_sounds fun s r => by simp [Fixed, Quiet, specLtxShapeSet, change]

@[simp] theorem specLtxPdGet_sounds : specLtxPdGet.Sounds ok :=
  fixed_sounds fun s _ => fixed_refl s

@[simp] theorem specLtxPdSet_sounds : specLtxPdSet.Sounds ok :=
  fixed_sounds fun s r => by simp [Fixed, Quiet, specLtxPdSet, change]

@[simp] theorem specLtxSkewSet_sounds : specLtxSkewSet.Sounds ok :=
  fixed_sounds fun s r => by simp [Fixed, Quiet, specLtxSkewSet, change]

@[simp] theorem specLrxSetupSet_sounds : specLrxSetupSet.Sounds ok :=
  fixed_sounds fun s r => by simp [Fixed, Quiet, specLrxSetupSet, change]

@[simp] theorem specLrxPolicySet_sounds : specLrxPolicySet.Sounds ok :=
  fixed_sounds fun s r => by simp [Fixed, Quiet, specLrxPolicySet, change]

@[simp] theorem specLrxConfigGet_sounds : specLrxConfigGet.Sounds ok :=
  fixed_sounds fun s _ => fixed_refl s

@[simp] theorem specLrxMarginGet_sounds : specLrxMarginGet.Sounds ok :=
  fixed_sounds fun s r => by simp [Fixed, Quiet, specLrxMarginGet]

@[simp] theorem specLrxRetrain_sounds : specLrxRetrain.Sounds ok :=
  fixed_sounds fun s r => by simp [Fixed, Quiet, specLrxRetrain, change]

@[simp] theorem specLrxAdaptStatusGet_sounds : specLrxAdaptStatusGet.Sounds ok :=
  fixed_sounds fun s _ => fixed_refl s

@[simp] theorem specLrxXtStatusGet_sounds : specLrxXtStatusGet.Sounds ok :=
  fixed_sounds fun s _ => fixed_refl s

@[simp] theorem specLrxAfeGet_sounds : specLrxAfeGet.Sounds ok :=
  fixed_sounds fun s _ => fixed_refl s

@[simp] theorem specLrxAdaptSet_sounds : specLrxAdaptSet.Sounds ok :=
  fixed_sounds fun s r => by simp [Fixed, Quiet, specLrxAdaptSet, change]

@[simp] theorem specLrxBankRead_sounds : specLrxBankRead.Sounds ok :=
  fixed_sounds fun s _ => fixed_refl s

@[simp] theorem specLrxBankWrite_sounds : specLrxBankWrite.Sounds ok :=
  fixed_sounds fun s r => by simp [Fixed, Quiet, specLrxBankWrite, change]

@[simp] theorem specLrxBankSwap_sounds : specLrxBankSwap.Sounds ok :=
  fixed_sounds fun s r => by simp [Fixed, Quiet, specLrxBankSwap, change]

@[simp] theorem specLrxFadeAbort_sounds : specLrxFadeAbort.Sounds ok :=
  fixed_sounds fun s r => by simp [Fixed, Quiet, specLrxFadeAbort]

@[simp] theorem specLrxShadowTrial_sounds : specLrxShadowTrial.Sounds ok :=
  fixed_sounds fun s r => by simp [Fixed, Quiet, specLrxShadowTrial, change]

@[simp] theorem specLrxAfeForce_sounds : specLrxAfeForce.Sounds ok :=
  fixed_sounds fun s r => by simp [Fixed, Quiet, specLrxAfeForce, change]

@[simp] theorem specGrpTilingSet_sounds : specGrpTilingSet.Sounds ok :=
  fixed_sounds fun s r => by simp [Fixed, Quiet, specGrpTilingSet, change]

@[simp] theorem specGrpXbarSet_sounds : specGrpXbarSet.Sounds ok :=
  fixed_sounds fun s r => by simp [Fixed, Quiet, specGrpXbarSet, change]

@[simp] theorem specGrpModeSet_sounds : specGrpModeSet.Sounds ok :=
  fixed_sounds fun s r => by simp [Fixed, Quiet, specGrpModeSet, change]

@[simp] theorem specGrpConfigGet_sounds : specGrpConfigGet.Sounds ok :=
  fixed_sounds fun s _ => fixed_refl s

@[simp] theorem specGrpFrameStatusGet_sounds : specGrpFrameStatusGet.Sounds ok :=
  fixed_sounds fun s _ => fixed_refl s

@[simp] theorem specFecHistGet_sounds : specFecHistGet.Sounds ok :=
  fixed_sounds fun s r => by simp [Fixed, Quiet, specFecHistGet]

@[simp] theorem specFecLaneGet_sounds : specFecLaneGet.Sounds ok :=
  fixed_sounds fun s _ => fixed_refl s

@[simp] theorem specFecMarginSet_sounds : specFecMarginSet.Sounds ok :=
  fixed_sounds fun s r => by simp [Fixed, Quiet, specFecMarginSet, change]

@[simp] theorem specLatencyGet_sounds : specLatencyGet.Sounds ok :=
  fixed_sounds fun s _ => fixed_refl s

@[simp] theorem specSealInfoGet_sounds : specSealInfoGet.Sounds ok :=
  fixed_sounds fun s _ => fixed_refl s

@[simp] theorem specSealRehandshake_sounds : specSealRehandshake.Sounds ok :=
  fixed_sounds fun s r => by simp [Fixed, Quiet, specSealRehandshake, change]

@[simp] theorem specSealWaypostSend_sounds : specSealWaypostSend.Sounds ok :=
  fixed_sounds fun s r => by simp [Fixed, Quiet, specSealWaypostSend, change]

@[simp] theorem specSealWaypostRead_sounds : specSealWaypostRead.Sounds ok :=
  fixed_sounds fun s r => by simp [Fixed, Quiet, specSealWaypostRead]

@[simp] theorem specSealEpochAdvance_sounds : specSealEpochAdvance.Sounds ok :=
  fixed_sounds fun s r => by simp [Fixed, Quiet, specSealEpochAdvance, change]

@[simp] theorem specSealTagCorrupt_sounds : specSealTagCorrupt.Sounds ok :=
  fixed_sounds fun s r => by simp [Fixed, Quiet, specSealTagCorrupt, change]

@[simp] theorem specCalLaneGet_sounds : specCalLaneGet.Sounds ok :=
  fixed_sounds fun s _ => fixed_refl s

@[simp] theorem specCalLaneForeground_sounds : specCalLaneForeground.Sounds ok :=
  fixed_sounds fun s r => by simp [Fixed, Quiet, specCalLaneForeground, change]

@[simp] theorem specCalTrimRead_sounds : specCalTrimRead.Sounds ok :=
  fixed_sounds fun s _ => fixed_refl s

@[simp] theorem specCalTrimForce_sounds : specCalTrimForce.Sounds ok :=
  fixed_sounds fun s r => by simp [Fixed, Quiet, specCalTrimForce, change]

@[simp] theorem specCalElementRetire_sounds : specCalElementRetire.Sounds ok :=
  fixed_sounds fun s r => by simp [Fixed, Quiet, specCalElementRetire, change]

@[simp] theorem specCalFreeze_sounds : specCalFreeze.Sounds ok :=
  fixed_sounds fun s r => by simp [Fixed, Quiet, specCalFreeze, change]

@[simp] theorem specMonTapSet_sounds : specMonTapSet.Sounds ok :=
  fixed_sounds fun s r => by simp [Fixed, Quiet, specMonTapSet, change]

@[simp] theorem specMonRead_sounds : specMonRead.Sounds ok :=
  fixed_sounds fun s _ => fixed_refl s

@[simp] theorem specMonThresholdSet_sounds : specMonThresholdSet.Sounds ok :=
  fixed_sounds fun s r => by simp [Fixed, Quiet, specMonThresholdSet, change]

@[simp] theorem specMonStreamSet_sounds : specMonStreamSet.Sounds ok :=
  sounds_of fun _ _ => Sound.trans (ringInit_sound ..) (setTap_fixed ..).sound

@[simp] theorem specMonHkConfig_sounds : specMonHkConfig.Sounds ok :=
  fixed_sounds fun s r => by simp [Fixed, Quiet, specMonHkConfig, change]

@[simp] theorem specMonHkRead_sounds : specMonHkRead.Sounds ok :=
  fixed_sounds fun s _ => fixed_refl s

@[simp] theorem specMonCaptureSet_sounds : specMonCaptureSet.Sounds ok :=
  sounds_of fun _ _ => Sound.trans (ringInit_sound ..) (setCap_fixed ..).sound

@[simp] theorem specMonCaptureArm_sounds : specMonCaptureArm.Sounds ok :=
  ⟨fun s r => Fixed.sound (by simp [Fixed, Quiet, specMonCaptureArm, change]), fun s l => (formSet_fixed s l).sound,
    fun s _ => sound_refl s, fun _ => by decide⟩

@[simp] theorem specMonCaptureStatusGet_sounds : specMonCaptureStatusGet.Sounds ok :=
  fixed_sounds fun s _ => fixed_refl s

@[simp] theorem specMonCaptureRead_sounds : specMonCaptureRead.Sounds ok :=
  fixed_sounds fun s r => by simp [Fixed, Quiet, specMonCaptureRead]

@[simp] theorem specMonCaptureAbort_sounds : specMonCaptureAbort.Sounds ok :=
  fixed_sounds fun s r => by simp [Fixed, Quiet, specMonCaptureAbort, change]

@[simp] theorem specTstConfigSet_sounds : specTstConfigSet.Sounds ok :=
  fixed_sounds fun s r => by simp [Fixed, Quiet, specTstConfigSet, change]

@[simp] theorem specTstCheckGet_sounds : specTstCheckGet.Sounds ok :=
  fixed_sounds fun s r => by simp [Fixed, Quiet, specTstCheckGet]

@[simp] theorem specTstUserPatternSet_sounds : specTstUserPatternSet.Sounds ok :=
  fixed_sounds fun s r => by simp [Fixed, Quiet, specTstUserPatternSet, change]

@[simp] theorem specTstLoopSet_sounds : specTstLoopSet.Sounds ok :=
  fixed_sounds fun s r => by simp [Fixed, Quiet, specTstLoopSet, change]

@[simp] theorem specTstInjectSet_sounds : specTstInjectSet.Sounds ok :=
  fixed_sounds fun s r => by simp [Fixed, Quiet, specTstInjectSet, change]

@[simp] theorem specTstSlip_sounds : specTstSlip.Sounds ok :=
  sounds_of fun s r => Fixed.sound (by
    have h (p : Prop) [Decidable p] (e e' : Effect) : (if p then e else e').st = if p then e.st else e'.st := apply_ite ..
    simp [Fixed, Quiet, specTstSlip, h])

@[simp] theorem specPerfSet_sounds : specPerfSet.Sounds ok :=
  fixed_sounds fun s r => by simp [Fixed, Quiet, specPerfSet, change]

@[simp] theorem specPerfRead_sounds : specPerfRead.Sounds ok :=
  fixed_sounds fun s r => by simp [Fixed, Quiet, specPerfRead]

@[simp] theorem specPerfLoad_sounds : specPerfLoad.Sounds ok :=
  fixed_sounds fun s r => by simp [Fixed, Quiet, specPerfLoad, change]

@[simp] theorem specMbxSend_sounds : specMbxSend.Sounds ok :=
  sounds_of fun s r => Fixed.sound (by
    have h (p : Prop) [Decidable p] (e e' : Effect) : (if p then e else e').st = if p then e.st else e'.st := apply_ite ..
    simp [Fixed, Quiet, specMbxSend, h])

@[simp] theorem specMbxReceive_sounds : specMbxReceive.Sounds ok :=
  fixed_sounds fun s r => by simp [Fixed, Quiet, specMbxReceive]

@[simp] theorem specMbxDoorbellGet_sounds : specMbxDoorbellGet.Sounds ok :=
  fixed_sounds fun s r => by simp [Fixed, Quiet, specMbxDoorbellGet]

@[simp] theorem specMbxHostReset_sounds : specMbxHostReset.Sounds ok :=
  fixed_sounds fun s r => by simp [Fixed, Quiet, specMbxHostReset, change]

@[simp] theorem specMbxLegacyWrite_sounds : specMbxLegacyWrite.Sounds ok :=
  fixed_sounds fun s r => by simp [Fixed, Quiet, specMbxLegacyWrite, change]

@[simp] theorem specMbxLegacyRead_sounds : specMbxLegacyRead.Sounds ok :=
  fixed_sounds fun s r => by simp [Fixed, Quiet, specMbxLegacyRead]

@[simp] theorem specMbxPeek_sounds : specMbxPeek.Sounds ok :=
  fixed_sounds fun s _ => fixed_refl s

@[simp] theorem specMemWinRead_sounds (meets : List Meet) : (specMemWinRead meets).Sounds ok :=
  sounds_of (hop := (by decide : (0x10 : Byte) ≠ 0x02)) fun s r => by
    unfold specMemWinRead
    dsimp only
    split
    · exact (retries_fixed s).sound
    · have h : Fixed s (s.count .mem 0 0) := fixed_refl s
      exact h.sound.trans (readMeets_sound ..)

@[simp] theorem specMemWinWrite_sounds (meets : List Meet) : (specMemWinWrite meets).Sounds ok :=
  sounds_of (hop := (by decide : (0x80 : Byte) ≠ 0x02)) fun s r => by
    unfold specMemWinWrite
    dsimp only
    split
    · exact (retries_fixed s).sound
    · have h : Fixed s (s.count .mem 0 1) := fixed_refl s
      exact (h.sound.trans (writeMeets_sound ..)).trans (sound_of_cells fun hw => writeBytes_wf hw _ _)

@[simp] theorem specMemTestStatusGet_sounds : specMemTestStatusGet.Sounds ok :=
  fixed_sounds fun s _ => fixed_refl s

@[simp] theorem specMemTestSet_sounds : specMemTestSet.Sounds ok :=
  fixed_sounds fun s r => by simp [Fixed, Quiet, specMemTestSet, change]

@[simp] theorem specMemTestRun_sounds : specMemTestRun.Sounds ok :=
  fixed_sounds fun s r => by simp [Fixed, Quiet, specMemTestRun, change]

@[simp] theorem specThmRead_sounds : specThmRead.Sounds ok :=
  fixed_sounds fun s _ => fixed_refl s

@[simp] theorem specThmStageGet_sounds : specThmStageGet.Sounds ok :=
  fixed_sounds fun s _ => fixed_refl s

@[simp] theorem specThmDomainSet_sounds : specThmDomainSet.Sounds ok :=
  fixed_sounds fun s r => by simp [Fixed, Quiet, specThmDomainSet, change]

@[simp] theorem specThmDomainGet_sounds : specThmDomainGet.Sounds ok :=
  fixed_sounds fun s _ => fixed_refl s

@[simp] theorem specThmAvsSet_sounds : specThmAvsSet.Sounds ok :=
  fixed_sounds fun s r => by simp [Fixed, Quiet, specThmAvsSet, change]

@[simp] theorem specThmAvsGet_sounds : specThmAvsGet.Sounds ok :=
  fixed_sounds fun s _ => fixed_refl s

@[simp] theorem specThmAvsForce_sounds : specThmAvsForce.Sounds ok :=
  fixed_sounds fun s r => by simp [Fixed, Quiet, specThmAvsForce, change]

@[simp] theorem specSecStage_sounds : specSecStage.Sounds ok :=
  fixed_sounds fun s r => by simp [Fixed, Quiet, specSecStage]

@[simp] theorem specCertLoad_sounds : specCertLoad.Sounds ok :=
  fixed_sounds fun s r => by simp [Fixed, Quiet, specCertLoad]

@[simp] theorem specPolicyLoad_sounds : specPolicyLoad.Sounds ok :=
  fixed_sounds fun s r => by simp [Fixed, Quiet, specPolicyLoad]

@[simp] theorem specSessionBegin_sounds : specSessionBegin.Sounds ok :=
  fixed_sounds fun s r => by simp [Fixed, Quiet, specSessionBegin]

@[simp] theorem specSessionOpen_sounds : specSessionOpen.Sounds ok :=
  sounds_of fun s _ => by
    have ht : Fixed s (s.mapSec fun x => { x with staging := [], challenge := none }) := fixed_refl s
    unfold specSessionOpen
    dsimp only
    split
    · split
      · exact Fixed.sound (ht.trans (closeSession_fixed _ 5))
      · exact ht.sound
    · exact ht.sound

@[simp] theorem specSessionClose_sounds : specSessionClose.Sounds ok :=
  ⟨fun s _ => sound_refl s, fun s _ => sound_refl s, fun s _ => (closeSession_fixed s 1).sound, fun _ => by decide⟩

@[simp] theorem specZeroise_sounds : specZeroise.Sounds ok :=
  ⟨fun s _ => Fixed.sound (by simp [Fixed, Quiet, specZeroise, change]), fun s _ => sound_refl s,
    fun s _ => (closeSession_fixed s 3).sound, fun _ => by decide⟩

@[simp] theorem specAttestGet_sounds : specAttestGet.Sounds ok :=
  fixed_sounds fun s r => by simp [Fixed, Quiet, specAttestGet]

@[simp] theorem specFuseRead_sounds : specFuseRead.Sounds ok :=
  fixed_sounds fun s _ => fixed_refl s

@[simp] theorem specFuseStatusGet_sounds : specFuseStatusGet.Sounds ok :=
  fixed_sounds fun s _ => fixed_refl s

theorem burnAll_fixed (env : FuseEnv) (ws : List (Nat × Word)) (n : Nat) (s : State) : Fixed s (burnAll env ws n s).1 := by
  induction ws generalizing n s with
  | nil => exact fixed_refl s
  | cons a ws ih =>
    have h := burnWord_fixed env a.1 a.2 n ((s.fuse.unused a.1).length + 1) s
    unfold burnAll
    split
    next t heq =>
      rw [heq] at h
      exact h.trans (ih _ t)
    next t f heq =>
      rw [heq] at h
      exact h

theorem burnThen_fixed {env : FuseEnv} {ws : List (Nat × Word)} {s : State} {f : State → Nat → Effect}
    (hf : ∀ t n, Fixed t (f t n).st) : Fixed s (burnThen env ws s f).st := by
  have h := burnAll_fixed env ws 0 s
  unfold burnThen
  split
  next t n heq =>
    rw [heq] at h
    exact h.trans (hf t n)
  next t n e heq =>
    rw [heq] at h
    exact h

@[simp] theorem specFuseProgram_sounds (env : FuseEnv) : (specFuseProgram env).Sounds ok :=
  sounds_of (hop := (by decide : (0x32 : Byte) ≠ 0x02)) fun s r => Fixed.sound (by
    unfold specFuseProgram State.programWord
    dsimp only
    split
    · exact leaveSlot_fixed ..
    · split
      · exact leaveSlot_fixed ..
      · exact commitSlot_fixed ..)

@[simp] theorem specFuseRepairCommit_sounds (env : FuseEnv) : (specFuseRepairCommit env).Sounds ok :=
  sounds_of (hop := (by decide : (0x33 : Byte) ≠ 0x02)) fun _ _ => (burnThen_fixed fun t _ => fixed_refl t).sound

@[simp] theorem specLifecycleSet_sounds (env : FuseEnv) : (specLifecycleSet env).Sounds ok :=
  ⟨fun s _ => (burnThen_fixed fun t _ => retired_fixed t s.lifecycle).sound, fun s _ => sound_refl s,
    fun s _ => Fixed.sound (by simp [Fixed, Quiet, specLifecycleSet]), fun _ => (by decide : (0x34 : Byte) ≠ 0x02)⟩

@[simp] theorem specOwnerBind_sounds (env : FuseEnv) : (specOwnerBind env).Sounds ok :=
  sounds_of (hop := (by decide : (0x27 : Byte) ≠ 0x02)) fun s r => Fixed.sound (by
    have h := burnAll_fixed env (s.bindWords (fld (r.p 0) 0 2) (r.params.drop 1)) 0 s
    unfold specOwnerBind
    dsimp only
    split
    next t n heq =>
      rw [heq] at h
      exact (h.trans (bound_fixed t _ s)).trans (lifeEvent_fixed _ s.lifecycle)
    next t n e heq =>
      rw [heq] at h
      exact h.trans (bound_fixed t _ s))

@[simp] theorem specOwnerRevoke_sounds (env : FuseEnv) : (specOwnerRevoke env).Sounds ok :=
  sounds_of (hop := (by decide : (0x28 : Byte) ≠ 0x02)) fun _ _ => (burnThen_fixed fun t _ => fixed_refl t).sound

@[simp] theorem specFwLoadBegin_sounds : specFwLoadBegin.Sounds ok :=
  fixed_sounds fun s r => by simp [Fixed, Quiet, specFwLoadBegin, change]

@[simp] theorem specFwLoadData_sounds : specFwLoadData.Sounds ok :=
  fixed_sounds fun s r => by simp [Fixed, Quiet, specFwLoadData, change]

@[simp] theorem specFwLoadEnd_sounds : specFwLoadEnd.Sounds ok :=
  sounds_of fun s _ => Fixed.sound (by
    unfold specFwLoadEnd
    dsimp only
    split
    · exact firmwareStarts_fixed ..
    · exact fixed_refl s)

@[simp] theorem specPersonalitySet_sounds : specPersonalitySet.Sounds ok :=
  fixed_sounds fun s r => by simp [Fixed, Quiet, specPersonalitySet, change]

@[simp] theorem specPersonalityList_sounds : specPersonalityList.Sounds ok :=
  fixed_sounds fun s _ => fixed_refl s

@[simp] theorem specConfigDone_sounds : specConfigDone.Sounds ok :=
  fixed_sounds fun s r => by simp [Fixed, Quiet, specConfigDone]

@[simp] theorem specDevStateSet_sounds : specDevStateSet.Sounds ok :=
  fixed_sounds fun s r => by simp [Fixed, Quiet, specDevStateSet, change]

theorem specDevReset_sounds : specDevReset.Sounds False :=
  sounds_of fun s _ => resetNow_sound s false

@[simp] theorem specEventRead_sounds : specEventRead.Sounds ok :=
  fixed_sounds fun s r => by simp [Fixed, Quiet, specEventRead]

@[simp] theorem specEventConfig_sounds : specEventConfig.Sounds ok :=
  fixed_sounds fun s r => by simp [Fixed, Quiet, specEventConfig, change]

@[simp] theorem specRegRead32_sounds : specRegRead32.Sounds ok :=
  fixed_sounds fun s r => by simp [Fixed, Quiet, specRegRead32]

@[simp] theorem specRegWrite32_sounds : specRegWrite32.Sounds ok :=
  fixed_sounds fun s r => by simp [Fixed, Quiet, specRegWrite32, change]

@[simp] theorem specStatusGet_sounds : specStatusGet.Sounds ok :=
  fixed_sounds fun s _ => fixed_refl s

@[simp] theorem specInfoGet_sounds : specInfoGet.Sounds ok :=
  fixed_sounds fun s _ => fixed_refl s

@[simp] theorem specStateGet_sounds : specStateGet.Sounds ok :=
  fixed_sounds fun s _ => fixed_refl s

theorem specAdminSet_sounds (c : Cls) : (specAdminSet c).Sounds False :=
  ⟨fun s r => (adminChange_quiet s r.cls r.inst (adminParam r)).sound False.elim, fun s _ => sound_refl s, fun s _ => sound_refl s,
    False.elim⟩

@[simp] theorem specCountersGet_sounds (c : Cls) : (specCountersGet c).Sounds ok :=
  fixed_sounds (hop := (by decide : (0x04 : Byte) ≠ 0x02)) fun s r => by simp [Fixed, Quiet, specCountersGet]

@[simp] theorem specCountersClear_sounds (c : Cls) : (specCountersClear c).Sounds ok :=
  sounds_of (hop := (by decide : (0x05 : Byte) ≠ 0x02)) fun s r => (countersZero_fixed s r.cls r.inst).sound

/-- R70: EVENT_MASK_SET changes a mask and no ADMIN. -/
@[simp] theorem specEventMaskSet_sounds : specEventMaskSet.Sounds ok :=
  sounds_of fun s r => Quiet.sound ⟨rfl, rfl, rfl, rfl⟩ fun _ u => upd_admin s.units (uix r.cls r.inst) u _ fun _ => rfl

@[simp] theorem specPresetApply_sounds (c : Cls) : (specPresetApply c).Sounds ok :=
  sounds_of (hop := (by decide : (0x07 : Byte) ≠ 0x02)) fun s r => (presetChange_fixed s r.cls r.inst (r.p 0)).sound

@[simp] theorem specGroupDefine_sounds : specGroupDefine.Sounds ok :=
  fixed_sounds fun s r => by simp [Fixed, Quiet, specGroupDefine, change]

@[simp] theorem specGroupGet_sounds : specGroupGet.Sounds ok :=
  fixed_sounds fun s _ => fixed_refl s

@[simp] theorem specBistRun_sounds : specBistRun.Sounds ok :=
  fixed_sounds fun s r => by simp [Fixed, Quiet, specBistRun, change]

@[simp] theorem specBistResultGet_sounds : specBistResultGet.Sounds ok :=
  fixed_sounds fun s _ => fixed_refl s

@[simp] theorem specBistOverride_sounds : specBistOverride.Sounds ok :=
  fixed_sounds fun s r => by simp [Fixed, Quiet, specBistOverride, change]

end

end Sys2Proof.Machine

/-! ## Commands that wait for a self-test, and its end (R69) -/

namespace Sys2Proof.Machine

/-- A command that can wait is ADMIN_SET, or changes no ADMIN. -/
theorem specOf_sounds {c : Cls} {op : Nat} {sp : CmdSpec} (h : specOf c op = some sp) : sp.Sounds (op ≠ 0x02) := by
  unfold specOf at h
  split at h
  · cases h
    exact ⟨fun s r => (specAdminSet_sounds c).act s r |>.mono fun h => h rfl, fun s _ => sound_refl s, fun s _ => sound_refl s,
      fun h => absurd rfl h⟩
  · cases h
    exact specCountersGet_sounds c
  · cases h
    exact specCountersClear_sounds c
  · cases h
    exact specPresetApply_sounds c
  · split at h
    all_goals cases h
    all_goals simp

section
variable {ok : Prop} (s : State) (failed : Bool)

theorem deferredAnswer_sound (d : Deferred) : Sound (d.op ≠ 0x02) s (s.deferredAnswer d failed).st := by
  unfold State.deferredAnswer
  split
  · exact sound_refl s
  next sp hsp =>
    have h := specOf_sounds hsp
    have hop : d.op ≠ 0x02 → d.op.toNat ≠ 0x02 := fun hne he => hne (BitVec.eq_of_toNat_eq he)
    split
    · exact sound_refl s
    · split
      · exact sound_refl s
      · extract_lets q x
        have hx : Sound (d.op ≠ 0x02) s x.st := (runChecked_sound h s d.req { d.cmd with flags := 0 }).mono hop
        dsimp only
        split
        · exact hx.trans ((h.late _ _).mono hop)
        · exact hx

theorem runDeferred_sound (d : Deferred) : Sound (d.op ≠ 0x02) s (s.runDeferred failed d) := by
  have h : Sound (d.op ≠ 0x02) s (s.deferredAnswer d failed).st := deferredAnswer_sound s failed d
  exact ⟨h.cells, h.replies, h.waiting, h.admin⟩

theorem foldl_runDeferred_sound (l : List Deferred) :
    Sound (∀ d ∈ l, d.op ≠ 0x02) s (l.foldl (State.runDeferred failed) s) := by
  induction l generalizing s with
  | nil => exact sound_refl s
  | cons d l ih =>
    exact .trans ((runDeferred_sound s failed d).mono fun h => h d List.mem_cons_self)
      ((ih _).mono fun h e he => h e (List.mem_cons_of_mem d he))

/-- R69: what has waited for an island executes; where no ADMIN_SET waits, no ADMIN changes. -/
theorem flush_sound (i : Nat) : Sound ok s (s.flush i failed) := by
  unfold State.flush
  extract_lets ready q t
  have ht : Sound ok s t := ⟨id, Nat.le_refl _, Nat.le_refl _, fun _ hc =>
    ⟨fun d hd => hc d (List.mem_of_mem_filter hd), fun _ => rfl⟩⟩
  have hl := foldl_runDeferred_sound t failed (s.port.deferred.filter ready)
  exact ⟨fun hw => hl.cells (ht.cells hw), hl.replies.trans ht.replies, hl.waiting.trans ht.waiting, fun hok hc =>
    hl.admin (fun d hd => hc d (List.mem_of_mem_filter hd)) (ht.admin hok hc).1⟩

theorem bistAborted_sound (i : Nat) : Sound ok s (s.bistAborted i) := by
  unfold State.bistAborted
  split
  · have h : Fixed s (s.setBist (bistIx i) fun b => { b with phase := .idle }) := fixed_refl s
    exact h.sound.trans (flush_sound _ false i)
  · have h : Fixed s (s.setBist (bistIx i) fun b => { b with abort := !b.supply }) := fixed_refl s
    exact h.sound

@[simp] theorem specBistAbort_sounds : specBistAbort.Sounds ok := sounds_of fun s r => bistAborted_sound s r.inst

theorem bistDone_sound (i : Fin 78) (answers : Bool) (repairs : List Word) : Sound ok s (s.bistDone i answers repairs) := by
  unfold State.bistDone
  split
  · extract_lets e t good u
    have ht : Fixed s t := by simp [Fixed, Quiet, t]
    have hu : Fixed t u := by simp [Fixed, Quiet, u]
    exact (ht.trans hu).sound.trans (flush_sound u _ i.val)
  · exact sound_refl s

end

end Sys2Proof.Machine

/-! ## No row fills a slot, spoils the scratchpad or changes ADMIN -/

namespace Sys2Proof.Machine

/-- R64: the rows that may change ADMIN: ADMIN_SET, reset and removal of power. -/
def keepsAdmin : Instr → Prop
  | .adminSet .. | .powerOn .. | .powerRemoved .. | .deviceReset .. | .supplyReset .. | .resetRelease ..
  | .supplyResetRelease .. | .devReset .. => False
  | _ => True

section
variable {ok : Prop} {s t x y : State}

theorem fixed_ite {p : Prop} [Decidable p] (h : Fixed s x) : Fixed s (if p then x else s) := by
  split
  · exact h
  · exact fixed_refl s

theorem lane_fixed {f : Fin 16 → State} {g : Fin 8 → State} (hf : ∀ n, Fixed s (f n)) (hg : ∀ l, Fixed s (g l)) (lane : RxLane) :
    Fixed s (match lane with | .host n => f n | .line l => g l) := by
  cases lane with
  | host n => exact hf n
  | line l => exact hg l

theorem milestoneRow_fixed (s : State) (l : Fin 8) (m : MilestoneArrival) :
    Fixed s ((s.milestoneTrigger l m).milestoneArrives l m) :=
  (milestoneTrigger_fixed s l m).trans (milestoneArrives_fixed _ l m)

theorem row_of (h : (.next x : Host.Outcome State Fault Refusal) = .next t) (hr : RowKeeps ok s x) : RowKeeps ok s t := by
  cases h
  exact hr

end

/-- R46, R64: what every row keeps. -/
theorem exec_row {i : Instr} {s t : State} (h : exec i s = .next t) : RowKeeps (keepsAdmin i) s t := by
  cases i with
  | powerOn _ => exact row_of h (event_row fun _ => powerLost_sound ..)
  | powerRemoved _ => exact row_of h (event_row fun _ => powerLost_sound ..)
  | deviceReset _ => exact row_of h (event_row fun _ => resetFalls_sound ..)
  | resetRelease _ => exact row_of h (event_row fun _ => resetRises_sound ..)
  | bootRomComplete _ _ => exact row_of h (event_fixed fun _ => boots_fixed ..)
  | supplyReset _ _ => exact row_of h (event_row fun _ => supplyResets_sound ..)
  | supplyResetRelease _ => exact row_of h (event_row fun _ => supplyResetEnds_sound ..)
  | tamperNLow _ _ => exact row_of h (event_fixed fun _ => tampered_fixed ..)
  | trigInEdge _ _ => exact row_of h (event_fixed fun s => triggerSets_fixed s _)
  | fuseSupply _ _ => exact row_of h (event_fixed fun _ => fuseRail_fixed ..)
  | analogShutdown _ => exact row_of h (event_row fun _ => shutsDown_sound ..)
  | packetWrite _ _ => exact row_of h (packetArrives_event ..)
  | replyRead _ _ => exact row_of h (event_row fun _ => replyTaken_sound ..)
  | fastStatus _ _ => exact row_of h (event_fixed fun _ => drives_fixed ..)
  | unknownTransaction _ _ _ => exact row_of h (event_fixed fun _ => unknownCode_fixed ..)
  | statusGet _ _ _ => exact row_of h (host_row specStatusGet_sounds)
  | infoGet _ _ _ => exact row_of h (host_row specInfoGet_sounds)
  | adminSet _ _ _ => exact row_of h (host_row (specAdminSet_sounds _))
  | stateGet _ _ _ => exact row_of h (host_row specStateGet_sounds)
  | countersGet _ _ _ => exact row_of h (host_row (specCountersGet_sounds _))
  | countersClear _ _ _ => exact row_of h (host_row (specCountersClear_sounds _))
  | eventMaskSet _ _ _ => exact row_of h (host_row specEventMaskSet_sounds)
  | presetApply _ _ _ => exact row_of h (host_row (specPresetApply_sounds _))
  | groupDefine _ _ _ => exact row_of h (host_row specGroupDefine_sounds)
  | groupGet _ _ _ => exact row_of h (host_row specGroupGet_sounds)
  | eventRead _ _ => exact row_of h (host_row specEventRead_sounds)
  | eventConfig _ _ => exact row_of h (host_row specEventConfig_sounds)
  | regRead32 _ _ => exact row_of h (host_row specRegRead32_sounds)
  | regWrite32 _ _ => exact row_of h (host_row specRegWrite32_sounds)
  | devReset _ _ => exact row_of h (host_row specDevReset_sounds)
  | fwLoadBegin _ _ => exact row_of h (host_row specFwLoadBegin_sounds)
  | fwLoadData _ _ => exact row_of h (host_row specFwLoadData_sounds)
  | fwLoadEnd _ _ => exact row_of h (host_row specFwLoadEnd_sounds)
  | rollbackStep _ _ => exact row_of h (event_fixed fun _ => rollbackStep_fixed ..)
  | personalitySet _ _ => exact row_of h (host_row specPersonalitySet_sounds)
  | personalityList _ _ => exact row_of h (host_row specPersonalityList_sounds)
  | configDone _ _ => exact row_of h (host_row specConfigDone_sounds)
  | calForegroundDone _ _ _ => exact row_of h (event_fixed fun _ => foregroundDone_fixed ..)
  | devStateSet _ _ => exact row_of h (host_row specDevStateSet_sounds)
  | latencyGet _ _ => exact row_of h (host_row specLatencyGet_sounds)
  | secStage _ _ => exact row_of h (host_row specSecStage_sounds)
  | certLoad _ _ => exact row_of h (host_row specCertLoad_sounds)
  | policyLoad _ _ => exact row_of h (host_row specPolicyLoad_sounds)
  | sessionBegin _ _ => exact row_of h (host_row specSessionBegin_sounds)
  | challengeExpiry _ => exact row_of h (event_fixed fun _ => challengeExpires_fixed ..)
  | sessionOpen _ _ => exact row_of h (host_row specSessionOpen_sounds)
  | sessionClose _ _ => exact row_of h (host_row specSessionClose_sounds)
  | attestGet _ _ => exact row_of h (host_row specAttestGet_sounds)
  | ownerBind _ _ _ => exact row_of h (host_row (specOwnerBind_sounds _))
  | ownerRevoke _ _ _ => exact row_of h (host_row (specOwnerRevoke_sounds _))
  | zeroise _ _ => exact row_of h (host_row specZeroise_sounds)
  | fuseRead _ _ => exact row_of h (host_row specFuseRead_sounds)
  | fuseStatusGet _ _ => exact row_of h (host_row specFuseStatusGet_sounds)
  | fuseProgram _ _ _ => exact row_of h (host_row (specFuseProgram_sounds _))
  | fuseRepairCommit _ _ _ => exact row_of h (host_row (specFuseRepairCommit_sounds _))
  | lifecycleSet _ _ _ => exact row_of h (host_row (specLifecycleSet_sounds _))
  | boardTableLoad _ _ => exact row_of h (host_row specBoardTableLoad_sounds)
  | boardTableInfo _ _ => exact row_of h (host_row specBoardTableInfo_sounds)
  | hrxMarginGet _ _ => exact row_of h (host_row specHrxMarginGet_sounds)
  | hrxPolaritySet _ _ => exact row_of h (host_row specHrxPolaritySet_sounds)
  | hrxEqGet _ _ => exact row_of h (host_row specHrxEqGet_sounds)
  | hrxEqForce _ _ => exact row_of h (host_row specHrxEqForce_sounds)
  | hrxAdaptFreeze _ _ => exact row_of h (host_row specHrxAdaptFreeze_sounds)
  | hrxAmMode _ _ => exact row_of h (host_row specHrxAmMode_sounds)
  | hrxSlip _ _ => exact row_of h (host_row specHrxSlip_sounds)
  | htxFaultForce _ _ => exact row_of h (host_row specHtxFaultForce_sounds)
  | htxPolaritySet _ _ => exact row_of h (host_row specHtxPolaritySet_sounds)
  | htxFirGet _ _ => exact row_of h (host_row specHtxFirGet_sounds)
  | htxFirSet _ _ => exact row_of h (host_row specHtxFirSet_sounds)
  | htxSquelch _ _ => exact row_of h (host_row specHtxSquelch_sounds)
  | ltxSwingSet _ _ => exact row_of h (host_row specLtxSwingSet_sounds)
  | ltxPolaritySet _ _ => exact row_of h (host_row specLtxPolaritySet_sounds)
  | ltxPrecodeSet _ _ => exact row_of h (host_row specLtxPrecodeSet_sounds)
  | ltxSquelch _ _ => exact row_of h (host_row specLtxSquelch_sounds)
  | ltxConfigGet _ _ => exact row_of h (host_row specLtxConfigGet_sounds)
  | ltxShapeGet _ _ => exact row_of h (host_row specLtxShapeGet_sounds)
  | ltxShapeSet _ _ => exact row_of h (host_row specLtxShapeSet_sounds)
  | ltxPdGet _ _ => exact row_of h (host_row specLtxPdGet_sounds)
  | ltxPdSet _ _ => exact row_of h (host_row specLtxPdSet_sounds)
  | ltxSkewSet _ _ => exact row_of h (host_row specLtxSkewSet_sounds)
  | lrxSetupSet _ _ => exact row_of h (host_row specLrxSetupSet_sounds)
  | lrxPolicySet _ _ => exact row_of h (host_row specLrxPolicySet_sounds)
  | lrxConfigGet _ _ => exact row_of h (host_row specLrxConfigGet_sounds)
  | lrxMarginGet _ _ => exact row_of h (host_row specLrxMarginGet_sounds)
  | lrxRetrain _ _ => exact row_of h (host_row specLrxRetrain_sounds)
  | lrxAdaptStatusGet _ _ => exact row_of h (host_row specLrxAdaptStatusGet_sounds)
  | lrxXtStatusGet _ _ => exact row_of h (host_row specLrxXtStatusGet_sounds)
  | lrxAfeGet _ _ => exact row_of h (host_row specLrxAfeGet_sounds)
  | lrxAdaptSet _ _ => exact row_of h (host_row specLrxAdaptSet_sounds)
  | lrxBankRead _ _ => exact row_of h (host_row specLrxBankRead_sounds)
  | lrxBankWrite _ _ => exact row_of h (host_row specLrxBankWrite_sounds)
  | lrxBankSwap _ _ => exact row_of h (host_row specLrxBankSwap_sounds)
  | lrxFadeAbort _ _ => exact row_of h (host_row specLrxFadeAbort_sounds)
  | lrxShadowTrial _ _ => exact row_of h (host_row specLrxShadowTrial_sounds)
  | lrxAfeForce _ _ => exact row_of h (host_row specLrxAfeForce_sounds)
  | grpTilingSet _ _ => exact row_of h (host_row specGrpTilingSet_sounds)
  | grpXbarSet _ _ => exact row_of h (host_row specGrpXbarSet_sounds)
  | grpModeSet _ _ => exact row_of h (host_row specGrpModeSet_sounds)
  | grpConfigGet _ _ => exact row_of h (host_row specGrpConfigGet_sounds)
  | grpFrameStatusGet _ _ => exact row_of h (host_row specGrpFrameStatusGet_sounds)
  | fecHistGet _ _ => exact row_of h (host_row specFecHistGet_sounds)
  | fecLaneGet _ _ => exact row_of h (host_row specFecLaneGet_sounds)
  | fecMarginSet _ _ => exact row_of h (host_row specFecMarginSet_sounds)
  | sealInfoGet _ _ => exact row_of h (host_row specSealInfoGet_sounds)
  | sealRehandshake _ _ => exact row_of h (host_row specSealRehandshake_sounds)
  | sealWaypostSend _ _ => exact row_of h (host_row specSealWaypostSend_sounds)
  | sealWaypostRead _ _ => exact row_of h (host_row specSealWaypostRead_sounds)
  | sealEpochAdvance _ _ => exact row_of h (host_row specSealEpochAdvance_sounds)
  | sealTagCorrupt _ _ => exact row_of h (host_row specSealTagCorrupt_sounds)
  | calLaneGet _ _ => exact row_of h (host_row specCalLaneGet_sounds)
  | calLaneForeground _ _ => exact row_of h (host_row specCalLaneForeground_sounds)
  | calTrimRead _ _ => exact row_of h (host_row specCalTrimRead_sounds)
  | calTrimForce _ _ => exact row_of h (host_row specCalTrimForce_sounds)
  | calElementRetire _ _ => exact row_of h (host_row specCalElementRetire_sounds)
  | calFreeze _ _ => exact row_of h (host_row specCalFreeze_sounds)
  | monTapSet _ _ => exact row_of h (host_row specMonTapSet_sounds)
  | monRead _ _ => exact row_of h (host_row specMonRead_sounds)
  | monThresholdSet _ _ => exact row_of h (host_row specMonThresholdSet_sounds)
  | monStreamSet _ _ => exact row_of h (host_row specMonStreamSet_sounds)
  | monHkConfig _ _ => exact row_of h (host_row specMonHkConfig_sounds)
  | monHkRead _ _ => exact row_of h (host_row specMonHkRead_sounds)
  | monCaptureSet _ _ => exact row_of h (host_row specMonCaptureSet_sounds)
  | monCaptureArm _ _ => exact row_of h (host_row specMonCaptureArm_sounds)
  | monCaptureStatusGet _ _ => exact row_of h (host_row specMonCaptureStatusGet_sounds)
  | monCaptureRead _ _ => exact row_of h (host_row specMonCaptureRead_sounds)
  | monCaptureAbort _ _ => exact row_of h (host_row specMonCaptureAbort_sounds)
  | tstConfigSet _ _ => exact row_of h (host_row specTstConfigSet_sounds)
  | tstCheckGet _ _ => exact row_of h (host_row specTstCheckGet_sounds)
  | tstUserPatternSet _ _ => exact row_of h (host_row specTstUserPatternSet_sounds)
  | tstLoopSet _ _ => exact row_of h (host_row specTstLoopSet_sounds)
  | tstInjectSet _ _ => exact row_of h (host_row specTstInjectSet_sounds)
  | tstSlip _ _ => exact row_of h (host_row specTstSlip_sounds)
  | perfSet _ _ => exact row_of h (host_row specPerfSet_sounds)
  | perfRead _ _ => exact row_of h (host_row specPerfRead_sounds)
  | perfLoad _ _ => exact row_of h (host_row specPerfLoad_sounds)
  | perfSat _ _ _ => exact row_of h (event_fixed fun _ => perfPass_fixed ..)
  | perfWrapped _ _ _ => exact row_of h (event_fixed fun _ => perfPass_fixed ..)
  | mbxSend _ _ => exact row_of h (host_row specMbxSend_sounds)
  | mbxReceive _ _ => exact row_of h (host_row specMbxReceive_sounds)
  | mbxDoorbellGet _ _ => exact row_of h (host_row specMbxDoorbellGet_sounds)
  | mbxHostReset _ _ => exact row_of h (host_row specMbxHostReset_sounds)
  | mbxLegacyWrite _ _ => exact row_of h (host_row specMbxLegacyWrite_sounds)
  | mbxLegacyRead _ _ => exact row_of h (host_row specMbxLegacyRead_sounds)
  | mbxPeek _ _ => exact row_of h (host_row specMbxPeek_sounds)
  | legacyMsg _ => exact row_of h (event_fixed fun _ => legacyRow_fixed ..)
  | mailboxServiceAnswer _ _ _ => exact row_of h (event_fixed fun _ => answerService_fixed ..)
  | memWinRead _ _ _ => exact row_of h (host_row (specMemWinRead_sounds _))
  | memWinWrite _ _ _ => exact row_of h (host_row (specMemWinWrite_sounds _))
  | memTestStatusGet _ _ => exact row_of h (host_row specMemTestStatusGet_sounds)
  | memTestSet _ _ => exact row_of h (host_row specMemTestSet_sounds)
  | memTestRun _ _ => exact row_of h (host_row specMemTestRun_sounds)
  | memTestDone _ => exact row_of h (event_fixed fun _ => testRunEnds_fixed ..)
  | memSliceTest _ _ _ => exact row_of h (event_fixed fun _ => sliceTest_fixed ..)
  | bistRun _ _ => exact row_of h (host_row specBistRun_sounds)
  | bistResultGet _ _ => exact row_of h (host_row specBistResultGet_sounds)
  | bistAbort _ _ => exact row_of h (host_row specBistAbort_sounds)
  | bistOverride _ _ => exact row_of h (host_row specBistOverride_sounds)
  | bistStarted _ _ => exact row_of h (event_fixed fun _ => bistStarts_fixed ..)
  | bistPatternsEnd _ _ _ _ => exact row_of h (event_fixed fun _ => patternsEnd_fixed ..)
  | bistDone _ _ _ _ => exact row_of h (event_row fun _ => bistDone_sound ..)
  | thmRead _ _ => exact row_of h (host_row specThmRead_sounds)
  | thmStageGet _ _ => exact row_of h (host_row specThmStageGet_sounds)
  | thmDomainSet _ _ => exact row_of h (host_row specThmDomainSet_sounds)
  | thmDomainGet _ _ => exact row_of h (host_row specThmDomainGet_sounds)
  | thmAvsSet _ _ => exact row_of h (host_row specThmAvsSet_sounds)
  | thmAvsGet _ _ => exact row_of h (host_row specThmAvsGet_sounds)
  | thmAvsForce _ _ => exact row_of h (host_row specThmAvsForce_sounds)
  | extest _ _ => exact row_of h (event_fixed fun _ => jtagIr_fixed ..)
  | idcode _ => exact row_of h (event_fixed fun s => jtagIr_fixed s .idcode s.jtag.boundary)
  | samplePreload _ _ => exact row_of h (event_fixed fun _ => jtagIr_fixed ..)
  | clamp _ => exact row_of h (event_fixed fun s => jtagIr_fixed s .clamp s.jtag.boundary)
  | highz _ => exact row_of h (event_fixed fun s => jtagIr_fixed s .highz s.jtag.boundary)
  | extestPulse _ _ => exact row_of h (event_fixed fun _ => jtagIr_fixed ..)
  | extestTrain _ _ => exact row_of h (event_fixed fun _ => jtagIr_fixed ..)
  | debugAccess dt code =>
    by_cases hd : (s.power.powered && s.debugOpen code) = true
    · have hx : exec (.debugAccess dt code) s = .refused (.debugInstruction code) := if_pos hd
      rw [hx] at h
      cases h
    · have hx : exec (.debugAccess dt code) s = .next (eventRow dt (·.bypassed code) s) := if_neg hd
      exact row_of (hx.symm.trans h) (event_fixed fun s => bypassed_fixed s code)
  | bypass _ _ => exact row_of h (event_fixed fun _ => bypassed_fixed ..)
  | testLogicReset _ => exact row_of h (event_fixed fun s => jtagIr_fixed s .idcode s.jtag.boundary)
  | islandHeartbeat _ => exact row_of h (event_fixed fun _ => heartbeat_fixed ..)
  | islandSilent _ _ => exact row_of h (event_fixed fun _ => islandSilent_fixed ..)
  | mcSilent _ => exact row_of h (event_fixed fun _ => mcFallsSilent_fixed ..)
  | stateMismatch _ _ _ => exact row_of h (event_fixed fun _ => mismatchRaised_fixed ..)
  | signalDetected _ lane => exact row_of h (event_fixed fun s => lane_fixed (hostDetected_fixed s) (lineDetected_fixed s) lane)
  | signalLost _ lane => exact row_of h (event_fixed fun s => lane_fixed (hostLost_fixed s) (lineLost_fixed s) lane)
  | hrxAcquire _ _ _ => exact row_of h (event_fixed fun _ => hrxAcquired_fixed ..)
  | hrxPolarityTry _ _ => exact row_of h (event_fixed fun _ => hrxTry_fixed ..)
  | amLockLost _ _ _ => exact row_of h (event_fixed fun _ => amLost_fixed ..)
  | hmiUpdate _ _ _ => exact row_of h (event_fixed fun _ => hrxMs_fixed ..)
  | hmiLow _ _ => exact row_of h (event_fixed fun _ => hrxLow_fixed ..)
  | hmiRestored _ _ => exact row_of h (event_fixed fun _ => hrxOk_fixed ..)
  | txClipping _ _ _ => exact row_of h (event_fixed fun _ => ltxClips_fixed ..)
  | txClipCleared _ _ _ => exact row_of h (event_fixed fun _ => ltxClipsEnd_fixed ..)
  | agcUpdate _ _ _ => exact row_of h (event_fixed fun _ => agcMs_fixed ..)
  | laneOverdriven _ _ => exact row_of h (event_fixed fun _ => overdrive_fixed ..)
  | timingLockLost _ lane range =>
    exact row_of h (event_fixed fun s => lane_fixed (hostUnlocked_fixed s) (lineUnlocked_fixed s · range) lane)
  | lmiUpdate _ _ _ => exact row_of h (event_fixed fun _ => lmiMs_fixed ..)
  | lmiLow _ _ => exact row_of h (event_fixed fun _ => lmiLowers_fixed ..)
  | lmiRestored _ _ => exact row_of h (event_fixed fun _ => lmiRestores_fixed ..)
  | lrxAcquire _ _ _ => exact row_of h (event_fixed fun _ => lrxCold_fixed ..)
  | lrxWarmAcquire _ _ _ => exact row_of h (event_fixed fun _ => lrxWarm_fixed ..)
  | lrxPolarityTry _ _ => exact row_of h (event_fixed fun _ => lrxTry_fixed ..)
  | neighbourDropped _ _ _ _ _ => exact row_of h (event_fixed fun _ => dropSide_fixed ..)
  | adaptRoundStart _ _ => exact row_of h (event_fixed fun _ => roundStart_fixed ..)
  | adaptTrialStart _ _ _ => exact row_of h (event_fixed fun _ => trialStart_fixed ..)
  | adaptDecision _ _ _ => exact row_of h (event_fixed fun _ => roundEnds_fixed ..)
  | hostTrialEnd _ _ _ => exact row_of h (event_fixed fun _ => hostTrialEnds_fixed ..)
  | fadeStep _ _ => exact row_of h (event_fixed fun _ => fadeStepped_fixed ..)
  | innerWindow _ _ _ => exact row_of h (event_fixed fun _ => innerWindowed_fixed ..)
  | innerLockLost _ _ => exact row_of h (event_fixed fun _ => innerLost_fixed ..)
  | periodStart _ _ _ => exact row_of h (event_fixed fun _ => periodStart_fixed ..)
  | hostCodewordReceived _ _ _ => exact row_of h (event_fixed fun _ => hostCodeword_fixed ..)
  | lineCodewordReceived _ _ _ => exact row_of h (event_fixed fun _ => lineCodeword_fixed ..)
  | milestoneReceived _ l m => exact row_of h (event_fixed fun s => milestoneRow_fixed s l m)
  | tagFailLimitReached _ _ => exact row_of h (event_fixed fun _ => tagLimitReached_fixed ..)
  | milestoneMissed _ _ => exact row_of h (event_fixed fun _ => milestoneMiss_fixed ..)
  | peerLost _ _ => exact row_of h (event_fixed fun _ => peerLost_fixed ..)
  | clockLocked _ _ _ => exact row_of h (event_fixed fun _ => clockLocks_fixed ..)
  | freqRange _ _ _ => exact row_of h (event_fixed fun _ => freqLeaves_fixed ..)
  | rsMarginWindow _ _ => exact row_of h (event_fixed fun _ => marginWindow_fixed ..)
  | rsMarginLow _ _ => exact row_of h (event_fixed fun _ => marginFalls_fixed ..)
  | rsMarginRestored _ _ => exact row_of h (event_fixed fun _ => marginReturns_fixed ..)
  | hello _ _ _ => exact row_of h (event_fixed fun _ => helloArrives_fixed ..)
  | handshakeStart _ g =>
    exact row_of h (event_row (paced_sound (f := (·.beginHandshake g)) (fun s => beginHandshake_fixed s g) g))
  | keyshareI _ g msg =>
    exact row_of h (event_row (paced_sound (f := (·.keyshareIArrives g msg)) (fun s => keyshareIArrives_fixed s g msg) g))
  | keyshareR _ g msg =>
    exact row_of h (event_row (paced_sound (f := (·.keyshareRArrives g msg)) (fun s => keyshareRArrives_fixed s g msg) g))
  | finishI _ g msg =>
    exact row_of h (event_row (paced_sound (f := (·.finishIArrives g msg)) (fun s => finishIArrives_fixed s g msg) g))
  | confirm _ g msg =>
    exact row_of h (event_row (paced_sound (f := (·.confirmArrives g msg)) (fun s => confirmArrives_fixed s g msg) g))
  | nack _ _ _ => exact row_of h (event_fixed fun _ => nackArrives_fixed ..)
  | abort _ _ _ => exact row_of h (event_fixed fun _ => abortArrives_fixed ..)
  | fragmentWaitExpiry _ _ => exact row_of h (event_fixed fun _ => fragmentWait_fixed ..)
  | handshakeTimeout _ _ => exact row_of h (event_fixed fun _ => handshakeTimeout_fixed ..)
  | handshakeRetry _ g =>
    exact row_of h (event_row (paced_sound (f := (·.handshakeRetry g)) (fun s => handshakeRetry_fixed s g) g))
  | epochAnnounce _ g => exact row_of h (event_fixed fun s => fixed_ite (announce_fixed s g _))
  | epochKeyDerived _ _ => exact row_of h (event_fixed fun _ => deriveRx_fixed ..)
  | epochWithdrawn _ g => exact row_of h (event_fixed fun s => fixed_ite (withdraw_fixed s g))
  | epochTxSwitched _ g => exact row_of h (event_fixed fun s => fixed_ite (switchTx_fixed s g))
  | calRoundCommit _ _ => exact row_of h (event_fixed fun _ => roundCommits_fixed ..)
  | calOccupancyWindow _ _ _ => exact row_of h (event_fixed fun _ => occupancy_fixed ..)
  | calFed _ _ => exact row_of h (event_fixed fun _ => laneFed_fixed ..)
  | testSourceConnect _ _ => exact row_of h (event_fixed fun _ => connectSource_fixed ..)
  | calrefRestored _ => exact row_of h (event_fixed fun _ => calrefBack_fixed ..)
  | captureFillComplete _ _ _ _ => exact row_of h (event_fixed fun _ => captureFilled_fixed ..)
  | captureDone _ _ => exact row_of h (event_row fun _ => captureWritten_sound ..)
  | monitorOutput _ _ _ => exact row_of h (event_fixed fun _ => tapOutput_fixed ..)
  | monitorRecordWrite _ _ => exact row_of h (event_row fun _ => tapRecord_sound ..)
  | chkLocked _ _ => exact row_of h (event_fixed fun _ => chkLocks_fixed ..)
  | chkLockLost _ _ _ => exact row_of h (event_fixed fun _ => chkLoses_fixed ..)
  | injection _ _ => exact row_of h (event_fixed fun _ => injected_fixed ..)
  | hkRound _ _ => exact row_of h (event_fixed fun _ => round_fixed ..)
  | throttleStepDown _ => exact row_of h (event_fixed fun _ => stageFalls_fixed ..)
  | sensorRestored _ _ => exact row_of h (event_fixed fun _ => sensorReturns_fixed ..)
  | digitalShutdown _ _ => exact row_of h (event_row fun _ => digitalHot_sound ..)
  | supplyWarningStart _ _ _ => exact row_of h (event_fixed fun _ => supplyFalls_fixed ..)
  | supplyWarn _ => exact row_of h (event_fixed fun _ => supplyOngoing_fixed ..)
  | supplyEpisodeEnd _ => exact row_of h (event_fixed fun _ => supplyEnds_fixed ..)
  | supplyRecovered _ => exact row_of h (event_fixed fun _ => supplyReturns_fixed ..)
  | avsEvaluate _ _ _ => exact row_of h (event_fixed fun _ => avsStep_fixed ..)
  | avsHostChangeComplete _ => exact row_of h (event_fixed fun _ => avsHostDone_fixed ..)
  | domainPowered _ _ => exact row_of h (event_fixed fun _ => domainPowers_fixed ..)
  | domainNeedEndOff _ _ => exact row_of h (event_fixed fun _ => domainRests_fixed ..)
  | peerFrequencyInRange _ _ _ => exact row_of h (event_fixed fun _ => freqReturns_fixed ..)
  | collisionIndicationEnd _ => exact row_of h (event_fixed fun s => fixed_refl s)
  | avsReadback _ _ => exact row_of h (event_fixed fun _ => avsRead_fixed ..)
  | patternStart _ _ _ => exact row_of h (event_fixed fun _ => patternStarts_fixed ..)
  | overRangeSample _ _ => exact row_of h (event_fixed fun _ => triggerFrom_fixed ..)

/-! ## The invariants -/

/-- Settles O3, from what every row keeps. -/
theorem everyStepKeepsStatesWellKept : Obligations.EveryStepKeepsStatesWellKept := by
  intro s t hk h
  obtain ⟨hcells, hslots⟩ := hk
  unfold step at h
  split at h
  · cases h
    exact ⟨hcells, hslots⟩
  · have hr := exec_row h
    exact ⟨hr.cells hcells, hr.slots hslots⟩

/-- Settles O4, from what every row keeps. -/
theorem onlyAdminSetChangesAdmin : Obligations.OnlyAdminSetChangesAdmin := by
  intro s t i hc h hi
  have hok : keepsAdmin i := by
    cases i <;> exact hi
  exact ((exec_row h).admin hok hc).2

end Sys2Proof.Machine

end
